-- ==== Sys2Proof/Word.lean ====
section
/-! DEFINITION. The word types of the PG168 panel (spec/00_scope.md R8, R10) and nothing else. -/

namespace Sys2Proof

/-- One byte. -/
abbrev Byte := BitVec 8

/-- A 16-bit field. -/
abbrev W16 := BitVec 16

/-- A 32-bit field. -/
abbrev W32 := BitVec 32

/-- A register or a general register: 64 bits (R10, R132). -/
abbrev W64 := BitVec 64

/-- The data of a granule or of a flit: 64 bytes, byte 0 in bits [7:0] (R8, R223). -/
abbrev W512 := BitVec 512

end Sys2Proof
end

