-- ==== Sys2Proof/Syntax.lean ====
section
/-! DEFINITION. The commands of the panel: one constructor of Instr per row of spec/opcode_table.json, with the
data each command carries. Control-core rows carry the fields of the instruction word (R136, R139). -/

namespace Sys2Proof

/-- A site, by PSID 0-167 (R24). -/
abbrev Site := Fin 168

/-- CMP's condition (R139); codes 6 and 7 are reserved and have no name. -/
inductive Cond | eq | ne | lt | ge | ltu | geu
  deriving DecidableEq, Repr

/-- CMPI's condition (R139). -/
inductive CondI | eq | ne | lt | ge
  deriving DecidableEq, Repr

/-- PSET's operation (R139). -/
inductive PredOp | and | or | xor | andNot | not
  deriving DecidableEq, Repr

/-- The test of BS (R140). -/
inductive SumTest | nz | z | hnz | hz
  deriving DecidableEq, Repr

/-- An engine a WAIT can name (R139). -/
inductive Engine | me | ve | mv
  deriving DecidableEq, Repr

/-- A flit's or a granule's 64 bytes with its poison mark (R208). -/
structure Flit where
  data : W512
  poison : Bool
  deriving DecidableEq, Repr

/-- A place of the request plane where a packet can arrive: a ring-stop (its core, R269), a stack port, a port die, a
region governor or one of the two management dies (R34). -/
inductive Place
  | stop (p : Fin 168)
  | stack (s : Fin 28)
  | die (d : Fin 42)
  | gov (g : Fin 42)
  | mgmt (south : Bool)
  deriving DecidableEq, Repr

/-- A request-plane packet: the header of R262, the payload flits, and whether it ended in a TRUNC tail (R259). -/
structure Packet where
  typ : Byte
  flags : Byte
  vc : Byte
  len : Byte
  dest : Byte
  destUnit : Byte
  src : Byte
  srcUnit : Byte
  tag : Byte
  reason : Byte
  mask : W16
  seq : W32
  addr : W64
  ctx : W16
  gen : Byte
  queue : Byte
  aux : W32
  res : BitVec 256
  payload : List Flit
  trunc : Bool
  deriving DecidableEq, Repr

/-- An Ihlyx frame (R390): header, payload granules and trailer; its CRC is right (a frame with a wrong one is the row
FRAME_CRC_ERROR). -/
structure Frame where
  typ : Byte
  granules : Byte
  flags : Byte
  hops : Byte
  seq : W16
  ackSeq : W16
  srcPanel : W16
  dstPanel : W16
  crClass : Byte
  crTotal : Byte
  res14 : W16
  args : BitVec 128
  payload : List W512
  poison : W32
  resTrailer : BitVec 192
  deriving DecidableEq, Repr

/-- How an MCI command reaches the panel: a mailbox of the north or south die's BAR0 (R547, R550), or an Ethernet datagram at one
of the two management ports (R555). -/
inductive MciVia
  | mailbox (south : Bool) (m : Fin 64)
  | ether (south : Bool) (session : W32) (res : W32) (counter : W64) (mac : BitVec 128)
  deriving DecidableEq, Repr

/-- An MCI command but for its opcode, which the row names: the header fields of R551 and the payload bytes. -/
structure MciCmd where
  via : MciVia
  flags : Byte
  res3 : Byte
  tag : W32
  length : W32
  session : W32
  res24 : W64
  payload : List Byte
  deriving DecidableEq, Repr

/-- A unit that holds registers: a site's core window (R39), a stack port (0xFC), a port die (0xF8), a region governor
(0xF4), the management die (0xF0), or BAR0. -/
inductive RegUnit
  | site (p : Fin 168)
  | stack (s : Fin 28)
  | die (d : Fin 42)
  | gov (g : Fin 42)
  | mgmt
  | bar0
  deriving DecidableEq, Repr

/-- Who makes a register access (R39): a site's control core, the active or the standby management die, or the host
through BAR0. -/
inductive Master
  | core (p : Fin 168)
  | mgmtActive
  | mgmtStandby
  | host
  deriving DecidableEq, Repr

/-- One reading of a site's temperature sensors (R473, R474): for each pair (compute A, compute B, M0, M1) its two
sensors in °C, none where a sensor gives no reading; and the readings of the coolant inlet and outlet sensors in 1/8 °C, when the round reads them. -/
structure SensorReadings where
  cdA : Option (BitVec 9) × Option (BitVec 9)
  cdB : Option (BitVec 9) × Option (BitVec 9)
  m0 : Option (BitVec 9) × Option (BitVec 9)
  m1 : Option (BitVec 9) × Option (BitVec 9)
  coolant : Option ((Option W16 × Option W16) × (Option W16 × Option W16))
  deriving DecidableEq, Repr

/-- The commands of the panel, in the order of spec/opcode_table.json. -/
inductive Instr
  /-- ADD (R139): Control core adds two registers into rd. -/
  | add (p : Site) (rd rs1 rs2 : BitVec 5)
  /-- SUB (R139): Control core subtracts rs2 from rs1 into rd. -/
  | sub (p : Site) (rd rs1 rs2 : BitVec 5)
  /-- MUL (R139): Control core writes the low 64 bits of a product into rd. -/
  | mul (p : Site) (rd rs1 rs2 : BitVec 5)
  /-- MULHU (R139): Control core writes the high 64 bits of an unsigned 128-bit product into rd. -/
  | mulhu (p : Site) (rd rs1 rs2 : BitVec 5)
  /-- AND (R139): Control core writes the bitwise AND of two registers into rd. -/
  | and (p : Site) (rd rs1 rs2 : BitVec 5)
  /-- OR (R139): Control core writes the bitwise OR of two registers into rd. -/
  | or (p : Site) (rd rs1 rs2 : BitVec 5)
  /-- XOR (R139): Control core writes the bitwise XOR of two registers into rd. -/
  | xor (p : Site) (rd rs1 rs2 : BitVec 5)
  /-- SHL (R139): Control core shifts rs1 left by rs2[5:0] into rd. -/
  | shl (p : Site) (rd rs1 rs2 : BitVec 5)
  /-- SHR (R139): Control core shifts rs1 right logically by rs2[5:0] into rd. -/
  | shr (p : Site) (rd rs1 rs2 : BitVec 5)
  /-- SAR (R139): Control core shifts rs1 right arithmetically by rs2[5:0] into rd. -/
  | sar (p : Site) (rd rs1 rs2 : BitVec 5)
  /-- CMP (R139): Control core compares two registers and writes the result to a predicate. -/
  | cmp (p : Site) (pd : BitVec 3) (rs1 rs2 : BitVec 5) (cond : Cond)
  /-- SEL (R139): Control core selects rs1 or rs2 into rd by a predicate. -/
  | sel (p : Site) (rd rs1 rs2 : BitVec 5) (ps : BitVec 3)
  /-- PSET (R139): Control core combines two predicates into a predicate. -/
  | pset (p : Site) (pd pa pb : BitVec 3) (op : PredOp)
  /-- ADDI (R139): Control core adds a sign-extended immediate to rs1 into rd. -/
  | addi (p : Site) (rd rs1 : BitVec 5) (imm : BitVec 16)
  /-- ANDI (R139): Control core ANDs rs1 with a zero-extended immediate into rd. -/
  | andi (p : Site) (rd rs1 : BitVec 5) (imm : BitVec 16)
  /-- ORI (R139): Control core ORs rs1 with a zero-extended immediate into rd. -/
  | ori (p : Site) (rd rs1 : BitVec 5) (imm : BitVec 16)
  /-- XORI (R139): Control core XORs rs1 with a zero-extended immediate into rd. -/
  | xori (p : Site) (rd rs1 : BitVec 5) (imm : BitVec 16)
  /-- SHLI (R139): Control core shifts rs1 left by an immediate into rd. -/
  | shli (p : Site) (rd rs1 : BitVec 5) (sh : BitVec 6)
  /-- SHRI (R139): Control core shifts rs1 right logically by an immediate into rd. -/
  | shri (p : Site) (rd rs1 : BitVec 5) (sh : BitVec 6)
  /-- SARI (R139): Control core shifts rs1 right arithmetically by an immediate into rd. -/
  | sari (p : Site) (rd rs1 : BitVec 5) (sh : BitVec 6)
  /-- CMPI (R139): Control core compares rs1 with an immediate into a predicate. -/
  | cmpi (p : Site) (pd : BitVec 3) (rs1 : BitVec 5) (imm : BitVec 16) (cond : CondI)
  /-- LUI (R139): Control core loads a shifted sign-extended immediate into rd. -/
  | lui (p : Site) (rd : BitVec 5) (imm : BitVec 21)
  /-- JAL (R139): Control core jumps by an offset and links the return address. -/
  | jal (p : Site) (rd : BitVec 5) (imm : BitVec 21)
  /-- JALR (R139): Control core jumps to a register-computed target and links the return address. -/
  | jalr (p : Site) (rd rs1 : BitVec 5) (imm : BitVec 16)
  /-- BP (R139): Control core branches when a predicate is true. -/
  | bp (p : Site) (ps : BitVec 3) (imm : BitVec 16)
  /-- BNP (R139): Control core branches when a predicate is false. -/
  | bnp (p : Site) (ps : BitVec 3) (imm : BitVec 16)
  /-- BS (R140): Control core branches on a test of a vector-engine summary register. -/
  | bs (p : Site) (test : SumTest) (sum : BitVec 4) (imm : BitVec 16)
  /-- LD8U (R141): Control core loads a zero-extended byte through the narrow view or register space. -/
  | ld8u (p : Site) (rd rs1 : BitVec 5) (imm : BitVec 16)
  /-- LD8S (R141): Control core loads a sign-extended byte. -/
  | ld8s (p : Site) (rd rs1 : BitVec 5) (imm : BitVec 16)
  /-- LD16U (R141): Control core loads two zero-extended bytes. -/
  | ld16u (p : Site) (rd rs1 : BitVec 5) (imm : BitVec 16)
  /-- LD16S (R141): Control core loads two sign-extended bytes. -/
  | ld16s (p : Site) (rd rs1 : BitVec 5) (imm : BitVec 16)
  /-- LD32U (R141): Control core loads four zero-extended bytes. -/
  | ld32u (p : Site) (rd rs1 : BitVec 5) (imm : BitVec 16)
  /-- LD32S (R141): Control core loads four sign-extended bytes. -/
  | ld32s (p : Site) (rd rs1 : BitVec 5) (imm : BitVec 16)
  /-- LD64 (R141): Control core loads eight bytes. -/
  | ld64 (p : Site) (rd rs1 : BitVec 5) (imm : BitVec 16)
  /-- ST8 (R141): Control core stores a byte through the store buffer. -/
  | st8 (p : Site) (rs2 rs1 : BitVec 5) (imm : BitVec 16)
  /-- ST16 (R141): Control core stores two bytes. -/
  | st16 (p : Site) (rs2 rs1 : BitVec 5) (imm : BitVec 16)
  /-- ST32 (R141): Control core stores four bytes. -/
  | st32 (p : Site) (rs2 rs1 : BitVec 5) (imm : BitVec 16)
  /-- ST64 (R141): Control core stores eight bytes. -/
  | st64 (p : Site) (rs2 rs1 : BitVec 5) (imm : BitVec 16)
  /-- CRR (R159): Control core reads a control register into rd. -/
  | crr (p : Site) (rd : BitVec 5) (num : BitVec 12)
  /-- CRW (R159): Control core writes a control register from rs1. -/
  | crw (p : Site) (rs1 : BitVec 5) (num : BitVec 12)
  /-- ERET (R155): Control core clears STATUS.EX and resumes at EPC. -/
  | eret (p : Site)
  /-- FENCE (R144): Control core waits until older loads return and older stores are written. -/
  | fence (p : Site)
  /-- ISSUE_ME (R146): Control core places a matrix-engine descriptor in its queue and returns a ticket. -/
  | issueMe (p : Site) (rd rs1 : BitVec 5)
  /-- ISSUE_VE (R146): Control core places a vector-engine descriptor in its queue and returns a ticket. -/
  | issueVe (p : Site) (rd rs1 : BitVec 5)
  /-- ISSUE_MV (R146): Control core places a mover descriptor in a customer ring and returns a ticket. -/
  | issueMv (p : Site) (rd rs1 : BitVec 5) (ring : BitVec 3)
  /-- WAIT (R148): Control core waits for a ticket's completion or an engine fault. -/
  | wait (p : Site) (pd : BitVec 3) (rs1 : BitVec 5) (eng : Engine) (ring : BitVec 3)
  /-- CHAN_OPEN (R296): Control core takes a send context and starts an open handshake. -/
  | chanOpen (p : Site) (rd rs1 : BitVec 5)
  /-- CHAN_SEND (R297): Control core hands a plain message to a send context. -/
  | chanSend (p : Site) (rd rs1 rs2 : BitVec 5)
  /-- CHAN_SEND_BLOCK (R301): Control core sends a message and stalls until it is delivered or dropped. -/
  | chanSendBlock (p : Site) (rd rs1 rs2 : BitVec 5)
  /-- CHAN_CLOSE (R303): Control core closes a send context, flushing and awaiting answers. -/
  | chanClose (p : Site) (rd rs1 : BitVec 5)
  /-- WIN_OPEN (R305): Control core opens a window with a new generation. -/
  | winOpen (p : Site) (rd rs1 rs2 : BitVec 5) (win : BitVec 6)
  /-- WIN_CLOSE (R307): Control core closes a window and waits for landing puts. -/
  | winClose (p : Site) (rd : BitVec 5) (win : BitVec 6)
  /-- Q_WP (R288): Control core reads a queue write pointer, optionally waiting for data. -/
  | qWp (p : Site) (rd : BitVec 5) (q : BitVec 7) (wait : Bool)
  /-- Q_ADV (R287): Control core advances a queue read pointer. -/
  | qAdv (p : Site) (rs1 : BitVec 5) (q : BitVec 7)
  /-- BAR_ARRIVE (R281): Control core arrives at a barrier instance, sending BAR_ARRIVE to the home. -/
  | barArrive (p : Site) (rd : BitVec 5) (inst : BitVec 5)
  /-- BAR_WAIT (R282): Control core waits until a barrier episode is released. -/
  | barWait (p : Site) (rs1 : BitVec 5) (inst : BitVec 5)
  /-- FRET_HINT (R152): Control core sets or withdraws its fret hint. -/
  | fretHint (p : Site) (clear : Bool) (fret : BitVec 4)
  /-- DL_SET_SEND_BUDGET (R153): Control core sets SEND_BUDGET. -/
  | dlSetSendBudget (p : Site) (rs1 : BitVec 5)
  /-- DL_SET_STEP_DEADLINE (R153): Control core arms the absolute STEP_DEADLINE timer. -/
  | dlSetStepDeadline (p : Site) (rs1 : BitVec 5)
  /-- STEP_WAIT (R154): Control core stalls until the next step's frame mark and receives the step index. -/
  | stepWait (p : Site) (rd : BitVec 5)
  /-- STEP_DONE (R154): Control core reports the step finished and disarms STEP_DEADLINE. -/
  | stepDone (p : Site)
  /-- ILLEGAL_INSTRUCTION (R137): An unlisted or malformed instruction word raises ILLEGAL. -/
  | illegalInstruction (p : Site) (uncorrectable : Bool)
  /-- EXCEPTION_ENTRY (R155): A pending asynchronous exception is taken at an instruction boundary, jumping to EVEC. -/
  | exceptionEntry (p : Site)
  /-- CC_STEP_DEADLINE_EXPIRY (R153): Panel time reaches a non-zero STEP_DEADLINE and the exception becomes pending. -/
  | ccStepDeadlineExpiry (p : Site)
  /-- ME_LOAD_TILE (R91): A LOAD_TILE descriptor reaches the queue head, is checked and loads the shadow tile. -/
  | meLoadTile (p : Site)
  /-- ME_GEMM_WS (R77): A GEMM_WS descriptor is checked at the head and starts its passes. -/
  | meGemmWs (p : Site)
  /-- ME_GEMV_STREAM (R85): A GEMV_STREAM descriptor is checked at the head and starts streaming weights. -/
  | meGemvStream (p : Site)
  /-- ME_DRAIN (R91): A DRAIN descriptor is checked at the head and writes a bank to its target. -/
  | meDrain (p : Site)
  /-- ME_SYNC (R93): A SYNC descriptor waits for every older descriptor to complete. -/
  | meSync (p : Site)
  /-- ME_DESC_COMPLETE (R95): A matrix-engine descriptor completes, writing its record and advancing the done count. -/
  | meDescComplete (p : Site)
  /-- ME_ABORT (R100): Writing ABORT stops running descriptors, discards the queue and empties banks. -/
  | meAbort (p : Site)
  /-- ME_CLEAR_FAULT (R97): Writing CLEAR_FAULT discards queued descriptors and clears FAULTED. -/
  | meClearFault (p : Site)
  /-- VE_FILL (R123): A FILL descriptor copies scratchpad lines into the operand cache. -/
  | veFill (p : Site)
  /-- VE_EVICT (R123): An EVICT descriptor copies operand-cache lines to scratchpad. -/
  | veEvict (p : Site)
  /-- VE_CHAIN (R102): A CHAIN descriptor streams elements through its fused stages. -/
  | veChain (p : Site)
  /-- VE_LOAD_TABLE (R124): A LOAD_TABLE descriptor loads the POLY coefficient table. -/
  | veLoadTable (p : Site)
  /-- VE_SYNC (R125): A vector SYNC descriptor completes once older descriptors have completed. -/
  | veSync (p : Site)
  /-- VE_DESC_COMPLETE (R128): A vector descriptor completes, updating summaries, its record and the done count. -/
  | veDescComplete (p : Site)
  /-- VE_ABORT (R131): Writing ABORT stops running vector descriptors and discards the queue. -/
  | veAbort (p : Site)
  /-- VE_CLEAR_FAULT (R129): Writing CLEAR_FAULT discards the vector queue and clears FAULTED. -/
  | veClearFault (p : Site)
  /-- VE_SUM_WRITE (R119): A write to VE_SUMn sets its value and clears its poison bit. -/
  | veSumWrite (p : Site) (n : BitVec 4) (v : BitVec 64)
  /-- MV_COPY_OUT (R186): A COPY_OUT descriptor writes local data to a panel address in packets. -/
  | mvCopyOut (p : Site) (ring : Fin 9)
  /-- MV_COPY_IN (R186): A COPY_IN descriptor reads from a panel address into local scratchpad. -/
  | mvCopyIn (p : Site) (ring : Fin 9)
  /-- MV_HOST_OUT (R186): A HOST_OUT descriptor moves data to a host aperture. -/
  | mvHostOut (p : Site) (ring : Fin 9)
  /-- MV_HOST_IN (R186): A HOST_IN descriptor moves data from a host aperture. -/
  | mvHostIn (p : Site) (ring : Fin 9)
  /-- MV_FILL (R186): A mover FILL descriptor writes a repeated pattern. -/
  | mvFill (p : Site) (ring : Fin 9)
  /-- MV_ZERO (R186): A mover ZERO descriptor writes zeros. -/
  | mvZero (p : Site) (ring : Fin 9)
  /-- MV_ROW_COPY (R186): A ROW_COPY on the management ring copies raw rows between sites. -/
  | mvRowCopy (p : Site) (ring : Fin 9)
  /-- MV_SYNC (R186): A mover SYNC completes when older descriptors of its ring have completed. -/
  | mvSync (p : Site) (ring : Fin 9)
  /-- MV_DESC_COMPLETE (R189): A mover descriptor completes, writing its record and advancing MV_DONEn. -/
  | mvDescComplete (p : Site) (ring : Fin 9)
  /-- MV_MGMT_ISSUE (R184): The active management die places a descriptor into management ring 8. -/
  | mvMgmtIssue (p : Site) (offset : BitVec 29)
  /-- MV_ABORT (R187): Writing ABORT stops a ring at a packet boundary and awaits outstanding answers. -/
  | mvAbort (p : Site) (ring : Fin 9)
  /-- MV_CLEAR_FAULT (R190): Writing CLEAR_FAULT discards a ring's queue and clears its fault. -/
  | mvClearFault (p : Site) (ring : Fin 9)
  /-- MV_RESEND (R187): A mover backoff expires and the NACKed packet is resent. -/
  | mvResend (p : Site) (ring : Fin 9)
  /-- REG_ADV (R180): A write to REGn_ADV advances a region's HEAD or TAIL after checks. -/
  | regAdv (p : Site) (region : BitVec 6) (head : Bool) (amount : BitVec 32)
  /-- SCRUB_LINE_READ (R204): The scrub interval expires and patrol scrub reads and decodes one line. -/
  | scrubLineRead (p : Site)
  /-- SCRUB_BEHIND (R204): A scrub pass is not complete one period after it started. -/
  | scrubBehind (p : Site)
  /-- WRITE_BACK (R200): A queued corrected or poisoned granule is written back when a grant is available. -/
  | writeBack (p : Site)
  /-- WATCH_ENTRY_EXPIRY (R201): A watch entry is freed one hour after its first correction. -/
  | watchEntryExpiry (p : Site) (n : BitVec 5)
  /-- REMAP_ADD (R213): The active management die adds a run-time remap entry by row copy. -/
  | remapAdd (p : Site) (die : BitVec 1) (bank : BitVec 5) (row : BitVec 14)
  /-- KILL_CLEAR_COMPLETE (R192): A kill-with-clear zero-fill ends and the segments switch off. -/
  | killClearComplete (p : Site)
  /-- FRAME_MARK (R231): A frame mark falls: frame count advances, banks and epochs switch, steps start or end. -/
  | frameMark
  /-- SLOT_PASS (R236): A PASS entry forwards the arriving flit unchanged. -/
  | slotPass (p : Site) (course : Fin 12) (slot : BitVec 13) (crcError : Bool)
  /-- SLOT_INJECT (R236): An INJECT entry sends the head flit of a slot buffer. -/
  | slotInject (p : Site) (course : Fin 12) (slot : BitVec 13) (crcError : Bool)
  /-- SLOT_EXTRACT (R236): An EXTRACT entry appends the arriving flit to a slot buffer. -/
  | slotExtract (p : Site) (course : Fin 12) (slot : BitVec 13) (crcError : Bool)
  /-- SLOT_DROP_CONTINUE (R236): A DROP_CONTINUE entry copies the flit locally and forwards it. -/
  | slotDropContinue (p : Site) (course : Fin 12) (slot : BitVec 13) (crcError : Bool)
  /-- SLOT_REDUCE_ADD (R236): A REDUCE_ADD entry adds a local flit into the passing flit. -/
  | slotReduceAdd (p : Site) (course : Fin 12) (slot : BitVec 13) (crcError : Bool)
  /-- SLOT_TURN (R236): A TURN entry places the arriving flit in a turn queue. -/
  | slotTurn (p : Site) (course : Fin 12) (slot : BitVec 13) (crcError : Bool)
  /-- SLOT_TURN_IN (R236): A TURN_IN entry sends the head of a turn queue. -/
  | slotTurnIn (p : Site) (course : Fin 12) (slot : BitVec 13) (crcError : Bool)
  /-- FEED_LINE_FETCH (R241): A FEED buffer with room fetches a line below HEAD from its region. -/
  | feedLineFetch (p : Site) (buf : BitVec 6)
  /-- LAND_FLIT_WRITE (R241): A LAND buffer writes a flit into its region once R177 permits. -/
  | landFlitWrite (p : Site) (buf : BitVec 6)
  /-- LINK_NAK_REPLAY (R260): A NAK on a request track makes the sender replay from ACK_SEQ + 1. -/
  | linkNakReplay (p : Site) (track : BitVec 3) (ackSeq : BitVec 7)
  /-- PKT_WRITE (R272): A WRITE packet arrives whole, is checked, and lands or is sunk. -/
  | pktWrite (here : Place) (pkt : Packet)
  /-- PKT_READ_REQ (R272): A READ_REQ arrives, is checked and answered by READ_RESP or NACK. -/
  | pktReadReq (here : Place) (pkt : Packet)
  /-- PKT_PUT (R306): A PUT arrives and lands in a window or is refused. -/
  | pktPut (here : Place) (pkt : Packet)
  /-- PKT_MSG (R293): A MSG packet arrives and is placed, landed, sunk or discarded by sequence. -/
  | pktMsg (here : Place) (pkt : Packet)
  /-- PKT_REDUCE (R278): A REDUCE packet merges WA96 partials at its address. -/
  | pktReduce (here : Place) (pkt : Packet)
  /-- PKT_CHAN_OPEN (R296): A CHAN_OPEN arrives and registers a receive channel or is NACKed. -/
  | pktChanOpen (here : Place) (pkt : Packet)
  /-- PKT_CHAN_CLOSE (R303): A CHAN_CLOSE arrives and the receiver deregisters the channel. -/
  | pktChanClose (here : Place) (pkt : Packet)
  /-- PKT_TRANSIT (R402): A TRANSIT packet reaches the egress port die, which rebuilds the frame. -/
  | pktTransit (here : Place) (pkt : Packet)
  /-- PKT_ROW_WRITE (R522): A ROW_WRITE arrives and writes raw rows through the row view. -/
  | pktRowWrite (here : Place) (pkt : Packet)
  /-- PKT_READ_RESP (R262): A READ_RESP lands in space its requester reserved, or is discarded. -/
  | pktReadResp (here : Place) (pkt : Packet)
  /-- PKT_ACK (R294): An ACK completes a request at its source. -/
  | pktAck (here : Place) (pkt : Packet)
  /-- PKT_CHAN_ACCEPT (R296): A CHAN_ACCEPT completes an open handshake. -/
  | pktChanAccept (here : Place) (pkt : Packet)
  /-- PKT_CHAN_CLOSED (R303): A CHAN_CLOSED reply frees the send context. -/
  | pktChanClosed (here : Place) (pkt : Packet)
  /-- PKT_NACK (R299): A NACK reaches its source and is handled by reason. -/
  | pktNack (here : Place) (pkt : Packet)
  /-- PKT_BAR_ARRIVE (R281): A BAR_ARRIVE reaches the home stop and records the arrival. -/
  | pktBarArrive (here : Place) (pkt : Packet)
  /-- PKT_BAR_RELEASE (R282): A BAR_RELEASE reaches a member's stop and records the episode. -/
  | pktBarRelease (here : Place) (pkt : Packet)
  /-- PKT_BAR_REPORT (R283): A BAR_REPORT reaches the management die. -/
  | pktBarReport (here : Place) (pkt : Packet)
  /-- PKT_ABORT (R263): An ABORT packet carries a partition or collective abort or a control frame. -/
  | pktAbort (here : Place) (pkt : Packet)
  /-- PKT_MGMT (R263): A MGMT packet performs a management register access or report. -/
  | pktMgmt (here : Place) (pkt : Packet)
  /-- PKT_STEP_FAIL (R250): A lost-slot report reaches the active management die. -/
  | pktStepFail (here : Place) (pkt : Packet)
  /-- PKT_DRAIN_REPORT (R274): A drain report reaches the epoch unit. -/
  | pktDrainReport (here : Place) (pkt : Packet)
  /-- WORM_TRUNCATE (R514): A stopped core's partial worm is ended with a TRUNC tail once a credit is held. -/
  | wormTruncate (p : Site)
  /-- EPOCH_DRAIN_SLOW (R276): A drain not complete 100 µs after the flip raises the event. -/
  | epochDrainSlow
  /-- MSG_ABANDONED (R295): A reservation receives no packet for 100 µs and becomes a skip marker. -/
  | msgAbandoned (p : Site) (ch : BitVec 8)
  /-- CHANNEL_RESEND (R299): A channel backoff expires and the context resends the message from packet 0. -/
  | channelResend (p : Site) (ctx : BitVec 8)
  /-- SEND_BUDGET_EXPIRY (R301): A message's send budget runs out and it is dropped. -/
  | sendBudgetExpiry (p : Site) (ctx : BitVec 8)
  /-- STEP_ARM (R329): The management die arms a step by writing START at every stop. -/
  | stepArm (part : BitVec 6)
  /-- COMMIT_POINT (R332): The step's reports are in and the step index advances. -/
  | commitPoint (part : BitVec 6)
  /-- LB_TIMER_EXPIRY (R339): The deadline timer reaches LB before commit and the step fails. -/
  | lbTimerExpiry (part : BitVec 6)
  /-- STEP_REPLAY (R336): The management die replays a failed step from the last commit point. -/
  | stepReplay (part : BitVec 6)
  /-- SERVICE_DOORBELL (R346): A service-ring doorbell write updates producer and consumer counts. -/
  | serviceDoorbell (ring : BitVec 6) (prod cons : BitVec 32)
  /-- SERVICE_REQUEST_FETCH (R356): The management die fetches a request and admits or rejects it. -/
  | serviceRequestFetch (ring : BitVec 6)
  /-- SERVICE_INPUT_SEND (R348): The management die sends a request's input message into the partition. -/
  | serviceInputSend (part : BitVec 6)
  /-- SERVICE_OUTPUT_READ (R349): After a commit the management die moves a step's output to the destination. -/
  | serviceOutputRead (part : BitVec 6)
  /-- SERVICE_RESPONSE_POST (R361): A response entry is posted to its ring or peer when room allows. -/
  | serviceResponsePost (ring : BitVec 6)
  /-- REQUEST_DEADLINE_EXPIRY (R358): Panel time reaches a request's deadline before completion. -/
  | requestDeadlineExpiry (part : BitVec 6) (req : Nat)
  /-- REQUEST_QUEUE_HEAD (R358): A DROP_LATE request reaches its queue head and is run or dropped. -/
  | requestQueueHead (part : BitVec 6)
  /-- WARM_HOLD_EXPIRY (R353): WARM_HOLD passes with no request and the partition becomes idle. -/
  | warmHoldExpiry (part : BitVec 6)
  /-- SVC_REASSEMBLY_TIMEOUT (R406): A peer request not complete 100 µs after its first segment is discarded. -/
  | svcReassemblyTimeout (die : Fin 42) (panel : BitVec 10) (msgId : BitVec 32)
  /-- STACK_TEMP_READOUT (R378): The stack readout is taken every 1 ms and refresh or closing follows. -/
  | stackTempReadout (s : Fin 28) (temp : BitVec 8)
  /-- STACK_RECAL_FAILURE (R379): A second successive recalibration failure closes the stack OFFLINE. -/
  | stackRecalFailure (s : Fin 28)
  /-- STACK_REFRESH (R365): The sequencer issues a refresh and recalibrates the interface. -/
  | stackRefresh (s : Fin 28)
  /-- SPILL_REMAP_COMPLETE (R377): A spill block copy ends and the remap entry becomes valid. -/
  | spillRemapComplete (s : Fin 28) (n : BitVec 5)
  /-- SPILL_WRITE_BACK (R375): A queued corrected or poisoned spill unit is written back. -/
  | spillWriteBack (s : Fin 28)
  /-- SPILL_CLEAR_COMPLETE (R382): An entry's zero-fill ends and the entry becomes invalid. -/
  | spillClearComplete (s : Fin 28) (n : BitVec 8)
  /-- FRAME_IDLE (R394): An IDLE frame delivers credits and acknowledgement. -/
  | frameIdle (port : Fin 84) (f : Frame)
  /-- FRAME_IDENT (R397): An IDENT frame exchanges training identity and the width is chosen. -/
  | frameIdent (port : Fin 84) (f : Frame)
  /-- FRAME_TIME_SYNC (R418): A TIME_SYNC frame is answered with TIME_REPLY. -/
  | frameTimeSync (port : Fin 84) (f : Frame)
  /-- FRAME_TIME_REPLY (R418): A TIME_REPLY frame feeds the time servo. -/
  | frameTimeReply (port : Fin 84) (f : Frame)
  /-- FRAME_ABORT (R416): An ABORT frame aborts a collective invocation at a member. -/
  | frameAbort (port : Fin 84) (f : Frame)
  /-- FRAME_COLL_UP (R412): A COLL_UP chunk arrives toward the root and is combined. -/
  | frameCollUp (port : Fin 84) (f : Frame)
  /-- FRAME_COLL_DOWN (R412): A COLL_DOWN chunk arrives and is forwarded and delivered. -/
  | frameCollDown (port : Fin 84) (f : Frame)
  /-- FRAME_SVC_REQUEST (R406): An SVC_REQUEST segment arrives for reassembly. -/
  | frameSvcRequest (port : Fin 84) (f : Frame)
  /-- FRAME_SVC_RESPONSE (R406): An SVC_RESPONSE frame addressed to a panel is discarded. -/
  | frameSvcResponse (port : Fin 84) (f : Frame)
  /-- FRAME_SVC_OUTPUT (R406): An SVC_OUTPUT frame addressed to a panel is discarded. -/
  | frameSvcOutput (port : Fin 84) (f : Frame)
  /-- FRAME_BULK_WRITE (R407): A BULK_WRITE lands in a spill aperture. -/
  | frameBulkWrite (port : Fin 84) (f : Frame)
  /-- IHLYX_REPLAY (R395): A NAK makes a port resend from ACK_SEQ + 1. -/
  | ihlyxReplay (port : Fin 84)
  /-- PORT_LOSS_OF_LOCK (R396): An active lane loses codeword alignment for 1 µs. -/
  | portLossOfLock (port : Fin 84) (lane : BitVec 2)
  /-- PORT_SILENT (R396): No valid frame arrives for 4 µs. -/
  | portSilent (port : Fin 84)
  /-- PORT_TRAIN_TIMEOUT (R397): Training does not reach UP within 200 ms. -/
  | portTrainTimeout (port : Fin 84)
  /-- PORT_RETRAIN_TIMER (R400): One second after going DOWN a port retrains. -/
  | portRetrainTimer (port : Fin 84)
  /-- PORT_IDLE_SEND (R394): A port with nothing to send sends IDLE within 1 µs. -/
  | portIdleSend (port : Fin 84)
  /-- TIME_SYNC_SEND (R418): Each UP port sends TIME_SYNC every 1 ms. -/
  | timeSyncSend (port : Fin 84)
  /-- POD_TIME_UNLOCK_TIMEOUT (R419): No valid exchange for 10 ms clears POD_LOCKED. -/
  | podTimeUnlockTimeout (die : Fin 42)
  /-- EGRESS_TIMEOUT (R403): A frame waits over 1 ms for link credit and is dropped. -/
  | egressTimeout (port : Fin 84)
  /-- CLK_TARGET_WRITE (R428): The governor writes TARGET and a fret change may start. -/
  | clkTargetWrite (p : Site) (fret : BitVec 4)
  /-- CLK_LIMITS_WRITE (R428): CAPO or CEILING is written and the effective fret may change. -/
  | clkLimitsWrite (p : Site) (capo ceiling : BitVec 4)
  /-- RAIL_SET_POINT_REACHED (R431): The region rail reaches the new set point of a fret change. -/
  | railSetPointReached (g : Fin 42)
  /-- IDLE_PLL_LOCKED (R431): The pre-tuned idle PLL locks. -/
  | idlePllLocked (p : Site)
  /-- FRET_SWITCH (R431): Engines reach a hold boundary and the clock switches to the new PLL. -/
  | fretSwitch (p : Site)
  /-- DROOP_ASSERT (R434): A region's DROOP alert asserts and its cores move to the damper source. -/
  | droopAssert (g : Fin 42)
  /-- DROOP_DEASSERT (R454): Every sense rises above the set point minus 20 mV and the alert deasserts. -/
  | droopDeassert (g : Fin 42)
  /-- DAMPER_HOLD_EXPIRY (R471): DAMPER_HOLD passes and each core starts a change to its effective fret. -/
  | damperHoldExpiry (g : Fin 42)
  /-- DAMPER_RECOVER_EXPIRY (R472): DAMPER_RECOVER passes without droop and the damper ceiling rises a fret. -/
  | damperRecoverExpiry (g : Fin 42)
  /-- PLL_UNLOCK (R436): A live core PLL loses lock and the core moves to the damper source. -/
  | pllUnlock (p : Site) (pllB : Bool)
  /-- FABRIC_PLL_UNLOCK (R436): A fabric PLL loses lock and its row and column are derated. -/
  | fabricPllUnlock (p : Site)
  /-- DRONE_REF_LOST (R426): No DRONE_REF edge for 200 ns causes a whole-panel reset. -/
  | droneRefLost
  /-- DRONE_REF_VALID (R426): DRONE_REF valid for 10 ms lets a start proceed. -/
  | droneRefValid
  /-- CAPO_MEASURE (R429): A site due for measurement has its capo measured. -/
  | capoMeasure (p : Site) (capo : BitVec 4)
  /-- FEED_CONNECT (R439): A valid feed within 44–60 V for 1 s is connected. -/
  | feedConnect (b : Bool)
  /-- FEED_DISCONNECT (R439): A feed out of range is disconnected within 20 µs. -/
  | feedDisconnect (b : Bool)
  /-- INPUT_LOW (R443): Vin falls below 44 V and every ceiling becomes F0. -/
  | inputLow
  /-- INPUT_RECOVERED (R443): Vin at or above 45 V for 1 ms returns the input to NORMAL. -/
  | inputRecovered
  /-- INPUT_LOW_TIMEOUT (R443): LOW for 10 ms, or Vin under 36 V for 20 µs, starts an orderly stop. -/
  | inputLowTimeout
  /-- INPUT_OFF (R443): Vin falls to 30 V or below and everything is unpowered. -/
  | inputOff
  /-- STOPPED_RESTART (R446): From STOPPED, Vin in range for 1 s restarts the panel when AUTO_RESTART is set. -/
  | stoppedRestart
  /-- ENERGY_METER_SAMPLE (R451): Each feed meter samples voltage and current every 10 µs. -/
  | energyMeterSample (b : Bool) (mv : BitVec 17) (ma : BitVec 20)
  /-- PHASE_FAILED (R455): The governor removes a failed phase and lowers the region limit. -/
  | phaseFailed (g : Fin 42) (phase : BitVec 4)
  /-- CONNECTION_FAULT (R458): A site's sense drop exceeds its margin for 100 µs. -/
  | connectionFault (p : Site)
  /-- GOV_CLEAR_CONN (R459): Writing CLEAR_CONN clears a region's connection-fault cap. -/
  | govClearConn (g : Fin 42) (mask : BitVec 4)
  /-- FABRIC_RAIL_LOST (R457): A region's fabric rail fails and its sites are retired. -/
  | fabricRailLost (g : Fin 42)
  /-- CAP_AVERAGE_TICK (R463): Every 10 µs the controller recomputes averages and enforces caps. -/
  | capAverageTick
  /-- CAP_LEARN_TICK (R467): Every 1 ms the controller updates its power regression. -/
  | capLearnTick
  /-- CAP_GRANT (R449): A waiting demand rise receives its share of the slew-limited grant. -/
  | capGrant
  /-- PHASE_CEILING_ISSUE (R469): The controller issues a cap ceiling change 6 µs ahead of a phase. -/
  | phaseCeilingIssue (part : BitVec 6)
  /-- SENSOR_READ (R474): Temperature sensors are read and pair values formed. -/
  | sensorRead (p : Site) (r : SensorReadings)
  /-- THERMAL_LOOP_TICK (R476): A region's thermal loop adjusts its thermal ceiling. -/
  | thermalLoopTick (g : Fin 42)
  /-- COOL_OK_LOW (R480): COOL_OK low for 1 ms is detected as a flow stop. -/
  | coolOkLow
  /-- RISE_CONDITION_TICK (R480): Every 100 ms the rise condition is evaluated across regions. -/
  | riseConditionTick
  /-- COOLANT_SHUTDOWN (R481): 60 s after a flow stop the panel shuts down its remaining rails. -/
  | coolantShutdown
  /-- POWER_ON_START (R488): A feed connects and a cold or fast start begins. -/
  | powerOnStart
  /-- BRINGUP_STEP_COMPLETE (R488): A power-on sequence step completes and the next begins. -/
  | bringupStepComplete
  /-- PANEL_RST_ASSERT (R579): PANEL_RST_N low for 1 µs applies a whole-panel reset. -/
  | panelRstAssert
  /-- PANEL_RST_RELEASE (R579): PANEL_RST_N released starts the panel. -/
  | panelRstRelease
  /-- PERST_ASSERT (R581): PCIEk_PERST_N low resets that PCI Express port as a function reset. -/
  | perstAssert (k : BitVec 1)
  /-- FUNCTION_LEVEL_RESET (R549): A Function Level Reset closes session 0 and disables rings. -/
  | functionLevelReset
  /-- CORE_RESET (R512): Writing CORE_CONTROL.RESET puts a core into reset. -/
  | coreReset (p : Site)
  /-- CORE_RESTART (R516): Writing RESTART releases a core from reset at PC 0x0000. -/
  | coreRestart (p : Site)
  /-- CORE_QUIESCE (R543): Writing QUIESCE sets the core QUIESCE. -/
  | coreQuiesce (p : Site)
  /-- CORE_UNQUIESCE (R543): Writing UNQUIESCE clears QUIESCE. -/
  | coreUnquiesce (p : Site)
  /-- SYMP_QUAL_START (R526): A spare's sympathetic attempt starts at a step boundary. -/
  | sympQualStart (p : Site)
  /-- SYMP_QUAL_END (R528): An attempt ends after 256 frames as PASS, INCONCLUSIVE or MISMATCH. -/
  | sympQualEnd (p : Site)
  /-- SELF_QUALIFICATION (R529): A spare runs BIST and the reference kernel and is qualified or retired. -/
  | selfQualification (p : Site) (pass : Bool)
  /-- FM_WAIT_EXPIRY (R535): No placement decision within FM_WAIT applies FM_DEFAULT. -/
  | fmWaitExpiry
  /-- HEARTBEAT_SEND (R545): The active die sends a heartbeat every 1 ms. -/
  | heartbeatSend
  /-- HEARTBEAT_LOSS (R545): No heartbeat for 10 ms makes the standby take over. -/
  | heartbeatLoss
  /-- JOURNAL_RECORD (R544): The standby die receives and applies a journal record. -/
  | journalRecord
  /-- SESSION_IDLE_TIMEOUT (R556): A session closes after 60 s without a valid datagram. -/
  | sessionIdleTimeout (session : BitVec 32)
  /-- EVENT_RECORD_DELIVERY (R563): An event record is written to each admitting ring when it has room. -/
  | eventRecordDelivery (ring : BitVec 2)
  /-- EVENT_CONSUMER_WRITE (R563): The host writes EVRr_CONS, freeing event-ring entries. -/
  | eventConsumerWrite (ring : BitVec 2) (cons : BitVec 32)
  /-- EVENT_NOTIFY_SEND (R565): The panel sends EVENT_NOTIFY datagrams to a subscribed session. -/
  | eventNotifySend (session : BitVec 32)
  /-- EVENT_NOTIFY_RESEND (R565): Unconfirmed records are resent every 20 ms, four times at most. -/
  | eventNotifyResend (session : BitVec 32)
  /-- DEBUG_EN_DEASSERT (R569): DEBUG_EN deasserted while JTAG is open applies a whole-panel reset. -/
  | debugEnDeassert
  /-- TAP_INSTRUCTION (R568): A TAP instruction while closed selects BYPASS and may raise DEBUG_ATTEMPT. -/
  | tapInstruction (ir : BitVec 8)
  /-- REGISTER_WRITE (R12): A write to a register without a row of its own applies its access codes. -/
  | registerWrite (m : Master) (u : RegUnit) (off : BitVec 29) (v : BitVec 64)
  /-- READ_CLEAR (R14): A read of an RC field returns it and clears it. -/
  | readClear (m : Master) (u : RegUnit) (off : BitVec 29)
  /-- IDENTIFY (R559): MCI command returning the panel identity. -/
  | identify (c : MciCmd)
  /-- STATUS (R559): MCI command returning the status registers. -/
  | status (c : MciCmd)
  /-- START (R559): MCI command starting the panel. -/
  | start (c : MciCmd)
  /-- ROLE_HANDOVER (R545): MCI command for a planned handover or forced takeover. -/
  | roleHandover (c : MciCmd)
  /-- NET_CONFIG (R559): MCI command setting the Ethernet address. -/
  | netConfig (c : MciCmd)
  /-- EVENT_RING_SET (R559): MCI command configuring an event ring. -/
  | eventRingSet (c : MciCmd)
  /-- EVENT_READ (R559): MCI command reading records from the event log. -/
  | eventRead (c : MciCmd)
  /-- EVENT_ACK (R541): MCI command acknowledging CRITICAL records. -/
  | eventAck (c : MciCmd)
  /-- EVENT_SUBSCRIBE (R559): MCI command subscribing a session to events. -/
  | eventSubscribe (c : MciCmd)
  /-- EVENT_CONFIRM (R565): MCI command confirming notified records. -/
  | eventConfirm (c : MciCmd)
  /-- TAB_LOAD (R324): MCI command checking and registering a tablature. -/
  | tabLoad (c : MciCmd)
  /-- TAB_UNLOAD (R559): MCI command unloading a tablature. -/
  | tabUnload (c : MciCmd)
  /-- TAB_LIST (R559): MCI command listing tablatures. -/
  | tabList (c : MciCmd)
  /-- PART_CREATE (R326): MCI command creating a partition and granting leases. -/
  | partCreate (c : MciCmd)
  /-- PART_DELETE (R559): MCI command deleting a partition. -/
  | partDelete (c : MciCmd)
  /-- PART_BIND (R327): MCI command binding a tablature to a partition. -/
  | partBind (c : MciCmd)
  /-- PART_UNBIND (R328): MCI command unbinding a partition. -/
  | partUnbind (c : MciCmd)
  /-- PART_ABORT (R559): MCI command aborting a partition. -/
  | partAbort (c : MciCmd)
  /-- PART_KILL_CLEAR (R536): MCI command killing a partition with clear. -/
  | partKillClear (c : MciCmd)
  /-- PART_KILL_HOLD (R537): MCI command killing a partition with hold. -/
  | partKillHold (c : MciCmd)
  /-- PART_RELEASE (R537): MCI command releasing held contents. -/
  | partRelease (c : MciCmd)
  /-- HELD_READ (R559): MCI command reading held contents with the owner token. -/
  | heldRead (c : MciCmd)
  /-- PART_STATUS (R364): MCI command returning partition status and clearing counters. -/
  | partStatus (c : MciCmd)
  /-- STEP_HASH_READ (R530): MCI command reading step hashes. -/
  | stepHashRead (c : MciCmd)
  /-- SVC_RING_SET (R345): MCI command configuring a service ring. -/
  | svcRingSet (c : MciCmd)
  /-- SVC_RING_ENABLE (R559): MCI command re-enabling a service ring. -/
  | svcRingEnable (c : MciCmd)
  /-- SVC_ENABLE (R343): MCI command giving a partition its service binding. -/
  | svcEnable (c : MciCmd)
  /-- SVC_DISABLE (R559): MCI command removing a service binding. -/
  | svcDisable (c : MciCmd)
  /-- SVC_POLICY (R344): MCI command setting the service policy. -/
  | svcPolicy (c : MciCmd)
  /-- MEM_READ (R560): MCI command reading panel memory with a poison bitmap. -/
  | memRead (c : MciCmd)
  /-- MEM_WRITE (R560): MCI command writing panel memory. -/
  | memWrite (c : MciCmd)
  /-- DMA_IN (R560): MCI command moving data from host to panel. -/
  | dmaIn (c : MciCmd)
  /-- DMA_OUT (R560): MCI command moving data from panel to host. -/
  | dmaOut (c : MciCmd)
  /-- APERTURE_SET (R560): MCI command granting or revoking a host aperture. -/
  | apertureSet (c : MciCmd)
  /-- BULK_SEND (R407): MCI command sending BULK_WRITE frames. -/
  | bulkSend (c : MciCmd)
  /-- POWER_POLICY (R559): MCI command setting caps, slew and damper policy. -/
  | powerPolicy (c : MciCmd)
  /-- COOL_RESUME (R481): MCI command resuming after a flow stop. -/
  | coolResume (c : MciCmd)
  /-- THERMAL_CLEAR (R477): MCI command releasing a region held off for heat. -/
  | thermalClear (c : MciCmd)
  /-- ENERGY_READ (R482): MCI command reading job energy records. -/
  | energyRead (c : MciCmd)
  /-- MCI_RESET_CORE (R512): MCI RESET at level 0 resets one core. -/
  | mciResetCore (c : MciCmd)
  /-- MCI_RESET_REGION (R515): MCI RESET at level 1 resets a region. -/
  | mciResetRegion (c : MciCmd)
  /-- MCI_RESET_PARTITION (R515): MCI RESET at level 2 resets a partition. -/
  | mciResetPartition (c : MciCmd)
  /-- MCI_RESET_COMPUTE (R515): MCI RESET at level 3 resets every partition and spare. -/
  | mciResetCompute (c : MciCmd)
  /-- MCI_RESET_PANEL (R512): MCI RESET at level 4 applies a whole-panel reset. -/
  | mciResetPanel (c : MciCmd)
  /-- RETIRE (R521): MCI command retiring a site. -/
  | retire (c : MciCmd)
  /-- FAULT_CLEAR (R559): MCI command clearing a RETIRED mark or SUSPECT. -/
  | faultClear (c : MciCmd)
  /-- MIGRATE (R531): MCI command moving a core to a spare site of its row. -/
  | migrate (c : MciCmd)
  /-- PLACEMENT_RESUME (R535): MCI PLACEMENT decision RESUME replays the step. -/
  | placementResume (c : MciCmd)
  /-- PLACEMENT_HOLD (R535): MCI PLACEMENT decision HOLD keeps the partition held. -/
  | placementHold (c : MciCmd)
  /-- PLACEMENT_RELEASE (R535): MCI PLACEMENT decision RELEASE kills and deletes the partition. -/
  | placementRelease (c : MciCmd)
  /-- FAULT_POLICY (R559): MCI command setting fault policy and FEATURE_FLOOR. -/
  | faultPolicy (c : MciCmd)
  /-- WAY_STAGE (R559): MCI command writing way entries into the idle version. -/
  | wayStage (c : MciCmd)
  /-- EPOCH_FLIP (R274): MCI command starting a routing-table epoch change. -/
  | epochFlip (c : MciCmd)
  /-- FRAME_LEN (R231): MCI command setting the frame length. -/
  | frameLen (c : MciCmd)
  /-- FABRIC_RESTART (R499): MCI command restarting a region's fabric rail and stops. -/
  | fabricRestart (c : MciCmd)
  /-- STACK_RETRAIN (R366): MCI command retraining a stack at a data rate. -/
  | stackRetrain (c : MciCmd)
  /-- HOP_SET (R229): MCI command setting HOP_LINK for the next start. -/
  | hopSet (c : MciCmd)
  /-- PANEL_ID (R35): MCI command assigning the panel id. -/
  | panelId (c : MciCmd)
  /-- ROUTE_SET (R401): MCI command writing Ihlyx routing entries. -/
  | routeSet (c : MciCmd)
  /-- PORT_CONTROL (R559): MCI command setting a port's class weights. -/
  | portControl (c : MciCmd)
  /-- PORT_DISABLE (R396): MCI PORT_CONTROL action disabling a port. -/
  | portDisable (c : MciCmd)
  /-- PORT_ENABLE (R559): MCI PORT_CONTROL action enabling a port. -/
  | portEnable (c : MciCmd)
  /-- PORT_RETRAIN (R400): MCI PORT_CONTROL action retraining a port toward full width. -/
  | portRetrain (c : MciCmd)
  /-- TOPOLOGY (R399): MCI command reporting port states and peers. -/
  | topology (c : MciCmd)
  /-- TIME_MASTER (R419): MCI command making the panel a time master. -/
  | timeMaster (c : MciCmd)
  /-- COLL_BIND (R410): MCI command binding a collective. -/
  | collBind (c : MciCmd)
  /-- COLL_MEMBERS (R562): MCI command giving a collective's member panel ids. -/
  | collMembers (c : MciCmd)
  /-- COLL_UNBIND (R559): MCI command unbinding a collective. -/
  | collUnbind (c : MciCmd)
  /-- COLL_ABORT (R415): MCI command aborting a collective invocation. -/
  | collAbort (c : MciCmd)
  /-- COLL_LATENESS (R533): MCI command reading contribution completion times. -/
  | collLateness (c : MciCmd)
  /-- SVC_PEERS (R559): MCI command setting panels permitted to send service requests. -/
  | svcPeers (c : MciCmd)
  /-- BULK_APERTURE (R407): MCI command setting a bulk aperture. -/
  | bulkAperture (c : MciCmd)
  /-- FREEZE_RELEASE (R409): MCI command releasing frozen Ihlyx triples. -/
  | freezeRelease (c : MciCmd)
  /-- SESSION_OPEN (R556): MCI command opening an authenticated session. -/
  | sessionOpen (c : MciCmd)
  /-- SESSION_CLOSE (R556): MCI command closing a session. -/
  | sessionClose (c : MciCmd)
  /-- ENROL (R566): MCI command enrolling an owner key. -/
  | enrol (c : MciCmd)
  /-- KEY_INSTALL (R566): MCI command installing a tablature or role key. -/
  | keyInstall (c : MciCmd)
  /-- KEY_REVOKE (R559): MCI command revoking a key. -/
  | keyRevoke (c : MciCmd)
  /-- SEC_POLICY (R567): MCI command setting signing policy and PCIe rights. -/
  | secPolicy (c : MciCmd)
  /-- DEBUG_UNLOCK (R568): MCI command erasing secrets and opening JTAG. -/
  | debugUnlock (c : MciCmd)
  /-- FW_STAGE (R567): MCI command verifying and staging a firmware image. -/
  | fwStage (c : MciCmd)
  /-- FW_ACTIVATE (R567): MCI command activating a staged firmware image. -/
  | fwActivate (c : MciCmd)
  /-- FW_STATUS (R559): MCI command reporting firmware banks. -/
  | fwStatus (c : MciCmd)
  /-- FW_RECOVER (R490): MCI command accepted by the boot ROM to install a recovery image. -/
  | fwRecover (c : MciCmd)
  /-- MCI_BAD_OPCODE (R559): An MCI command with an unlisted opcode completes with BAD_OPCODE. -/
  | mciBadOpcode (opcode : BitVec 16) (c : MciCmd)
  /-- COOL_OK_HIGH (R576): COOL_OK goes high, releasing a start held at step 5 and counting toward the 10 s condition for resuming cooling. -/
  | coolOkHigh
  /-- FABRIC_PLL_RELOCK (R499): A stop's fabric PLL relocks, and the stop restarts and retrains its edges with its running neighbours. -/
  | fabricPllRelock (p : Site)
  /-- RQ_FLIT_CRC_ERROR (R260): A request-track receiver finds a flit failing its CRC, discards it and later flits, and sends NAK. -/
  | rqFlitCrcError (p : Site) (track : BitVec 3)
  /-- FRAME_CRC_ERROR (R395): An Ihlyx receiver finds a CRC failure or a SEQ gap, discards the frame and later frames, and sets NAK. -/
  | frameCrcError (port : Fin 84)
  /-- FIRMWARE_FAULT_REPORT (R545): The active management die reports a firmware fault and the standby takes the active role. -/
  | firmwareFaultReport
  /-- DEBUG_EN_ASSERT (R568): The DEBUG_EN strap is asserted, permitting a later DEBUG_UNLOCK. -/
  | debugEnAssert
  /-- QUALIFICATION_EXPIRY (R525): A spare's qualification becomes one hour old and QUALIFIED clears. -/
  | qualificationExpiry (p : Site)
  /-- DRONE_UP (R424): The input rises above 30 V, the drone comes up and panel time and the event sequence start from zero. -/
  | droneUp
  /-- PERST_RELEASE (R581): PCIEk_PERST_N is released and that PCI Express port leaves reset. -/
  | perstRelease (k : BitVec 1)
  deriving DecidableEq, Repr

end Sys2Proof
end

