-- ==== Sys2Proof/Decode.lean ====
section
/-! DEFINITION. The block has no instruction decoder: the opcode table gives its rows no bits, so decodeTableWord answers none. The
control core has an instruction word all the same (R136-R139), whose image EINFO and events hold: this file writes it for
every control-core command (ccWord) and reads it back, rejecting what R137 calls illegal (ccDecode). -/

namespace Sys2Proof

/-- The command that a word spells by the table's bits: the table gives bits to no row. -/
def decodeTableWord (_nbits _w : Nat) : Option Instr := none

/-! ## The four formats (R136) -/

/-- Format R: opcode, rd, rs1, rs2, fn. -/
def fmtR (op rd rs1 rs2 fn : Nat) : W32 := BitVec.ofNat 32 (op * 2 ^ 26 + rd * 2 ^ 21 + rs1 * 2 ^ 16 + rs2 * 2 ^ 11 + fn)

/-- Formats I and S: opcode, the field at [25:21], the field at [20:16], imm16. -/
def fmtI (op hi lo imm : Nat) : W32 := BitVec.ofNat 32 (op * 2 ^ 26 + hi * 2 ^ 21 + lo * 2 ^ 16 + imm)

/-- Format U: opcode, rd, imm21. -/
def fmtU (op rd imm : Nat) : W32 := BitVec.ofNat 32 (op * 2 ^ 26 + rd * 2 ^ 21 + imm)

/-- A field of an instruction word. -/
def ccField (w : W32) (lo n : Nat) : Nat := w.toNat / 2 ^ lo % 2 ^ n

/-- CMP's condition code (R139). -/
def Cond.code : Cond → Nat
  | .eq => 0
  | .ne => 1
  | .lt => 2
  | .ge => 3
  | .ltu => 4
  | .geu => 5

/-- CMPI's condition code (R139). -/
def CondI.code : CondI → Nat
  | .eq => 0
  | .ne => 1
  | .lt => 2
  | .ge => 3

/-- PSET's operation code (R139). -/
def PredOp.code : PredOp → Nat
  | .and => 0
  | .or => 1
  | .xor => 2
  | .andNot => 3
  | .not => 4

/-- BS's test code (R140). -/
def SumTest.code : SumTest → Nat
  | .nz => 0
  | .z => 1
  | .hnz => 2
  | .hz => 3

/-- WAIT's engine code (R139). -/
def Engine.code : Engine → Nat
  | .me => 0
  | .ve => 1
  | .mv => 2

/-- The condition with a code; 6 and 7 are reserved. -/
def Cond.ofCode : Nat → Option Cond
  | 0 => some .eq
  | 1 => some .ne
  | 2 => some .lt
  | 3 => some .ge
  | 4 => some .ltu
  | 5 => some .geu
  | _ => none

/-- CMPI's condition with a code. -/
def CondI.ofCode : Nat → Option CondI
  | 0 => some .eq
  | 1 => some .ne
  | 2 => some .lt
  | 3 => some .ge
  | _ => none

/-- PSET's operation with a code; 5 to 7 are reserved. -/
def PredOp.ofCode : Nat → Option PredOp
  | 0 => some .and
  | 1 => some .or
  | 2 => some .xor
  | 3 => some .andNot
  | 4 => some .not
  | _ => none

/-- BS's test with a code. -/
def SumTest.ofCode : Nat → Option SumTest
  | 0 => some .nz
  | 1 => some .z
  | 2 => some .hnz
  | 3 => some .hz
  | _ => none

/-- WAIT's engine with a code; 3 is reserved. -/
def Engine.ofCode : Nat → Option Engine
  | 0 => some .me
  | 1 => some .ve
  | 2 => some .mv
  | _ => none

/-! ## The instruction word (R139) -/

/-- The instruction word of a control-core command; zero, which is no instruction, for every other command. -/
def ccWord : Instr → W32
  | .add _ rd rs1 rs2 => fmtR 0x01 rd.toNat rs1.toNat rs2.toNat 0
  | .sub _ rd rs1 rs2 => fmtR 0x02 rd.toNat rs1.toNat rs2.toNat 0
  | .mul _ rd rs1 rs2 => fmtR 0x03 rd.toNat rs1.toNat rs2.toNat 0
  | .mulhu _ rd rs1 rs2 => fmtR 0x04 rd.toNat rs1.toNat rs2.toNat 0
  | .and _ rd rs1 rs2 => fmtR 0x05 rd.toNat rs1.toNat rs2.toNat 0
  | .or _ rd rs1 rs2 => fmtR 0x06 rd.toNat rs1.toNat rs2.toNat 0
  | .xor _ rd rs1 rs2 => fmtR 0x07 rd.toNat rs1.toNat rs2.toNat 0
  | .shl _ rd rs1 rs2 => fmtR 0x08 rd.toNat rs1.toNat rs2.toNat 0
  | .shr _ rd rs1 rs2 => fmtR 0x09 rd.toNat rs1.toNat rs2.toNat 0
  | .sar _ rd rs1 rs2 => fmtR 0x0A rd.toNat rs1.toNat rs2.toNat 0
  | .cmp _ pd rs1 rs2 c => fmtR 0x0B pd.toNat rs1.toNat rs2.toNat (c.code * 256)
  | .sel _ rd rs1 rs2 ps => fmtR 0x0C rd.toNat rs1.toNat rs2.toNat (ps.toNat * 256)
  | .pset _ pd pa pb op => fmtR 0x0D pd.toNat pa.toNat pb.toNat (op.code * 256)
  | .addi _ rd rs1 imm => fmtI 0x10 rd.toNat rs1.toNat imm.toNat
  | .andi _ rd rs1 imm => fmtI 0x11 rd.toNat rs1.toNat imm.toNat
  | .ori _ rd rs1 imm => fmtI 0x12 rd.toNat rs1.toNat imm.toNat
  | .xori _ rd rs1 imm => fmtI 0x13 rd.toNat rs1.toNat imm.toNat
  | .shli _ rd rs1 sh => fmtI 0x14 rd.toNat rs1.toNat sh.toNat
  | .shri _ rd rs1 sh => fmtI 0x15 rd.toNat rs1.toNat sh.toNat
  | .sari _ rd rs1 sh => fmtI 0x16 rd.toNat rs1.toNat sh.toNat
  | .cmpi _ pd rs1 imm c => fmtI 0x17 (c.code * 8 + pd.toNat) rs1.toNat imm.toNat
  | .lui _ rd imm => fmtU 0x18 rd.toNat imm.toNat
  | .jal _ rd imm => fmtU 0x19 rd.toNat imm.toNat
  | .jalr _ rd rs1 imm => fmtI 0x1A rd.toNat rs1.toNat imm.toNat
  | .bp _ ps imm => fmtI 0x1B ps.toNat 0 imm.toNat
  | .bnp _ ps imm => fmtI 0x1C ps.toNat 0 imm.toNat
  | .bs _ t n imm => fmtI 0x1D t.code n.toNat imm.toNat
  | .ld8u _ rd rs1 imm => fmtI 0x20 rd.toNat rs1.toNat imm.toNat
  | .ld8s _ rd rs1 imm => fmtI 0x21 rd.toNat rs1.toNat imm.toNat
  | .ld16u _ rd rs1 imm => fmtI 0x22 rd.toNat rs1.toNat imm.toNat
  | .ld16s _ rd rs1 imm => fmtI 0x23 rd.toNat rs1.toNat imm.toNat
  | .ld32u _ rd rs1 imm => fmtI 0x24 rd.toNat rs1.toNat imm.toNat
  | .ld32s _ rd rs1 imm => fmtI 0x25 rd.toNat rs1.toNat imm.toNat
  | .ld64 _ rd rs1 imm => fmtI 0x26 rd.toNat rs1.toNat imm.toNat
  | .st8 _ rs2 rs1 imm => fmtI 0x28 rs2.toNat rs1.toNat imm.toNat
  | .st16 _ rs2 rs1 imm => fmtI 0x29 rs2.toNat rs1.toNat imm.toNat
  | .st32 _ rs2 rs1 imm => fmtI 0x2A rs2.toNat rs1.toNat imm.toNat
  | .st64 _ rs2 rs1 imm => fmtI 0x2B rs2.toNat rs1.toNat imm.toNat
  | .crr _ rd n => fmtI 0x2C rd.toNat 0 n.toNat
  | .crw _ rs1 n => fmtI 0x2D 0 rs1.toNat n.toNat
  | .eret _ => fmtI 0x2E 0 0 0
  | .fence _ => fmtI 0x2F 0 0 0
  | .issueMe _ rd rs1 => fmtI 0x30 rd.toNat rs1.toNat 0
  | .issueVe _ rd rs1 => fmtI 0x31 rd.toNat rs1.toNat 0
  | .issueMv _ rd rs1 ring => fmtI 0x32 rd.toNat rs1.toNat ring.toNat
  | .wait _ pd rs1 e ring => fmtR 0x33 pd.toNat rs1.toNat 0 (e.code * 512 + ring.toNat * 64)
  | .chanOpen _ rd rs1 => fmtR 0x34 rd.toNat rs1.toNat 0 0
  | .chanSend _ rd rs1 rs2 => fmtR 0x35 rd.toNat rs1.toNat rs2.toNat 0
  | .chanSendBlock _ rd rs1 rs2 => fmtR 0x35 rd.toNat rs1.toNat rs2.toNat 1024
  | .chanClose _ rd rs1 => fmtI 0x36 rd.toNat rs1.toNat 0
  | .winOpen _ rd rs1 rs2 w => fmtR 0x37 rd.toNat rs1.toNat rs2.toNat (w.toNat * 32)
  | .winClose _ rd w => fmtI 0x38 rd.toNat 0 w.toNat
  | .qWp _ rd q wt => fmtI 0x39 rd.toNat 0 (wt.toNat * 128 + q.toNat)
  | .qAdv _ rs1 q => fmtI 0x3A 0 rs1.toNat q.toNat
  | .barArrive _ rd i => fmtI 0x3B rd.toNat 0 i.toNat
  | .barWait _ rs1 i => fmtI 0x3C 0 rs1.toNat i.toNat
  | .fretHint _ clear f => fmtI 0x3D 0 0 (clear.toNat * 16 + f.toNat)
  | .dlSetSendBudget _ rs1 => fmtI 0x3E 0 rs1.toNat 0
  | .dlSetStepDeadline _ rs1 => fmtI 0x3E 0 rs1.toNat 1
  | .stepWait _ rd => fmtI 0x3F rd.toNat 0 0
  | .stepDone _ => fmtI 0x3F 0 0 1
  | _ => 0

/-- The command of a site's control core that a word spells, none for an illegal word (R137). -/
def ccDecode (p : Site) (w : W32) : Option Instr :=
  let rd := BitVec.ofNat 5 (ccField w 21 5)
  let rs1 := BitVec.ofNat 5 (ccField w 16 5)
  let rs2 := BitVec.ofNat 5 (ccField w 11 5)
  let fn := ccField w 0 11
  let imm := BitVec.ofNat 16 (ccField w 0 16)
  let sh := BitVec.ofNat 6 (ccField w 0 6)
  let iz (lo : Nat) : Bool := ccField w 0 16 / 2 ^ lo == 0
  let hz (lo : Nat) : Bool := ccField w 21 5 / 2 ^ lo == 0
  let rz : Bool := ccField w 16 5 == 0
  let dz : Bool := ccField w 21 5 == 0
  let pd := BitVec.ofNat 3 (ccField w 21 3)
  let need (b : Bool) (i : Instr) : Option Instr := if b then some i else none
  match ccField w 26 6 with
  | 0x01 => need (fn == 0) (.add p rd rs1 rs2)
  | 0x02 => need (fn == 0) (.sub p rd rs1 rs2)
  | 0x03 => need (fn == 0) (.mul p rd rs1 rs2)
  | 0x04 => need (fn == 0) (.mulhu p rd rs1 rs2)
  | 0x05 => need (fn == 0) (.and p rd rs1 rs2)
  | 0x06 => need (fn == 0) (.or p rd rs1 rs2)
  | 0x07 => need (fn == 0) (.xor p rd rs1 rs2)
  | 0x08 => need (fn == 0) (.shl p rd rs1 rs2)
  | 0x09 => need (fn == 0) (.shr p rd rs1 rs2)
  | 0x0A => need (fn == 0) (.sar p rd rs1 rs2)
  | 0x0B => (Cond.ofCode (fn / 256)).bind fun c => need (hz 3 && fn % 256 == 0) (.cmp p pd rs1 rs2 c)
  | 0x0C => need (fn % 256 == 0) (.sel p rd rs1 rs2 (BitVec.ofNat 3 (fn / 256)))
  | 0x0D => (PredOp.ofCode (fn / 256)).bind fun op =>
      need (hz 3 && ccField w 16 5 / 8 == 0 && ccField w 11 5 / 8 == 0 && fn % 256 == 0)
        (.pset p pd (BitVec.ofNat 3 (ccField w 16 3)) (BitVec.ofNat 3 (ccField w 11 3)) op)
  | 0x10 => some (.addi p rd rs1 imm)
  | 0x11 => some (.andi p rd rs1 imm)
  | 0x12 => some (.ori p rd rs1 imm)
  | 0x13 => some (.xori p rd rs1 imm)
  | 0x14 => need (iz 6) (.shli p rd rs1 sh)
  | 0x15 => need (iz 6) (.shri p rd rs1 sh)
  | 0x16 => need (iz 6) (.sari p rd rs1 sh)
  | 0x17 => (CondI.ofCode (ccField w 24 2)).bind fun c => some (.cmpi p pd rs1 imm c)
  | 0x18 => some (.lui p rd (BitVec.ofNat 21 (ccField w 0 21)))
  | 0x19 => some (.jal p rd (BitVec.ofNat 21 (ccField w 0 21)))
  | 0x1A => some (.jalr p rd rs1 imm)
  | 0x1B => need (hz 3 && rz) (.bp p pd imm)
  | 0x1C => need (hz 3 && rz) (.bnp p pd imm)
  | 0x1D => (SumTest.ofCode (ccField w 21 2)).bind fun t =>
      need (hz 2 && ccField w 20 1 == 0) (.bs p t (BitVec.ofNat 4 (ccField w 16 4)) imm)
  | 0x20 => some (.ld8u p rd rs1 imm)
  | 0x21 => some (.ld8s p rd rs1 imm)
  | 0x22 => some (.ld16u p rd rs1 imm)
  | 0x23 => some (.ld16s p rd rs1 imm)
  | 0x24 => some (.ld32u p rd rs1 imm)
  | 0x25 => some (.ld32s p rd rs1 imm)
  | 0x26 => some (.ld64 p rd rs1 imm)
  | 0x28 => some (.st8 p rd rs1 imm)
  | 0x29 => some (.st16 p rd rs1 imm)
  | 0x2A => some (.st32 p rd rs1 imm)
  | 0x2B => some (.st64 p rd rs1 imm)
  | 0x2C => need (rz && iz 12) (.crr p rd (BitVec.ofNat 12 (ccField w 0 12)))
  | 0x2D => need (dz && iz 12) (.crw p rs1 (BitVec.ofNat 12 (ccField w 0 12)))
  | 0x2E => need (dz && rz && iz 0) (.eret p)
  | 0x2F => need (dz && rz && iz 0) (.fence p)
  | 0x30 => need (iz 0) (.issueMe p rd rs1)
  | 0x31 => need (iz 0) (.issueVe p rd rs1)
  | 0x32 => need (iz 3) (.issueMv p rd rs1 (BitVec.ofNat 3 (ccField w 0 3)))
  | 0x33 => (Engine.ofCode (fn / 512)).bind fun e =>
      need (hz 3 && ccField w 11 5 == 0 && fn % 64 == 0 && (e == .mv || fn / 64 % 8 == 0))
        (.wait p pd rs1 e (BitVec.ofNat 3 (fn / 64)))
  | 0x34 => need (ccField w 11 5 == 0 && fn == 0) (.chanOpen p rd rs1)
  | 0x35 =>
      if fn = 0 then some (.chanSend p rd rs1 rs2)
      else need (fn == 1024) (.chanSendBlock p rd rs1 rs2)
  | 0x36 => need (iz 0) (.chanClose p rd rs1)
  | 0x37 => need (fn % 32 == 0) (.winOpen p rd rs1 rs2 (BitVec.ofNat 6 (fn / 32)))
  | 0x38 => need (rz && iz 6) (.winClose p rd (BitVec.ofNat 6 (ccField w 0 6)))
  | 0x39 => need (rz && iz 8) (.qWp p rd (BitVec.ofNat 7 (ccField w 0 7)) (ccField w 7 1 == 1))
  | 0x3A => need (dz && iz 7) (.qAdv p rs1 (BitVec.ofNat 7 (ccField w 0 7)))
  | 0x3B => need (rz && iz 5) (.barArrive p rd (BitVec.ofNat 5 (ccField w 0 5)))
  | 0x3C => need (dz && iz 5) (.barWait p rs1 (BitVec.ofNat 5 (ccField w 0 5)))
  | 0x3D => need (dz && rz && iz 5) (.fretHint p (ccField w 4 1 == 1) (BitVec.ofNat 4 (ccField w 0 4)))
  | 0x3E => need (dz && iz 1) (if ccField w 0 1 = 0 then .dlSetSendBudget p rs1 else .dlSetStepDeadline p rs1)
  | 0x3F =>
      if ccField w 0 1 = 0 then need (rz && iz 1) (.stepWait p rd)
      else need (dz && rz && iz 1) (.stepDone p)
  | _ => none

end Sys2Proof
end

