-- ==== Sys2Proof/Machine/Bits.lean ====
section
/-! DEFINITION. Bit fields, bytes and checksums: the helpers every family uses (R8, R224, R527). -/

namespace Sys2Proof.Machine

/-- The field of `w` bits of `v` whose least significant bit is `lo`, as a number. -/
def fld {n : Nat} (v : BitVec n) (lo w : Nat) : Nat := v.toNat / 2 ^ lo % 2 ^ w

/-- Bit `i` of `v`. -/
def bit {n : Nat} (v : BitVec n) (i : Nat) : Bool := v.getLsbD i

/-- `v` with the field of `w` bits at `lo` replaced by `x` modulo 2^w. -/
def setFld {n : Nat} (v : BitVec n) (lo w x : Nat) : BitVec n :=
  BitVec.ofNat n (v.toNat - fld v lo w * 2 ^ lo + x % 2 ^ w * 2 ^ lo)

/-- `v` with bit `i` set to `b`. -/
def setBit {n : Nat} (v : BitVec n) (i : Nat) (b : Bool) : BitVec n := setFld v i 1 b.toNat

/-- A number as a 64-bit word. -/
def w64 (x : Nat) : W64 := BitVec.ofNat 64 x

/-- A truth value as a number. -/
def b01 (b : Bool) : Nat := b.toNat

/-- `k` bytes of `x`, least significant first (R8). -/
def toBytes : Nat → Nat → List Byte
  | 0, _ => []
  | k + 1, x => BitVec.ofNat 8 x :: toBytes k (x / 256)

/-- The number whose bytes, least significant first, are the list (R8). -/
def ofBytes : List Byte → Nat
  | [] => 0
  | b :: t => b.toNat + 256 * ofBytes t

/-- Bytes `off` to `off + k - 1` of a byte string, as a little-endian number; bytes past the end count as zero. -/
def bytesAt (l : List Byte) (off k : Nat) : Nat := ofBytes ((l.drop off).take k)

/-- A byte string with `new` written over it from `off`; the string is extended with zeros where needed. -/
def overwrite (l : List Byte) (off : Nat) (new : List Byte) : List Byte :=
  (l.take off) ++ List.replicate (off - l.length) 0 ++ new ++ l.drop (off + new.length)

/-- Cut a byte string into pieces of `k` bytes, `n` of them. -/
def chunks {α : Type} (k : Nat) : Nat → List α → List (List α)
  | 0, _ => []
  | n + 1, l => l.take k :: chunks k n (l.drop k)

/-- The 64 bytes of a granule, byte 0 first. -/
def granBytes (d : W512) : List Byte := toBytes 64 d.toNat

/-- 64 bytes as a granule. -/
def granOf (l : List Byte) : W512 := BitVec.ofNat 512 (ofBytes l)

/-- Byte strings as granules of 64 bytes, the last one padded with zeros. -/
def bytesToGrans (l : List Byte) : List W512 := (chunks 64 ((l.length + 63) / 64) l).map granOf

/-- Whether every element of the list is zero. -/
def allZero (l : List Byte) : Bool := l.all (· == 0)

/-- One bit through a reflected CRC register. -/
def crcBit (poly : Nat) (c : Nat) : Nat := if c % 2 = 1 then (c / 2) ^^^ poly else c / 2

/-- One byte through a reflected CRC register. -/
def crcByte (poly c : Nat) (b : Byte) : Nat :=
  let c := c ^^^ b.toNat
  crcBit poly (crcBit poly (crcBit poly (crcBit poly (crcBit poly (crcBit poly (crcBit poly (crcBit poly c)))))))

/-- The 64-bit CRC of R527: polynomial 0x42F0_E1EB_A9EA_3693 reflected, all ones at the start, complemented. The
argument and the answer are the running register before the complement. -/
def crc64Run (c : Nat) (l : List Byte) : Nat := l.foldl (crcByte 0xC96C5795D7870F42) c

/-- The CRC of R527 of a byte string. -/
def crc64 (l : List Byte) : W64 := ~~~ w64 (crc64Run 0xFFFFFFFFFFFFFFFF l)

/-- The signed value of the difference of two counters modulo 2^n is zero or more. -/
def atOrPast {n : Nat} (a b : BitVec n) : Bool := !(a - b).msb

/-- Saturating increment of a 32-bit counter (R16). -/
def sat32 (v : Nat) : Nat := if v < 0xFFFFFFFF then v + 1 else v

/-- Elements of a list at the positions where a predicate holds are replaced. -/
def mapWhere {α : Type} (p : α → Bool) (f : α → α) (l : List α) : List α := l.map fun x => if p x then f x else x

/-- The first element with the predicate is replaced. -/
def mapFirst {α : Type} (p : α → Bool) (f : α → α) : List α → List α
  | [] => []
  | x :: t => if p x then f x :: t else x :: mapFirst p f t

/-- The list without its first element that has the predicate. -/
def dropFirst {α : Type} (p : α → Bool) : List α → List α
  | [] => []
  | x :: t => if p x then t else x :: dropFirst p t

/-- The greatest of a list of numbers, 0 for none. -/
def maxOf (l : List Nat) : Nat := l.foldl max 0

/-- The lowest index below `n` at which the predicate holds. -/
def lowest (n : Nat) (p : Nat → Bool) : Option Nat := (List.range n).find? p

end Sys2Proof.Machine
end

