-- ==== Sys2Proof/Machine/Ecc.lean ====
section
/-! DEFINITION. The codes of stored data: the class-S BCH code with parity (R196), the class-L SECDED code (R197), the
check field layout (R195), majority reading (R198), and the SECDED of spill units (chapter 13 reuses the columns). -/

namespace Sys2Proof.Machine

/-- Product in GF(2^10) with primitive polynomial x^10 + x^3 + 1 (R196); `n` steps over the bits of `b`. -/
def gfMulAux : Nat → Nat → Nat → Nat → Nat
  | 0, _, _, acc => acc
  | n + 1, a, b, acc =>
    let acc := if b % 2 = 1 then acc ^^^ a else acc
    let a2 := a * 2
    gfMulAux n (if 1024 ≤ a2 then a2 ^^^ 0x409 else a2) (b / 2) acc

/-- Product in GF(2^10). -/
def gfMul (a b : Nat) : Nat := gfMulAux 10 a b 0

/-- Power in GF(2^10). -/
def gfPow (a : Nat) : Nat → Nat
  | 0 => 1
  | n + 1 => gfMul a (gfPow a n)

/-- Inverse in GF(2^10): a^1022, by squaring: a^2 · a^4 · … · a^512. -/
def gfInv (a : Nat) : Nat :=
  let a2 := gfMul a a
  let a4 := gfMul a2 a2
  let a8 := gfMul a4 a4
  let a16 := gfMul a8 a8
  let a32 := gfMul a16 a16
  let a64 := gfMul a32 a32
  let a128 := gfMul a64 a64
  let a256 := gfMul a128 a128
  let a512 := gfMul a256 a256
  [a4, a8, a16, a32, a64, a128, a256, a512].foldl gfMul a2

/-- The generator of the class-S code: the product of the minimal polynomials of α, α^3 and α^5 (R196). -/
def bchGen : Nat := 0x50A91113

/-- Remainder modulo the generator of the polynomial whose `n` lowest bits are those of `d`, times x^30, added to the
running remainder `r`. -/
def bchRem : Nat → Nat → Nat → Nat
  | 0, _, r => r
  | n + 1, d, r =>
    let r := r * 2
    let top := (r / 2 ^ 30) ^^^ (d / 2 ^ n % 2)
    bchRem n d (if top % 2 = 1 then (r % 2 ^ 30) ^^^ (bchGen % 2 ^ 30) else r % 2 ^ 30)

/-- CHECK of a class-S granule (R196). -/
def bchCheck (d : Nat) : Nat := bchRem 512 d 0

/-- Parity of the bits of a number, `n` bits. -/
def parityN : Nat → Nat → Nat
  | 0, _ => 0
  | n + 1, x => (x % 2) ^^^ parityN n (x / 2)

/-- The value at the field element `a` of the polynomial of degree below `n` with binary coefficients `r`. -/
def gfEval : Nat → Nat → Nat → Nat
  | 0, _, _ => 0
  | n + 1, r, a => (r % 2) ^^^ gfMul a (gfEval n (r / 2) a)

/-- The positions i below 542 (counting from `i`) at which the locator X^3 + s1 X^2 + s2 X + s3, or its factor of lower degree,
is zero; `x` is α^i. -/
def bchRoots (s1 s2 s3 : Nat) : Nat → Nat → Nat → List Nat
  | 0, _, _ => []
  | n + 1, i, x =>
    let v := gfMul (gfMul (gfMul (x ^^^ s1) x ^^^ s2) x ^^^ s3) 1
    let rest := bchRoots s1 s2 s3 n (i + 1) (gfMul x 2)
    if v = 0 then i :: rest else rest

/-- The bits of a number, each at a position of the list. -/
def orBits (l : List Nat) : Nat := l.foldl (fun a i => a ^^^ 2 ^ i) 0

/-- The outcome of a decoding: the positions to correct, or none for uncorrectable. -/
def bchErrors (r : Nat) (parityOdd : Bool) : Option (List Nat) :=
  let s1 := gfEval 30 r 2
  let s3 := gfEval 30 r 8
  let s5 := gfEval 30 r 32
  if s1 = 0 && s3 = 0 && s5 = 0 then some []
  else
    let cube := gfMul s1 (gfMul s1 s1)
    let d := cube ^^^ s3
    let sq := gfMul s1 s1
    let ok (l : List Nat) : Bool :=
      let xs := l.map (gfPow 2)
      (xs.foldl (· ^^^ ·) 0 == s1) && ((xs.map fun x => gfMul x (gfMul x x)).foldl (· ^^^ ·) 0 == s3) &&
        ((xs.map fun x => gfMul x (gfMul (gfMul x x) (gfMul x x))).foldl (· ^^^ ·) 0 == s5)
    if d = 0 then
      let l := (bchRoots s1 0 0 542 0 1).take 1
      if l.length = 1 && ok l then some l else none
    else
      let s2two := gfMul d (gfInv s1)
      let two := if s1 = 0 then [] else bchRoots s1 s2two 0 542 0 1
      if two.length = 2 && ok two then some two
      else
        let s2 := gfMul (gfMul sq s3 ^^^ s5) (gfInv d)
        let three := bchRoots s1 s2 (d ^^^ gfMul s1 s2) 542 0 1
        if three.length = 3 && ok three && parityOdd then some three else none

/-- The 9-bit columns of one weight, ascending (R197). -/
def columnsOfWeight (w : Nat) : List Nat :=
  (List.range 512).filter fun x => ((List.range 9).map fun i => x / 2 ^ i % 2).foldl (· + ·) 0 = w

/-- The columns of the 128 data bits of a class-L word (R197). -/
def secdedCols : List Nat := (columnsOfWeight 3 ++ columnsOfWeight 5).take 128

/-- Check bits of a word under a list of columns: the sum of the columns of its set bits. -/
def secdedSum : List Nat → Nat → Nat
  | [], _ => 0
  | c :: t, d => (if d % 2 = 1 then c else 0) ^^^ secdedSum t (d / 2)

/-- The 9 check bits of a class-L word (R197). -/
def secdedCheck (d : Nat) : Nat := secdedSum secdedCols d

/-- The index of a column. -/
def colIndex : List Nat → Nat → Option Nat
  | [], _ => none
  | c :: t, x => if c = x then some 0 else (colIndex t x).map (· + 1)

/-- Outcome of one code unit: clean, corrected, uncorrectable (R199). -/
inductive Outcome3 | clean | corrected | uncorrectable
  deriving DecidableEq, Repr

/-- SECDED decoding of a word under columns and a number of check bits: the data and the outcome (R197). -/
def secdedDecode (cols : List Nat) (checkBits d c : Nat) : Nat × Outcome3 :=
  let syn := secdedSum cols d ^^^ c
  if syn = 0 then (d, .clean)
  else if (List.range checkBits).any (fun i => syn = 2 ^ i) then (d, .corrected)
  else match colIndex cols syn with
    | some i => (d ^^^ 2 ^ i, .corrected)
    | none => (d, .uncorrectable)

/-- Majority of three bits of a number at `lo` (R198): the value, and whether the three differ. -/
def majority (c lo : Nat) : Bool × Bool :=
  let x := c / 2 ^ lo % 8
  (x = 3 || x = 5 || x = 6 || x = 7, !(x = 0 || x = 7))

/-- A granule as a read finds it: its class, the data delivered, and for each of its four 16-byte words the poison delivered, the
outcome, and whether its tag or poison group needed the majority. A class-S granule gives all four words the same
outcome and mark. -/
structure GranRead where
  classS : Bool
  data : W512
  poison : BitVec 4
  w0 : Outcome3
  w1 : Outcome3
  w2 : Outcome3
  w3 : Outcome3
  deriving DecidableEq, Repr

/-- The outcome of word `i`. -/
def GranRead.word (r : GranRead) (i : Nat) : Outcome3 :=
  if i = 0 then r.w0 else if i = 1 then r.w1 else if i = 2 then r.w2 else r.w3

/-- An outcome that also counts a majority correction. -/
def Outcome3.orFixed (o : Outcome3) (fixed : Bool) : Outcome3 :=
  match o with
  | .clean => if fixed then .corrected else .clean
  | o => o

/-- Decoding of a stored granule from its 64 data bytes and 64-bit check field (R195-R199). -/
def decodeGranule (data : W512) (check : W64) : GranRead :=
  let d := data.toNat
  let c := check.toNat
  let tag := majority c 61
  if tag.1 then
    let p := majority c 58
    let stored := c % 2 ^ 30
    let par := parityN 512 d ^^^ parityN 31 (c % 2 ^ 31)
    let r := bchCheck d ^^^ stored
    match bchErrors r (par = 1) with
    | some l =>
      let fixedD := orBits ((l.filter (30 ≤ ·)).map (· - 30))
      let o : Outcome3 := if l = [] && par = 0 then .clean else .corrected
      let o := o.orFixed (tag.2 || p.2)
      ⟨true, BitVec.ofNat 512 (d ^^^ fixedD), if p.1 then 15 else 0, o, o, o, o⟩
    | none => ⟨true, data, 15, .uncorrectable, .uncorrectable, .uncorrectable, .uncorrectable⟩
  else
    let word (w : Nat) : Nat × Bool × Outcome3 :=
      let p := majority c (36 + 3 * w)
      let x := secdedDecode secdedCols 9 (d / 2 ^ (128 * w) % 2 ^ 128) (c / 2 ^ (9 * w) % 512)
      (x.1, p.1 || x.2 = .uncorrectable, x.2.orFixed (tag.2 || p.2))
    let a := word 0
    let b := word 1
    let e := word 2
    let f := word 3
    ⟨false, BitVec.ofNat 512 (a.1 + 2 ^ 128 * (b.1 + 2 ^ 128 * (e.1 + 2 ^ 128 * f.1))),
      BitVec.ofNat 4 (b01 a.2.1 + 2 * b01 b.2.1 + 4 * b01 e.2.1 + 8 * b01 f.2.1), a.2.2, b.2.2, e.2.2, f.2.2⟩

/-- The check field of a class-S granule (R195, R196). -/
def checkS (data : W512) (poison : Bool) : W64 :=
  let c := bchCheck data.toNat
  let par := parityN 512 data.toNat ^^^ parityN 30 c
  w64 (7 * 2 ^ 61 + (if poison then 7 * 2 ^ 58 else 0) + par * 2 ^ 30 + c)

/-- The check field of a class-L granule with a poison mark per word (R195, R197). -/
def checkL (data : W512) (poison : BitVec 4) : W64 :=
  let part (w : Nat) : Nat :=
    (if bit poison w then 7 * 2 ^ (36 + 3 * w) else 0) + secdedCheck (data.toNat / 2 ^ (128 * w) % 2 ^ 128) * 2 ^ (9 * w)
  w64 (part 0 + part 1 + part 2 + part 3)

/-- The check field of a granule in a class; in class S any poisoned word poisons the granule. -/
def checkOf (classS : Bool) (data : W512) (poison : BitVec 4) : W64 :=
  if classS then checkS data (poison != 0) else checkL data poison

end Sys2Proof.Machine
end

