-- ==== Sys2Proof/Config.lean ====
section
/-! DEFINITION. What an implementation fixes (fused values, the variant) and the free values: constants without a body, so
that no proof can see them. A free value drawn by a command is one of these applied to the counter `free` of State
(log entry 2). -/

namespace Sys2Proof

/-- The three variants of the part (R2). -/
inductive Variant | a24 | a18 | a12
  deriving DecidableEq, Repr, Inhabited

/-- The variant that this panel is, fused (R2, R511). -/
opaque Config.variant : Variant

/-- The fused revision of a die (R502): compute 4n, M0 4n+1 and M1 4n+2 of site n, port die d at 700 + d, stack port k at 800 + k, the north and
south management dies at 900 and 901. -/
opaque Config.revision : Nat → Nat

/-- The public key that the fuses hold for enrolment records and firmware images, as x and y of 48 bytes each behind 0x04 (R566, R567). -/
opaque Config.tamyutKey : List (BitVec 8)

/-- Whether a firmware image carries a good signature; the image's layout is not the spec's (R490, R567). -/
opaque Config.fwSigned : List (BitVec 8) → Bool

/-- The target that a firmware image is for (R567). -/
opaque Config.fwTarget : List (BitVec 8) → Nat

/-- The security version number of a firmware image (R567). -/
opaque Config.fwSvn : List (BitVec 8) → Nat

/-- The version of a firmware image (R559). -/
opaque Config.fwVersion : List (BitVec 8) → BitVec 32

/-- The greatest length of a firmware image for a target (R559, FW_STAGE reason 0x04). -/
opaque Config.fwMax : Nat → Nat

/-- The TAP's IDCODE instruction (R568). -/
opaque Config.tapIdcode : BitVec 8

/-- The fused remap entries of memory die d of site n, at 2n + d, with their spare, bank and row fields (R212). -/
opaque Config.fusedRemap : Nat → List (BitVec 64)

/-- The panel's serial number, 8 bytes (R548). -/
opaque Config.serial : BitVec 128

/-- A 64-bit value that the spec leaves open. -/
opaque Config.free64 : Nat → BitVec 64

/-- A 32-bit value that the spec leaves open. -/
opaque Config.free32 : Nat → BitVec 32

/-- Bytes of data that the spec leaves open. -/
opaque Config.free512 : Nat → BitVec 512

/-- A natural number that the spec leaves open (a count, a delay within a bound). -/
opaque Config.freeNat : Nat → Nat

end Sys2Proof
end

