-- ==== Sys2Proof/Machine/Sparse.lean ====
section
/-! DEFINITION. Sparse tables: plain lists of (key, value) pairs in one canonical form, keys strictly rising and no
entry equal to the table's default. Memory is such a table of bytes with default zero (log entry 1). -/

namespace Sys2Proof.Machine

/-- A table from numbers to values; an absent key reads as the table's default. -/
abbrev Sparse (α : Type) := List (Nat × α)

/-- The value at a key. -/
def Sparse.get {α : Type} (d : α) : Sparse α → Nat → α
  | [], _ => d
  | (k, v) :: t, i => if k = i then v else Sparse.get d t i

/-- Insert a value at a key, keeping keys rising. -/
def Sparse.ins {α : Type} : Sparse α → Nat → α → Sparse α
  | [], i, v => [(i, v)]
  | (k, w) :: t, i, v => if i < k then (i, v) :: (k, w) :: t else if i = k then (i, v) :: t else (k, w) :: Sparse.ins t i v

/-- Remove a key. -/
def Sparse.del {α : Type} : Sparse α → Nat → Sparse α
  | [], _ => []
  | (k, w) :: t, i => if k = i then Sparse.del t i else (k, w) :: Sparse.del t i

/-- Write a value at a key, keeping the canonical form. -/
def Sparse.put {α : Type} [DecidableEq α] (d : α) (m : Sparse α) (i : Nat) (v : α) : Sparse α :=
  if v = d then Sparse.del m i else Sparse.ins m i v

/-- Keys strictly rise and lie above `lo`, and no entry equals the default. -/
def Sparse.wfFrom {α : Type} [DecidableEq α] (d : α) : Nat → Sparse α → Bool
  | _, [] => true
  | lo, (k, v) :: t => decide (lo ≤ k) && decide (v ≠ d) && Sparse.wfFrom d (k + 1) t

/-- The canonical form. -/
def Sparse.wf {α : Type} [DecidableEq α] (d : α) (m : Sparse α) : Bool := Sparse.wfFrom d 0 m

/-- Memory as a list of (address, byte) cells in canonical form; a byte nothing has written reads as zero (log entry 1). -/
abbrev Memory := List Host.Cell

/-- One byte of memory. -/
def Memory.read (m : Memory) (a : Nat) : Byte := Sparse.get 0 m a

/-- Memory with one byte written. -/
def Memory.write (m : Memory) (a : Nat) (b : Byte) : Memory := Sparse.put 0 m a b

/-- The canonical form of memory. -/
def Memory.wf (m : Memory) : Bool := Sparse.wf (0 : Byte) m

/-- `n` bytes of memory from an address. -/
def Memory.readBytes (m : Memory) (a : Nat) : Nat → List Byte
  | 0 => []
  | n + 1 => m.read a :: Memory.readBytes m (a + 1) n

/-- Memory with a byte string written from an address. -/
def Memory.writeBytes : Memory → Nat → List Byte → Memory
  | m, _, [] => m
  | m, a, b :: t => Memory.writeBytes (m.write a b) (a + 1) t

end Sys2Proof.Machine
end

