-- ==== Sys2Proof/Machine/State.lean ====
section
/-! DEFINITION. The state of the panel, as plain data: everything the spec gives it, and the queue of waiting commands.
Every register that a register map lists has its one home in `regs` (see Machine/Regs.lean); the structures here hold
what stands in no map. INVENTORY.md, heading State, lists every piece with its rule. -/

namespace Sys2Proof.Machine

/-- Why the panel stops with a fault. No meaning raises one: the spec gives every row an effect. -/
inductive Fault
  /-- Raised by no command; kept so that the type is a closed, inhabited inductive. Safe. -/
  | none
  deriving DecidableEq, Repr

/-- Why a command is refused. -/
inductive Refusal
  /-- The command has no meaning yet; raised by exec's arm alone. Safe: the machine stops. -/
  | notModelled (mnemonic : String)
  deriving DecidableEq, Repr

/-- A descriptor in an engine's queue or a mover ring: its ticket (R147), the scratchpad offset it was read from, its bytes,
whether they were delivered poisoned (R146), and its serial number among the descriptors the engine accepted. -/
structure Desc where
  ticket : W64
  off : Nat
  bytes : List Byte
  poison : Bool
  serial : Nat
  deriving DecidableEq, Repr

/-- A pending asynchronous ENGINE_FAULT (R150): engine 0 ME, 1 VE, 2 MV, the ring for the mover, the fault reason and the TOKEN. -/
structure EngCause where
  eng : Nat
  ring : Nat
  reason : Nat
  token : W32
  deriving DecidableEq, Repr

/-- The kind of a pending operation (R590). -/
inductive PendKind | chanOpen | chanSend | chanClose
  deriving DecidableEq, Repr

/-- How a pending operation has ended: with a value for rd, or with SEND_DEADLINE (R590). -/
inductive PendResult | value (v : W64) | deadline
  deriving DecidableEq, Repr

/-- An operation that a stalled CHAN.OPEN, BLOCK CHAN.SEND or CHAN.CLOSE has started, and the pending operation record once an exception
interrupts it (R590): the instruction's address, its kind and context, the message's sequence number for a send, the
NACKS it ended with, and the outcome once the operation has ended. -/
structure PendOp where
  addr : W16
  kind : PendKind
  ctx : Nat
  seq : W32
  nacks : Nat
  result : Option PendResult
  deriving DecidableEq, Repr

/-- The control core (R132, R159). g0 and p0 hold no storage of their own; STATUS, LCID, PARTITION, TIME and FRET_NOW are
read from other state. -/
structure Cc where
  g : Sparse W64
  preds : Byte
  pc : W16
  ex : Bool
  inStep : Bool
  epc : W16
  ecause : W16
  einfo : W64
  evec : W16
  escratch : W64
  stepIndex : W64
  cycle : W64
  instret : W64
  sendBudget : W64
  stepDeadline : W64
  fretHint : BitVec 5
  meIssued : W64
  veIssued : W64
  mvIssued : Sparse W64
  engPending : List EngCause
  stepPending : Bool
  stepFired : Bool
  stepHit : W64
  pends : List PendOp
  stepWaiting : Bool
  stepGo : Option W64
  barIssued : Sparse W32
  deriving DecidableEq, Repr

/-- The control core after reset (R134, R159). -/
def Cc.init : Cc :=
  ⟨[], 0, 0, false, false, 0, 0, 0, 0, 0, 0, 0, 0, 0, 0, 0x10, 0, 0, [], [], false, false, 0, [], false, none, []⟩

/-- The format of a matrix accumulator bank (R78). -/
inductive BankFmt | fp32 | wa96
  deriving DecidableEq, Repr

/-- One accumulator bank of the matrix engine (R78, R99): EMPTY when no format; its row count and WA96 anchor; the sums by
row * 256 + column (FP32 bits in [31:0], a WA96 partial in [127:0]); and the rows that are poisoned. -/
structure Bank where
  fmt : Option BankFmt
  rows : Nat
  anchor : W16
  sums : Sparse (BitVec 128)
  poison : List Nat
  deriving DecidableEq, Repr

/-- A weight tile (R76, R77): the format and depth (Kt = 256 * mult), where it was loaded from, its element and scale bytes, its
poison, and for a prefetched tile the serial of the descriptor it serves. -/
structure Tile where
  fmt : Nat
  mult : Nat
  addr : Nat
  scaleAddr : Nat
  elems : List Byte
  scales : List Byte
  poison : Bool
  serves : Option Nat
  deriving DecidableEq, Repr

/-- The activation latch of GEMV_STREAM (R82): format, element count, element and scale bytes, and poison. -/
structure Latch where
  fmt : Nat
  count : Nat
  elems : List Byte
  scales : List Byte
  poison : Bool
  deriving DecidableEq, Repr

/-- A descriptor that an engine has started, and what its completion will record and publish (R95, R128): the fault reason it
ended with (0 none), the FLAGS bits, the scratchpad spans it writes, the operand cache lines it reads and writes, the
positions for HEAD and TAIL by region (R179), the MACs or elements it counts, and the summaries to write. -/
structure EngRun where
  desc : Desc
  reason : Nat
  flags : Nat
  writes : List (Nat × Nat)
  cacheReads : List (Nat × Nat)
  cacheWrites : List (Nat × Nat)
  heads : List (Nat × Nat)
  tails : List (Nat × Nat)
  count : Nat
  sums : List (Nat × W64 × Bool)
  deriving DecidableEq, Repr

/-- The matrix engine: its queue of up to 16, the started descriptors in issue order, tiles, latch and banks (R76, R92, R93), how many
descriptors it has accepted, and for each operand cache line the last descriptor accepted that hands off into it, with
whether that one was discarded (R126). -/
structure Me where
  queue : List Desc
  running : List EngRun
  live : Option Tile
  shadow : Option Tile
  latch : Option Latch
  bank0 : Bank
  bank1 : Bank
  accepted : Nat
  hands : Sparse (Nat × Bool)
  deriving DecidableEq, Repr

/-- An accumulator bank after reset (R100). -/
def Bank.init : Bank := ⟨none, 0, 0, [], []⟩

/-- The matrix engine after reset (R100). -/
def Me.init : Me :=
  { queue := [], running := [], live := none, shadow := none, latch := none, bank0 := Bank.init, bank1 := Bank.init, accepted := 0,
    hands := [] }

/-- The coefficient table of POLY (R124): 64 entries of four FP32 words, x0 and inv_w, and its poison. -/
structure VeTable where
  coef : List W32
  x0 : W32
  invW : W32
  poison : Bool
  deriving DecidableEq, Repr

/-- The vector engine: its queue of up to 16, the started descriptors, the operand cache (byte line*2048+i), the marked granules
(line*32+k, R110), the coefficient table (R124), the serial of the ME descriptor that each queued one waits for, by its own
serial (R126), and the serials of those whose handoff was discarded. -/
structure Ve where
  queue : List Desc
  running : List EngRun
  cache : Memory
  marks : List Nat
  table : Option VeTable
  accepted : Nat
  handoff : List (Nat × Nat)
  discarded : List Nat
  deriving DecidableEq, Repr

/-- The vector engine after reset (R131). -/
def Ve.init : Ve :=
  { queue := [], running := [], cache := [], marks := [], table := none, accepted := 0, handoff := [], discarded := [] }

/-- A mover packet that awaits its answer (R187): its request number, the packet, the local offset a read lands at, the
time of its first attempt, the last backoff in ns, and the time at which it may be resent. -/
structure MvReq where
  seq : W32
  pkt : Packet
  land : Nat
  first : Nat
  backoff : Nat
  resendAt : Option Nat
  deriving DecidableEq, Repr

/-- A running mover descriptor (R186, R189): what it waits for and what its completion will publish. -/
structure MvRun where
  desc : Desc
  reqs : List MvReq
  poison : Bool
  writes : List (Nat × Nat)
  heads : List (Nat × Nat)
  tails : List (Nat × Nat)
  reason : Nat
  deriving DecidableEq, Repr

/-- One mover ring (R184): its queue, its running descriptor, the answers that an ABORT still awaits (R187), and the TOKEN of its
last fault. -/
structure MvRing where
  queue : List Desc
  run : Option MvRun
  awaiting : List MvReq
  token : W32
  deriving DecidableEq, Repr

/-- An empty mover ring. -/
def MvRing.init : MvRing := ⟨[], none, [], 0⟩

/-- A flit of the scheduled plane as it stands on a course or in a buffer (R225): EMPTY when not valid. -/
structure SFlit where
  valid : Bool
  late : Bool
  tag : Byte
  flit : Flit
  deriving DecidableEq, Repr

/-- An EMPTY flit. -/
def SFlit.empty : SFlit := ⟨false, false, 0, ⟨0, false⟩⟩

/-- A flit held in a slot buffer: the flit, whether it is LATE, and for FEED its position in the region (R241). -/
structure SbFlit where
  flit : Flit
  late : Bool
  pos : Nat
  deriving DecidableEq, Repr

/-- A flit held in a turn queue with the frame and local slot at which it entered (R236). -/
structure TqFlit where
  flit : SFlit
  frame : Nat
  slot : Nat
  deriving DecidableEq, Repr

/-- An event that the frame rule holds until the frame mark (R251): code, the detail words, the time of the first
occurrence, and the count, with the index of the detail word that carries it. -/
structure FrameEv where
  code : W16
  detail : List W64
  time : Nat
  count : Nat
  countAt : Option Nat
  part : Byte
  deriving DecidableEq, Repr

/-- Link-level retry on one incoming request track and its sender (R260): the flit last named by a NAK and how often
in succession it was replayed, the second of the last storm event, whether this end asks for a replay. -/
structure RqLink where
  nakFrom : BitVec 7
  repeats : Nat
  stormAt : Option Nat
  nak : Bool
  deriving DecidableEq, Repr

/-- A link with nothing replayed. -/
def RqLink.init : RqLink := ⟨0, 0, none, false⟩

/-- A message handed to a send context and not yet recorded as delivered, dropped or flushed (R297, R299): its sequence number, payload
address and length, whether a BLOCK send waits for it, the NACKs it received and the last reason, the time of its first attempt
and SEND_BUDGET then, its attempts, the unanswered packets as (attempt, ADDR) in the order sent, whether its attempt has drawn a
NACK, whether it is to be sent once the message before it is delivered, the last backoff in ns, the time a resend may start, its STATUS (R302) once it has one,
and whether its budget ended it. -/
structure PendMsg where
  seq : W32
  addr : Nat
  len : Nat
  block : Bool
  nacks : Nat
  lastReason : Nat
  first : Option Nat
  budget : Nat
  att : Nat
  out : List (Nat × Nat)
  refused : Bool
  redo : Bool
  backoff : Nat
  resendAt : Option Nat
  status : Option Nat
  expired : Bool
  deriving DecidableEq, Repr

/-- A send context (R296-R303): STATE as SCn_CTL encodes it, destination, queue, channel, the last NACK reason, the next sequence number,
the pending messages oldest first, the unanswered packets of messages already recorded as (SEQ, ADDR), the messages dropped or
flushed, and the handshake: its request number while unanswered, the time of the first CHAN_OPEN, the SEND_BUDGET then, the last
backoff and the time a resend may start. -/
structure SendCtx where
  state : Nat
  dest : Byte
  queue : Nat
  channel : Nat
  lastReason : Nat
  next : W32
  msgs : List PendMsg
  orphans : List (W32 × Nat)
  drops : Nat
  req : Option W32
  first : Nat
  budget : Nat
  backoff : Nat
  resendAt : Option Nat
  deriving DecidableEq, Repr

/-- A free send context. -/
def SendCtx.init : SendCtx :=
  { state := 0, dest := 0, queue := 0, channel := 0, lastReason := 0, next := 0, msgs := [], orphans := [], drops := 0, req := none,
    first := 0, budget := 0, backoff := 0, resendAt := none }

/-- A registered receive channel (R293). -/
structure RecvCh where
  queue : Nat
  src : Byte
  srcUnit : Byte
  nextSeq : W32
  deriving DecidableEq, Repr

/-- A message slot between WP and RS (R287, R294), or a skip marker written there: the receive channel and SEQ, the byte count where
it starts and its size, the payload length, the bytes of the slot as landed, its poisoned granules, the ADDR of the packets that
have landed, the time of the last one, whether the item is complete, and whether it is a skip marker. -/
structure Resv where
  ch : Nat
  seq : W32
  start : Nat
  size : Nat
  len : Nat
  buf : List Byte
  bad : List Nat
  got : List Nat
  last : Nat
  done : Bool
  skip : Bool
  deriving DecidableEq, Repr

/-- The three pointers of a receive queue as byte counts, and the items between WP and RS, oldest first (R287). -/
structure QueueSt where
  rp : Nat
  wp : Nat
  rs : Nat
  items : List Resv
  deriving DecidableEq, Repr

/-- A queue with nothing in it. -/
def QueueSt.init : QueueSt := ⟨0, 0, 0, []⟩

/-- A barrier instance at its home stop (R280-R284): the open episode, who has arrived with arrival times in fabric
clocks, and the times of the open episode. -/
structure Barrier where
  episode : W32
  arrived : List (Nat × Nat)
  deriving DecidableEq, Repr

/-- A barrier instance with no arrival. -/
def Barrier.init : Barrier := ⟨1, []⟩

/-- A patrol-scrub pass (R203, R204): its start, the spans of its scope, the lines done, and whether SCRUB_BEHIND was raised. -/
structure ScrubPass where
  start : Nat
  spans : List (Nat × Nat)
  done : Nat
  behind : Bool
  deriving DecidableEq, Repr

/-- A site's clock control beside its registers (R429-R436): the target of the fret change in progress, the fret that each PLL is locked at, the fret
that the core ran at before the damper engaged, the times of the last unlock of each PLL, since when the core is on the damper source, the
cap source's ceiling for the core (R464), and the time of the last capo measurement. -/
structure ClkSt where
  target : Option Nat
  fretA : Option Nat
  fretB : Option Nat
  before : Nat
  unlockA : Option Nat
  unlockB : Option Nat
  damperSince : Option Nat
  capCeil : Nat
  measuredAt : Option Nat
  deriving DecidableEq, Repr

/-- A clock control that nothing has moved. -/
def ClkSt.init : ClkSt := ⟨none, none, none, 0, none, none, none, 15, none⟩

/-- A sympathetic attempt at a spare (R526-R528): the working site, SYMP_FRAMES at its start, the running CRC of the working core's present frame,
the CRCs of its frames that the spare has not matched yet, the spare's running CRC, the slot buffers whose flits the spare still owes with
none for the end of a frame, the payload bytes the spare's core has issued and not yet folded, the first mismatch as (frame, both CRCs),
and whether the attempt has become inconclusive. -/
structure Symp where
  work : Nat
  since : Nat
  workRun : Nat
  waiting : List W64
  spareRun : Nat
  owed : List (Option Nat)
  loads : List (List Byte)
  differ : Option (Nat × W64 × W64)
  spoiled : Bool
  deriving DecidableEq, Repr

/-- What the state of one site holds beside its registers. `accuses` is the working site that a mismatch puts in question until the spare's
self-qualification decides (R528); `frameLoads` are the request payloads that its core issued in the present frame, `stepRun` the
running CRC of the core's flits and payloads over the step (R530), and `lateWin` the core's last 1,000 barrier episodes, newest first, as
(last and late, LAST_GAP) (R532); `fabricDown` says that its ring-stop sends nothing (R436, R457). -/
structure SiteSt where
  cc : Cc
  imem : Sparse W32
  me : Me
  ve : Ve
  rings : Sparse MvRing
  mvNextSeq : W32
  writeBacks : List Nat
  scrubPass : Option ScrubPass
  slotBufs : Sparse (List SbFlit)
  feedPos : Sparse Nat
  turnQs : Sparse (List TqFlit)
  frameEvs : List FrameEv
  links : Sparse RqLink
  queues : Sparse QueueSt
  ctxs : Sparse SendCtx
  recv : Sparse (Option RecvCh)
  winSec : Sparse (Nat × Nat)
  bars : Sparse Barrier
  groupErrs : Sparse (Nat × Nat)
  frameLen : Nat
  clk : ClkSt
  symp : Option Symp
  accuses : Option Nat
  frameLoads : List (List Byte)
  stepRun : Nat
  lateWin : List (Bool × Nat)
  fabricDown : Bool
  deriving DecidableEq, Repr

/-- A site after reset. -/
def SiteSt.init : SiteSt :=
  { cc := Cc.init, imem := [], me := Me.init, ve := Ve.init, rings := [], mvNextSeq := 0, writeBacks := [], scrubPass := none,
    slotBufs := [], feedPos := [], turnQs := [], frameEvs := [], links := [], queues := [], ctxs := [], recv := [],
    winSec := [], bars := [], groupErrs := [], frameLen := 1024, clk := ClkSt.init, symp := none, accuses := none, frameLoads := [],
    stepRun := 0xFFFFFFFFFFFFFFFF, lateWin := [], fabricDown := false }

/-- An event record (R538). -/
structure Event where
  code : W16
  severity : Byte
  kind : Byte
  id : W16
  part : Byte
  flags : Byte
  time : W64
  seq : W32
  lcid : Byte
  detail : List W64
  deriving DecidableEq, Repr

/-- A packet in flight on the request plane: where its head entered, where it arrives, and the packet. -/
structure Flight where
  src : Place
  dst : Place
  pkt : Packet
  deriving DecidableEq, Repr

/-- A service binding (R343): times in drone ticks. -/
structure SvcBinding where
  inCore : Nat
  inQueue : Nat
  outCore : Nat
  outOffset : Nat
  outMax : Nat
  queueLimit : Nat
  warmHold : Nat
  deriving DecidableEq, Repr

/-- An accepted service request (R347, R356-R361): its number, the ring it came from or, for a peer request, the receiving port die, the panel and
MSG_ID; the 64-byte entry, its input bytes, the admission instant, prediction and charge; when its input message was sent, which of its packets are
acknowledged, and when it had landed; whether its first step has begun; the committed steps whose output has not been read; the steps committed,
replays, output bytes written, what its response flags, the inline output, the energies, the completion time, and the tags of other partitions
that shared its interval. -/
structure SvcReq where
  id : Nat
  ring : Option Nat
  peer : Option (Nat × Nat × W32)
  entry : List Byte
  input : List Byte
  admitAt : Nat
  predicted : Nat
  charge : Nat
  sentAt : Option Nat
  acks : List Nat
  landAt : Option Nat
  begun : Bool
  outDue : List Nat
  stepsRun : Nat
  replays : Nat
  outLen : Nat
  late : Bool
  poisoned : Bool
  clipped : Bool
  notRun : Bool
  inline : List Byte
  eStart : W64
  eEnd : W64
  completeAt : Nat
  others : List Nat
  deriving DecidableEq, Repr

/-- A migration under way (R531): the LCID, the old and the new site, since when, and the MCI command that asked for it. -/
structure Migration where
  lcid : Nat
  old : Nat
  new : Nat
  since : Nat
  reply : MciCmd
  deriving DecidableEq, Repr

/-- A partition (R325-R339): its rectangle and leases, its condition (0 in use, 3 HELD, 4 CLEARING), the bound tablature with the set-up windows' tag,
STEP_HASH and the home site of its barriers; the step in progress: its index, whether it is armed, START, the times of its frame-0 mark and of the
mark that ends its last frame, the relative cores that have reported, its failure cause word and whether it has failed, its replays, and how far a
replay has come (1 waits for the drain of a substitution, 2 waits to be armed, 3 resumed by the fault manager, 4 a migration waits for its drain); its service binding, the sequence number of its next input message, requests and the time since which it
may go idle (none while idle), the frame mark of the last frame 0, and the current granted for its demand in 0.1 A; its counters; its
recorded step hashes; its job (R482); the owner token of a hold; the placement query as (id, cause, since); and a migration. -/
structure Partition where
  row0 : Nat
  col0 : Nat
  rows : Nat
  cols : Nat
  lease : List Nat
  base : Nat
  state : Nat
  tab : Option (BitVec 128)
  winTag : Byte
  stepHash : Bool
  home : Nat
  stepIndex : W64
  armed : Bool
  start : W64
  mark0 : Option Nat
  markEnd : Option Nat
  done : List Nat
  failed : Option Nat
  replays : Nat
  stage : Nat
  svc : Option SvcBinding
  svcSeq : W32
  running : Option SvcReq
  queue : List SvcReq
  warmAt : Option Nat
  lastMark : Option W64
  granted : Option Nat
  accepted : W64
  stepsRun : W64
  outBytes : W64
  rejected : Sparse Nat
  lateCount : Nat
  failCount : Nat
  hashes : List (W64 × W64)
  reserved : Nat
  jobAt : Nat
  jobEnergy : W64
  others : List Nat
  ownerToken : Option W64
  query : Option (Nat × Nat × Nat)
  migrate : Option Migration
  deriving DecidableEq, Repr

/-- A partition as PART_CREATE makes it. -/
def Partition.init (row0 col0 rows cols : Nat) (lease : List Nat) (base home : Nat) : Partition :=
  { row0 := row0, col0 := col0, rows := rows, cols := cols, lease := lease, base := base, state := 0, tab := none, winTag := 0xFF,
    stepHash := false, home := home, stepIndex := 0, armed := false, start := 0, mark0 := none, markEnd := none, done := [],
    failed := none, replays := 0, stage := 0, svc := none, svcSeq := 0, running := none, queue := [], warmAt := none, lastMark := none,
    granted := none, accepted := 0, stepsRun := 0, outBytes := 0, rejected := [], lateCount := 0, failCount := 0, hashes := [],
    reserved := 0, jobAt := 0, jobEnergy := 0, others := [], ownerToken := none, query := none, migrate := none }

/-- A loaded tablature (R324): its id, the host address and length of its image, the digest recorded at load, and its image. -/
structure Tablature where
  id : BitVec 128
  addr : Nat
  image : List Byte
  digest : BitVec 384
  deriving DecidableEq, Repr

/-- One invocation of a collective at its anchor (R411-R416): its number, the GO writes landed and when the NCONTRIB-th did, the
local contribution with its poisoned granules, the chunks received from children as (child, chunk, bytes, poisoned
granules), the chunks already combined, the result with its poisoned granules and the chunks of it that are held, the
result writes awaiting an answer as (relative core, SEQ), and whether it is complete or aborted. -/
structure CollInv where
  num : W32
  go : Nat
  goAt : Option Nat
  input : Memory
  inPoison : List Nat
  up : List (Nat × Nat × List Byte × List Nat)
  sent : List Nat
  result : Memory
  resPoison : List Nat
  held : List Nat
  writes : List (Nat × W32)
  complete : Bool
  aborted : Bool
  deriving DecidableEq, Repr

/-- An invocation of which nothing has arrived. -/
def CollInv.init (num : W32) : CollInv := ⟨num, 0, none, [], [], [], [], [], [], [], [], false, false⟩

/-- A collective bound at a port die (R410): the fields of its binding, the panel addresses of its IN and GO areas, the member
list by rank (panel id plus one, 0 while not given), the DELIVER entries (relative core, result offset, DONE_OFFSET), the invocations it
holds, the retained result, and for COLL_LATENESS the completion times of contributions, newest first. -/
structure Coll where
  die : Nat
  index : Nat
  id : Nat
  op : Nat
  format : Nat
  anchorExp : W16
  length : Nat
  members : Nat
  rank : Nat
  ids : Sparse Nat
  parent : Nat
  children : List Nat
  part : Nat
  ncontrib : Nat
  deliver : List (Nat × Nat × Nat)
  inPa : Nat
  goPa : Nat
  invs : List CollInv
  retained : Option CollInv
  lateness : List (W32 × W64)
  deriving DecidableEq, Repr

/-- A frame that waits at a port's egress (R393, R403): since when, and for a transit frame the port die whose transit credit it holds. -/
structure EgFrame where
  frame : Frame
  since : Nat
  holder : Option Nat
  deriving DecidableEq, Repr

/-- What an Ihlyx port holds beside its registers (R393-R400, R418): the SEQ last sent and last accepted, whether it asks for a replay and whether
its peer does, the unacknowledged frames and how often the first of them was resent in succession, the frames waiting at egress, the
credits held per class, the peer's totals last read, its own totals freed, the class whose
total goes next, the frames left in the round of classes 1-3, the times of training and of going DOWN, the greatest width it may take, the
peer's identity, whether it carries control frames only (R400), T1 of the exchange in progress, the (master, distance) its peer
advertises, and the classes frozen for every source (R409). -/
structure PortSt where
  txSeq : W16
  rxSeq : W16
  nak : Bool
  replayDue : Bool
  replay : List Frame
  resent : Nat
  egress : List EgFrame
  credits : List Nat
  totals : List Byte
  freed : List Byte
  rot : Nat
  round : List Nat
  trainAt : Nat
  downAt : Nat
  limit : Nat
  peer : Option (Nat × Nat)
  feature : W16
  conflict : Bool
  t1 : Option W64
  adv : Option (Nat × Nat)
  frozenAll : List Nat
  deriving DecidableEq, Repr

/-- The credits of a trained port (R394). -/
def fullCredits : List Nat := [16, 128, 32, 128]

/-- A port after reset. -/
def PortSt.init : PortSt :=
  { txSeq := 0, rxSeq := 0, nak := false, replayDue := false, replay := [], resent := 0, egress := [], credits := fullCredits,
    totals := [0, 0, 0, 0], freed := [0, 0, 0, 0], rot := 0, round := [0, 0, 0], trainAt := 0, downAt := 0, limit := 4, peer := none,
    feature := 0, conflict := false, t1 := none, adv := none, frozenAll := [] }

/-- A frame that waits at a port die for a transit credit (R403): where it goes (an egress port 0-83, 100 + the anchor's die for a collective frame
delivered here, 200 for the active management die), the frame, and the port whose receiver holds it. -/
structure HeldFrame where
  dst : Nat
  frame : Frame
  ingress : Option Nat
  deriving DecidableEq, Repr

/-- What a port die holds beside its registers and its two ports: the transit credits in use by destination die * 4 + class (R403; die 100 is
the active management die), the frames that wait for one, its next request number, its bulk writes awaiting an answer as (SEQ, port) (R407),
and per cause of TRANSIT_DROPPED the time from which the next one may be raised and the frames dropped since (R420). -/
structure DieSt where
  credits : Sparse Nat
  held : List HeldFrame
  nextSeq : W32
  bulk : List (W32 × Nat)
  drops : Sparse (Nat × Nat)
  deriving DecidableEq, Repr

/-- A port die after reset. -/
def DieSt.init : DieSt := ⟨[], [], 0, [], []⟩

/-- A peer service request under reassembly at the active management die (R406): its source panel and MSG_ID, the receiving port die, the
time of the first segment, the segments as (SEGMENT, granules), and the number of the last one once known. -/
structure Reasm where
  panel : Nat
  msgId : W32
  die : Nat
  since : Nat
  segs : List (Nat × List Flit)
  last : Option Nat
  deriving DecidableEq, Repr

/-- The pod-time servo (R417-R419): POD_OFFSET at a time in units of 2^-16 ticks and what is still to be slewed from then on, whether the offset has
been stepped since POD_LOCKED was last clear, POD_LOCKED, the consecutive good exchanges, the time and error of the last valid exchange, and
the upstream port, master and distance. -/
structure Servo where
  base : Int
  slew : Int
  since : Nat
  stepped : Bool
  locked : Bool
  good : Nat
  lastAt : Nat
  lastError : Int
  upstream : Option Nat
  master : Nat
  distance : Nat
  deriving DecidableEq, Repr

/-- The servo before any exchange. -/
def Servo.init : Servo := ⟨0, 0, 0, false, false, 0, 0, 0, none, 0, 63⟩

/-- What leaves the panel for the outside world: an Ihlyx frame on a port's lanes, an MCI datagram on a management port, an MSI-X message. -/
inductive Out
  | frame (port : Nat) (f : Frame)
  | datagram (south : Bool) (bytes : List Byte)
  | msix (vector : Nat)
  deriving DecidableEq, Repr

/-- A PCI Express event ring (R563, R564): enabled or not, host address and size, filter, producer address, records waiting
oldest first, and whether EVENTS_LOST was raised for it. -/
structure EvRing where
  on : Bool
  base : Nat
  entries : Nat
  minSev : Nat
  subsys : Nat
  prodAddr : Nat
  waiting : List Event
  lost : Bool
  lastVector : Option Nat
  deriving DecidableEq, Repr

/-- A disabled event ring. -/
def EvRing.init : EvRing := ⟨false, 0, 0, 0, 0, 0, [], false, none⟩

/-- A record sent or to be sent to a subscribed session (R565): the record, the times it was sent, the last sending. -/
structure Notice where
  ev : Event
  sends : Nat
  sentAt : Nat
  deriving DecidableEq, Repr

/-- An MCI session (R555-R558): its id, whether it is session 0, rights bits (O, P, S), the role key's slot, the session key, the
last counter accepted and the panel's own counter, the kept responses by TAG (newest first), whether it is frozen, the
time of the last valid datagram, the subscription filter and the records not yet confirmed. -/
structure Session where
  id : W32
  rights : Nat
  keySlot : Nat
  key : BitVec 256
  counter : W64
  sent : W64
  kept : List (W32 × List Byte)
  frozen : Bool
  last : Nat
  sub : Option (Nat × Nat)
  notices : List Notice
  lost : Nat
  lostRaised : Bool
  deriving DecidableEq, Repr

/-- Session 0 (R556, R558). -/
def Session.zero (rights : Nat) : Session := ⟨0, rights, 0, 0, 0, 0, [], false, 0, none, [], 0, false⟩

/-- What a stack port holds beside its registers (R375, R377, R379): its write-back queue of units, its watch list as (block, count,
first correction), the block copies in progress as (remap entry, block, spare), and for a stack closed for heat the time since
which its readouts have been at or below 80 °C. -/
structure StackSt where
  writeBacks : List Nat
  watch : List (Nat × Nat × Nat)
  copying : List (Nat × Nat × Nat)
  coolSince : Option Nat
  warned : Bool
  deriving DecidableEq, Repr

/-- A stack port with nothing queued. -/
def StackSt.init : StackSt := ⟨[], [], [], none, false⟩

/-- The epoch unit of the active management die (R274, R276): the time of the last flip while its drain goes on, whether EPOCH_DRAIN_SLOW
was raised for it, and the zero reports received as (frame, stop), stops 0-167 and stack ports from 200. -/
structure EpochSt where
  flippedAt : Option Nat
  slow : Bool
  reports : List (Nat × Nat)
  deriving DecidableEq, Repr

/-- An epoch unit with no drain in progress. -/
def EpochSt.init : EpochSt := ⟨none, false, []⟩

/-- A service ring (R345, R346, R361): its addresses and sizes, whether it is enabled, the request entries consumed and the producer count last
written, the response entries written and the consumer count last written, and the responses that wait for room, oldest first. -/
structure SvcRing where
  on : Bool
  reqBase : Nat
  respBase : Nat
  reqEntries : Nat
  respEntries : Nat
  dataBase : Nat
  dataLen : Nat
  headAddr : Nat
  enabled : Bool
  consumed : W32
  producer : W32
  posted : Nat
  consumer : W32
  waiting : List (List Byte)
  deriving DecidableEq, Repr

/-- No service ring. -/
def SvcRing.init : SvcRing := ⟨false, 0, 0, 0, 0, 0, 0, 0, false, 0, 0, 0, 0, []⟩

/-- A power region's regulator and governor beside their registers (R452-R459, R471, R472, R476, R477, R480): removed phases, the core rail's set point in
mV, the times of the DROOP assertions of the last second, the time the alert last deasserted while a hold runs, the time of the last
DROOP assertion, whether the connection-fault cap holds, the times of switch-offs for heat within 24 hours and since when the
release condition has held, since when every die has been cool enough for a rise and when the loop last acted, the values of the hottest compute
die over the last second as (time, value), the time a ceiling or hold target last rose, and the last time the rise condition held. -/
structure RegionSt where
  removed : List Nat
  setPoint : Nat
  droops : List Nat
  holdFrom : Option Nat
  droopAt : Nat
  connCap : Bool
  heatOffs : List Nat
  coolSince : Option Nat
  belowSince : Option Nat
  loopAt : Nat
  hottest : List (Nat × Int)
  roseAt : Option Nat
  steadySince : Option Nat
  deriving DecidableEq, Repr

/-- A region that nothing has happened in. -/
def RegionSt.init : RegionSt := ⟨[], 0, [], none, 0, false, [], none, none, 0, [], none, none⟩

/-- What waits for its share of the granted current (R449). -/
inductive GrantFor | step (tag : Nat) | inputCeilings | coolCeilings | region (g : Nat)
  deriving DecidableEq, Repr

/-- A condition that must hold for a time before it counts and be gone for a time before it ends: since when it has held, since when it has been gone
while it stands, and whether it stands. -/
structure Held where
  on : Option Nat
  off : Option Nat
  stands : Bool
  deriving DecidableEq, Repr

/-- A condition that has not held. -/
def Held.init : Held := ⟨none, none, false⟩

/-- The cap controller and the coolant rules beside their registers (R462-R482): the samples of input power of the last second as (time, mW), newest first;
the fitted baseline in mW and, by (tablature, phase), the fitted power in mW and the steps run; the demand rises that wait, oldest first, as
(what, rise in units of 0.1 A, since), and the time of the last grant; since when each average has been above and both below their limits;
the cap ceilings lowered below contract by tag; whether the input and the coolant ceilings stand at F0; the time LOW began and since when Vin has
recovered; the conditions that must hold for a time, by number; the time a flow stop was detected; and since when
COOL_OK has been high; what each feed's meter has accumulated below 1 µJ, in units of 10^-5 µJ; and the time enforcement last lowered a ceiling. -/
structure PowerSt where
  log : List (Nat × Nat)
  baseline : Nat
  learned : List (BitVec 128 × Nat × Nat × Nat)
  waits : List (GrantFor × Nat × Nat)
  grantAt : Nat
  overSust : Option Nat
  overPeak : Option Nat
  calmSince : Option Nat
  lowered : Sparse Nat
  inputF0 : Bool
  coolF0 : Bool
  lowAt : Nat
  held : Sparse Held
  stopAt : Nat
  coolHigh : Option Nat
  carry : Sparse Nat
  lowerAt : Nat
  deriving DecidableEq, Repr

/-- The controller before its first sample. -/
def PowerSt.init : PowerSt := ⟨[], 0, [], [], 0, none, none, none, [], false, false, 0, [], 0, none, [], 0⟩

/-- What both management flashes hold (R487, R566, R567): whether the stored map is valid, when the last cold start was, the LCID of each site (plus
one), the sites marked RETIRED, capo, TRIM and path resistance, HOP_LINK for the next start, FEATURE_FLOOR, remap entries of sites and
of stacks as (key, value); the enrolment as (epoch, owner key), tablature keys as (KEY_ID, key) by slot, role keys as (KEY_ID, rights, key) by slot;
signing policy and the rights of session 0; and per firmware target the active and staged versions, the SVNs, and the targets whose staged image takes effect at
the next start (R567). -/
structure Flash where
  mapValid : Bool
  coldAt : Option Nat
  lcids : Sparse Nat
  retired : List Nat
  capos : Sparse Nat
  trims : Sparse Nat
  paths : Sparse Nat
  hopLink : Nat
  floor : Nat
  remaps : List (Nat × W64)
  spillRemaps : List (Nat × W64)
  owner : Option (W32 × List Byte)
  tabKeys : Sparse (Option (Nat × List Byte))
  roleKeys : Sparse (Option (Nat × Nat × List Byte))
  signedOnly : Bool
  pcieRights : Nat
  fwActive : Sparse W32
  fwStaged : Sparse (Option (W32 × Nat))
  fwSvn : Sparse Nat
  fwPending : List Nat
  deriving DecidableEq, Repr

/-- The flash as delivered: no stored map, no keys (log entry 20). -/
def Flash.init : Flash :=
  ⟨false, none, [], [], [], [], [], 6, 0, [], [], none, [], [], false, 7, [], [], [], []⟩

/-- An ended job's energy record (R482). -/
structure Job where
  tab : BitVec 128
  part : Nat
  killed : Bool
  others : Nat
  tStart : Nat
  tEnd : Nat
  eStart : W64
  eEnd : W64
  steps : W64
  deriving DecidableEq, Repr

/-- The management dies beside what else the state holds (R544-R546, R550, R554, R557, R568): the north and the south die have failed; the time of the last heartbeat; the
journal records sent and applied; the mailbox pages by (die, mailbox) and their MBm_STATE words; the addresses of each port; datagrams discarded
in the present second by port and the second SESSION_AUTH_FAIL was last raised in; the debug port: DEBUG_EN, whether JTAG is open, the TAP's
instruction; the next session id, query id and request id; the EPOCH_FLIP commands whose answer waits for EPOCH_DRAINED, with the
frame of the flip; the migration whose flip is not drained yet;
the BULK_SEND commands with the port of their frames and how many have not left (R559);
by row the logical column that a sympathetic attempt shadows next (R525); and by role-key slot the last counter accepted with a SESSION_OPEN (R555). -/
structure MgmtSt where
  dead : List Bool
  heartAt : Nat
  journal : Nat
  applied : Nat
  pages : Memory
  boxes : Sparse W64
  netCfg : Sparse (List Byte)
  discards : Sparse (Nat × Nat)
  authAt : Option Nat
  debugEn : Bool
  jtagOpen : Bool
  tapIr : Byte
  nextSession : W32
  nextQuery : Nat
  nextReq : Nat
  flips : List (MciCmd × Nat)
  moving : Option Migration
  bulk : List (MciCmd × Nat × Nat)
  sympNext : Sparse Nat
  openCounters : Sparse W64
  deriving DecidableEq, Repr

/-- The management dies after a start. -/
def MgmtSt.init : MgmtSt :=
  ⟨[false, false], 0, 0, 0, [], [], [], [], none, false, false, 0xFF, 1, 0, 0, [], none, [], [], []⟩

/-- The state of the panel: the waiting commands, the counter of free values, panel time and whether the drone counts it (R18, R424), whether DRONE_REF has
been valid for 10 ms (R426), events (R538-R541), registers, sites, scratchpad raw rows and their spill (R170, R362), stacks, host memory, packets in flight, flits on the
courses, FRAME_COUNT, the epoch unit, partitions and tablatures, event rings and sessions, the active role (R33), apertures, collectives, Ihlyx ports
and port dies, reassembly, pod time, what has left the panel, regions and the power controller, flash, jobs, the management dies, service rings with the
prediction constants, spare rows that BIST marked unusable (R492) as site * 256 + die * 128 + bank * 4 + spare,
the lane groups that each edge's six courses and four tracks were given, 15 for none (R495), and the pins PANEL_RST_N and PCIEk_PERST_N. -/
structure State where
  pending : List Instr
  free : Nat
  time : Nat
  droneUp : Bool
  refValid : Bool
  eventSeq : W32
  events : List Event
  unacked : List W32
  regs : Sparse W64
  sites : Sparse SiteSt
  scratch : Memory
  spill : Memory
  stackSts : Sparse StackSt
  host : Memory
  net : List Flight
  courses : Sparse SFlit
  frameCount : W64
  epoch : EpochSt
  parts : Sparse (Option Partition)
  tabs : List Tablature
  evRings : Sparse EvRing
  sessions : List Session
  activeSouth : Bool
  apertures : Sparse (Nat × Nat)
  colls : List Coll
  ports : Sparse PortSt
  dies : Sparse DieSt
  reasm : List Reasm
  servo : Servo
  outbox : List Out
  regions : Sparse RegionSt
  power : PowerSt
  flash : Flash
  jobs : List Job
  mgmt : MgmtSt
  svcRings : Sparse SvcRing
  svcFixed : Nat
  svcRate : Nat
  badSpares : List Nat
  groups : Sparse (List Nat)
  resetLow : Bool
  perstLow : List Bool
  deriving DecidableEq, Repr

/-- The panel right after reset. -/
def State.reset : State :=
  { pending := [], free := 0, time := 0, droneUp := false, refValid := false, eventSeq := 0, events := [], unacked := [], regs := [],
    sites := [], scratch := [], spill := [], stackSts := [], host := [], net := [], courses := [], frameCount := 0, epoch := EpochSt.init, parts := [], tabs := [], evRings := [],
    sessions := [Session.zero 7],
    activeSouth := false, apertures := [], colls := [], ports := [], dies := [], reasm := [], servo := Servo.init,
    outbox := [], regions := [], power := PowerSt.init, flash := Flash.init, jobs := [], mgmt := MgmtSt.init, svcRings := [],
    svcFixed := 1000, svcRate := 8, badSpares := [], groups := [], resetLow := false, perstLow := [false, false] }

end Sys2Proof.Machine
end

