-- ==== Sys2Proof/Machine/Regs.lean ====
section
/-! DEFINITION. The register file: where a register has its home, its reset value, and reading and writing it. The table
`regs` holds the difference (exclusive or) from the reset value, so that an untouched register has no entry and reads
as its reset value (R11). -/

namespace Sys2Proof.Machine

/-- A unit's number in the keys of the register file. -/
def unitCode : RegUnit → Nat
  | .site p => p.val
  | .stack s => 200 + s.val
  | .die d => 300 + d.val
  | .gov g => 400 + g.val
  | .mgmt => 500
  | .bar0 => 501

/-- A register's key: unit number and offset below 2^29. -/
def regKey (u : RegUnit) (off : Nat) : Nat := unitCode u * 2 ^ 29 + off % 2 ^ 29

/-- The fused highest fret of the variant (R428). -/
def fuseMax : Nat :=
  match Config.variant with
  | .a24 => 15
  | .a18 => 10
  | .a12 => 7

/-- The variant's code in BRING_STATUS and BAR0 (0 A24, 1 A18, 2 A12). -/
def variantCode : Nat :=
  match Config.variant with
  | .a24 => 0
  | .a18 => 1
  | .a12 => 2

/-- The default frequency of a fret in MHz (R427, Fret table defaults). -/
def fretMHz (f : Nat) : Nat :=
  ([250, 400, 500, 600, 700, 800, 900, 1000, 1100, 1200, 1300, 1350, 1400, 1450, 1500, 1550] : List Nat).getD f 0

/-- Whether an offset lies in a table of `n` registers `stride` apart from `base`. -/
def inTable (off base stride n : Nat) : Bool := decide (base ≤ off) && decide ((off - base) / stride < n) && decide ((off - base) % stride = 0)

/-- Reset values of a site's core window that are not zero, by the register maps. -/
def siteReset (off : Nat) : Nat :=
  if off < 0x18100000 then (if off = 0x18000000 then 0xFF * 2 ^ 48 + 0xFF * 2 ^ 40 else 0)
  else if off < 0x18500000 then (if inTable off 0x18402000 32 64 then 0xFF * 2 ^ 32 else 0)
  else if off < 0x18600000 then (if off = 0x18508008 then 0x15180 else 0)
  else if off < 0x18700000 then
    (if off = 0x18600000 then 0x10
     else if off = 0x18600010 then fuseMax * 2 ^ 16
     else if inTable off 0x18600100 8 16 then fretMHz ((off - 0x18600100) / 8) else 0)
  else if off < 0x18710000 then
    (if off = 0x18700008 then 0x400
     else if off = 0x18700018 then 2 ^ 64 - 1
     else if off = 0x18700020 then 6
     else if off = 0x18700028 then 0xFF
     else if inTable off 0x18702000 32 64 then 0xFF * 2 ^ 16 else 0)
  else if off < 0x18720000 then (if off = 0x18710008 then 2 ^ 64 - 1 else 0)
  else if off < 0x18730000 then
    (if inTable off 0x18720000 8 144 || inTable off 0x18720800 8 144 then 0x10 else 0)
  else if off < 0x18740000 then
    (if inTable off 0x18730000 64 32 then 0xFF * 2 ^ 8
     else if inTable off 0x18730020 64 32 then 0xFF else 0)
  else 0

/-- A die's revision: 0 A, 1 B, 2 C of a compute die, 0 A and 1 B of another, and A alone of a stack port (R502). -/
def dieRev (key : Nat) : Nat :=
  if key < 700 && key % 4 == 0 then Config.revision key % 3 else if 800 ≤ key && key < 900 then 0 else Config.revision key % 2

/-- A die's feature level by its revision (R502, Revisions and feature levels). -/
def dieLevel (key : Nat) : Nat :=
  if key < 700 && key % 4 == 0 then [0x0100, 0x0101, 0x0200].getD (dieRev key) 0x0100 else if dieRev key = 0 then 0x0100 else 0x0200

/-- Reset values of a port die that are not zero. -/
def dieReset (d off : Nat) : Nat :=
  if off = 0x0000 then dieLevel (700 + d) * 2 ^ 16
  else if off = 0x0010 then 63
  else if off = 0x0030 then 0xFF * 2 ^ 56 + 63 * 2 ^ 50
  else if off = 0x1008 || off = 0x1808 then 2
  else if off = 0x1010 || off = 0x1810 then 2 * 2 ^ 8 + 4 * 2 ^ 4 + 8
  else 0

/-- CAP_PEAK and CAP_SUST of the variant, in units of 10 W. -/
def capDefaults : Nat × Nat :=
  match Config.variant with
  | .a24 => (2600, 2400)
  | .a18 => (1950, 1800)
  | .a12 => (1300, 1200)

/-- Reset values of the management die's registers that are not zero. -/
def mgmtReset (off : Nat) : Nat :=
  if off = 0x00100008 then 2 ^ 8 + 40
  else if off = 0x00110008 then capDefaults.1 * 2 ^ 32 + capDefaults.2
  else if off = 0x00110010 then 20 * 2 ^ 16 + 4 * 2 ^ 8 + 60
  else if inTable off 0x00111000 8 42 then 15 * 2 ^ 16 + 15 * 2 ^ 12 + 15 * 2 ^ 8
  else if off = 0x00120008 then 100
  else if off = 0x00130000 then variantCode * 2 ^ 14
  else if inTable off 0x00131000 8 168 then 0xFF * 2 ^ 24
  else if off = 0x00140000 then 10 * 2 ^ 8 + 5
  else 0

/-- Reset values of the BAR0 registers that are fused or belong to the die. -/
def bar0Reset (off : Nat) : Nat :=
  if off = 0x60008 then variantCode
  else if off = 0x60018 then (Config.free32 0).toNat
  else if off = 0x60020 then Config.serial.toNat % 2 ^ 64
  else if off = 0x60028 then Config.serial.toNat / 2 ^ 64
  else 0

/-- A register's reset value (R11). -/
def resetOf (u : RegUnit) (off : Nat) : W64 :=
  match u with
  | .site _ => w64 (siteReset off)
  | .stack _ => if off = 0x0018 then 0xEE6B28000 else 0
  | .die d => w64 (dieReset d.val off)
  | .gov _ => if off = 0x0010 then w64 (25 * 2 ^ 8 + 40) else 0
  | .mgmt => w64 (mgmtReset off)
  | .bar0 => w64 (bar0Reset off)

/-- The value held for a register. -/
def State.reg (s : State) (u : RegUnit) (off : Nat) : W64 := Sparse.get 0 s.regs (regKey u off) ^^^ resetOf u off

/-- The state with a register holding a value. -/
def State.setReg (s : State) (u : RegUnit) (off : Nat) (v : W64) : State :=
  { s with regs := Sparse.put 0 s.regs (regKey u off) (v ^^^ resetOf u off) }

/-- A field of a register. -/
def State.rf (s : State) (u : RegUnit) (off lo w : Nat) : Nat := fld (s.reg u off) lo w

/-- The state with one field of a register set. -/
def State.setRf (s : State) (u : RegUnit) (off lo w x : Nat) : State := s.setReg u off (setFld (s.reg u off) lo w x)

/-- A register as a number. -/
def State.rn (s : State) (u : RegUnit) (off : Nat) : Nat := (s.reg u off).toNat

/-- The state with a wrapping 64-bit counter advanced by `n` (R15). -/
def State.count64 (s : State) (u : RegUnit) (off n : Nat) : State := s.setReg u off (s.reg u off + w64 n)

end Sys2Proof.Machine
end

