-- ==== Sys2Proof/Machine/Fabric.lean ====
section
/-! DEFINITION. The request plane itself: packet types and well-formedness (R262, R263), places and routes (R256-R258, R269, R270), and
packets entering and leaving the fabric (R274, R277). -/

namespace Sys2Proof.Machine

/-! ## Packet types (R263) -/

/-- The virtual channel of a packet type, none for a type the table does not list (R263). -/
def typeVC (t : Nat) : Option Nat :=
  if 0x01 ≤ t && t ≤ 0x09 then some 1
  else if 0x10 ≤ t && t ≤ 0x13 then some 2
  else if 0x20 ≤ t && t ≤ 0x27 then some 0
  else none

/-- Whether a type may be multicast (R277): WRITE, REDUCE, BAR_RELEASE, ABORT, MGMT. -/
def mayMulticast (t : Nat) : Bool := t = 0x01 || t = 0x05 || t = 0x22 || t = 0x24 || t = 0x25

/-- Whether FLAGS.MCAST is set. -/
def isMcast (k : Packet) : Bool := bit k.flags 3

/-- FLAGS.EPOCH of a packet. -/
def epochOf (k : Packet) : Bool := bit k.flags 2

/-- Whether DEST and DEST_UNIT name something (R37, R262); a site is named by a ROW_WRITE and by its answers (log entry 10). -/
def destOk (k : Packet) : Bool :=
  let d := k.dest.toNat
  let u := k.destUnit.toNat
  (d < 144 && u = 0) || (d = 0xF0 && u = 0) || (d = 0xF1 && u = 0) || (d = 0xF2 && u < 168 && (k.typ = 0x09 || k.typ = 0x11 || k.typ = 0x20)) ||
    (d = 0xF4 && u < 42) || (d = 0xF8 && u < 42) || (d = 0xFC && u < 28)

/-- Whether a header follows the tables of R262 and R263, and TAIL falls on flit LENGTH. -/
def wellFormedPkt (k : Packet) : Bool :=
  (match typeVC k.typ.toNat with
    | some v => k.vc.toNat == v && (v != 0 || decide (k.len.toNat ≤ 1))
    | none => false) &&
  decide (k.len.toNat ≤ 32) && decide (k.payload.length = k.len.toNat) && fld k.flags 4 4 == 0 && !bit k.flags 0 &&
  (bit k.flags 1 == k.payload.any (·.poison)) && (k.reason = 0 || k.typ = 0x20) &&
  (k.mask = 0 || isMcast k) && fld k.mask 14 2 == 0 && (!isMcast k || mayMulticast k.typ.toNat) && destOk k &&
  k.res == 0 &&
  !(decide (k.dest.toNat < 144) && (k.typ = 0x08 || k.typ = 0x23 || k.typ = 0x26 || k.typ = 0x27))

/-- A packet with a header of zeros, a type on its channel, a destination and a source. -/
def mkPacket (typ dest destUnit src srcUnit tag seq : Nat) : Packet :=
  { typ := BitVec.ofNat 8 typ, flags := 0, vc := BitVec.ofNat 8 ((typeVC typ).getD 0), len := 0, dest := BitVec.ofNat 8 dest,
    destUnit := BitVec.ofNat 8 destUnit, src := BitVec.ofNat 8 src, srcUnit := BitVec.ofNat 8 srcUnit,
    tag := BitVec.ofNat 8 tag, reason := 0, mask := 0, seq := BitVec.ofNat 32 seq, addr := 0, ctx := 0, gen := 0, queue := 0,
    aux := 0, res := 0, payload := [], trunc := false }

/-- A packet with a payload: LENGTH and the POISON flag follow it (R262). -/
def withPayload (k : Packet) (l : List Flit) : Packet :=
  { k with payload := l, len := BitVec.ofNat 8 l.length, flags := setBit k.flags 1 (l.any (·.poison)) }

/-! ## Places and routes -/

/-- The row of a site (R24). -/
def siteRow (p : Fin 168) : Nat := p.val / 14

/-- The column of a site (R24). -/
def siteCol (p : Fin 168) : Nat := p.val % 14

/-- The site at a row and column. -/
def siteAt (row col : Nat) : Fin 168 := Fin.ofNat 168 (row * 14 + col)

/-- The ring-stop whose side port or column end a place sits at (R31, R32, R33). -/
def attachStop : Place → Fin 168
  | .stop p => p
  | .stack s => if s.val < 14 then siteAt 0 s.val else siteAt 11 (s.val - 14)
  | .die d => siteAt (2 * (d.val / 7)) (2 * (d.val % 7))
  | .gov g => siteAt (2 * (g.val / 7)) (2 * (g.val % 7))
  | .mgmt south => if south then siteAt 11 0 else siteAt 0 0

/-- INJECT_EPOCH at a stop (R274). -/
def State.injectEpoch (s : State) (p : Fin 168) : Nat := s.rf (.site p) 0x18710000 0 1

/-- The map entry of an LCID in a version held at a stop: none when ABSENT (R27, R269). -/
def State.mapCol (s : State) (p : Fin 168) (version lcid : Nat) : Option Nat :=
  let v := s.reg (.site p) (0x18720000 + 0x800 * version + 8 * lcid)
  if bit v 4 then none else some (fld v 0 4)

/-- The place a destination leads to from a stop under a map version (R269). -/
def State.placeOf (s : State) (p : Fin 168) (version dest unit : Nat) : Option Place :=
  if dest < 144 then (s.mapCol p version dest).map fun c => .stop (siteAt (dest / 12) c)
  else if dest = 0xF0 then some (.mgmt s.activeSouth)
  else if dest = 0xF1 then some (.mgmt (!s.activeSouth))
  else if dest = 0xF2 then some (.stop (Fin.ofNat 168 unit))
  else if dest = 0xF4 then some (.gov (Fin.ofNat 42 unit))
  else if dest = 0xF8 then some (.die (Fin.ofNat 42 unit))
  else if dest = 0xFC then some (.stack (Fin.ofNat 28 unit))
  else none

/-- The hops of a leg on one bundle from position a to position b, each as (position left, track 0 forward or 1 return, course); the short
way runs on Q0 toward greater positions and on Q1 toward smaller, the long way on the other course (R256, R257). -/
def legHops (a b : Nat) (long : Bool) : List (Nat × Nat × Nat) :=
  let up (x n : Nat) (track course : Nat) := (List.range n).map fun i => (x + i, track, course)
  let down (x n : Nat) (track course : Nat) := (List.range n).map fun i => (x - i, track, course)
  if a = b then []
  else if a < b then
    (if long then down a a 0 1 ++ up 0 13 1 1 ++ down 13 (13 - b) 0 1 else up a (b - a) 0 0)
  else
    (if long then up a (13 - a) 0 0 ++ down 13 13 1 0 ++ up 0 b 0 0 else down a (a - b) 0 1)

/-- The ring-stops and outgoing tracks (numbered as RQ_FLITSt) that a packet crosses from a stop to a place (R269, R270). -/
def State.path (s : State) (src dst : Place) (version : Nat) : List (Fin 168 × Nat) :=
  let a := attachStop src
  let b := attachStop dst
  let way := s.reg (.site a) (0x18720480 + 0x800 * version)
  let rowLeg (row c0 c1 : Nat) : List (Fin 168 × Nat) :=
    (legHops c0 c1 (bit way c1)).map fun h => (siteAt row h.1, h.2.2 * 2 + h.2.1)
  let colLeg (col p0 p1 : Nat) : List (Fin 168 × Nat) :=
    (legHops p0 p1 (bit way (16 + p1))).filterMap fun h =>
      if 1 ≤ h.1 && h.1 ≤ 12 then some (siteAt (h.1 - 1) col, 4 + h.2.2 * 2 + h.2.1) else none
  let endPos (x : Place) (q : Fin 168) : Nat := match x with
    | .stack k => if k.val < 14 then 0 else 13
    | _ => siteRow q + 1
  match src with
  | .stack _ => colLeg (siteCol a) (endPos src a) (endPos dst b) ++ rowLeg (siteRow b) (siteCol a) (siteCol b)
  | _ => rowLeg (siteRow a) (siteCol a) (siteCol b) ++ colLeg (siteCol b) (siteRow a + 1) (endPos dst b)

/-- RQ_FLITSt along a route counts the packet's flits (R15). -/
def State.countPath (s : State) (hops : List (Fin 168 × Nat)) (flits : Nat) : State :=
  hops.foldl (fun st h => st.count64 (.site h.1) (0x18710100 + 8 * h.2) flits) s

/-- A packet refused with a reason (R264): a NACK to its source, returning its SEQ; AUX holds the refused TYPE, the refusing position of a
multicast, and AUX[12] for an access violation, in which case ADDR and CTX return too (R519). -/
def nackOf (k : Packet) (src srcUnit tag reason pos : Nat) (violation : Bool) : Packet :=
  { mkPacket 0x20 k.src.toNat k.srcUnit.toNat src srcUnit tag k.seq.toNat with
    reason := BitVec.ofNat 8 reason
    aux := BitVec.ofNat 32 (k.typ.toNat + pos * 2 ^ 8 + b01 violation * 2 ^ 12)
    addr := k.addr
    ctx := k.ctx }

/-- The structures of a site. -/
def State.site (s : State) (p : Fin 168) : SiteSt := Sparse.get SiteSt.init s.sites p.val

/-- The state with a site's structures replaced. -/
def State.setSite (s : State) (p : Fin 168) (x : SiteSt) : State := { s with sites := Sparse.put SiteSt.init s.sites p.val x }

/-- The state with a site's structures changed. -/
def State.updSite (s : State) (p : Fin 168) (f : SiteSt → SiteSt) : State := s.setSite p (f (s.site p))

/-- Whether a site's core runs in a sympathetic attempt, so that its stop sends nothing (R526). -/
def State.quiet (s : State) (p : Fin 168) : Bool := (s.site p).symp.isSome

/-- The payload bytes that a request of a core counts for the frame's CRC (R527): those of WRITE, PUT, MSG and REDUCE. -/
def requestLoad (k : Packet) : Option (List Byte) :=
  if ([0x01, 0x03, 0x04, 0x05] : List Nat).contains k.typ.toNat then some (k.payload.flatMap fun f => granBytes f.data) else none

/-- A core issues a request (R527, R528, R530): its payload joins those of the frame, or of the spare's attempt; a READ_REQ or CHAN_OPEN makes the attempts
that shadow the core inconclusive. -/
def State.noteRequest (s : State) (p : Fin 168) (k : Packet) : State :=
  match requestLoad k with
  | some l => s.updSite p fun x =>
      match x.symp with
      | some y => { x with symp := some { y with loads := y.loads ++ [l] } }
      | none => { x with frameLoads := x.frameLoads ++ [l] }
  | none => { s with sites := s.sites.map fun e =>
      (e.1, match e.2.symp with
        | some y => if y.work = p.val || e.1 = p.val then { e.2 with symp := some { y with spoiled := true } } else e.2
        | none => e.2) }

/-- A packet enters the request plane at a place (R269, R274): its EPOCH bit is the stop's INJECT_EPOCH, and it is in flight to its
destination; a destination that the version marks ABSENT is refused at the source stop. A core in a sympathetic attempt sends nothing: its
requests with a payload are acknowledged at its own stop (R526). -/
def State.inject (s : State) (src : Place) (k : Packet) : State :=
  let a := attachStop src
  let v := s.injectEpoch a
  let k := { k with flags := setBit k.flags 2 (v = 1) }
  if src = .stop a && s.quiet a && (k.src.toNat < 0xF0 || k.src = 0xFF) then
    (if (requestLoad k).isSome then
      let back := { mkPacket 0x11 0xF2 a.val k.dest.toNat k.destUnit.toNat k.tag.toNat k.seq.toNat with
                    addr := k.addr, ctx := k.ctx, aux := BitVec.ofNat 32 k.typ.toNat }
      { s with net := s.net ++ [⟨src, src, back⟩] }
    else s)
  else match s.placeOf a v k.dest.toNat k.destUnit.toNat with
  | some d =>
    let s := s.countPath (s.path src d v) (1 + k.payload.length)
    { s with net := s.net ++ [⟨src, d, k⟩] }
  | none =>
    { s with net := s.net ++ [⟨src, src, nackOf k k.src.toNat k.srcUnit.toNat k.tag.toNat 0x06 0 false⟩] }

/-- A packet's copies enter the fabric as a row or column multicast from a stop (R277): one to each stop of the mask. -/
def State.injectMcast (s : State) (src : Place) (k : Packet) : State :=
  let a := attachStop src
  let k := { k with flags := setBit k.flags 2 (s.injectEpoch a = 1) }
  let col := bit k.aux 15
  (List.range 14).foldl (fun st i =>
    if bit k.mask i then
      (if col then
        (if 1 ≤ i && i ≤ 12 then { st with net := st.net ++ [⟨src, .stop (siteAt (i - 1) (siteCol a)), k⟩] } else st)
       else { st with net := st.net ++ [⟨src, .stop (siteAt (siteRow a) i), k⟩] })
    else st) s

/-- A packet that has arrived is no longer in flight. -/
def State.landed (s : State) (here : Place) (k : Packet) : State :=
  { s with net := dropFirst (fun f => f.dst == here && f.pkt == k) s.net }

end Sys2Proof.Machine
end

