-- ==== Sys2Proof/Machine/RegMap.lean ====
section
/-! DEFINITION. The register maps of the spec as tables: for each register its unit kind, offset, the strides of its
indices, and its fields with their access codes (R10-R13). Reserved fields stand in no row: they read zero. -/

namespace Sys2Proof.Machine

/-- The access codes of R13. -/
inductive Acc | ro | rw | rw1c | rc | wo | rwl
  deriving DecidableEq, Repr

/-- One field: its lowest bit, its width and its access code. -/
structure RegField where
  lo : Nat
  w : Nat
  acc : Acc
  deriving DecidableEq, Repr

/-- One row of a register map: registers at base + s1 * i + s2 * j for i < n1 and j < n2. -/
structure RegRow where
  base : Nat
  n1 : Nat
  s1 : Nat
  n2 : Nat
  s2 : Nat
  fields : List RegField
  deriving DecidableEq, Repr

/-- Whether an offset is one of a row's registers. -/
def RegRow.covers (r : RegRow) (off : Nat) : Bool :=
  decide (r.base ≤ off) && decide ((off - r.base) / r.s1 < r.n1) && decide ((off - r.base) % r.s1 / r.s2 < r.n2) &&
    decide ((off - r.base) % r.s1 % r.s2 = 0)

/-- Registers of a unit of kind site, part 0: CORE_STATUS, CORE_CONTROL, FREEZE_INFO, FREEZE_ADDR, FREEZE_TIME, VIOL_COUNT, SUSPECT_WIN, QUAL_TIME, SYMP_FRAMES, CC_Gn, CC_PC, CC_CRm, ME_STATUS, ME_CONTROL, ME_CR_BASE, ME_CR_HEAD, ME_DONE_COUNT, ME_MAC_COUNT, ME_BUSY_CLOCKS, ME_FLAGS, ME_FAULT_COUNT, ME_FAULT_TOKEN, VE_STATUS, VE_CONTROL. -/
def siteRegs0 : List RegRow :=
  [⟨0x18000000, 1, 8, 1, 8, [⟨0, 4, .ro⟩, ⟨12, 1, .ro⟩, ⟨13, 1, .ro⟩, ⟨14, 1, .ro⟩, ⟨15, 1, .ro⟩, ⟨40, 8, .ro⟩, ⟨48, 8, .ro⟩]⟩,
   ⟨0x18000008, 1, 8, 1, 8, [⟨0, 1, .wo⟩, ⟨1, 1, .wo⟩, ⟨2, 1, .wo⟩, ⟨3, 1, .wo⟩]⟩,
   ⟨0x18000010, 1, 8, 1, 8, [⟨0, 8, .ro⟩, ⟨16, 16, .ro⟩, ⟨32, 8, .ro⟩, ⟨40, 8, .ro⟩, ⟨56, 4, .ro⟩, ⟨60, 4, .ro⟩]⟩,
   ⟨0x18000018, 1, 8, 1, 8, [⟨0, 64, .ro⟩]⟩,
   ⟨0x18000020, 1, 8, 1, 8, [⟨0, 64, .ro⟩]⟩,
   ⟨0x18000028, 1, 8, 1, 8, [⟨0, 32, .rc⟩]⟩,
   ⟨0x18000030, 1, 8, 1, 8, [⟨0, 10, .ro⟩, ⟨16, 10, .ro⟩]⟩,
   ⟨0x18000038, 1, 8, 1, 8, [⟨0, 64, .ro⟩]⟩,
   ⟨0x18000040, 1, 8, 1, 8, [⟨0, 64, .ro⟩]⟩,
   ⟨0x18000100, 32, 8, 1, 8, [⟨0, 64, .ro⟩]⟩,
   ⟨0x18000200, 1, 8, 1, 8, [⟨0, 16, .ro⟩]⟩,
   ⟨0x18000400, 4096, 8, 1, 8, [⟨0, 64, .ro⟩]⟩,
   ⟨0x18100000, 1, 8, 1, 8, [⟨0, 1, .ro⟩, ⟨1, 1, .ro⟩, ⟨2, 1, .ro⟩, ⟨3, 1, .ro⟩, ⟨4, 1, .ro⟩, ⟨5, 1, .ro⟩, ⟨6, 1, .ro⟩, ⟨7, 1, .ro⟩, ⟨8, 8, .ro⟩, ⟨32, 5, .ro⟩]⟩,
   ⟨0x18100008, 1, 8, 1, 8, [⟨0, 1, .wo⟩, ⟨1, 1, .wo⟩]⟩,
   ⟨0x18100010, 1, 8, 1, 8, [⟨0, 64, .rw⟩]⟩,
   ⟨0x18100018, 1, 8, 1, 8, [⟨0, 64, .ro⟩]⟩,
   ⟨0x18100020, 1, 8, 1, 8, [⟨0, 64, .ro⟩]⟩,
   ⟨0x18100028, 1, 8, 1, 8, [⟨0, 64, .ro⟩]⟩,
   ⟨0x18100030, 1, 8, 1, 8, [⟨0, 64, .ro⟩]⟩,
   ⟨0x18100038, 1, 8, 1, 8, [⟨0, 1, .rw1c⟩, ⟨1, 1, .rw1c⟩, ⟨2, 1, .rw1c⟩, ⟨3, 1, .rw1c⟩]⟩,
   ⟨0x18100040, 1, 8, 1, 8, [⟨0, 32, .rc⟩]⟩,
   ⟨0x18100048, 1, 8, 1, 8, [⟨0, 32, .ro⟩]⟩,
   ⟨0x18200000, 1, 8, 1, 8, [⟨0, 1, .ro⟩, ⟨1, 1, .ro⟩, ⟨2, 1, .ro⟩, ⟨3, 1, .ro⟩, ⟨4, 1, .ro⟩, ⟨7, 1, .ro⟩, ⟨8, 8, .ro⟩, ⟨32, 5, .ro⟩]⟩,
   ⟨0x18200008, 1, 8, 1, 8, [⟨0, 1, .wo⟩, ⟨1, 1, .wo⟩]⟩]

/-- Registers of a unit of kind site, part 1: VE_CR_BASE, VE_CR_HEAD, VE_DONE_COUNT, VE_ELEM_COUNT, VE_BUSY_CLOCKS, VE_FLAGS, VE_FAULT_COUNT, VE_FAULT_TOKEN, VE_SUM_POISON, VE_SUMn, Qq_CFG, Qq_THRESH, Qq_WP, Qq_RP, Qq_RS, Qq_STATUS, Qq_MSGS, Qq_FULL_COUNT, Qq_SKIPS, SCn_CTL, SCn_SEQ, RCHn, WINw_CFG, WINw_LEN. -/
def siteRegs1 : List RegRow :=
  [⟨0x18200010, 1, 8, 1, 8, [⟨0, 64, .rw⟩]⟩,
   ⟨0x18200018, 1, 8, 1, 8, [⟨0, 64, .ro⟩]⟩,
   ⟨0x18200020, 1, 8, 1, 8, [⟨0, 64, .ro⟩]⟩,
   ⟨0x18200028, 1, 8, 1, 8, [⟨0, 64, .ro⟩]⟩,
   ⟨0x18200030, 1, 8, 1, 8, [⟨0, 64, .ro⟩]⟩,
   ⟨0x18200038, 1, 8, 1, 8, [⟨2, 1, .rw1c⟩, ⟨3, 1, .rw1c⟩]⟩,
   ⟨0x18200040, 1, 8, 1, 8, [⟨0, 32, .rc⟩]⟩,
   ⟨0x18200048, 1, 8, 1, 8, [⟨0, 32, .ro⟩]⟩,
   ⟨0x18200050, 1, 8, 1, 8, [⟨0, 16, .ro⟩]⟩,
   ⟨0x18200100, 16, 8, 1, 8, [⟨0, 64, .rw⟩]⟩,
   ⟨0x18300000, 128, 256, 1, 8, [⟨9, 20, .rw⟩, ⟨32, 5, .rw⟩, ⟨62, 2, .rw⟩]⟩,
   ⟨0x18300008, 128, 256, 1, 8, [⟨0, 32, .rw⟩]⟩,
   ⟨0x18300010, 128, 256, 1, 8, [⟨0, 26, .ro⟩]⟩,
   ⟨0x18300018, 128, 256, 1, 8, [⟨0, 26, .ro⟩]⟩,
   ⟨0x18300020, 128, 256, 1, 8, [⟨0, 26, .ro⟩]⟩,
   ⟨0x18300028, 128, 256, 1, 8, [⟨0, 1, .rw1c⟩, ⟨1, 1, .rw1c⟩, ⟨2, 1, .rw1c⟩, ⟨8, 4, .ro⟩]⟩,
   ⟨0x18300030, 128, 256, 1, 8, [⟨0, 64, .ro⟩]⟩,
   ⟨0x18300038, 128, 256, 1, 8, [⟨0, 32, .rc⟩]⟩,
   ⟨0x18300040, 128, 256, 1, 8, [⟨0, 64, .ro⟩]⟩,
   ⟨0x18400000, 256, 16, 1, 8, [⟨0, 7, .ro⟩, ⟨16, 8, .ro⟩, ⟨32, 8, .ro⟩, ⟨40, 8, .ro⟩, ⟨52, 4, .ro⟩, ⟨61, 3, .ro⟩]⟩,
   ⟨0x18400008, 256, 16, 1, 8, [⟨0, 32, .ro⟩, ⟨32, 32, .ro⟩]⟩,
   ⟨0x18401000, 256, 8, 1, 8, [⟨0, 32, .ro⟩, ⟨39, 8, .ro⟩, ⟨47, 8, .ro⟩, ⟨55, 7, .ro⟩, ⟨62, 1, .ro⟩, ⟨63, 1, .ro⟩]⟩,
   ⟨0x18402000, 64, 32, 1, 8, [⟨9, 20, .ro⟩, ⟨32, 8, .ro⟩, ⟨40, 8, .ro⟩, ⟨63, 1, .ro⟩]⟩,
   ⟨0x18402008, 64, 32, 1, 8, [⟨0, 32, .ro⟩]⟩]

/-- Registers of a unit of kind site, part 2: WINw_REFUSED, CH_CR_BASE, CH_CR_HEAD, CH_DONE_COUNT, CH_DROP_COUNT, OOS_COUNT, DUP_COUNT, SP_STATUS, SP_CONTROL, SP_SEG_ON, SP_WV_GRANTSc, SP_WV_CONTEND, REGn_CFG, REGn_HEAD, REGn_TAIL, REGn_ADV, MV_STATUSn, MV_CONTROLn, MV_DONEn, MV_CR_BASE, MV_CR_HEAD, MV_MGMT_ISSUE, MV_FAULT_COUNT, PROT_STATUS. -/
def siteRegs2 : List RegRow :=
  [⟨0x18402010, 64, 32, 1, 8, [⟨0, 32, .rc⟩]⟩,
   ⟨0x18403000, 1, 8, 1, 8, [⟨0, 64, .rw⟩]⟩,
   ⟨0x18403008, 1, 8, 1, 8, [⟨0, 64, .ro⟩]⟩,
   ⟨0x18403010, 1, 8, 1, 8, [⟨0, 64, .ro⟩]⟩,
   ⟨0x18403018, 1, 8, 1, 8, [⟨0, 32, .rc⟩]⟩,
   ⟨0x18403020, 1, 8, 1, 8, [⟨0, 32, .rc⟩]⟩,
   ⟨0x18403028, 1, 8, 1, 8, [⟨0, 32, .rc⟩]⟩,
   ⟨0x18500000, 1, 8, 1, 8, [⟨0, 1, .ro⟩, ⟨1, 1, .ro⟩, ⟨2, 1, .ro⟩, ⟨3, 1, .ro⟩]⟩,
   ⟨0x18500008, 1, 8, 1, 8, [⟨0, 1, .rw⟩]⟩,
   ⟨0x18500010, 1, 8, 1, 8, [⟨0, 48, .rw⟩]⟩,
   ⟨0x18500020, 5, 8, 1, 8, [⟨0, 64, .ro⟩]⟩,
   ⟨0x18500048, 1, 8, 1, 8, [⟨0, 64, .ro⟩]⟩,
   ⟨0x18501000, 64, 32, 1, 8, [⟨1, 2, .rw⟩, ⟨3, 1, .rw⟩, ⟨12, 17, .rw⟩, ⟨32, 5, .rw⟩, ⟨40, 4, .rw⟩, ⟨44, 4, .rw⟩]⟩,
   ⟨0x18501008, 64, 32, 1, 8, [⟨0, 64, .ro⟩]⟩,
   ⟨0x18501010, 64, 32, 1, 8, [⟨0, 64, .ro⟩]⟩,
   ⟨0x18501018, 64, 32, 1, 8, [⟨0, 32, .wo⟩, ⟨32, 1, .wo⟩]⟩,
   ⟨0x18502000, 9, 32, 1, 8, [⟨0, 1, .ro⟩, ⟨1, 1, .ro⟩, ⟨8, 8, .ro⟩, ⟨24, 8, .ro⟩, ⟨32, 6, .ro⟩]⟩,
   ⟨0x18502008, 9, 32, 1, 8, [⟨0, 1, .wo⟩, ⟨1, 1, .wo⟩]⟩,
   ⟨0x18502010, 9, 32, 1, 8, [⟨0, 64, .ro⟩]⟩,
   ⟨0x18502200, 1, 8, 1, 8, [⟨0, 64, .rw⟩]⟩,
   ⟨0x18502208, 1, 8, 1, 8, [⟨0, 64, .ro⟩]⟩,
   ⟨0x18502210, 1, 8, 1, 8, [⟨0, 29, .wo⟩]⟩,
   ⟨0x18502218, 1, 8, 1, 8, [⟨0, 32, .rc⟩]⟩,
   ⟨0x18508000, 1, 8, 1, 8, [⟨0, 1, .ro⟩, ⟨1, 1, .ro⟩, ⟨2, 1, .ro⟩, ⟨3, 1, .ro⟩]⟩]

/-- Registers of a unit of kind site, part 3: SCRUB_PERIOD, SCRUB_POS, SCRUB_LINES, CORR_M0, CORR_M1, UNCORR_M0, UNCORR_M1, POISON_CONSUMED, WB_DROPPED, REMAPd_e, WATCHn, ORIGINn_ADDR, ORIGINn_TIME, CLK_STATUS, CLK_TARGET, CLK_LIMITS, FRET_CHANGES, DAMPER_TICKS, DAMPER_COUNT, PREEMPT_COUNT, UNLOCK_COUNT, FRETn_MHZ, SCHED_STATUS, FRAME_LEN. -/
def siteRegs3 : List RegRow :=
  [⟨0x18508008, 1, 8, 1, 8, [⟨0, 32, .rw⟩]⟩,
   ⟨0x18508010, 1, 8, 1, 8, [⟨0, 29, .ro⟩]⟩,
   ⟨0x18508018, 1, 8, 1, 8, [⟨0, 64, .ro⟩]⟩,
   ⟨0x18508020, 1, 8, 1, 8, [⟨0, 32, .rc⟩]⟩,
   ⟨0x18508028, 1, 8, 1, 8, [⟨0, 32, .rc⟩]⟩,
   ⟨0x18508030, 1, 8, 1, 8, [⟨0, 32, .rc⟩]⟩,
   ⟨0x18508038, 1, 8, 1, 8, [⟨0, 32, .rc⟩]⟩,
   ⟨0x18508040, 1, 8, 1, 8, [⟨0, 32, .rc⟩]⟩,
   ⟨0x18508048, 1, 8, 1, 8, [⟨0, 32, .rc⟩]⟩,
   ⟨0x18508100, 2, 64, 8, 8, [⟨0, 14, .rw⟩, ⟨14, 5, .rw⟩, ⟨19, 2, .rw⟩, ⟨62, 1, .ro⟩, ⟨63, 1, .ro⟩]⟩,
   ⟨0x18508200, 32, 8, 1, 8, [⟨0, 41, .ro⟩, ⟨41, 14, .ro⟩, ⟨55, 5, .ro⟩, ⟨60, 1, .ro⟩, ⟨61, 2, .ro⟩, ⟨63, 1, .ro⟩]⟩,
   ⟨0x18508300, 16, 16, 1, 8, [⟨6, 23, .ro⟩, ⟨60, 3, .ro⟩, ⟨63, 1, .ro⟩]⟩,
   ⟨0x18508308, 16, 16, 1, 8, [⟨0, 64, .ro⟩]⟩,
   ⟨0x18600000, 1, 8, 1, 8, [⟨0, 1, .ro⟩, ⟨1, 1, .ro⟩, ⟨2, 1, .ro⟩, ⟨3, 1, .ro⟩, ⟨4, 1, .ro⟩, ⟨5, 1, .ro⟩, ⟨6, 1, .ro⟩, ⟨7, 1, .ro⟩, ⟨8, 1, .ro⟩, ⟨12, 4, .ro⟩]⟩,
   ⟨0x18600008, 1, 8, 1, 8, [⟨0, 4, .rw⟩]⟩,
   ⟨0x18600010, 1, 8, 1, 8, [⟨0, 4, .rw⟩, ⟨8, 4, .rw⟩, ⟨16, 4, .ro⟩]⟩,
   ⟨0x18600020, 1, 8, 1, 8, [⟨0, 64, .ro⟩]⟩,
   ⟨0x18600028, 1, 8, 1, 8, [⟨0, 64, .ro⟩]⟩,
   ⟨0x18600030, 1, 8, 1, 8, [⟨0, 32, .rc⟩]⟩,
   ⟨0x18600038, 1, 8, 1, 8, [⟨0, 32, .rc⟩]⟩,
   ⟨0x18600040, 1, 8, 1, 8, [⟨0, 32, .rc⟩]⟩,
   ⟨0x18600100, 16, 8, 1, 8, [⟨0, 11, .rwl⟩]⟩,
   ⟨0x18700000, 1, 8, 1, 8, [⟨0, 1, .ro⟩, ⟨1, 1, .ro⟩, ⟨2, 12, .ro⟩]⟩,
   ⟨0x18700008, 1, 8, 1, 8, [⟨0, 14, .rw⟩]⟩]

/-- Registers of a unit of kind site, part 4: FRAME_COUNT, SWITCH_FRAME, HOP_LINK, SITE_TAG, TQ_LEVEL, FLITSn, UNDERRUN_COUNT, MISSING_COUNT, COLLISION_COUNT, OVERRUN_COUNT, LEASE_VIOL_COUNT, CRC_ERR_COUNT, DISCARD_COUNT, LEASEk_n, PCTXn_CTL, PCTXn_START, PCTXn_CLASS, SBn_CFG, SBn_STATUS, RQ_STATUS, EPOCH_FRAME, OLD_INFLIGHT, OLD_SNAP, RQ_FLITSt. -/
def siteRegs4 : List RegRow :=
  [⟨0x18700010, 1, 8, 1, 8, [⟨0, 64, .ro⟩]⟩,
   ⟨0x18700018, 1, 8, 1, 8, [⟨0, 64, .rw⟩]⟩,
   ⟨0x18700020, 1, 8, 1, 8, [⟨0, 4, .rw⟩]⟩,
   ⟨0x18700028, 1, 8, 1, 8, [⟨0, 8, .rw⟩]⟩,
   ⟨0x18700030, 1, 8, 1, 8, [⟨0, 9, .ro⟩]⟩,
   ⟨0x18700100, 12, 8, 1, 8, [⟨0, 64, .ro⟩]⟩,
   ⟨0x18700180, 1, 8, 1, 8, [⟨0, 32, .rc⟩]⟩,
   ⟨0x18700188, 1, 8, 1, 8, [⟨0, 32, .rc⟩]⟩,
   ⟨0x18700190, 1, 8, 1, 8, [⟨0, 32, .rc⟩]⟩,
   ⟨0x18700198, 1, 8, 1, 8, [⟨0, 32, .rc⟩]⟩,
   ⟨0x187001A0, 1, 8, 1, 8, [⟨0, 32, .rc⟩]⟩,
   ⟨0x187001A8, 1, 8, 1, 8, [⟨0, 32, .rc⟩]⟩,
   ⟨0x187001B0, 1, 8, 1, 8, [⟨0, 32, .rc⟩]⟩,
   ⟨0x18701000, 2, 1024, 96, 8, [⟨0, 14, .rw⟩, ⟨16, 14, .rw⟩, ⟨32, 8, .rw⟩, ⟨63, 1, .rw⟩]⟩,
   ⟨0x18702000, 64, 32, 1, 8, [⟨0, 16, .rw⟩, ⟨16, 8, .rw⟩, ⟨24, 8, .rw⟩, ⟨63, 1, .rw⟩]⟩,
   ⟨0x18702008, 64, 32, 1, 8, [⟨0, 64, .rw⟩]⟩,
   ⟨0x18702010, 64, 32, 1, 8, [⟨0, 8, .rw⟩, ⟨8, 8, .rw⟩, ⟨16, 8, .rw⟩, ⟨24, 8, .rw⟩, ⟨32, 8, .rw⟩, ⟨40, 8, .rw⟩, ⟨48, 8, .rw⟩, ⟨56, 8, .rw⟩]⟩,
   ⟨0x18703000, 64, 16, 1, 8, [⟨8, 2, .rw⟩, ⟨10, 6, .rw⟩]⟩,
   ⟨0x18703008, 64, 16, 1, 8, [⟨0, 9, .ro⟩, ⟨16, 1, .rw1c⟩, ⟨17, 1, .rw1c⟩, ⟨18, 1, .rw1c⟩]⟩,
   ⟨0x18710000, 1, 8, 1, 8, [⟨0, 1, .ro⟩, ⟨1, 1, .ro⟩, ⟨2, 1, .ro⟩, ⟨3, 1, .ro⟩, ⟨4, 8, .ro⟩]⟩,
   ⟨0x18710008, 1, 8, 1, 8, [⟨0, 64, .rw⟩]⟩,
   ⟨0x18710010, 1, 8, 1, 8, [⟨0, 16, .ro⟩]⟩,
   ⟨0x18710018, 1, 8, 1, 8, [⟨0, 48, .ro⟩, ⟨48, 16, .ro⟩]⟩,
   ⟨0x18710100, 8, 8, 1, 8, [⟨0, 64, .ro⟩]⟩]

/-- Registers of a unit of kind site, part 5: RQ_CRC_COUNT, REPLAY_COUNT, SINK_COUNT, MALFORMED_COUNT, NACK_COUNTr, RTv_MAPn, RTv_WAY, BARi_CFG, BARi_MASK0, BARi_MASK1, BARi_MASK2, BARi_STATE, BARi_LAST_GAP, BAR_DUP_COUNT, BAR_DONEi, SLOTk_n_j. -/
def siteRegs5 : List RegRow :=
  [⟨0x18710180, 1, 8, 1, 8, [⟨0, 32, .rc⟩]⟩,
   ⟨0x18710188, 1, 8, 1, 8, [⟨0, 32, .rc⟩]⟩,
   ⟨0x18710190, 1, 8, 1, 8, [⟨0, 32, .rc⟩]⟩,
   ⟨0x18710198, 1, 8, 1, 8, [⟨0, 32, .rc⟩]⟩,
   ⟨0x18710208, 8, 8, 1, 8, [⟨0, 32, .rc⟩]⟩,
   ⟨0x18720000, 2, 2048, 144, 8, [⟨0, 4, .rw⟩, ⟨4, 1, .rw⟩]⟩,
   ⟨0x18720480, 2, 2048, 1, 8, [⟨0, 14, .rw⟩, ⟨16, 14, .rw⟩]⟩,
   ⟨0x18730000, 32, 64, 1, 8, [⟨0, 8, .ro⟩, ⟨8, 8, .rw⟩, ⟨63, 1, .rw⟩]⟩,
   ⟨0x18730008, 32, 64, 1, 8, [⟨0, 64, .rw⟩]⟩,
   ⟨0x18730010, 32, 64, 1, 8, [⟨0, 64, .rw⟩]⟩,
   ⟨0x18730018, 32, 64, 1, 8, [⟨0, 16, .rw⟩]⟩,
   ⟨0x18730020, 32, 64, 1, 8, [⟨0, 8, .ro⟩, ⟨8, 8, .ro⟩, ⟨32, 32, .ro⟩]⟩,
   ⟨0x18730028, 32, 64, 1, 8, [⟨0, 32, .ro⟩]⟩,
   ⟨0x18730800, 1, 8, 1, 8, [⟨0, 32, .rc⟩]⟩,
   ⟨0x18731000, 32, 8, 1, 8, [⟨0, 32, .ro⟩]⟩,
   ⟨0x18740000, 24, 16384, 2048, 8, [⟨0, 16, .rw⟩, ⟨16, 16, .rw⟩, ⟨32, 16, .rw⟩, ⟨48, 16, .rw⟩]⟩]

/-- Every register row of a unit of kind site. -/
def siteRegs : List RegRow := siteRegs0 ++ siteRegs1 ++ siteRegs2 ++ siteRegs3 ++ siteRegs4 ++ siteRegs5

/-- Registers of a unit of kind stack, part 0: SPX_STATUS, SPX_CONTROL, SPX_TEMP, SPX_CAPACITY, READS, WRITES, BYTES_READ, BYTES_WRITTEN, CORR_COUNT, UNCORR_COUNT, WB_DROPPED, REFUSED_COUNT, EXTn_CFG, EXTn_LEN, REMAPn. -/
def stackRegs0 : List RegRow :=
  [⟨0x0, 1, 8, 1, 8, [⟨0, 3, .ro⟩, ⟨6, 2, .ro⟩, ⟨8, 1, .ro⟩, ⟨9, 1, .ro⟩, ⟨10, 6, .ro⟩, ⟨16, 9, .ro⟩]⟩,
   ⟨0x8, 1, 8, 1, 8, [⟨0, 2, .rw⟩, ⟨2, 1, .wo⟩]⟩,
   ⟨0x10, 1, 8, 1, 8, [⟨0, 8, .ro⟩]⟩,
   ⟨0x18, 1, 8, 1, 8, [⟨0, 36, .ro⟩]⟩,
   ⟨0x100, 1, 8, 1, 8, [⟨0, 64, .ro⟩]⟩,
   ⟨0x108, 1, 8, 1, 8, [⟨0, 64, .ro⟩]⟩,
   ⟨0x110, 1, 8, 1, 8, [⟨0, 64, .ro⟩]⟩,
   ⟨0x118, 1, 8, 1, 8, [⟨0, 64, .ro⟩]⟩,
   ⟨0x180, 1, 8, 1, 8, [⟨0, 32, .rc⟩]⟩,
   ⟨0x188, 1, 8, 1, 8, [⟨0, 32, .rc⟩]⟩,
   ⟨0x190, 1, 8, 1, 8, [⟨0, 32, .rc⟩]⟩,
   ⟨0x198, 1, 8, 1, 8, [⟨0, 32, .rc⟩]⟩,
   ⟨0x1000, 256, 16, 1, 8, [⟨12, 24, .rw⟩, ⟨40, 8, .rw⟩, ⟨61, 1, .rw⟩, ⟨62, 1, .rw⟩, ⟨63, 1, .rw⟩]⟩,
   ⟨0x1008, 256, 16, 1, 8, [⟨0, 36, .rw⟩]⟩,
   ⟨0x2000, 32, 8, 1, 8, [⟨0, 24, .ro⟩, ⟨24, 5, .ro⟩, ⟨62, 1, .ro⟩, ⟨63, 1, .ro⟩]⟩]

/-- Every register row of a unit of kind stack. -/
def stackRegs : List RegRow := stackRegs0

/-- Registers of a unit of kind die, part 0: PD_STATUS, PD_PANEL_ID, PD_CONFIG, POD_TIME, POD_OFFSET, TIME_STATE, TRANSIT_FRAMES, DROP_NO_ROUTE, DROP_HOP_LIMIT, DROP_TIMEOUT, COLL_STALE, PORTk_STATUS, PORTk_CONTROL, PORTk_CFG, PORTk_RTT, TX_FRAMES, RX_FRAMES, TX_BYTES, RX_BYTES, FEC_SYMBOLS, FEC_UNCORR, CRC_ERR, REPLAY_COUNT, DOWN_COUNT. -/
def dieRegs0 : List RegRow :=
  [⟨0x0, 1, 8, 1, 8, [⟨0, 1, .ro⟩, ⟨1, 1, .ro⟩, ⟨8, 8, .ro⟩, ⟨16, 16, .ro⟩]⟩,
   ⟨0x8, 1, 8, 1, 8, [⟨0, 10, .rwl⟩]⟩,
   ⟨0x10, 1, 8, 1, 8, [⟨0, 6, .rw⟩, ⟨6, 1, .rw⟩]⟩,
   ⟨0x20, 1, 8, 1, 8, [⟨0, 64, .ro⟩]⟩,
   ⟨0x28, 1, 8, 1, 8, [⟨0, 64, .ro⟩]⟩,
   ⟨0x30, 1, 8, 1, 8, [⟨0, 32, .ro⟩, ⟨40, 10, .ro⟩, ⟨50, 6, .ro⟩, ⟨56, 8, .ro⟩]⟩,
   ⟨0x100, 1, 8, 1, 8, [⟨0, 64, .ro⟩]⟩,
   ⟨0x180, 1, 8, 1, 8, [⟨0, 32, .rc⟩]⟩,
   ⟨0x188, 1, 8, 1, 8, [⟨0, 32, .rc⟩]⟩,
   ⟨0x190, 1, 8, 1, 8, [⟨0, 32, .rc⟩]⟩,
   ⟨0x198, 1, 8, 1, 8, [⟨0, 32, .rc⟩]⟩,
   ⟨0x1000, 2, 2048, 1, 8, [⟨0, 2, .ro⟩, ⟨8, 3, .ro⟩, ⟨11, 3, .ro⟩, ⟨17, 4, .ro⟩, ⟨21, 1, .ro⟩, ⟨22, 10, .ro⟩, ⟨32, 8, .ro⟩]⟩,
   ⟨0x1008, 2, 2048, 1, 8, [⟨1, 1, .rw⟩, ⟨2, 1, .wo⟩]⟩,
   ⟨0x1010, 2, 2048, 1, 8, [⟨0, 4, .rw⟩, ⟨4, 4, .rw⟩, ⟨8, 4, .rw⟩]⟩,
   ⟨0x1018, 2, 2048, 1, 8, [⟨0, 32, .ro⟩]⟩,
   ⟨0x1100, 2, 2048, 1, 8, [⟨0, 64, .ro⟩]⟩,
   ⟨0x1108, 2, 2048, 1, 8, [⟨0, 64, .ro⟩]⟩,
   ⟨0x1110, 2, 2048, 1, 8, [⟨0, 64, .ro⟩]⟩,
   ⟨0x1118, 2, 2048, 1, 8, [⟨0, 64, .ro⟩]⟩,
   ⟨0x1120, 2, 2048, 1, 8, [⟨0, 64, .ro⟩]⟩,
   ⟨0x1180, 2, 2048, 1, 8, [⟨0, 32, .rc⟩]⟩,
   ⟨0x1188, 2, 2048, 1, 8, [⟨0, 32, .rc⟩]⟩,
   ⟨0x1190, 2, 2048, 1, 8, [⟨0, 32, .rc⟩]⟩,
   ⟨0x1198, 2, 2048, 1, 8, [⟨0, 32, .rc⟩]⟩]

/-- Registers of a unit of kind die, part 1: DROP_COUNT, FROZEN_COUNT, SVC_PEERSn, FREEZEf, APa_CFG, APa_LEN, COLLi_STATUS, ROUTEn. -/
def dieRegs1 : List RegRow :=
  [⟨0x11A0, 2, 2048, 1, 8, [⟨0, 32, .rc⟩]⟩,
   ⟨0x11A8, 2, 2048, 1, 8, [⟨0, 32, .rc⟩]⟩,
   ⟨0x3000, 16, 8, 1, 8, [⟨0, 64, .rw⟩]⟩,
   ⟨0x3800, 16, 8, 1, 8, [⟨0, 10, .ro⟩, ⟨10, 2, .ro⟩, ⟨12, 8, .ro⟩, ⟨62, 1, .ro⟩, ⟨63, 1, .rw1c⟩]⟩,
   ⟨0x4000, 64, 32, 1, 8, [⟨0, 10, .rw⟩, ⟨11, 1, .rw⟩, ⟨12, 24, .rw⟩, ⟨40, 5, .rw⟩, ⟨48, 8, .rw⟩, ⟨63, 1, .rw⟩]⟩,
   ⟨0x4008, 64, 32, 1, 8, [⟨0, 36, .rw⟩]⟩,
   ⟨0x6000, 64, 8, 1, 8, [⟨0, 32, .ro⟩, ⟨32, 16, .ro⟩, ⟨60, 3, .ro⟩, ⟨63, 1, .ro⟩]⟩,
   ⟨0x8000, 1024, 8, 1, 8, [⟨0, 8, .rw⟩, ⟨8, 1, .rw⟩]⟩]

/-- Every register row of a unit of kind die. -/
def dieRegs : List RegRow := dieRegs0 ++ dieRegs1

/-- Registers of a unit of kind gov, part 0: GOV_STATUS, GOV_CONTROL, GOV_CONFIG, DROOP_COUNT, PHASE_FAIL_COUNT, CONN_FAULT_COUNT. -/
def govRegs0 : List RegRow :=
  [⟨0x0, 1, 8, 1, 8, [⟨0, 2, .ro⟩, ⟨2, 1, .ro⟩, ⟨3, 1, .ro⟩, ⟨8, 5, .ro⟩, ⟨16, 8, .ro⟩, ⟨32, 4, .ro⟩, ⟨36, 4, .ro⟩]⟩,
   ⟨0x8, 1, 8, 1, 8, [⟨0, 4, .wo⟩]⟩,
   ⟨0x10, 1, 8, 1, 8, [⟨0, 8, .rw⟩, ⟨8, 8, .rw⟩]⟩,
   ⟨0x100, 1, 8, 1, 8, [⟨0, 32, .rc⟩]⟩,
   ⟨0x108, 1, 8, 1, 8, [⟨0, 32, .rc⟩]⟩,
   ⟨0x110, 1, 8, 1, 8, [⟨0, 32, .rc⟩]⟩]

/-- Every register row of a unit of kind gov. -/
def govRegs : List RegRow := govRegs0

/-- Registers of a unit of kind mgmt, part 0: IN_STATUS, IN_POLICY, FEEDA_ENERGY, FEEDB_ENERGY, FEEDA_MV, FEEDB_MV, FEEDA_MA, FEEDB_MA, INPUT_LOW_COUNT, FEED_LOSS_COUNT, SLEW_WAIT_TICKS, CAP_STATUS, CAP_POLICY, DAMPER_POLICY, ARM_WAIT_TICKS, HEADROOM, CAP_ENFORCE_COUNT, PREEMPTED_COUNT, DERATE_COUNT, REGION_CEILg, COOL_STATUS, THERM_POLICY, COOL_CONTROL, THERM_WARN_COUNT. -/
def mgmtRegs0 : List RegRow :=
  [⟨0x100000, 1, 8, 1, 8, [⟨0, 1, .ro⟩, ⟨1, 1, .ro⟩, ⟨2, 1, .ro⟩, ⟨3, 1, .ro⟩, ⟨4, 1, .ro⟩, ⟨5, 2, .ro⟩]⟩,
   ⟨0x100008, 1, 8, 1, 8, [⟨0, 8, .rw⟩, ⟨8, 1, .rw⟩]⟩,
   ⟨0x100010, 1, 8, 1, 8, [⟨0, 64, .ro⟩]⟩,
   ⟨0x100018, 1, 8, 1, 8, [⟨0, 64, .ro⟩]⟩,
   ⟨0x100020, 1, 8, 1, 8, [⟨0, 17, .ro⟩]⟩,
   ⟨0x100028, 1, 8, 1, 8, [⟨0, 17, .ro⟩]⟩,
   ⟨0x100030, 1, 8, 1, 8, [⟨0, 20, .ro⟩]⟩,
   ⟨0x100038, 1, 8, 1, 8, [⟨0, 20, .ro⟩]⟩,
   ⟨0x100100, 1, 8, 1, 8, [⟨0, 32, .rc⟩]⟩,
   ⟨0x100108, 1, 8, 1, 8, [⟨0, 32, .rc⟩]⟩,
   ⟨0x100110, 1, 8, 1, 8, [⟨0, 64, .ro⟩]⟩,
   ⟨0x110000, 1, 8, 1, 8, [⟨0, 1, .ro⟩, ⟨1, 1, .ro⟩, ⟨2, 1, .ro⟩, ⟨16, 16, .ro⟩, ⟨32, 16, .ro⟩, ⟨48, 16, .ro⟩]⟩,
   ⟨0x110008, 1, 8, 1, 8, [⟨0, 16, .rw⟩, ⟨32, 16, .rw⟩]⟩,
   ⟨0x110010, 1, 8, 1, 8, [⟨0, 8, .rw⟩, ⟨8, 4, .rw⟩, ⟨16, 10, .rw⟩]⟩,
   ⟨0x110100, 1, 8, 1, 8, [⟨0, 64, .ro⟩]⟩,
   ⟨0x110108, 1, 8, 1, 8, [⟨0, 32, .ro⟩]⟩,
   ⟨0x110180, 1, 8, 1, 8, [⟨0, 32, .rc⟩]⟩,
   ⟨0x110188, 1, 8, 1, 8, [⟨0, 32, .rc⟩]⟩,
   ⟨0x110190, 1, 8, 1, 8, [⟨0, 32, .rc⟩]⟩,
   ⟨0x111000, 42, 8, 1, 8, [⟨0, 4, .ro⟩, ⟨4, 1, .ro⟩, ⟨8, 4, .ro⟩, ⟨12, 4, .ro⟩, ⟨16, 4, .ro⟩, ⟨20, 4, .ro⟩]⟩,
   ⟨0x120000, 1, 8, 1, 8, [⟨0, 3, .ro⟩, ⟨3, 1, .ro⟩, ⟨7, 1, .ro⟩, ⟨16, 16, .ro⟩, ⟨32, 16, .ro⟩, ⟨48, 16, .ro⟩]⟩,
   ⟨0x120008, 1, 8, 1, 8, [⟨0, 8, .rw⟩]⟩,
   ⟨0x120010, 1, 8, 1, 8, [⟨0, 1, .wo⟩]⟩,
   ⟨0x120180, 1, 8, 1, 8, [⟨0, 32, .rc⟩]⟩]

/-- Registers of a unit of kind mgmt, part 1: HEAT_OFF_COUNT, SENSOR_FAULT_COUNT, SITE_TEMPn, BRING_STATUS, BRING_POLICY, DERATED, START_COUNT, READY_TIME, SITE_FAIL_COUNT, MISMATCH_COUNT, SITEn_STATE, EDGEe_STATE, TRIMg, RSn, FAULT_POLICY. -/
def mgmtRegs1 : List RegRow :=
  [⟨0x120188, 1, 8, 1, 8, [⟨0, 32, .rc⟩]⟩,
   ⟨0x120190, 1, 8, 1, 8, [⟨0, 32, .rc⟩]⟩,
   ⟨0x121000, 168, 8, 1, 8, [⟨8, 8, .ro⟩, ⟨16, 8, .ro⟩, ⟨24, 8, .ro⟩, ⟨32, 8, .ro⟩, ⟨40, 4, .ro⟩, ⟨44, 4, .ro⟩, ⟨48, 4, .ro⟩]⟩,
   ⟨0x130000, 1, 8, 1, 8, [⟨0, 4, .ro⟩, ⟨8, 2, .ro⟩, ⟨10, 1, .ro⟩, ⟨11, 1, .ro⟩, ⟨14, 2, .ro⟩, ⟨24, 8, .ro⟩, ⟨32, 8, .ro⟩, ⟨48, 16, .ro⟩]⟩,
   ⟨0x130008, 1, 8, 1, 8, [⟨0, 16, .rw⟩]⟩,
   ⟨0x130010, 1, 8, 1, 8, [⟨0, 12, .ro⟩, ⟨32, 14, .ro⟩]⟩,
   ⟨0x130100, 1, 8, 1, 8, [⟨0, 64, .ro⟩]⟩,
   ⟨0x130108, 1, 8, 1, 8, [⟨0, 64, .ro⟩]⟩,
   ⟨0x130180, 1, 8, 1, 8, [⟨0, 32, .rc⟩]⟩,
   ⟨0x130188, 1, 8, 1, 8, [⟨0, 32, .rc⟩]⟩,
   ⟨0x131000, 168, 8, 1, 8, [⟨0, 3, .ro⟩, ⟨16, 4, .ro⟩, ⟨24, 8, .ro⟩, ⟨32, 4, .ro⟩, ⟨40, 2, .ro⟩, ⟨42, 2, .ro⟩, ⟨44, 4, .ro⟩, ⟨48, 16, .ro⟩]⟩,
   ⟨0x132000, 338, 8, 1, 8, [⟨0, 10, .ro⟩, ⟨16, 11, .ro⟩, ⟨32, 11, .ro⟩, ⟨55, 1, .ro⟩, ⟨56, 1, .ro⟩, ⟨57, 1, .rw1c⟩, ⟨61, 3, .ro⟩]⟩,
   ⟨0x133000, 42, 8, 1, 8, [⟨0, 6, .ro⟩]⟩,
   ⟨0x133400, 168, 8, 1, 8, [⟨0, 16, .ro⟩]⟩,
   ⟨0x140000, 1, 8, 1, 8, [⟨0, 8, .rw⟩, ⟨8, 8, .rw⟩, ⟨16, 1, .rw⟩]⟩]

/-- Every register row of a unit of kind mgmt. -/
def mgmtRegs : List RegRow := mgmtRegs0 ++ mgmtRegs1

/-- Registers of a unit of kind bar0, part 0: MBm_DOORBELL, MBm_STATE, EVRr_CONS, EVRr_PROD, EVRr_LOST, ROLE, VARIANT, FEATURE, FW_VERSION, SERIAL0, SERIAL1. -/
def bar0Regs0 : List RegRow :=
  [⟨0x40000, 64, 8, 1, 8, [⟨0, 1, .wo⟩]⟩,
   ⟨0x40800, 64, 8, 1, 8, [⟨0, 2, .ro⟩, ⟨32, 32, .ro⟩]⟩,
   ⟨0x50000, 4, 16, 1, 8, [⟨0, 32, .rw⟩]⟩,
   ⟨0x50008, 4, 16, 1, 8, [⟨0, 32, .ro⟩]⟩,
   ⟨0x50040, 4, 8, 1, 8, [⟨0, 32, .rc⟩]⟩,
   ⟨0x60000, 1, 8, 1, 8, [⟨0, 9, .ro⟩]⟩,
   ⟨0x60008, 1, 8, 1, 8, [⟨0, 2, .ro⟩]⟩,
   ⟨0x60010, 1, 8, 1, 8, [⟨0, 16, .ro⟩]⟩,
   ⟨0x60018, 1, 8, 1, 8, [⟨0, 32, .ro⟩]⟩,
   ⟨0x60020, 1, 8, 1, 8, [⟨0, 64, .ro⟩]⟩,
   ⟨0x60028, 1, 8, 1, 8, [⟨0, 64, .ro⟩]⟩]

/-- Every register row of a unit of kind bar0. -/
def bar0Regs : List RegRow := bar0Regs0

/-- The register rows of a unit. -/
def regRows : RegUnit → List RegRow
  | .site _ => siteRegs
  | .stack _ => stackRegs
  | .die _ => dieRegs
  | .gov _ => govRegs
  | .mgmt => mgmtRegs
  | .bar0 => bar0Regs

/-- The map's row of a register, none where no map lists the offset. -/
def regRow (u : RegUnit) (off : Nat) : Option RegRow := (regRows u).find? (·.covers off)

/-- The fields of a register; none for an offset that no map lists. -/
def regFields (u : RegUnit) (off : Nat) : List RegField :=
  match regRow u off with
  | some r => r.fields
  | none => []

/-- A register's value after a write of `v` by a master that its map lets write (R12, R13): RW and WO fields take the
written field, RW1C fields lose the written ones, RWL fields take it unless `locked`, other fields stay. -/
def writeFields (fields : List RegField) (locked : Bool) (old v : W64) : W64 :=
  fields.foldl (fun x f =>
    match f.acc with
    | .rw => setFld x f.lo f.w (fld v f.lo f.w)
    | .rw1c => setFld x f.lo f.w (fld old f.lo f.w &&& (2 ^ f.w - 1 - fld v f.lo f.w))
    | .rwl => if locked then x else setFld x f.lo f.w (fld v f.lo f.w)
    | .ro => x
    | .rc => x
    | .wo => x) old

/-- A register's value after a read (R13): RC fields return to their reset value, which is zero for every one of them. -/
def readClearFields (fields : List RegField) (old : W64) : W64 :=
  fields.foldl (fun x f => if f.acc = .rc then setFld x f.lo f.w 0 else x) old

/-- What a read of a register returns (R12, R13): its listed fields, WO fields as zero. -/
def readFields (fields : List RegField) (v : W64) : W64 :=
  fields.foldl (fun x f => if f.acc = .wo then x else setFld x f.lo f.w (fld v f.lo f.w)) 0

end Sys2Proof.Machine
end

