-- ==== Sys2Proof/Machine/Ops.lean ====
section
/-! DEFINITION. The named operations every family uses: a site's structures, the core's status, events and counters, the
step failure, taking a control-core exception and returning from one, freezing and halting. -/

namespace Sys2Proof.Machine

/-- The control core of a site. -/
def State.cc (s : State) (p : Fin 168) : Cc := (s.site p).cc

/-- The state with a site's control core changed. -/
def State.updCc (s : State) (p : Fin 168) (f : Cc → Cc) : State := s.updSite p fun x => { x with cc := f x.cc }

/-- A value that the spec leaves open is drawn: the counter of State that free values are applied to advances (log entry 2). -/
def State.draw (s : State) : State := { s with free := s.free + 1 }

/-! ## The core status register (R543) -/

/-- CORE_STATUS.STATE of a site: 0 OFF, 1 RESET, 2 RUN, 3 FROZEN, 4 HALTED, 5 QUIESCE, 6 CLEARING, 7 HELD. -/
def State.coreState (s : State) (p : Fin 168) : Nat := s.rf (.site p) 0x18000000 0 4

/-- The state with CORE_STATUS.STATE of a site set. -/
def State.setCoreState (s : State) (p : Fin 168) (v : Nat) : State := s.setRf (.site p) 0x18000000 0 4 v

/-- CORE_STATUS.LCID of a site, 0xFF for none. -/
def State.lcidOf (s : State) (p : Fin 168) : Nat := s.rf (.site p) 0x18000000 40 8

/-- CORE_STATUS.PARTITION of a site, 0xFF for none. -/
def State.partOf (s : State) (p : Fin 168) : Nat := s.rf (.site p) 0x18000000 48 8

/-- SITE_TAG at a site's ring-stop (R255), 0xFF for none. -/
def State.siteTag (s : State) (p : Fin 168) : Nat := s.rf (.site p) 0x18700028 0 8

/-- Whether a site's mover is frozen (R518). -/
def State.mvFrozen (s : State) (p : Fin 168) : Bool := s.rf (.site p) 0x18000000 12 1 == 1

/-- Whether the engines and the control core of a site run: its core is in RUN or QUIESCE (R156, R157, R513, R543). A halted core's
engines go on with what they have (R157). -/
def State.coreRuns (s : State) (p : Fin 168) : Bool := s.coreState p == 2 || s.coreState p == 5

/-- Whether the engines of a site go on: the core runs, or is halted (R157). -/
def State.enginesRun (s : State) (p : Fin 168) : Bool := s.coreRuns p || s.coreState p == 4

/-- The site that CORE_STATUS gives an LCID, the lowest when several do. -/
def State.siteOf (s : State) (lcid : Nat) : Option (Fin 168) := (List.finRange 168).find? fun p => s.lcidOf p == lcid

/-! ## Events and counters -/

/-- An event's severity by its code (R541, R570). -/
def severityOf (code : Nat) : Nat :=
  if code % 0x1000 = 0xFFF then 1
  else if ([0x1004, 0x1011, 0x1014, 0x2012, 0x2013, 0x4011, 0x4013, 0x4018, 0x5003, 0x5008, 0x6001, 0x6007, 0x7003, 0x8001,
      0x8005, 0x800C, 0x8021, 0x8024, 0x9012, 0x9013] : List Nat).contains code then 0
  else if ([0x1003, 0x1006, 0x2006, 0x2010, 0x3002, 0x3003, 0x4004, 0x4005, 0x4012, 0x4021, 0x5004, 0x5005, 0x6003, 0x6008,
      0x7006, 0x7010, 0x8003, 0x8008, 0x8025, 0x9010, 0x9015, 0x9018] : List Nat).contains code then 1
  else if ([0x1001, 0x1010, 0x1012, 0x1013, 0x2007, 0x2011, 0x2014, 0x3001, 0x3004, 0x3010, 0x4001, 0x4010, 0x4015, 0x4017,
      0x4020, 0x5001, 0x5006, 0x5007, 0x6004, 0x6006, 0x8006, 0x8009, 0x800B, 0x8023, 0x9011, 0x9016, 0x9017] : List Nat).contains code then 2
  else if ([0x4003, 0x4014, 0x5009, 0x500A, 0x8002] : List Nat).contains code then 4
  else 3

/-- Whether a filter admits a record (R563). -/
def admits (minSev subsys : Nat) (e : Event) : Bool :=
  decide (minSev ≤ e.severity.toNat) && decide (subsys / 2 ^ (e.code.toNat / 0x1000) % 2 = 1)

/-- An event ring that receives a record: it joins the waiting records, or is dropped beyond 256 (R564). -/
def EvRing.offer (e : Event) (r : EvRing) : EvRing × Bool :=
  if !r.on || !admits r.minSev r.subsys e then (r, false)
  else if r.waiting.length < 256 then ({ r with waiting := r.waiting ++ [e] }, false)
  else ({ r with lost := true }, true)

/-- A subscribed session that receives a record (R565). -/
def Session.offer (e : Event) (x : Session) : Session :=
  match x.sub with
  | some (m, f) => if admits m f e then { x with notices := x.notices ++ [⟨e, 0, 0⟩] } else x
  | none => x

/-- The state with one record written: the log of the last 4,096, SEQ, the unacknowledged CRITICAL records, the rings and
sessions that admit it (R538, R539, R541, R563). A record dropped for a ring counts in EVRr_LOST (R564). -/
def State.writeEvent (s : State) (e : Event) : State :=
  let e := { e with seq := s.eventSeq }
  let step (st : State) (r : Nat) : State :=
    let old := Sparse.get EvRing.init st.evRings r
    let o := old.offer e
    let st := { st with evRings := Sparse.put EvRing.init st.evRings r o.1 }
    if o.2 then st.setReg .bar0 (0x50040 + 8 * r) (w64 (sat32 (st.rn .bar0 (0x50040 + 8 * r)))) else st
  let s := { s with
    events := (e :: s.events).take 4096
    eventSeq := s.eventSeq + 1
    unacked := if e.severity = 4 then s.unacked ++ [e.seq] else s.unacked
    sessions := s.sessions.map (Session.offer e) }
  [0, 1, 2, 3].foldl step s

/-- The first event ring that drops the record and has raised no EVENTS_LOST yet (R564). -/
def State.newlyLost (s : State) (e : Event) : Option Nat :=
  [0, 1, 2, 3].find? fun r =>
    let old := Sparse.get EvRing.init s.evRings r
    !old.lost && (old.offer e).2

/-- The panel raises an event (R538): its record, EVENTS_LOST when a ring drops its first record (R564), and COUNTER_SATURATED when
that takes EVRr_LOST to all ones (R16, R540). -/
def State.raise (s : State) (e : Event) : State :=
  let lost := s.newlyLost e
  let seq := s.eventSeq
  let full (st : State) (r : Nat) : Bool := st.rn .bar0 (0x50040 + 8 * r) == 0xFFFFFFFF
  let old := s
  let s := s.writeEvent e
  let s := ([0, 1, 2, 3].filter fun r => full s r && !full old r).foldl (fun st r =>
    st.writeEvent ⟨0x9FFF, 1, 0, 0, 0xFF, 0, e.time, 0, 0xFF, [0, 2, w64 (0x50040 + 8 * r)]⟩) s
  match lost with
  | some r => s.writeEvent ⟨0x9018, 1, 0, 0, 0xFF, 0, e.time, 0, 0xFF, [w64 r, w64 seq.toNat]⟩
  | none => s

/-- The panel raises an event with a code, source, partition, core and detail words, at the present panel time. -/
def State.event (s : State) (code kind id part lcid : Nat) (detail : List Nat) : State :=
  s.raise ⟨BitVec.ofNat 16 code, BitVec.ofNat 8 (severityOf code), BitVec.ofNat 8 kind, BitVec.ofNat 16 id,
    BitVec.ofNat 8 part, 0, w64 s.time, 0, BitVec.ofNat 8 lcid, (detail.take 5).map w64⟩

/-- An event of a core on a site: SOURCE_KIND 2 with the LCID. -/
def State.coreEvent (s : State) (p : Fin 168) (code : Nat) (detail : List Nat) : State :=
  s.event code 2 (s.lcidOf p) (s.partOf p) (s.lcidOf p) detail

/-- An event of a site: SOURCE_KIND 1 with the PSID. -/
def State.siteEvent (s : State) (p : Fin 168) (code : Nat) (detail : List Nat) : State :=
  s.event code 1 p.val (s.partOf p) (s.lcidOf p) detail

/-- The subsystem of a counter's register block (R540). -/
def counterSubsystem (u : RegUnit) (off : Nat) : Nat :=
  match u with
  | .site _ =>
    if off < 0x18100000 then 9
    else if off < 0x18300000 then 7
    else if off < 0x18500000 then 3
    else if off < 0x18508000 then 7
    else if off < 0x18600000 then 1
    else if off < 0x18700000 then 4
    else 2
  | .stack _ => 1
  | .die _ => 6
  | .gov _ => 4
  | .mgmt => if off < 0x00120000 then 4 else if off < 0x00130000 then 5 else if off < 0x00140000 then 8 else 9
  | .bar0 => 9

/-- The panel address of a register outside the core windows (R36, R540). -/
def regPA (u : RegUnit) (off : Nat) : Nat :=
  match u with
  | .stack s => 0xFC * 2 ^ 43 + s.val * 2 ^ 21 + off
  | .die d => 0xF8 * 2 ^ 43 + d.val * 2 ^ 21 + off
  | .gov g => 0xF4 * 2 ^ 43 + g.val * 2 ^ 21 + off
  | .mgmt => 0xF0 * 2 ^ 43 + off
  | _ => 0

/-- SOURCE_KIND and SOURCE_ID of a unit (R538). -/
def unitSource (u : RegUnit) : Nat × Nat :=
  match u with
  | .site p => (1, p.val)
  | .stack s => (4, s.val)
  | .die d => (5, d.val)
  | .gov g => (3, g.val)
  | .mgmt => (7, 0xF0)
  | .bar0 => (0, 0)

/-- The COUNTER_SATURATED record of a counter (R16, R540). -/
def State.saturated (s : State) (u : RegUnit) (off : Nat) : State :=
  let code := counterSubsystem u off * 0x1000 + 0xFFF
  match u with
  | .site p => s.siteEvent p code [off, 1]
  | .bar0 => s.event code 0 0 0xFF 0xFF [0, 2, off]
  | _ => s.event code (unitSource u).1 (unitSource u).2 0xFF 0xFF [regPA u off, 0]

/-- A 32-bit error counter is incremented: it saturates, and the increment that takes it to all ones raises
COUNTER_SATURATED (R16). -/
def State.count32 (s : State) (u : RegUnit) (off : Nat) : State :=
  let v := s.rf u off 0 32
  if v < 0xFFFFFFFF then
    let s := s.setRf u off 0 32 (v + 1)
    if v + 1 = 0xFFFFFFFF then s.saturated u off else s
  else s

/-- `n` increments of a 32-bit error counter. -/
def State.count32n (s : State) (u : RegUnit) (off : Nat) : Nat → State
  | 0 => s
  | n + 1 => State.count32n (s.count32 u off) u off n

/-- An event under the frame rule (R251): the first of its code in the frame is kept with its detail until the frame mark, and
later ones only add to its count. -/
def State.frameEvent (s : State) (p : Fin 168) (code part : Nat) (detail : List Nat) (countAt : Option Nat) : State :=
  s.updSite p fun x =>
    if x.frameEvs.any (fun e => e.code.toNat == code) then
      { x with frameEvs := mapFirst (fun e => e.code.toNat == code) (fun e => { e with count := e.count + 1 }) x.frameEvs }
    else
      { x with frameEvs := x.frameEvs ++ [⟨BitVec.ofNat 16 code, detail.map w64, s.time, 1, countAt, BitVec.ofNat 8 part⟩] }

/-- The record of an event kept by the frame rule, with its count in the detail (R251). -/
def frameRecord (p lcid : Nat) (e : FrameEv) : Event :=
  let detail := match e.countAt with
    | some i => e.detail.set i (w64 e.count)
    | none => e.detail
  ⟨e.code, BitVec.ofNat 8 (severityOf e.code.toNat), 1, BitVec.ofNat 16 p, e.part, if e.countAt.isSome then 1 else 0,
    w64 e.time, 0, BitVec.ofNat 8 lcid, detail⟩

/-- At a frame mark a stop raises the events its frame rule kept (R251). -/
def State.flushFrameEvs (s : State) (p : Fin 168) : State :=
  let evs := (s.site p).frameEvs
  if evs.isEmpty then s
  else
    let s := evs.foldl (fun st e => st.raise (frameRecord p.val (s.lcidOf p) e)) s
    s.updSite p fun x => { x with frameEvs := [] }

/-! ## Partitions and step failure (R325, R335) -/

/-- The partition with a tag. -/
def State.part (s : State) (tag : Nat) : Option Partition := Sparse.get none s.parts tag

/-- The state with the partition of a tag replaced. -/
def State.setPart (s : State) (tag : Nat) (x : Option Partition) : State := { s with parts := Sparse.put none s.parts tag x }

/-- The state with the partition of a tag changed, where there is one. -/
def State.updPart (s : State) (tag : Nat) (f : Partition → Partition) : State :=
  match s.part tag with
  | some x => s.setPart tag (some (f x))
  | none => s

/-- The LCIDs of a partition in ascending relative core (R314). -/
def Partition.lcids (x : Partition) : List Nat :=
  (List.range (x.rows * x.cols)).map fun r => (x.row0 + r / x.cols) * 12 + x.col0 + r % x.cols

/-- The relative core of an LCID in a partition (R314). -/
def Partition.rel (x : Partition) (lcid : Nat) : Nat := (lcid / 12 - x.row0) * x.cols + (lcid % 12 - x.col0)

/-- The sites that hold a partition's cores, in ascending relative core. -/
def State.partSites (s : State) (x : Partition) : List (Fin 168) := x.lcids.filterMap s.siteOf

/-- The packet that tells a collective's anchor to abort it (R405, R415): an ABORT packet with AUX[7:0] = 0xFF, the cause in AUX[15:8] and the
binding's index in ADDR (log entry 10). -/
def collAbortPkt (c : Coll) (cause : Nat) : Packet :=
  { mkPacket 0x24 0xF8 c.die 0xF0 0 0xFE 0 with aux := BitVec.ofNat 32 (0xFF + cause * 2 ^ 8), addr := w64 c.index }

/-- A partition's current step fails with a cause and the code of the event that reported it (R335): STEP_FAILED and DEADLINE_FAULT with the
first cause; nothing where no step is in progress or it has failed already. The collectives bound to the partition abort (R405). `lb` is LB of the
bound tablature, and `where_` the PSID or course, where known. -/
def State.failStep (s : State) (tag cause code where_ : Nat) (lb : Nat) : State :=
  match s.part tag with
  | some x =>
    if x.armed && x.failed.isNone then
      let s := s.setPart tag (some { x with failed := some (cause + code * 2 ^ 8) })
      let s := s.event 0x7001 8 tag tag 0xFF [tag, x.stepIndex.toNat, cause + code * 2 ^ 8, where_]
      let s := s.event 0x7002 8 tag tag 0xFF [tag, x.stepIndex.toNat, x.mark0.getD 0, lb]
      (s.colls.filter fun c => c.part == tag).foldl (fun st c => st.inject (.mgmt st.activeSouth) (collAbortPkt c 1)) s
    else s
  | none => s

/-- The tablature bound to a partition. -/
def State.tabOf (s : State) (x : Partition) : Option Tablature :=
  match x.tab with
  | some id => s.tabs.find? fun t => t.id == id
  | none => none

/-- The site whose LCID and partition a site's core uses: its own, or in sympathetic mode that of the core it shadows (R54, R526). -/
def State.actingSite (s : State) (p : Fin 168) : Fin 168 :=
  match (s.site p).symp with
  | some q => Fin.ofNat 168 q.work
  | none => p

/-- The inputs of the stochastic-rounding generator for a site's core: the tablature's seed, the LCID and the step index (R52, R54). -/
def State.srInputs (s : State) (p : Fin 168) : W64 × Nat × Nat :=
  let q := s.actingSite p
  match s.part (s.partOf q) with
  | some x => (match s.tabOf x with
      | some t => w64 (bytesAt t.image 40 8)
      | none => 0, s.lcidOf q, x.stepIndex.toNat)
  | none => (0, s.lcidOf q, 0)

/-- LB of the tablature bound to a partition (R313), zero when none is bound. -/
def State.lbOf (s : State) (x : Partition) : Nat :=
  match s.tabOf x with
  | some t => bytesAt t.image 64 8
  | none => 0

/-- The partition of the core on a site has its current step fail for a core's happening (R335, cause CORE). -/
def State.failCoreStep (s : State) (p : Fin 168) (code : Nat) : State :=
  match s.part (s.partOf p) with
  | some x => s.failStep (s.partOf p) 0x02 code p.val (s.lbOf x)
  | none => s

/-! ## Violations, freezing and halting (R156, R157, R518-R520) -/

/-- A violation by a master of a site's core is counted, and the first fills FREEZE_INFO, FREEZE_ADDR and FREEZE_TIME (R519, R543):
master 1 control core, 2 mover; detector 0 own core, 1 own ring-stop, 2 remote stop, 3 stack port, 4 port die. -/
def State.recordViolation (s : State) (p : Fin 168) (master detector target unit code detId addr : Nat) : State :=
  let s := s.count32 (.site p) 0x18000028
  if s.rf (.site p) 0x18000010 60 4 = 0 then
    let s := s.setReg (.site p) 0x18000010
      (w64 (master * 2 ^ 60 + detector * 2 ^ 56 + target % 256 * 2 ^ 40 + unit % 256 * 2 ^ 32 + code * 2 ^ 16 + detId % 256))
    let s := s.setReg (.site p) 0x18000018 (w64 addr)
    s.setReg (.site p) 0x18000020 (w64 s.time)
  else s

/-- The whole core of a site freezes (R156, R518): STATE FROZEN, and its partition's step fails with the violation event. -/
def State.freezeCore (s : State) (p : Fin 168) (code : Nat) : State :=
  if s.coreRuns p then (s.setCoreState p 3).failCoreStep p code else s

/-- A local access violation of a site's control core (R156): EPC, ECAUSE ACCESS_VIOLATION and the address in EINFO, the event, the
record and the freeze. `word` is the instruction word. -/
def State.accessViolation (s : State) (p : Fin 168) (addr : W64) (word : W32) : State :=
  let s := s.updCc p fun c => { c with epc := c.pc, ecause := 0x04, einfo := addr }
  let s := s.recordViolation p 1 0 (s.lcidOf p) 0 0x9001 p.val addr.toNat
  let s := s.coreEvent p 0x9001 [1, addr.toNat, word.toNat]
  s.freezeCore p 0x9001

/-- A site's control core halts (R157): STATE HALTED, EPC, ECAUSE and EINFO, CORE_HALTED, and its partition's step fails. -/
def State.haltCore (s : State) (p : Fin 168) (ecause : W16) (einfo : W64) : State :=
  let s := s.updCc p fun c => { c with epc := c.pc, ecause := ecause, einfo := einfo }
  let s := s.setCoreState p 4
  let s := s.coreEvent p 0x7020 [ecause.toNat, (s.cc p).epc.toNat, einfo.toNat]
  s.failCoreStep p 0x7020

/-! ## Taking an exception and returning from one (R155, R157) -/

/-- A control core takes an exception: EPC gets the address of the stopped or next instruction, ECAUSE and EINFO are written, EX is set
and the core goes to EVEC. Inside a handler, or with EVEC zero, a synchronous one halts the core (R157); so does an
asynchronous one with EVEC zero. -/
def State.takeException (s : State) (p : Fin 168) (ecause : W16) (einfo : W64) : State :=
  let c := s.cc p
  if c.ex || c.evec = 0 then s.haltCore p ecause einfo
  else s.updCc p fun c => { c with epc := c.pc, ecause := ecause, einfo := einfo, ex := true, pc := c.evec }

/-- ILLEGAL with its detail (0 ENCODING, 1 OPERAND, 2 TARGET) and the instruction word in EINFO (R158). -/
def State.illegal (s : State) (p : Fin 168) (detail : Nat) (word : W32) : State :=
  s.takeException p (BitVec.ofNat 16 (detail * 256 + 0x01)) (word.zeroExtend 64)

/-- ALIGNMENT with the address in EINFO (R158). -/
def State.misaligned (s : State) (p : Fin 168) (addr : W64) : State := s.takeException p 0x02 addr

/-- The poison origin log's entry for a granule of a core's scratchpad, as the images of ORIGINn_ADDR and ORIGINn_TIME (R210). -/
def State.originOf (s : State) (p : Fin 168) (gran : Nat) : Option (W64 × W64) :=
  ((List.range 16).find? fun n =>
      s.rf (.site p) (0x18508300 + 16 * n) 63 1 == 1 && s.rf (.site p) (0x18508300 + 16 * n) 6 23 == gran).map fun n =>
    (s.reg (.site p) (0x18508300 + 16 * n), s.reg (.site p) (0x18508308 + 16 * n))

/-- POISON_CONSUMED is raised and counted at a consumption point of a core (R209, R210): consumer code, address, and the granule
whose origin is looked up, where it was read from the core's own scratchpad. -/
def State.poisonConsumed (s : State) (p : Fin 168) (consumer addr : Nat) (gran : Option Nat) : State :=
  let s := s.count32 (.site p) 0x18508040
  let o := gran.bind (s.originOf p)
  let e : Event := ⟨0x1002, 3, 2, BitVec.ofNat 16 (s.lcidOf p), BitVec.ofNat 8 (s.partOf p), if o.isSome then 2 else 0,
    w64 s.time, 0, BitVec.ofNat 8 (s.lcidOf p),
    [w64 consumer, w64 addr, (o.map Prod.fst).getD 0, (o.map Prod.snd).getD 0]⟩
  s.raise e

/-- A POISON exception (R158): detail 0 LOAD, 1 SUMMARY, 2 FETCH. -/
def State.poisonException (s : State) (p : Fin 168) (detail : Nat) (addr : W64) (gran : Option Nat) : State :=
  let s := s.poisonConsumed p detail addr.toNat gran
  s.takeException p (BitVec.ofNat 16 (detail * 256 + 0x03)) addr

/-- The return from an exception (R155): EX is cleared and the core resumes at EPC; the pending operation record clears when EPC
names another address (R590). -/
def State.returnException (s : State) (p : Fin 168) : State :=
  s.updCc p fun c =>
    { c with ex := false, pc := c.epc, pends := c.pends.filter fun r => r.addr == c.epc }

end Sys2Proof.Machine
end

