-- ==== Sys2Proof/Machine/Scratch.lean ====
section
/-! DEFINITION. Scratchpad: the address decode (R162), the raw cells and their check fields (R161, R170, R195), remapped
rows (R211), reads with their outcomes and what they leave behind (R199-R202, R210), wide and narrow writes
(R165, R166, R176, R207), power segments (R172-R174) and circular regions (R175-R181). -/

namespace Sys2Proof.Machine

/-! ## Addresses -/

/-- The die of a core offset (R162). -/
def offDie (off : Nat) : Nat := off / 2 ^ 12 % 2

/-- The bank of a core offset (R162). -/
def offBank (off : Nat) : Nat := off / 2 ^ 13 % 4 * 8 + off / 2 ^ 9 % 8

/-- The row of a core offset (R162). -/
def offRow (off : Nat) : Nat := off / 2 ^ 15

/-- The granule within its row (R162). -/
def offGran (off : Nat) : Nat := off / 64 % 8

/-- The key of byte `b` of a raw row (R170): 576 bytes a row, 12,292 rows a bank. -/
def cellKey (p die bank row b : Nat) : Nat := (((p * 2 + die) * 32 + bank) * 12292 + row) * 576 + b

/-- The row that a data row's accesses go to: its spare row when a valid remap entry names it (R211). -/
def State.remapRow (s : State) (p : Fin 168) (die bank row : Nat) : Nat :=
  match (List.range 8).find? fun e =>
      let v := s.reg (.site p) (0x18508100 + 64 * die + 8 * e)
      bit v 63 && fld v 14 5 == bank && fld v 0 14 == row with
  | some e => 12288 + s.rf (.site p) (0x18508100 + 64 * die + 8 * e) 19 2
  | none => row

/-- The raw row of a core offset after remapping. -/
def State.rawRow (s : State) (p : Fin 168) (off : Nat) : Nat := s.remapRow p (offDie off) (offBank off) (offRow off)

/-- The key of byte `b` of the raw row that holds a core offset. -/
def State.cellOf (s : State) (p : Fin 168) (off b : Nat) : Nat := cellKey p.val (offDie off) (offBank off) (s.rawRow p off) b

/-- Whether a core offset lies in a powered segment of scratchpad (R172). -/
def State.segOn (s : State) (p : Fin 168) (off : Nat) : Bool :=
  decide (off < 0x18000000) && bit (s.reg (.site p) 0x18500010) (off / 2 ^ 23)

/-- Whether every byte of a span lies in powered segments. -/
def State.spanOn (s : State) (p : Fin 168) (off len : Nat) : Bool :=
  decide (off + len ≤ 0x18000000) &&
    ((List.range (len / 2 ^ 23 + 2)).all fun i =>
      let a := min (off + i * 2 ^ 23) (off + len - 1)
      len == 0 || s.segOn p a)

/-! ## Circular regions (R175-R181) -/

/-- REGn_CFG of a region. -/
def State.regionCfg (s : State) (p : Fin 168) (n : Nat) : W64 := s.reg (.site p) (0x18501000 + 32 * n)

/-- The base of a region. -/
def State.regionBase (s : State) (p : Fin 168) (n : Nat) : Nat := fld (s.regionCfg p n) 12 17 * 4096

/-- The size of a region. -/
def State.regionSize (s : State) (p : Fin 168) (n : Nat) : Nat := 2 ^ fld (s.regionCfg p n) 32 5

/-- The mode of a region: 0 OFF, 1 STATIC, 2 STALL, 3 FAULT. -/
def State.regionMode (s : State) (p : Fin 168) (n : Nat) : Nat := fld (s.regionCfg p n) 1 2

/-- The region that holds a core offset, none where none that is not OFF does. -/
def State.regionOf (s : State) (p : Fin 168) (off : Nat) : Option Nat :=
  lowest 64 fun n =>
    s.regionMode p n != 0 && decide (s.regionBase p n ≤ off) && decide (off < s.regionBase p n + s.regionSize p n)

/-- Whether a wide write of a granule makes it class S (R176). -/
def State.classSAt (s : State) (p : Fin 168) (off : Nat) : Bool :=
  match s.regionOf p off with
  | some n => bit (s.regionCfg p n) 3
  | none => false

/-- HEAD of a region (R177). -/
def State.regionHead (s : State) (p : Fin 168) (n : Nat) : Nat := s.rn (.site p) (0x18501008 + 32 * n)

/-- TAIL of a region (R177). -/
def State.regionTail (s : State) (p : Fin 168) (n : Nat) : Nat := s.rn (.site p) (0x18501010 + 32 * n)

/-- The position of a core offset in a region (R177): the one value congruent to it with TAIL ≤ p < TAIL + size. -/
def State.regionPos (s : State) (p : Fin 168) (n off : Nat) : Nat :=
  let size := s.regionSize p n
  let tail := s.regionTail p n
  let d := (off - s.regionBase p n) % size
  tail + (d + size - tail % size) % size

/-- PRODUCER of a region (R175): 0 none, 1 ME, 2 VE, 3 MV, 4 control core, 5 remote. -/
def State.regionProducer (s : State) (p : Fin 168) (n : Nat) : Nat := fld (s.regionCfg p n) 44 4

/-- CONSUMER of a region. -/
def State.regionConsumer (s : State) (p : Fin 168) (n : Nat) : Nat := fld (s.regionCfg p n) 40 4

/-- What the rules of R177, R178 and R181 say of an access by a master (codes of PRODUCER) to a granule: allowed, held back by the
pointers, or a write of another master's region. -/
inductive RegionCheck | ok | wait | overrun | violation
  deriving DecidableEq, Repr

/-- The check of a write of a granule by master `who` (R177, R178, R181). -/
def State.checkWrite (s : State) (p : Fin 168) (who off : Nat) : RegionCheck :=
  match s.regionOf p off with
  | some n =>
    if s.regionMode p n < 2 then .ok
    else if s.regionProducer p n ≠ who then .violation
    else if s.regionHead p n ≤ s.regionPos p n off then .ok
    else if s.regionMode p n = 2 then .wait else .overrun
  | none => .ok

/-- The check of a read of a granule by master `who` (R177, R178, R181). -/
def State.checkRead (s : State) (p : Fin 168) (who off : Nat) : RegionCheck :=
  match s.regionOf p off with
  | some n =>
    if s.regionMode p n < 2 then .ok
    else if s.regionConsumer p n ≠ who then .ok
    else if s.regionPos p n off < s.regionHead p n then .ok
    else if s.regionMode p n = 2 then .wait else .overrun
  | none => .ok

/-- The worst of two checks: a violation, then an overrun, then a wait. -/
def RegionCheck.join : RegionCheck → RegionCheck → RegionCheck
  | .violation, _ => .violation
  | _, .violation => .violation
  | .overrun, _ => .overrun
  | _, .overrun => .overrun
  | .wait, _ => .wait
  | _, .wait => .wait
  | .ok, .ok => .ok

/-- The granule offsets of a span. -/
def granOffs (off len : Nat) : List Nat := (List.range ((len + 63) / 64)).map fun i => off + 64 * i

/-- The check of a span of writes. -/
def State.checkWrites (s : State) (p : Fin 168) (who off len : Nat) : RegionCheck :=
  (granOffs off len).foldl (fun c o => c.join (s.checkWrite p who o)) .ok

/-- The check of a span of reads. -/
def State.checkReads (s : State) (p : Fin 168) (who off len : Nat) : RegionCheck :=
  (granOffs off len).foldl (fun c o => c.join (s.checkRead p who o)) .ok

/-- The highest position past each STALL or FAULT region that `who` wrote (write = true) or read in a span, as (region, 1 + position) (R179). -/
def State.regionEnds (s : State) (p : Fin 168) (write : Bool) (who off len : Nat) : List (Nat × Nat) :=
  (granOffs off len).filterMap fun o =>
    match s.regionOf p o with
    | some n =>
      if s.regionMode p n < 2 then none
      else if (if write then s.regionProducer p n else s.regionConsumer p n) ≠ who then none
      else some (n, s.regionPos p n o + 64)
    | none => none

/-- HEAD of regions advances to the larger of HEAD and the ends given (R179). -/
def State.advanceHeads (s : State) (p : Fin 168) (ends : List (Nat × Nat)) : State :=
  ends.foldl (fun st e => if st.regionHead p (e.1 % 64) < e.2 then st.setReg (.site p) (0x18501008 + 32 * (e.1 % 64)) (w64 e.2) else st) s

/-- TAIL of regions advances to the larger of TAIL and the ends given (R179). -/
def State.advanceTails (s : State) (p : Fin 168) (ends : List (Nat × Nat)) : State :=
  ends.foldl (fun st e => if st.regionTail p (e.1 % 64) < e.2 then st.setReg (.site p) (0x18501010 + 32 * (e.1 % 64)) (w64 e.2) else st) s

/-! ## Reading -/

/-- The 64 data bytes and the check field of the granule at a core offset, as stored. -/
def State.rawGran (s : State) (p : Fin 168) (off : Nat) : W512 × W64 :=
  (granOf (s.scratch.readBytes (s.cellOf p off (64 * offGran off)) 64),
   w64 (ofBytes (s.scratch.readBytes (s.cellOf p off (512 + 8 * offGran off)) 8)))

/-- The granule at a core offset as a read decodes it (R199). -/
def State.granAt (s : State) (p : Fin 168) (off : Nat) : GranRead := decodeGranule (s.rawGran p off).1 (s.rawGran p off).2

/-- Byte `off` of scratchpad as a narrow read delivers it. -/
def State.byteAt (s : State) (p : Fin 168) (off : Nat) : Byte := BitVec.ofNat 8 ((s.granAt p off).data.toNat / 2 ^ (8 * (off % 64)))

/-- The entry of the watch list for a raw row, else a free one, else the one with the oldest first correction (R201). -/
def State.watchSlot (s : State) (p : Fin 168) (die bank row : Nat) : Nat :=
  let v (n : Nat) := s.reg (.site p) (0x18508200 + 8 * n)
  match lowest 32 fun n => bit (v n) 63 && fld (v n) 60 1 == die && fld (v n) 55 5 == bank && fld (v n) 41 14 == row with
  | some n => n
  | none =>
    match lowest 32 fun n => !bit (v n) 63 with
    | some n => n
    | none =>
      let age (n : Nat) := (s.time + 2 ^ 41 - fld (v n) 0 41) % 2 ^ 41
      (List.range 32).foldl (fun b n => if age b < age n then n else b) 0

/-- Whether a die has a free remap entry and a bank a free usable spare row (R213 step 1, R492). -/
def State.remapFree (s : State) (p : Fin 168) (die bank : Nat) : Option (Nat × Nat) :=
  let v (e : Nat) := s.reg (.site p) (0x18508100 + 64 * die + 8 * e)
  match lowest 8 fun e => !bit (v e) 63 with
  | some e =>
    match lowest 4 fun r => !s.badSpares.contains (p.val * 256 + die * 128 + bank * 4 + r) &&
        (List.range 8).all fun e => !(bit (v e) 63 && fld (v e) 14 5 == bank && fld (v e) 19 2 == r) with
    | some r => some (e, r)
    | none => none
  | none => none

/-- A row's watch count is raised by a read (R201, R202): REMAP_REQUEST when it reaches three, and RETIRE_AT_MAINTENANCE with
RETIRE_PENDING when no remap can be added (R214). -/
def State.watch (s : State) (p : Fin 168) (die bank row weight : Nat) : State :=
  let n := s.watchSlot p die bank row
  let off := 0x18508200 + 8 * n
  let v := s.reg (.site p) off
  let same := bit v 63 && fld v 60 1 == die && fld v 55 5 == bank && fld v 41 14 == row
  let old := if same then fld v 61 2 else 0
  let count := min 3 (old + weight)
  let first := if same then fld v 0 41 else s.time % 2 ^ 41
  let s := s.setReg (.site p) off (w64 (2 ^ 63 + count * 2 ^ 61 + die * 2 ^ 60 + bank * 2 ^ 55 + row * 2 ^ 41 + first))
  if old < 3 && count = 3 then
    let s := s.siteEvent p 0x1003 [die, bank, row]
    if (s.remapFree p die bank).isNone then
      (s.setRf (.site p) 0x18508000 2 1 1).siteEvent p 0x1005 [die, bank, row]
    else s
  else s

/-- An uncorrectable read is recorded in the poison origin log, the oldest entry giving way, and POISON_CREATED is raised (R210). -/
def State.recordOrigin (s : State) (p : Fin 168) (off client : Nat) (classS : Bool) : State :=
  let t (n : Nat) := s.rn (.site p) (0x18508308 + 16 * n)
  let n := match lowest 16 fun n => !bit (s.reg (.site p) (0x18508300 + 16 * n)) 63 with
    | some n => n
    | none => (List.range 16).foldl (fun b n => if t n < t b then n else b) 0
  let s := s.setReg (.site p) (0x18508300 + 16 * n) (w64 (2 ^ 63 + client * 2 ^ 60 + off / 64 % 2 ^ 23 * 2 ^ 6))
  let s := s.setReg (.site p) (0x18508308 + 16 * n) (w64 s.time)
  s.siteEvent p 0x1001 [p.val, s.lcidOf p, offDie off, off / 64 * 64, b01 classS, client]

/-- A granule joins the write-back queue; one already queued absorbs it, and a full queue drops it (R200). -/
def State.queueWriteBack (s : State) (p : Fin 168) (gran : Nat) : State :=
  let q := (s.site p).writeBacks
  if q.contains gran then s
  else if q.length < 16 then s.updSite p fun x => { x with writeBacks := q ++ [gran] }
  else s.count32 (.site p) 0x18508048

/-- How many of a granule's words, of those a read takes (all four, or one), were corrected and how many uncorrectable; a class-S
granule is one unit (R199). -/
def GranRead.outcomes (r : GranRead) (words : List Nat) : Nat × Nat :=
  if r.classS then (b01 (r.w0 == .corrected), b01 (r.w0 == .uncorrectable))
  else ((words.filter fun w => r.word w == .corrected).length, (words.filter fun w => r.word w == .uncorrectable).length)

/-- What a read of a granule leaves behind (R199-R202, R210): the die's counters, the watch, the write-back, and for an uncorrectable
one the origin log. `client` is the DETECTOR code of the reader. -/
def State.noteRead (s : State) (p : Fin 168) (off client : Nat) (words : List Nat) (r : GranRead) : State :=
  let o := r.outcomes words
  if o.1 = 0 && o.2 = 0 then s
  else
    let die := offDie off
    let s := s.count32n (.site p) (0x18508020 + 8 * die) o.1
    let s := s.count32n (.site p) (0x18508030 + 8 * die) o.2
    let s := if (s.site p).writeBacks.contains (off / 64) then s
      else s.watch p die (offBank off) (s.rawRow p off) (if o.2 = 0 then 1 else 3)
    let s := s.queueWriteBack p (off / 64)
    if o.2 = 0 then s else s.recordOrigin p off client r.classS

/-- A granule read through the wide view: its data and mark, and what the read leaves behind. -/
def State.readWide (s : State) (p : Fin 168) (client off : Nat) : State × W512 × Bool :=
  let r := s.granAt p off
  (s.noteRead p off client [0, 1, 2, 3] r, r.data, r.poison != 0)

/-- `n` granules from an offset through the wide view. -/
def State.readGrans (s : State) (p : Fin 168) (client off : Nat) : Nat → State × List Flit
  | 0 => (s, [])
  | n + 1 =>
    let x := s.readWide p client off
    let y := State.readGrans x.1 p client (off + 64) n
    (y.1, ⟨x.2.1, x.2.2⟩ :: y.2)

/-- A span of 512-byte lines counts as grants of a wide-view client (SP_WV_GRANTSc). -/
def State.grants (s : State) (p : Fin 168) (c off len : Nat) : State :=
  if len = 0 then s else s.count64 (.site p) (0x18500020 + 8 * c) ((off + len - 1) / 512 - off / 512 + 1)

/-- The bytes of granules. -/
def flitBytes (l : List Flit) : List Byte := l.flatMap fun f => granBytes f.data

/-! ## Writing -/

/-- The cells of the granule at an offset hold data and a check field. -/
def State.putRaw (s : State) (p : Fin 168) (off : Nat) (data : W512) (check : W64) : State :=
  let m := s.scratch.writeBytes (s.cellOf p off (64 * offGran off)) (granBytes data)
  { s with scratch := m.writeBytes (s.cellOf p off (512 + 8 * offGran off)) (toBytes 8 check.toNat) }

/-- A write removes the granule's queued write-back (R200). -/
def State.dropWriteBack (s : State) (p : Fin 168) (off : Nat) : State :=
  if (s.site p).writeBacks.contains (off / 64) then
    s.updSite p fun x => { x with writeBacks := x.writeBacks.filter (· != off / 64) }
  else s

/-- A wide write of a whole granule in the class its region assigns (R165, R176, R207). -/
def State.writeWide (s : State) (p : Fin 168) (off : Nat) (f : Flit) : State :=
  (s.putRaw p off f.data (checkOf (s.classSAt p off) f.data (if f.poison then 15 else 0))).dropWriteBack p off

/-- Wide writes of granules from an offset. -/
def State.writeGrans (s : State) (p : Fin 168) (off : Nat) : List Flit → State
  | [] => s
  | f :: t => State.writeGrans (s.writeWide p off f) p (off + 64) t

/-- A byte string as clean granules, the last padded with zeros. -/
def cleanGrans (l : List Byte) : List Flit := (bytesToGrans l).map fun d => ⟨d, false⟩

/-- A byte string written over whole granules from a granule-aligned offset. -/
def State.writeBytesWide (s : State) (p : Fin 168) (off : Nat) (l : List Byte) : State := s.writeGrans p off (cleanGrans l)

/-- A narrow store of `size` bytes (R166, R207): the code unit is read, changed and written in its stored class, keeping the tag and
the marks; a unit whose read is uncorrectable is stored poisoned. A store of a whole class-L word reads nothing and leaves the word
clean. -/
def State.writeNarrow (s : State) (p : Fin 168) (off size : Nat) (v : Nat) : State :=
  let raw := s.rawGran p off
  let r := decodeGranule raw.1 raw.2
  let sh := 8 * (off % 64)
  let mask := (2 ^ (8 * size) - 1) * 2 ^ sh
  let w := off % 64 / 16
  let data := (r.data.toNat &&& (2 ^ 512 - 1 - mask)) ||| (v % 2 ^ (8 * size) * 2 ^ sh)
  let whole := !r.classS && size == 16
  let s := if whole then s else s.noteRead p off 4 [w] r
  let s := if r.classS then s.putRaw p off (BitVec.ofNat 512 data) (checkS (BitVec.ofNat 512 data) (r.poison != 0))
    else
      let word := data / 2 ^ (128 * w) % 2 ^ 128
      let stored := setFld raw.1 (128 * w) 128 word
      let check := setFld (setFld raw.2 (9 * w) 9 (secdedCheck word)) (36 + 3 * w) 3 (if bit r.poison w && !whole then 7 else 0)
      s.putRaw p off stored check
  s.dropWriteBack p off

/-- A write-back of a granule (R200): corrected data with POISON as stored, or data as stored with POISON set. -/
def State.writeBackGran (s : State) (p : Fin 168) (off : Nat) : State :=
  let r := s.granAt p off
  s.putRaw p off r.data (checkOf r.classS r.data r.poison)

/-! ## Rows and power segments -/

/-- The 576 bytes of a raw row (R170). -/
def State.rowBytes (s : State) (p die bank row : Nat) : List Byte := s.scratch.readBytes (cellKey p die bank row 0) 576

/-- The state with a raw row written verbatim (R170). -/
def State.putRow (s : State) (p die bank row : Nat) (l : List Byte) : State :=
  { s with scratch := s.scratch.writeBytes (cellKey p die bank row 0) (l.take 576) }

/-- Whether a cell's key lies in a segment of a site: a data row of the segment, or a spare row that stands for one (R172, R211). -/
def State.cellInSeg (s : State) (p : Fin 168) (seg key : Nat) : Bool :=
  let row := key / 576 % 12292
  let bank := key / 576 / 12292 % 32
  let die := key / 576 / 12292 / 32 % 2
  key / 576 / 12292 / 64 == p.val &&
    (if row < 12288 then row / 256 == seg
     else (List.range 8).any fun e =>
      let v := s.reg (.site p) (0x18508100 + 64 * die + 8 * e)
      bit v 63 && fld v 14 5 == bank && fld v 19 2 + 12288 == row && fld v 0 14 / 256 == seg)

/-- The cells of a segment hold zeros (class L, clean). -/
def State.wipeSeg (s : State) (p : Fin 168) (seg : Nat) : State :=
  { s with scratch := s.scratch.filter fun c => !s.cellInSeg p seg c.1 }

/-- The granule offsets of a segment that lie in a class-S region. -/
def State.segClassS (s : State) (p : Fin 168) (seg : Nat) : List Nat :=
  (List.range 64).flatMap fun n =>
    if s.regionMode p n ≠ 0 && bit (s.regionCfg p n) 3 then
      (granOffs (s.regionBase p n) (s.regionSize p n)).filter fun o => o / 2 ^ 23 == seg
    else []

/-- The hardware zero-fill of a segment through the wide view: every byte zero, class tags as the regions say (R174, R176). -/
def State.zeroSeg (s : State) (p : Fin 168) (seg : Nat) : State :=
  (s.segClassS p seg).foldl (fun st o => st.writeWide p o ⟨0, false⟩) (s.wipeSeg p seg)

/-- SP_SEG_ON is written (R172): segments switched off lose their cells. -/
def State.setSegOn (s : State) (p : Fin 168) (mask : Nat) : State :=
  let off := (List.range 48).filter fun g => bit (s.reg (.site p) 0x18500010) g && mask / 2 ^ g % 2 = 0
  (off.foldl (fun st g => st.wipeSeg p g) s).setReg (.site p) 0x18500010 (w64 (mask % 2 ^ 48))

end Sys2Proof.Machine
end

