-- ==== Sys2Proof/Machine/Packets.lean ====
section
/-! DEFINITION. The request plane at its ends: the arrival checks and the answers (R264, R272), and the source's record of a violation
(R519). -/

namespace Sys2Proof.Machine

/-! ## Answers -/

/-- SRC and SRC_UNIT under which a place answers: its core's LCID at a ring-stop, the service target elsewhere. -/
def State.selfId (s : State) (here : Place) (k : Packet) : Nat × Nat :=
  match here with
  | .stop p => if k.dest = 0xF2 then (0xF2, p.val) else (s.lcidOf p, 0)
  | .stack x => (0xFC, x.val)
  | .die d => (0xF8, d.val)
  | .gov g => (0xF4, g.val)
  | .mgmt south => (if south == s.activeSouth then 0xF0 else 0xF1, 0)

/-- The TAG a place's answers carry: SITE_TAG at a ring-stop, 0xFE from the management die, the request's own TAG elsewhere. -/
def State.selfTag (s : State) (here : Place) (k : Packet) : Nat :=
  match here with
  | .stop p => s.siteTag p
  | .mgmt _ => 0xFE
  | _ => k.tag.toNat

/-- The incoming edge of a packet at a stop: 0 west, 1 east, 2 north, 3 south, by where its source lies (R251). -/
def edgeFrom (src : Place) (p : Fin 168) : Nat :=
  let a := attachStop src
  if siteRow a < siteRow p then 2 else if siteRow p < siteRow a then 3 else if siteCol a < siteCol p then 0 else 1

/-- Where a packet in flight came from; the place itself when none is in flight. -/
def State.flightSrc (s : State) (here : Place) (k : Packet) : Place :=
  match s.net.find? fun f => f.dst == here && f.pkt == k with
  | some f => f.src
  | none => here

/-- The position of a stop on the bundle of a multicast packet. -/
def mcastPos (here : Place) (k : Packet) : Nat :=
  if isMcast k then
    match here with
    | .stop p => if bit k.aux 15 then siteRow p + 1 else siteCol p
    | _ => 0
  else 0

/-- A packet is sunk: counted in SINK_COUNT and in the reason's counter at a ring-stop, and answered by a NACK (R272). -/
def State.nack (s : State) (here : Place) (k : Packet) (reason : Nat) (violation : Bool) : State :=
  let me := s.selfId here k
  let s := match here with
    | .stop p => (s.count32 (.site p) 0x18710190).count32 (.site p) (0x18710200 + 8 * reason)
    | _ => s
  s.inject here (nackOf k me.1 me.2 (s.selfTag here k) reason (mcastPos here k) violation)

/-- The answer of a type to a request: its SEQ, CTX and ADDR return, and AUX[7:0] holds the request's TYPE (log entry 6). -/
def State.answer (s : State) (here : Place) (k : Packet) (typ : Nat) : Packet :=
  let me := s.selfId here k
  { mkPacket typ k.src.toNat k.srcUnit.toNat me.1 me.2 (s.selfTag here k) k.seq.toNat with
    ctx := k.ctx, addr := k.addr, aux := BitVec.ofNat 32 k.typ.toNat }

/-- A request is acknowledged (R263). -/
def State.ack (s : State) (here : Place) (k : Packet) : State := s.inject here (s.answer here k 0x11)

/-- A malformed packet is sunk without a NACK (R262). -/
def State.malformed (s : State) (here : Place) (k : Packet) (src : Place) : State :=
  match here with
  | .stop p =>
    (s.count32 (.site p) 0x18710198).frameEvent p 0x2011 (s.partOf p)
      [p.val, edgeFrom src p, k.typ.toNat, k.src.toNat, 1] (some 4)
  | .stack x =>
    s.event 0x2011 4 x.val 0xFF 0xFF [x.val, edgeFrom src (attachStop here), k.typ.toNat, k.src.toNat, 1]
  | _ => s

/-- Checks 1 and 2 of R272 at a core's stop: the reason that refuses, none when both pass. -/
def State.coreRefusal (s : State) (p : Fin 168) : Option Nat :=
  let st := s.coreState p
  if st = 0 || st = 1 || st = 3 || st = 4 then some 0x04
  else if st = 5 then some 0x05
  else none

/-- Check 3 of R272 for packets that are no PUT: the partition check of R182. -/
def State.tagOk (s : State) (p : Fin 168) (k : Packet) : Bool := k.tag = 0xFE || k.tag.toNat = s.siteTag p

/-- Whether a remote access is aligned, inside scratchpad and in powered segments (R173, R182). -/
def State.remoteSpanOk (s : State) (p : Fin 168) (addr len : Nat) : Bool :=
  addr % 64 = 0 && len % 64 = 0 && s.spanOn p addr len

/-! ## The source's side of a violation (R519) -/

/-- The customer rings of a mover report FAULTED with reason FROZEN, and the control core gets one ENGINE_FAULT (R150, R518). -/
def State.freezeMover (s : State) (p : Fin 168) (ring : Nat) : State :=
  if s.mvFrozen p then s
  else
    let token := match (Sparse.get MvRing.init (s.site p).rings ring).run with
      | some r => BitVec.ofNat 32 (bytesAt r.desc.bytes 28 4)
      | none => match (Sparse.get MvRing.init (s.site p).rings ring).queue with
        | d :: _ => BitVec.ofNat 32 (bytesAt d.bytes 28 4)
        | [] => 0
    let s := s.setRf (.site p) 0x18000000 12 1 1
    let s := (List.range 8).foldl (fun st r =>
      st.setReg (.site p) (0x18502000 + 32 * r)
        (setFld (setFld (st.reg (.site p) (0x18502000 + 32 * r)) 8 8 0x26) 1 1 1)) s
    let s := s.updSite p fun x => { x with rings := Sparse.put MvRing.init x.rings ring { Sparse.get MvRing.init x.rings ring with token := token } }
    let s := s.coreEvent p 0x7021 [2, ring, 0x26, token.toNat]
    s.updCc p fun c => { c with engPending := c.engPending ++ [⟨2, ring, 0x26, token⟩] }

/-- The panel address that a refused packet named (R36, R519, FREEZE_ADDR): its ADDR at the target that refused it. -/
def nackPA (k : Packet) : Nat :=
  if k.src.toNat < 144 || k.src = 0xF8 then k.src.toNat * 2 ^ 43 + k.addr.toNat % 2 ^ 43
  else if k.src = 0xFC then 2 ^ 51 + k.srcUnit.toNat * 2 ^ 41 + k.addr.toNat % 2 ^ 36
  else k.addr.toNat

/-- A NACK with AUX[12] set reaches its source stop (R519): the master is frozen and PARTITION_VIOLATION raised by the first; later ones are
counted. Channel and barrier packets are the control core's, all others the mover's. -/
def State.violationNack (s : State) (p : Fin 168) (k : Packet) (ring : Nat) : State :=
  let refused := fld k.aux 0 8
  let master := if refused = 0x04 || refused = 0x06 || refused = 0x07 || refused = 0x21 then 1 else 2
  let detector := if k.src.toNat < 144 || k.src = 0xF2 then 2 else if k.src = 0xFC then 3 else if k.src = 0xF8 then 4 else 2
  let detId := if k.src.toNat < 144 then ((s.siteOf k.src.toNat).map Fin.val).getD 0 else k.srcUnit.toNat
  let frozen := if master = 1 then !s.coreRuns p else s.mvFrozen p || !s.coreRuns p
  let s := s.recordViolation p master detector k.src.toNat k.srcUnit.toNat 0x9002 detId (nackPA k)
  if frozen then s
  else
    let s := s.coreEvent p 0x9002
      [s.lcidOf p, master, k.src.toNat * 256 + k.srcUnit.toNat, k.addr.toNat, refused]
    if master = 1 then s.freezeCore p 0x9002 else s.freezeMover p ring

end Sys2Proof.Machine
end

