-- ==== Sys2Proof/Machine/Num.lean ====
section
/-! DEFINITION. Numbers: the storage formats (R42-R48), conversions (R49-R51), seeded stochastic rounding (R52, R53), FP32
arithmetic with one rounding (R43, R44, R55, R107), and the functions of the vector engine (R107-R109). -/

namespace Sys2Proof.Machine

/-- A value as arithmetic sees it: NaN, an infinity, or (-1)^neg * m * 2^e exactly. -/
inductive Fp
  | nan
  | inf (neg : Bool)
  | fin (neg : Bool) (m : Nat) (e : Int)
  deriving DecidableEq, Repr

/-- Rounding modes: RNE, RTZ, and SR with its 24-bit draw (R50, R53). -/
inductive RMode
  | rne
  | rtz
  | sr (u : Nat)
  deriving DecidableEq, Repr

/-- A binary floating-point layout: mantissa bits, exponent bits, bias, and what the top exponent field holds
(0 finite values only, 1 the E4M3 rule, 2 infinities and NaNs). -/
structure FpFmt where
  mb : Nat
  eb : Nat
  bias : Nat
  top : Nat
  deriving DecidableEq, Repr

/-- The layout of a format code (R42); the codes of MX formats give their elements. -/
def fpFmt (code : Nat) : FpFmt :=
  match code with
  | 0x0 => ⟨23, 8, 127, 2⟩
  | 0x1 => ⟨10, 5, 15, 2⟩
  | 0x2 => ⟨7, 8, 127, 2⟩
  | 0x3 => ⟨3, 4, 7, 1⟩
  | 0x6 => ⟨3, 4, 7, 1⟩
  | 0x4 => ⟨2, 5, 15, 2⟩
  | 0x7 => ⟨2, 5, 15, 2⟩
  | 0x8 => ⟨3, 2, 1, 0⟩
  | 0x9 => ⟨2, 3, 3, 0⟩
  | _ => ⟨1, 2, 1, 0⟩

/-- Whether a code is an MX format. -/
def isMx (code : Nat) : Bool := decide (6 ≤ code) && decide (code ≤ 0xB)

/-- Whether a code is INT8 or MXINT8. -/
def isInt8 (code : Nat) : Bool := code == 5 || code == 0xB

/-- The bits of one element of a format (R42, R111). -/
def fmtBits (code : Nat) : Nat :=
  match code with
  | 0x0 => 32
  | 0x1 => 16
  | 0x2 => 16
  | 0x8 => 6
  | 0x9 => 6
  | 0xA => 4
  | 0xC => 128
  | 0xD => 128
  | _ => 8

/-- The exponent of the least significant bit of a layout's subnormals. -/
def FpFmt.lsb (f : FpFmt) : Int := 1 - (f.bias : Int) - (f.mb : Int)

/-- The value of an element's bits by its layout. -/
def FpFmt.value (f : FpFmt) (x : Nat) : Fp :=
  let man := x % 2 ^ f.mb
  let ex := x / 2 ^ f.mb % 2 ^ f.eb
  let neg := x / 2 ^ (f.mb + f.eb) % 2 == 1
  let last := ex == 2 ^ f.eb - 1
  if f.top = 2 && last then (if man = 0 then .inf neg else .nan)
  else if f.top = 1 && last && man == 2 ^ f.mb - 1 then .nan
  else if ex = 0 then .fin neg man f.lsb
  else .fin neg (2 ^ f.mb + man) (f.lsb + ((ex : Int) - 1))

/-- A two's-complement byte as an integer. -/
def int8Of (x : Nat) : Int := if x % 256 < 128 then (x % 256 : Int) else (x % 256 : Int) - 256

/-- An integer times a power of two. -/
def Fp.ofInt (i : Int) (e : Int) : Fp := .fin (decide (i < 0)) i.natAbs e

/-- The exact value of an element before its scale. -/
def elemValue (code x : Nat) : Fp :=
  if code = 5 then .ofInt (int8Of x) 0
  else if code = 0xB then .ofInt (int8Of x) (-6)
  else (fpFmt code).value x

/-- A value times 2^k. -/
def Fp.shift (k : Int) : Fp → Fp
  | .nan => .nan
  | .inf n => .inf n
  | .fin n m e => .fin n m (e + k)

/-- The exact value of an MX element with its scale byte; scale 0xFF reads as NaN (R45, R47). -/
def mxValue (code x scale : Nat) : Fp := if scale % 256 = 255 then .nan else (elemValue code x).shift ((scale % 256 : Int) - 127)

/-! ## Rounding -/

/-- The magnitude m * 2^e moved to the grid 2^x by a rounding mode, as a count of grid steps (R50, R53). -/
def roundTo (mode : RMode) (m : Nat) (e x : Int) : Nat :=
  if x ≤ e then m * 2 ^ (e - x).toNat
  else
    let k := (x - e).toNat
    let q := m / 2 ^ k
    let r := m % 2 ^ k
    match mode with
    | .rne => if 2 * r > 2 ^ k then q + 1 else if 2 * r = 2 ^ k then q + q % 2 else q
    | .rtz => q
    | .sr u => if r * 2 ^ 24 / 2 ^ k + u ≥ 2 ^ 24 then q + 1 else q

/-- The number of bits of a natural number. -/
def bitLen (m : Nat) : Nat := if m = 0 then 0 else m.log2 + 1

/-- The grid exponent for a magnitude in a layout with unbounded range: the spacing of its binade, not below the subnormals'. -/
def FpFmt.grid (f : FpFmt) (m : Nat) (e : Int) : Int := max f.lsb (e + bitLen m - 1 - f.mb)

/-- A rounded magnitude q * 2^x (q at most 2^(mb+1)) as the exponent and mantissa bits of a layout. -/
def FpFmt.bits (f : FpFmt) (q : Nat) (x : Int) : Nat :=
  let q' := if q ≥ 2 ^ (f.mb + 1) then q / 2 else q
  let x' := if q ≥ 2 ^ (f.mb + 1) then x + 1 else x
  if q' < 2 ^ f.mb then q' else ((x' - f.lsb).toNat + 1) * 2 ^ f.mb + (q' - 2 ^ f.mb)

/-- The bits of the largest finite value of a layout. -/
def FpFmt.maxBits (f : FpFmt) : Nat :=
  if f.top = 2 then (2 ^ f.eb - 1) * 2 ^ f.mb - 1
  else if f.top = 1 then 2 ^ (f.eb + f.mb) - 2
  else 2 ^ (f.eb + f.mb) - 1

/-- The canonical NaN of a layout with NaNs (R44). -/
def FpFmt.nanBits (f : FpFmt) : Nat :=
  if f.top = 1 then 2 ^ (f.eb + f.mb) - 1 else (2 ^ f.eb - 1) * 2 ^ f.mb + 2 ^ (f.mb - 1)

/-- A value narrowed to a format of codes 0-5 with one rounding (R50, Narrowing conversions). -/
def narrow (code : Nat) (mode : RMode) (v : Fp) : Nat :=
  if code = 5 then
    match v with
    | .nan => 0
    | .inf n => if n then 128 else 127
    | .fin n m e =>
      let q := roundTo mode m e 0
      if n then (256 - min q 128) % 256 else min q 127
  else
    let f := fpFmt code
    let sign (n : Bool) := b01 n * 2 ^ (f.mb + f.eb)
    match v with
    | .nan => f.nanBits
    | .inf n => if f.top = 2 then sign n + (2 ^ f.eb - 1) * 2 ^ f.mb else f.nanBits
    | .fin n m e =>
      let x := f.grid m e
      let b := f.bits (roundTo mode m e x) x
      if b ≤ f.maxBits then sign n + b
      else if mode = .rne && code ≤ 2 then sign n + (2 ^ f.eb - 1) * 2 ^ f.mb
      else sign n + f.maxBits

/-- A value rounded to FP32 (R107). -/
def rnd32 (mode : RMode) (v : Fp) : Fp := (fpFmt 0).value (narrow 0 mode v)

/-- A value rounded to FP32 by RNE. -/
def rne32 (v : Fp) : Fp := rnd32 .rne v

/-- The FP32 bits of a value that is an FP32 value. -/
def fp32Bits (v : Fp) : W32 := BitVec.ofNat 32 (narrow 0 .rne v)

/-- The value of FP32 bits. -/
def fp32 (x : W32) : Fp := (fpFmt 0).value x.toNat

/-- An element widened to FP32 (R49); `scale` is used by MX formats alone. -/
def widen (code x scale : Nat) : Fp := if isMx code then rne32 (mxValue code x scale) else elemValue code x

/-! ## Quantising to MX (R51-R53) -/

/-- The exponent of an element type's largest normal power of two. -/
def emaxOf (code : Nat) : Int :=
  match code with
  | 0x6 => 8
  | 0x7 => 15
  | 0x8 => 2
  | 0x9 => 4
  | 0xA => 2
  | _ => 0

/-- fmix of R52. -/
def fmix (x : W64) : W64 :=
  let x := x ^^^ (x >>> 33)
  let x := x * 0xFF51AFD7ED558CCD
  let x := x ^^^ (x >>> 33)
  let x := x * 0xC4CEB9FE1A85EC53
  x ^^^ (x >>> 33)

/-- The 24-bit draw of R52. -/
def srBits (seed : W64) (lcid stream step index : Nat) : Nat :=
  (fmix (seed ^^^ fmix (w64 (lcid * 2 ^ 56 + stream * 2 ^ 48 + step % 2 ^ 16 * 2 ^ 32 + index % 2 ^ 32)))).toNat / 2 ^ 40

/-- One element of a block divided by 2^x, rounded and saturated (R51, R53). -/
def quantElem (code : Nat) (mode : RMode) (x : Int) (v : Fp) : Nat :=
  match v with
  | .fin n m e =>
    if code = 0xB then
      let q := min (roundTo mode m (e - x) (-6)) 127
      if n then (256 - q) % 256 else q
    else
      let f := fpFmt code
      let g := f.grid m (e - x)
      b01 n * 2 ^ (f.mb + f.eb) + min (f.bits (roundTo mode m (e - x) g) g) f.maxBits
  | _ => 0

/-- Whether a value is zero. -/
def Fp.isZero : Fp → Bool
  | .fin _ m _ => m == 0
  | _ => false

/-- Whether a value is NaN. -/
def Fp.isNan : Fp → Bool
  | .nan => true
  | _ => false

/-- Whether a value is finite. -/
def Fp.isFin : Fp → Bool
  | .fin _ _ _ => true
  | _ => false

/-- Whether a value has a minus sign. -/
def Fp.neg : Fp → Bool
  | .nan => false
  | .inf n => n
  | .fin n _ _ => n

/-- floor(log2 |v|) of a finite value that is not zero. -/
def Fp.exponent : Fp → Int
  | .fin _ m e => e + bitLen m - 1
  | _ => 0

/-- 32 FP32 values as one MX block: the scale byte and the element codes (R51); `mode i` is the rounding of element i. -/
def quantBlock (code : Nat) (mode : Nat → RMode) (vs : List Fp) : Nat × List Nat :=
  if vs.any (fun v => !v.isFin) then (255, vs.map fun _ => 0)
  else
    let nz := vs.filter fun v => !v.isZero
    let x : Int := match nz with
      | [] => -127
      | v :: t => max (t.foldl (fun a w => max a w.exponent) v.exponent - emaxOf code) (-127)
    ((x + 127).toNat, (vs.zip (List.range vs.length)).map fun vi => quantElem code (mode vi.2) x vi.1)

/-! ## Exact arithmetic and one rounding -/

/-- The signed mantissa of a finite value at exponent `x`, which is at most its own. -/
def signedAt (n : Bool) (m : Nat) (e x : Int) : Int := (if n then -1 else 1) * ((m * 2 ^ (e - x).toNat : Nat) : Int)

/-- The exact product; infinity times zero is NaN (R55). -/
def Fp.mul : Fp → Fp → Fp
  | .nan, _ => .nan
  | _, .nan => .nan
  | .inf a, .inf b => .inf (a != b)
  | .inf a, .fin b m _ => if m = 0 then .nan else .inf (a != b)
  | .fin a m _, .inf b => if m = 0 then .nan else .inf (a != b)
  | .fin a m e, .fin b m' e' => .fin (a != b) (m * m') (e + e')

/-- The exact sum; an exact zero is +0 unless both are -0; opposite infinities give NaN (R43). -/
def Fp.add : Fp → Fp → Fp
  | .nan, _ => .nan
  | _, .nan => .nan
  | .inf a, .inf b => if a = b then .inf a else .nan
  | .inf a, .fin _ _ _ => .inf a
  | .fin _ _ _, .inf b => .inf b
  | .fin a m e, .fin b m' e' =>
    let x := min e e'
    let t := signedAt a m e x + signedAt b m' e' x
    if t = 0 then .fin (m == 0 && m' == 0 && a && b) 0 x else .ofInt t x

/-- The opposite; NaN stays NaN. -/
def Fp.opp : Fp → Fp
  | .nan => .nan
  | .inf n => .inf (!n)
  | .fin n m e => .fin (!n) m e

/-- The magnitude. -/
def Fp.abs : Fp → Fp
  | .nan => .nan
  | .inf _ => .inf false
  | .fin _ m e => .fin false m e

/-- FP32 addition by RNE. -/
def add32 (a b : Fp) : Fp := rne32 (a.add b)

/-- FP32 product by RNE. -/
def mul32 (a b : Fp) : Fp := rne32 (a.mul b)

/-- FP32 fused multiply-add with one rounding. -/
def fma32 (a b c : Fp) : Fp := rne32 ((a.mul b).add c)

/-- Whether a < b as numbers (zeros equal); false with a NaN. -/
def Fp.lt : Fp → Fp → Bool
  | .nan, _ => false
  | _, .nan => false
  | .inf a, .inf b => a && !b
  | .inf a, .fin _ _ _ => a
  | .fin _ _ _, .inf b => !b
  | .fin a m e, .fin b m' e' => decide (signedAt a m e (min e e') < signedAt b m' e' (min e e'))

/-- Whether a = b as numbers (zeros equal); false with a NaN. -/
def Fp.eq (a b : Fp) : Bool := !a.isNan && !b.isNan && !a.lt b && !b.lt a

/-- Whether a < b with -0 below +0. -/
def Fp.ltz (a b : Fp) : Bool := a.lt b || (a.eq b && a.isZero && a.neg && !b.neg)

/-- MIN of R107. -/
def Fp.min (a b : Fp) : Fp := if a.isNan then b else if b.isNan then a else if b.ltz a then b else a

/-- MAX of R107. -/
def Fp.max (a b : Fp) : Fp := if a.isNan then b else if b.isNan then a else if a.ltz b then b else a

/-! ## Quotients and roots, with a sticky bit -/

/-- The integer square root by bits: the largest r with r * r ≤ n among the r below 2^k. -/
def isqrtAux (n : Nat) : Nat → Nat → Nat
  | 0, r => r
  | k + 1, r => if (r + 2 ^ k) * (r + 2 ^ k) ≤ n then isqrtAux n k (r + 2 ^ k) else isqrtAux n k r

/-- The integer square root. -/
def isqrt (n : Nat) : Nat := isqrtAux n (n.log2 / 2 + 1) 0

/-- A truncated magnitude q * 2^e with a sticky bit, as a value that rounds as the exact one does when q has more bits than FP32. -/
def sticky (n : Bool) (q : Nat) (exact : Bool) (e : Int) : Fp := .fin n (2 * q + b01 (!exact)) (e - 1)

/-- The quotient of two magnitudes that are not zero. -/
def divMag (n : Bool) (m : Nat) (e : Int) (m' : Nat) (e' : Int) : Fp :=
  let k := bitLen m' + 40
  sticky n (m * 2 ^ k / m') (m * 2 ^ k % m' == 0) (e - e' - k)

/-- DIV before rounding (R107). -/
def Fp.div : Fp → Fp → Fp
  | .nan, _ => .nan
  | _, .nan => .nan
  | .inf _, .inf _ => .nan
  | .inf a, .fin b _ _ => .inf (a != b)
  | .fin a _ _, .inf b => .fin (a != b) 0 0
  | .fin a m e, .fin b m' e' =>
    if m' = 0 then (if m = 0 then .nan else .inf (a != b))
    else if m = 0 then .fin (a != b) 0 0
    else divMag (a != b) m e m' e'

/-- The value 1. -/
def Fp.one : Fp := .fin false 1 0

/-- The value +0. -/
def Fp.zero : Fp := .fin false 0 0

/-- SQRT before rounding (R107). -/
def Fp.sqrt : Fp → Fp
  | .nan => .nan
  | .inf n => if n then .nan else .inf false
  | .fin n m e =>
    if m = 0 then .fin n 0 0
    else if n then .nan
    else
      let k : Nat := 64 + (e % 2).toNat
      let q := isqrt (m * 2 ^ k)
      sticky false q (q * q == m * 2 ^ k) ((e - k) / 2)

/-- RSQRT before rounding (R107). -/
def Fp.rsqrt : Fp → Fp
  | .nan => .nan
  | .inf n => if n then .nan else .fin false 0 0
  | .fin n m e =>
    if m = 0 then .inf n
    else if n then .nan
    else
      let k : Nat := 2 * bitLen m + 100 + (e % 2).toNat
      let q := isqrt (2 ^ k / m)
      sticky false q (q * q * m == 2 ^ k) ((-e - k) / 2)

/-! ## Exponentials and logarithms (R107), by fixed-point series of 256 fraction bits -/

/-- The fixed-point fraction bits of the function series. -/
def fxBits : Nat := 256

/-- The terms sum of x^i / i! from i to i + n - 1, `t` the i-th term, all scaled by 2^256. -/
def expSeries (x : Nat) : Nat → Nat → Nat → Nat → Nat
  | 0, _, _, acc => acc
  | n + 1, i, t, acc => expSeries x n (i + 1) (t * x / 2 ^ fxBits / (i + 1)) (acc + t)

/-- e^x for 0 ≤ x < 1, x and the answer scaled by 2^256. -/
def fxExp (x : Nat) : Nat := expSeries x 80 0 (2 ^ fxBits) 0

/-- The sum of z^(2j+1)/(2j+1), `t` the power. -/
def atanhSeries (z2 : Nat) : Nat → Nat → Nat → Nat → Nat
  | 0, _, _, acc => acc
  | n + 1, d, t, acc => atanhSeries z2 n (d + 2) (t * z2 / 2 ^ fxBits) (acc + t / d)

/-- ln y for 1 ≤ y ≤ 2, y given as a ratio a / b, the answer scaled by 2^256. -/
def fxLn (a b : Nat) : Nat :=
  let z := (a - b) * 2 ^ fxBits / (a + b)
  2 * atanhSeries (z * z / 2 ^ fxBits) 90 1 z 0

/-- ln 2 scaled by 2^256. -/
def fxLn2 : Nat := fxLn 2 1

/-- A dyadic m * 2^e scaled by 2^256 (e at least -256 loses nothing). -/
def fxOf (n : Bool) (m : Nat) (e : Int) : Int :=
  let k := e + fxBits
  (if n then -1 else 1) * ((if 0 ≤ k then m * 2 ^ k.toNat else m / 2 ^ (-k).toNat : Nat) : Int)

/-- EXP2 before rounding. -/
def Fp.exp2 : Fp → Fp
  | .nan => .nan
  | .inf n => if n then Fp.zero else .inf false
  | .fin n m e =>
    if m = 0 then Fp.one
    else if 0 ≤ e + bitLen m - 9 then (if n then Fp.zero else .inf false)
    else
      let t := fxOf n m e
      let i := t / (2 ^ fxBits : Nat)
      let f := (t % (2 ^ fxBits : Nat)).toNat
      if f = 0 then .fin false 1 i else sticky false (fxExp (f * fxLn2 / 2 ^ fxBits)) false (i - fxBits)

/-- EXP before rounding. -/
def Fp.exp : Fp → Fp
  | .nan => .nan
  | .inf n => if n then Fp.zero else .inf false
  | .fin n m e =>
    if m = 0 then Fp.one
    else if 0 ≤ e + bitLen m - 9 then (if n then Fp.zero else .inf false)
    else
      let t := fxOf n m e
      let i := t / (fxLn2 : Int)
      sticky false (fxExp (t % (fxLn2 : Int)).toNat) false (i - fxBits)

/-- LOG2 (base2) or LOG before rounding. -/
def Fp.log (base2 : Bool) : Fp → Fp
  | .nan => .nan
  | .inf n => if n then .nan else .inf false
  | .fin n m e =>
    if m = 0 then .inf true
    else if n then .nan
    else
      let k := e + bitLen m - 1
      let l := fxLn m (2 ^ (bitLen m - 1))
      if m = 2 ^ (bitLen m - 1) && (base2 || k == 0) then .ofInt k 0
      else
        let t : Int := if base2 then k * (2 ^ fxBits : Nat) + (l * 2 ^ fxBits / fxLn2 : Nat) else k * (fxLn2 : Int) + l
        sticky (decide (t < 0)) t.natAbs false (-(fxBits : Int))

/-! ## Rounding to integers -/

/-- A finite value rounded to an integer by a rule on (floor of the magnitude, remainder compared with one half, sign); the sign of zero
is kept. -/
def Fp.toIntegral (up : Bool → Nat → Nat → Nat → Bool) : Fp → Fp
  | .fin n m e =>
    if 0 ≤ e then .fin n m e
    else
      let k := (-e).toNat
      let q := m / 2 ^ k
      let r := m % 2 ^ k
      .fin n (if up n q r (2 ^ k) then q + 1 else q) 0
  | v => v

/-- TRUNC. -/
def Fp.trunc (v : Fp) : Fp := v.toIntegral fun _ _ _ _ => false

/-- FLOOR. -/
def Fp.floor (v : Fp) : Fp := v.toIntegral fun n _ r _ => n && r != 0

/-- CEIL. -/
def Fp.ceil (v : Fp) : Fp := v.toIntegral fun n _ r _ => !n && r != 0

/-- RINT. -/
def Fp.rint (v : Fp) : Fp := v.toIntegral fun _ q r d => decide (2 * r > d) || (2 * r == d && q % 2 == 1)

/-- The integer of an integral finite value. -/
def Fp.toInt : Fp → Int
  | .fin n m e => (if n then -1 else 1) * ((if 0 ≤ e then m * 2 ^ e.toNat else m / 2 ^ (-e).toNat : Nat) : Int)
  | _ => 0

/-! ## Reference-order dot products (R56) -/

/-- One level of the balanced tree. -/
def treeLevel : List Fp → List Fp
  | a :: b :: t => add32 a b :: treeLevel t
  | l => l

/-- A balanced tree of FP32 additions in index order (R56 step 2), `k` levels at most. -/
def treeSum : Nat → List Fp → Fp
  | _, [] => Fp.zero
  | _, [a] => a
  | 0, a :: _ => a
  | k + 1, l => treeSum k (treeLevel l)

/-- The tree sum of a chunk of at most 512 values. -/
def chunkSum (l : List Fp) : Fp := treeSum 10 l

/-- Rounded products summed in the reference order into a starting value (R56). -/
def dot32 (start : Option Fp) (ps : List Fp) : Option Fp :=
  (chunks 256 ((ps.length + 255) / 256) ps).foldl (fun acc c =>
    match acc with
    | some a => some (add32 a (chunkSum c))
    | none => some (chunkSum c)) start

/-- Element `i` of a little-endian bit stream of `w`-bit elements (R46). -/
def streamElem (x w i : Nat) : Nat := x / 2 ^ (w * i) % 2 ^ w

/-- The little-endian bit stream of element codes (R46), as a number. -/
def packElems (w : Nat) : List Nat → Nat
  | [] => 0
  | c :: t => c % 2 ^ w + 2 ^ w * packElems w t

end Sys2Proof.Machine
end

