-- ==== Sys2Proof/Machine/Wa96.lean ====
section
/-! DEFINITION. The WA96 accumulator (R60-R67): contributions, merging, readout and the two 128-bit forms. -/

namespace Sys2Proof.Machine

/-- A WA96 accumulation state (R62): the 104-bit sum, the wrap count and the flags. -/
structure Wa where
  s : Nat
  w : Int
  loss : Bool
  pos : Bool
  neg : Bool
  nan : Bool
  deriving DecidableEq, Repr

/-- The empty accumulator. -/
def Wa.zero : Wa := ⟨0, 0, false, false, false, false⟩

/-- S as a signed integer. -/
def Wa.signed (a : Wa) : Int := if a.s < 2 ^ 103 then a.s else (a.s : Int) - 2 ^ 104

/-- A sum and a wrap count brought into range: S modulo 2^104 with carries into W, W held at its limits with HUGE set (R62, R64). -/
def Wa.settle (a : Wa) (sum : Int) (w : Int) : Wa :=
  let carry := (sum + 2 ^ 103) / 2 ^ 104
  let w := w + carry
  { a with
    s := ((sum - carry * 2 ^ 104) % 2 ^ 104).toNat
    w := if w > 2 ^ 19 - 1 then 2 ^ 19 - 1 else if w < -2 ^ 19 then -2 ^ 19 else w
    pos := a.pos || decide (w > 2 ^ 19 - 1)
    neg := a.neg || decide (w < -2 ^ 19) }

/-- One contribution is added (R61, R62). -/
def Wa.add (anchor : Int) (a : Wa) (p : Fp) : Wa :=
  match p with
  | .nan => { a with nan := true }
  | .inf n => if n then { a with neg := true } else { a with pos := true }
  | .fin n m e =>
    let k := e - (anchor - 48)
    let c := if 0 ≤ k then m * 2 ^ k.toNat else m / 2 ^ (-k).toNat
    let exact := 0 ≤ k || m % 2 ^ (-k).toNat == 0
    let a := { a with loss := a.loss || !exact }
    if 2 ^ 95 ≤ c then (if n then { a with neg := true } else { a with pos := true })
    else a.settle (a.signed + (if n then -(c : Int) else c)) a.w

/-- Two partials merge (R63). -/
def Wa.merge (a b : Wa) : Wa :=
  let f : Wa := ⟨a.s, a.w, a.loss || b.loss, a.pos || b.pos, a.neg || b.neg, a.nan || b.nan⟩
  f.settle (a.signed + b.signed) (a.w + b.w)

/-- The readout of R65: the value as a count of units, NAN, OVER, LOSS. -/
def Wa.readout (a : Wa) : Int × Bool × Bool × Bool :=
  let e := a.signed + a.w * 2 ^ 104
  if a.nan || (a.pos && a.neg) then (0, true, false, a.loss)
  else if a.pos then (2 ^ 95 - 1, false, true, a.loss)
  else if a.neg then (-2 ^ 95, false, true, a.loss)
  else if e > 2 ^ 95 - 1 then (2 ^ 95 - 1, false, true, a.loss)
  else if e < -2 ^ 95 then (-2 ^ 95, false, true, a.loss)
  else (e, false, false, a.loss)

/-- A partial's 128 bits (R67). -/
def Wa.pack (a : Wa) : Nat :=
  a.s % 2 ^ 104 + (a.w % (2 : Int) ^ 20).toNat * 2 ^ 104 + b01 a.loss * 2 ^ 124 + b01 a.pos * 2 ^ 125 + b01 a.neg * 2 ^ 126 +
    b01 a.nan * 2 ^ 127

/-- A partial from its 128 bits (R67). -/
def Wa.unpack (x : Nat) : Wa :=
  let w : Nat := x / 2 ^ 104 % 2 ^ 20
  ⟨x % 2 ^ 104, if w < 2 ^ 19 then (w : Int) else (w : Int) - 2 ^ 20, x / 2 ^ 124 % 2 == 1, x / 2 ^ 125 % 2 == 1,
    x / 2 ^ 126 % 2 == 1, x / 2 ^ 127 % 2 == 1⟩

/-- A result's 128 bits (R67). -/
def Wa.result (a : Wa) : Nat :=
  let r := a.readout
  (r.1 % (2 : Int) ^ 96).toNat + b01 r.2.2.2 * 2 ^ 96 + b01 r.2.2.1 * 2 ^ 97 + b01 r.2.1 * 2 ^ 98

/-- A readout as an exact value for conversion to a floating-point format (R66). -/
def Wa.value (a : Wa) (anchor : Int) : Fp :=
  let r := a.readout
  if r.2.1 then .nan else .ofInt r.1 (anchor - 48)

/-- Sixty-four bytes of four partials merged with sixty-four others, word by word (R63, R278). -/
def waMerge512 (x y : W512) : W512 :=
  BitVec.ofNat 512 ((List.range 4).foldl (fun acc i =>
    acc + ((Wa.unpack (x.toNat / 2 ^ (128 * i) % 2 ^ 128)).merge (Wa.unpack (y.toNat / 2 ^ (128 * i) % 2 ^ 128))).pack *
      2 ^ (128 * i)) 0)

/-- Sixty-four bytes of sixteen FP32 sums added lane by lane by RNE, x first (R59). -/
def fpAdd512 (x y : W512) : W512 :=
  BitVec.ofNat 512 ((List.range 16).foldl (fun acc i =>
    acc + (fp32Bits (add32 (fp32 (BitVec.ofNat 32 (x.toNat / 2 ^ (32 * i)))) (fp32 (BitVec.ofNat 32 (y.toNat / 2 ^ (32 * i)))))).toNat *
      2 ^ (32 * i)) 0)

end Sys2Proof.Machine
end

