-- ==== Sys2Proof/Machine/Engine.lean ====
section
/-! DEFINITION. What the three engines share: reading and writing scratchpad through the wide view under the region rules
(R173, R178, R181), data that an engine is still writing (R94, R145), completion records (R95), and faults (R97, R98, R150). -/

namespace Sys2Proof.Machine

/-- Whether spans of bytes hold a byte of the 512-byte line of an offset. -/
def spanHas (spans : List (Nat × Nat)) (off : Nat) : Bool :=
  spans.any fun x => x.2 != 0 && decide (x.1 / 512 ≤ off / 512) && decide (off / 512 ≤ (x.1 + x.2 - 1) / 512)

/-- The scratchpad spans that the descriptors running on a site write. -/
def State.hotSpans (s : State) (p : Fin 168) : List (Nat × Nat) :=
  (s.site p).me.running.flatMap (·.writes) ++ (s.site p).ve.running.flatMap (·.writes) ++
    (s.site p).rings.flatMap fun r => match r.2.run with
      | some x => x.writes
      | none => []

/-- Granules as a local reader gets them: those of a line that a running descriptor writes are undefined (R94, R145), a free value each. -/
def State.freeHot (hot : List (Nat × Nat)) (s : State) (off : Nat) : List Flit → State × List Flit
  | [] => (s, [])
  | f :: t =>
    if spanHas hot off then
      let y := State.freeHot hot s.draw (off + 64) t
      (y.1, ⟨Config.free512 s.free, f.poison⟩ :: y.2)
    else
      let y := State.freeHot hot s (off + 64) t
      (y.1, f :: y.2)

/-- The span in whole 512-byte lines that covers `len` bytes from `off` (R75). -/
def lineSpan (off len : Nat) : Nat × Nat :=
  if len = 0 then (off, 0) else (off / 512 * 512, ((off + len - 1) / 512 - off / 512 + 1) * 512)

/-- An engine (client code of SP_WV_GRANTSc: 0 ME, 1 VE, 2 MV) reads the whole lines that cover a span through the wide view. -/
def State.engRead (s : State) (p : Fin 168) (client off len : Nat) : State × List Flit :=
  let sp := lineSpan off len
  let x := (s.grants p client off len).readGrans p client sp.1 (sp.2 / 64)
  State.freeHot (s.hotSpans p) x.1 sp.1 x.2

/-- Whether some granule that covers bytes `a` to `a + n - 1` of a read span is poisoned; `a` counts from the span's first byte. -/
def flitsPoison (fs : List Flit) (a n : Nat) : Bool :=
  if n = 0 then false else ((fs.drop (a / 64)).take ((a + n - 1) / 64 - a / 64 + 1)).any (·.poison)

/-- The bytes of a read span from `off` of the address space, `len` of them. -/
def spanBytes (off len : Nat) (fs : List Flit) : List Byte := ((flitBytes fs).drop (off % 512)).take len

/-- The check of several spans of reads by a master (R178). -/
def State.readsOk (s : State) (p : Fin 168) (who : Nat) (spans : List (Nat × Nat)) : RegionCheck :=
  spans.foldl (fun c x => c.join (s.checkReads p who (lineSpan x.1 x.2).1 (lineSpan x.1 x.2).2)) .ok

/-- The check of the bytes that the mover reads, span by span (R177, R178). -/
def State.spansReadable (s : State) (p : Fin 168) (who : Nat) (spans : List (Nat × Nat)) : RegionCheck :=
  spans.foldl (fun c x => c.join (s.checkReads p who x.1 x.2)) .ok

/-- The check of several spans of writes by a master (R178, R181). -/
def State.writesOk (s : State) (p : Fin 168) (who : Nat) (spans : List (Nat × Nat)) : RegionCheck :=
  spans.foldl (fun c x => c.join (s.checkWrites p who x.1 x.2)) .ok

/-- A local write of another producer's region is an access violation of its master and is not performed (R181): counted, and raised as
ACCESS_VIOLATION. The spec gives no master code for the ME and the VE, so that word of the event is a free value for them. -/
def State.engViolation (s : State) (p : Fin 168) (who off descOff : Nat) : State :=
  if who = 3 then
    (s.recordViolation p 2 0 (s.lcidOf p) 0 0x9001 p.val off).coreEvent p 0x9001 [2, off, descOff]
  else (s.draw.count32 (.site p) 0x18000028).coreEvent p 0x9001 [Config.freeNat s.free, off, descOff]

/-- Wide writes of granules by an engine from an offset, up to a granule that meets a FAULT overrun; a granule of another producer's
region is not written, and one in a line that another running descriptor writes is left undefined (R94). The answer says
whether a violation was met. -/
def State.engWrite (hot : List (Nat × Nat)) (s : State) (p : Fin 168) (who off : Nat) : List Flit → State × Bool
  | [] => (s, false)
  | f :: t =>
    match s.checkWrite p who off with
    | .violation =>
      let y := State.engWrite hot s p who (off + 64) t
      (y.1, true)
    | .overrun => (s, false)
    | _ =>
      if spanHas hot off then State.engWrite hot (s.draw.writeWide p off ⟨Config.free512 s.free, f.poison⟩) p who (off + 64) t
      else State.engWrite hot (s.writeWide p off f) p who (off + 64) t

/-- Several pieces of output written by an engine (client code `client`, master code `client + 1`), with the violation raised once. -/
def State.engWrites (s : State) (p : Fin 168) (client descOff : Nat) (pieces : List (Nat × List Flit)) : State :=
  let hot := s.hotSpans p
  let x := pieces.foldl (fun (a : State × Option Nat) y =>
    let z := State.engWrite hot (a.1.grants p client y.1 (64 * y.2.length)) p (client + 1) y.1 y.2
    (z.1, if z.2 && a.2.isNone then some y.1 else a.2)) (s, none)
  match x.2 with
  | some off => x.1.engViolation p (client + 1) off descOff
  | none => x.1

/-- The spans of output pieces. -/
def pieceSpans (pieces : List (Nat × List Flit)) : List (Nat × Nat) := pieces.map fun y => (y.1, 64 * y.2.length)

/-- Bytes with a mark for each granule, as granules. -/
def markedGrans (l : List Byte) (poison : Bool) : List Flit := (bytesToGrans l).map fun d => ⟨d, poison⟩

/-- A 16-byte completion record is written to its slot of the ring; in an unpowered segment it is lost (R95). -/
def State.putRecord (s : State) (p : Fin 168) (base head : Nat) (rec16 : List Byte) : State :=
  let off := (base + 16 * (head % 256)) % 2 ^ 29
  if s.segOn p off then s.writeNarrow p off 16 (ofBytes rec16) else s

/-- A completion record of an engine (R95). -/
def recordBytes (token status flags opcode last : Nat) (clocks : W64) : List Byte :=
  toBytes 4 token ++ toBytes 1 status ++ toBytes 1 flags ++ toBytes 1 opcode ++ toBytes 1 last ++ toBytes 8 clocks.toNat

/-- An engine whose registers start at `base` records a completion (R95, R128): the record, xx_CR_HEAD, xx_DONE_COUNT and the busy
clocks. CLOCKS and the busy clocks are timing, which the model leaves free. -/
def State.engRecord (s : State) (p : Fin 168) (base : Nat) (d : Desc) (reason flags : Nat) : State :=
  let u := RegUnit.site p
  let r := recordBytes (bytesAt d.bytes (if base = 0x18100000 then 44 else 12) 4) reason flags (bytesAt d.bytes 0 1) 0
    (Config.free64 s.free)
  let s := s.putRecord p (s.rn u (base + 0x10)) (s.rn u (base + 0x18)) r
  let s := s.draw.draw
  ((s.count64 u (base + 0x18) 1).count64 u (base + 0x20) 1).count64 u (base + 0x30) (Config.freeNat (s.free - 1))

/-- An engine sets FAULTED (R97): the status bits, the fault counter and token, and ENGINE_FAULT becomes pending in the control core with
its event (R150, R158). -/
def State.engFault (s : State) (p : Fin 168) (base eng reason token : Nat) : State :=
  let u := RegUnit.site p
  let s := s.setReg u base (setFld (setFld (s.reg u base) 8 8 reason) 7 1 1)
  let s := (s.count32 u (base + 0x40)).setReg u (base + 0x48) (w64 token)
  let s := s.updCc p fun c => { c with engPending := c.engPending ++ [⟨eng, 0, reason, BitVec.ofNat 32 token⟩] }
  s.coreEvent p 0x7021 [eng, 0, reason, token]

/-- The lowest code of the checks that fail, none when all pass (R98). -/
def lowestFault (checks : List (Nat × Bool)) : Option Nat :=
  checks.foldl (fun a c =>
    if c.2 then (match a with
      | some r => some (min r c.1)
      | none => some c.1) else a) none

/-- Whether the bytes of a descriptor outside the listed (offset, size) fields are all zero. -/
def unusedZero (d : List Byte) (used : List (Nat × Nat)) : Bool :=
  (List.range d.length).all fun i => used.any (fun u => decide (u.1 ≤ i) && decide (i < u.1 + u.2)) || bytesAt d i 1 == 0

/-! ## Operands in an engine's formats -/

/-- An operand as the engine has read it: format, element bit stream, scale bytes. -/
structure Operand where
  fmt : Nat
  elems : Nat
  scales : Nat
  deriving DecidableEq, Repr

/-- An operand from its bytes. -/
def mkOperand (fmt : Nat) (elems scales : List Byte) : Operand := ⟨fmt, ofBytes elems, ofBytes scales⟩

/-- The exact value of element `i` with scale `j` (R45-R47, R55). -/
def Operand.value (o : Operand) (i j : Nat) : Fp :=
  let x := streamElem o.elems (fmtBits o.fmt) i
  if isMx o.fmt then mxValue o.fmt x (streamElem o.scales 8 j) else elemValue o.fmt x

/-- Bytes of `n` elements of a format. -/
def elemBytes (fmt n : Nat) : Nat := n * fmtBits fmt / 8

/-- Scale bytes of `n` elements of a format. -/
def scaleBytes (fmt n : Nat) : Nat := if isMx fmt then n / 32 else 0

/-- A WA96 anchor as a signed integer. -/
def anchorOf (x : Nat) : Int := if x % 2 ^ 16 < 2 ^ 15 then (x % 2 ^ 16 : Nat) else ((x % 2 ^ 16 : Nat) : Int) - 2 ^ 16

/-- Whether an anchor is in the range of R60. -/
def anchorOk (x : Nat) : Bool := decide (-192 ≤ anchorOf x) && decide (anchorOf x ≤ 191)

/-- Exact products accumulated in a mode (R56, R86), as the accumulator's bits: FP32 in the reference order, or WA96. -/
def accumulate (wa : Bool) (anchor : Int) (start : Option (BitVec 128)) (ps : List Fp) : BitVec 128 :=
  if wa then
    BitVec.ofNat 128 (ps.foldl (Wa.add anchor) (match start with
      | some x => Wa.unpack x.toNat
      | none => Wa.zero)).pack
  else
    match dot32 (start.map fun x => fp32 (x.setWidth 32)) (ps.map rne32) with
    | some v => (fp32Bits v).setWidth 128
    | none => 0

/-- An accumulator's bits as an output format's bits and its NAN, OVER and LOSS flags as bits [2:0] (R66, R88). -/
def convertOut (wa : Bool) (anchor : Int) (fmt : Nat) (mode : RMode) (x : BitVec 128) : Nat × Nat :=
  if wa then
    let a := Wa.unpack x.toNat
    let r := a.readout
    let flags := b01 r.2.1 * 4 + b01 r.2.2.1 * 2 + b01 r.2.2.2
    if fmt = 0xD then (a.pack, b01 a.nan * 4 + b01 a.loss)
    else if fmt = 0xC then (a.result, flags)
    else (narrow fmt mode (a.value anchor), flags)
  else
    let v := fp32 (x.setWidth 32)
    let inf := fmt == 3 && !v.isFin
    (if fmt = 0 then (fp32Bits v).toNat else narrow fmt mode v, b01 (v.isNan || inf) * 4)

/-- A rounding mode's code (R50). -/
def rmodeOf (c : Nat) : RMode := if c = 1 then .rtz else .rne

/-- Bitwise OR of small flag words. -/
def orAll (l : List Nat) : Nat := l.foldl (fun a b => a ||| b) 0

/-! ## The operand cache and the slot buffers as output targets (R89, R110, R240) -/

/-- Bytes of the operand cache from byte `a`, `n` of them. -/
def State.cacheBytes (s : State) (p : Fin 168) (a n : Nat) : List Byte := (s.site p).ve.cache.readBytes a n

/-- Whole granules written into the operand cache from byte `a`, with their marks. -/
def State.putCache (s : State) (p : Fin 168) (a : Nat) (fs : List Flit) : State :=
  s.updSite p fun x => { x with ve := { x.ve with
    cache := x.ve.cache.writeBytes a (flitBytes fs)
    marks := ((x.ve.marks.filter fun m => !(decide (a / 64 ≤ m) && decide (m < a / 64 + fs.length))) ++
      ((List.range fs.length).filter fun i => (fs.map (·.poison)).getD i false).map (· + a / 64)).mergeSort (· ≤ ·) } }

/-- The flits held in a slot buffer. -/
def State.slotBuf (s : State) (p : Fin 168) (n : Nat) : List SbFlit := Sparse.get [] (s.site p).slotBufs n

/-- The state with a slot buffer's flits replaced. -/
def State.setSlotBuf (s : State) (p : Fin 168) (n : Nat) (l : List SbFlit) : State :=
  s.updSite p fun x => { x with slotBufs := Sparse.put [] x.slotBufs n l }

/-- MODE of a slot buffer: 0 OFF, 1 ENGINE, 2 FEED, 3 LAND (R239). -/
def State.slotMode (s : State) (p : Fin 168) (n : Nat) : Nat := s.rf (.site p) (0x18703000 + 16 * n) 8 2

/-- MISUSE of a slot buffer is set (R240, R242). -/
def State.slotMisuse (s : State) (p : Fin 168) (n : Nat) : State := s.setRf (.site p) (0x18703008 + 16 * n) 18 1 1

/-- The matrix engine appends flits to a slot buffer, or has them discarded with MISUSE when it is not in ENGINE mode (R240). -/
def State.injectFlits (s : State) (p : Fin 168) (n : Nat) (fs : List Flit) : State :=
  if s.slotMode p n = 1 then s.setSlotBuf p n (s.slotBuf p n ++ fs.map fun f => ⟨f, false, 0⟩) else s.slotMisuse p n

/-- Whether two lists of operand cache spans (byte offset, length) share a byte. -/
def spansMeet (a b : List (Nat × Nat)) : Bool :=
  a.any fun x => b.any fun y => decide (x.1 < y.1 + y.2) && decide (y.1 < x.1 + x.2)

/-- Granules of free data over cache spans. -/
def State.freeCache (p : Fin 168) (s : State) (spans : List (Nat × Nat)) : State :=
  spans.foldl (fun st x =>
    (List.range ((x.1 + x.2 + 63) / 64 - x.1 / 64)).foldl (fun st i =>
      (st.putCache p ((x.1 / 64 + i) * 64) [⟨Config.free512 st.free, (st.site p).ve.marks.contains (x.1 / 64 + i)⟩]).draw) st) s

/-- The parts of some spans that meet others. -/
def spansCommon (a b : List (Nat × Nat)) : List (Nat × Nat) := a.filter fun x => spansMeet [x] b

/-- A handoff into lines that a running vector descriptor reads or writes leaves that descriptor's results undefined (R127): free
values in the lines and scratchpad it writes and in its summaries. -/
def State.spoilVe (s : State) (p : Fin 168) (into : List (Nat × Nat)) : State :=
  (s.site p).ve.running.foldl (fun st r =>
    if spansMeet into (r.cacheReads ++ r.cacheWrites) then
      let st := st.freeCache p r.cacheWrites
      let st := r.writes.foldl (fun st x =>
        (granOffs x.1 x.2).foldl (fun st o => (st.writeWide p o ⟨Config.free512 st.free, false⟩).draw) st) st
      let n := st.free
      { st with free := n + 16 }.updSite p fun x => { x with ve := { x.ve with
        running := mapFirst (fun q : EngRun => q.desc.serial == r.desc.serial)
          (fun q : EngRun => { q with sums := q.sums.map fun (e : Nat × W64 × Bool) => (e.1, Config.free64 (n + e.1 % 16), e.2.2) }) x.ve.running } }
    else st) s

end Sys2Proof.Machine
end

