-- ==== Sys2Proof/Machine/Mover.lean ====
section
/-! DEFINITION. The mover (R184-R191): the checks at the head of a ring, the local operations, the packets of the remote ones and
their answers, completion, abort, clearing a fault, resending, and the management ring. One descriptor of a ring runs at a
time; its packets are injected when it starts (log entry 9). -/

namespace Sys2Proof.Machine

/-! ## Descriptor fields (R185) -/

/-- OPCODE. -/
def mvOp (d : Desc) : Nat := bytesAt d.bytes 0 1
/-- FLAGS. -/
def mvFlags (d : Desc) : Nat := bytesAt d.bytes 1 1
/-- WIN of FLAGS. -/
def mvWin (d : Desc) : Bool := mvFlags d % 2 == 1
/-- REDUCE of FLAGS. -/
def mvReduce (d : Desc) : Bool := mvFlags d / 2 % 2 == 1
/-- ROWS. -/
def mvRows (d : Desc) : Nat := bytesAt d.bytes 2 2
/-- LENGTH. -/
def mvLen (d : Desc) : Nat := bytesAt d.bytes 4 4
/-- LOCAL. -/
def mvLocal (d : Desc) : Nat := bytesAt d.bytes 8 4
/-- LOCAL_STRIDE. -/
def mvLStride (d : Desc) : Nat := bytesAt d.bytes 12 4
/-- REMOTE. -/
def mvRemote (d : Desc) : Nat := bytesAt d.bytes 16 8
/-- REMOTE_STRIDE. -/
def mvRStride (d : Desc) : Nat := bytesAt d.bytes 24 4
/-- TOKEN. -/
def mvToken (d : Desc) : Nat := bytesAt d.bytes 28 4
/-- APERTURE. -/
def mvAperture (d : Desc) : Nat := bytesAt d.bytes 32 1
/-- WINDOW. -/
def mvWindow (d : Desc) : Nat := bytesAt d.bytes 33 1
/-- GENERATION. -/
def mvGen (d : Desc) : Nat := bytesAt d.bytes 34 1

/-- The local spans of a descriptor's rows. -/
def mvSpans (d : Desc) : List (Nat × Nat) :=
  if mvOp d = 7 || mvOp d = 8 then [] else (List.range (mvRows d)).map fun i => (mvLocal d + i * mvLStride d, mvLen d)

/-- Whether a descriptor writes its local spans. -/
def mvWritesLocal (d : Desc) : Bool := mvOp d == 2 || mvOp d == 4 || mvOp d == 5 || mvOp d == 6

/-! ## Targets (R36, R186) -/

/-- What a panel address names for the mover: a core's scratchpad, a spill stack, or an area of a collective at a port die, each with the
offset, the first offset and the end of the target. -/
inductive MvTarget
  | core (lcid off : Nat)
  | spill (stack off : Nat)
  | coll (die off lo hi : Nat) (isIn : Bool)
  deriving DecidableEq, Repr

/-- A port-die address's offset as packets carry it: PA[42:0] (log entry 10). -/
def collOff (pa : Nat) : Nat := pa % 2 ^ 43

/-- The collective area that holds a panel address for a partition (R411). -/
def State.collArea (s : State) (tag pa : Nat) : Option MvTarget :=
  s.colls.findSome? fun c =>
    if c.part ≠ tag then none
    else if c.inPa ≤ pa && pa < c.inPa + c.length then some (.coll c.die (collOff pa) (collOff c.inPa) (collOff c.inPa + c.length) true)
    else if c.goPa ≤ pa && pa < c.goPa + 64 then some (.coll c.die (collOff pa) (collOff c.goPa) (collOff c.goPa + 64) false)
    else none

/-- The target a panel address names, none for any other (R36, R38, R186). -/
def State.mvTarget (s : State) (tag pa : Nat) : Option MvTarget :=
  if 2 ^ 52 ≤ pa then none
  else if pa / 2 ^ 51 = 1 then
    if pa / 2 ^ 46 % 2 ^ 5 = 0 && pa / 2 ^ 36 % 2 ^ 5 = 0 && pa / 2 ^ 41 % 2 ^ 5 < 28 then
      some (.spill (pa / 2 ^ 41 % 2 ^ 5) (pa % 2 ^ 36))
    else none
  else if pa / 2 ^ 43 = 0xF8 then s.collArea tag pa
  else if pa / 2 ^ 43 < 144 && pa / 2 ^ 29 % 2 ^ 14 = 0 && pa % 2 ^ 29 < 0x18000000 then some (.core (pa / 2 ^ 43) (pa % 2 ^ 29))
  else none

/-- Whether the `len` bytes from `off` of a target lie wholly in it. -/
def MvTarget.holds (t : MvTarget) (delta len : Nat) : Bool :=
  match t with
  | .core _ off => decide (off + delta + len ≤ 0x18000000)
  | .spill _ off => decide (off + delta + len ≤ 2 ^ 36)
  | .coll _ off _ hi _ => decide (off + delta + len ≤ hi)

/-- BAD_TARGET (R186). -/
def State.mvBadTarget (s : State) (p : Fin 168) (d : Desc) : Bool :=
  match mvOp d with
  | 1 =>
    match s.mvTarget (s.partOf (s.actingSite p)) (mvRemote d) with
    | none => true
    | some t =>
      (mvWin d && mvReduce d) ||
      (match t with
        | .core _ _ => false
        | .spill _ _ => mvWin d || mvReduce d
        | .coll _ _ _ _ isIn => mvWin d || (mvReduce d && !isIn)) ||
      !(List.range (mvRows d)).all fun i => t.holds (i * mvRStride d) (mvLen d)
  | 2 =>
    match s.mvTarget (s.partOf (s.actingSite p)) (mvRemote d) with
    | none => true
    | some t =>
      (match t with
        | .coll _ _ _ _ _ => true
        | _ => false) ||
      !(List.range (mvRows d)).all fun i => t.holds (i * mvRStride d) (mvLen d)
  | 7 =>
    let src := mvLocal d / 2 ^ 20 % 256
    let dst := mvRemote d / 2 ^ 20 % 256
    src != p.val || decide (168 ≤ dst) || (dst != p.val && s.lcidOf (Fin.ofNat 168 dst) != 0xFF)
  | _ => false

/-- BAD_APERTURE (R186): an aperture not granted to the partition, or a row beyond its length. -/
def State.mvBadAperture (s : State) (p : Fin 168) (d : Desc) : Bool :=
  (mvOp d == 3 || mvOp d == 4) &&
    (decide (16 ≤ mvAperture d) ||
      !(List.range (mvRows d)).all fun i =>
        mvRemote d + i * mvRStride d + mvLen d ≤ (Sparse.get (0, 0) s.apertures (s.partOf (s.actingSite p) * 16 + mvAperture d)).2)

/-! ## Checks (R98, R190) -/

/-- The bytes each opcode uses (Fields used by opcode). -/
def mvUsed (d : Desc) : List (Nat × Nat) :=
  match mvOp d with
  | 1 => if mvWin d then [(0, 32), (33, 2)] else [(0, 32)]
  | 2 => [(0, 1), (2, 30)]
  | 3 => [(0, 1), (2, 31)]
  | 4 => [(0, 1), (2, 31)]
  | 5 => [(0, 1), (2, 22), (28, 4)]
  | 6 => [(0, 1), (2, 14), (28, 4)]
  | 7 => [(0, 1), (2, 2), (8, 4), (16, 8), (28, 4)]
  | _ => [(0, 1), (28, 4)]

/-- BAD_RESERVED (R185). -/
def mvReserved (d : Desc) : Bool :=
  !unusedZero d.bytes (mvUsed d) || (mvOp d == 1 && mvFlags d / 4 != 0) ||
    (decide (mvOp d < 7) && mvRows d == 1 && (mvLStride d != 0 || mvRStride d != 0)) ||
    (mvOp d == 7 && (mvLocal d / 2 ^ 28 != 0 || mvRemote d / 2 ^ 28 != 0))

/-- The checks of a descriptor that depend on its bytes and the core's layout alone, each with its reason (R98, R190, R324). -/
def State.mvStatic (s : State) (p : Fin 168) (d : Desc) : List (Nat × Bool) :=
  let op := mvOp d
  let data := decide (1 ≤ op) && decide (op ≤ 6)
  [(0x01, op == 0 || decide (8 < op)),
   (0x05, (data && (mvRows d == 0 || decide (mvLen d < 64) || decide (67108864 < mvLen d) || mvLen d % 64 != 0)) ||
      (op == 7 && (mvRows d == 0 || decide (12292 < mvLocal d % 2 ^ 14 + mvRows d) || decide (12292 < mvRemote d % 2 ^ 14 + mvRows d)))),
   (0x06, data && (mvLocal d % 64 != 0 || mvLStride d % 64 != 0 ||
      (decide (op ≤ 4) && (mvRemote d % 64 != 0 || mvRStride d % 64 != 0)))),
   (0x07, !(mvSpans d).all fun x => s.spanOn p x.1 x.2),
   (0x0D, mvReserved d)]

/-- The reason with the lowest code that refuses a mover descriptor on a ring, none when it passes (R98, R190). -/
def State.mvCheck (s : State) (p : Fin 168) (ring : Nat) (d : Desc) : Option Nat :=
  let op := mvOp d
  lowestFault (s.mvStatic p d ++
    [(0x0A, d.poison),
     (0x20, s.mvBadTarget p d || (op == 1 && mvWin d && decide (64 ≤ mvWindow d))),
     (0x22, s.mvBadAperture p d),
     (0x23, op == 7 && ring != 8),
     (0x25, op == 7 && s.rf (.site p) 0x18500008 0 1 == 0)])

/-! ## Rings -/

/-- A ring of a site's mover. -/
def State.ring (s : State) (p : Fin 168) (n : Nat) : MvRing := Sparse.get MvRing.init (s.site p).rings n

/-- The state with a ring changed. -/
def State.updRing (s : State) (p : Fin 168) (n : Nat) (f : MvRing → MvRing) : State :=
  s.updSite p fun x => { x with rings := Sparse.put MvRing.init x.rings n (f (Sparse.get MvRing.init x.rings n)) }

/-- Whether a ring can start a descriptor: the mover is not frozen, the engines run (for the management ring: the core is powered and not
frozen), the ring is not faulted, none of its descriptors runs, and no answer to an aborted one is awaited (R184, R187, R518). -/
def State.mvReady (s : State) (p : Fin 168) (n : Nat) : Bool :=
  !s.mvFrozen p && (if n = 8 then s.coreState p != 0 && s.coreState p != 3 else s.enginesRun p) &&
    s.rf (.site p) (0x18502000 + 32 * n) 1 1 == 0 && (s.ring p n).run.isNone && (s.ring p n).awaiting.isEmpty

/-- A descriptor that runs with nothing awaited. -/
def MvRun.of (d : Desc) (reason : Nat) : MvRun := ⟨d, [], false, [], [], [], reason⟩

/-- The head of a ring becomes its running descriptor. -/
def State.mvBegin (s : State) (p : Fin 168) (n : Nat) (r : MvRun) : State :=
  s.updRing p n fun x => { x with queue := x.queue.drop 1, run := some r }

/-- What a start row does with the head of a ring. -/
def State.mvStart (s : State) (p : Fin 168) (n op : Nat) (go : State → Desc → State) : State :=
  match (s.ring p n).queue with
  | d :: _ =>
    if s.mvReady p n && mvOp d == op then
      match s.mvCheck p n d with
      | some r => s.mvBegin p n (MvRun.of d r)
      | none =>
        match (if mvWritesLocal d then s.writesOk p 3 (mvSpans d) else s.spansReadable p 3 (mvSpans d)) with
        | .wait => s
        | .overrun => s.mvBegin p n (MvRun.of d 0x16)
        | _ => go s d
    else s
  | [] => s

/-! ## Packets -/

/-- The pieces of at most 2 KiB of a descriptor's rows: local offset, distance from REMOTE, length. -/
def mvPieces (d : Desc) : List (Nat × Nat × Nat) :=
  (List.range (mvRows d)).flatMap fun i =>
    (List.range ((mvLen d + 2047) / 2048)).map fun j =>
      (mvLocal d + i * mvLStride d + 2048 * j, i * mvRStride d + 2048 * j, min 2048 (mvLen d - 2048 * j))

/-- A packet of a mover descriptor of a type, to a target at a distance (R186): to a core by its LCID, to spill and port dies by the service
targets; HOST operations go to the active management die with the aperture in CTX (log entry 10). -/
def State.mvPacket (s : State) (p : Fin 168) (d : Desc) (typ delta : Nat) : Packet :=
  let dst : Nat × Nat × Nat :=
    if mvOp d = 3 || mvOp d = 4 then (0xF0, 0, mvRemote d)
    else match s.mvTarget (s.partOf (s.actingSite p)) (mvRemote d) with
      | some (.core l off) => (l, 0, off)
      | some (.spill k off) => (0xFC, k, off)
      | some (.coll g off _ _ _) => (0xF8, g, off)
      | none => (0, 0, 0)
  { mkPacket typ dst.1 dst.2.1 (s.lcidOf p) 0 (s.siteTag p) (s.site p).mvNextSeq.toNat with
    addr := w64 (dst.2.2 + delta)
    ctx := BitVec.ofNat 16 (if mvOp d = 3 || mvOp d = 4 then mvAperture d else if mvWin d then mvWindow d else 0)
    gen := BitVec.ofNat 8 (if mvWin d then mvGen d else 0) }

/-- A mover request enters the fabric at the core's stop and is awaited. -/
def State.mvSend (s : State) (p : Fin 168) (k : Packet) (land : Nat) : State × MvReq :=
  let s := (s.noteRequest p k).inject (.stop p) k
  (s.updSite p fun x => { x with mvNextSeq := x.mvNextSeq + 1 }, ⟨k.seq, k, land, s.time, 0, none⟩)

/-- The packets of an outgoing descriptor are read and injected, in ascending order. -/
def State.mvOut (p : Fin 168) (d : Desc) (a : State × List MvReq × Bool) (x : Nat × Nat × Nat) : State × List MvReq × Bool :=
  let r := a.1.engRead p 2 x.1 x.2.2
  let fs := ((r.2.drop (x.1 % 512 / 64)).take (x.2.2 / 64))
  let bad := fs.any (·.poison)
  let fs := if mvOp d = 3 then fs.map fun f => if f.poison then ⟨0, false⟩ else f else fs
  let typ := if mvOp d = 3 then 0x01 else if mvWin d then 0x03 else if mvReduce d then 0x05 else 0x01
  let y := r.1.mvSend p (withPayload (r.1.mvPacket p d typ x.2.1) fs) 0
  let s := if bad && mvOp d = 3 then y.1.poisonConsumed p 4 x.1 ((List.range (x.2.2 / 64)).findSome? fun i =>
      if ((r.2.drop (x.1 % 512 / 64)).getD i ⟨0, false⟩).poison then some (x.1 / 64 + i) else none) else y.1
  (s, a.2.1 ++ [y.2], a.2.2 || bad)

/-- The read requests of an incoming descriptor are injected (R184). -/
def State.mvIn (p : Fin 168) (d : Desc) (a : State × List MvReq) (x : Nat × Nat × Nat) : State × List MvReq :=
  let k := { a.1.mvPacket p d 0x02 x.2.1 with aux := BitVec.ofNat 32 x.2.2 }
  let y := a.1.mvSend p k x.1
  (y.1, a.2 ++ [y.2])

/-- COPY_OUT or HOST_OUT starts. -/
def State.runOut (s : State) (p : Fin 168) (n : Nat) (d : Desc) : State :=
  let x := (mvPieces d).foldl (State.mvOut p d) (s, [], false)
  x.1.mvBegin p n { MvRun.of d 0 with
    reqs := x.2.1
    poison := x.2.2
    tails := (mvSpans d).flatMap fun y => x.1.regionEnds p false 3 y.1 y.2 }

/-- COPY_IN or HOST_IN starts. -/
def State.runIn (s : State) (p : Fin 168) (n : Nat) (d : Desc) : State :=
  let x := (mvPieces d).foldl (State.mvIn p d) (s, [])
  x.1.mvBegin p n { MvRun.of d 0 with
    reqs := x.2
    writes := mvSpans d
    heads := (mvSpans d).flatMap fun y => x.1.regionEnds p true 3 y.1 y.2 }

/-- FILL or ZERO starts: the 8-byte pattern repeated over the rows. -/
def State.runPattern (s : State) (p : Fin 168) (n : Nat) (d : Desc) (pattern : Nat) : State :=
  let g : Flit := ⟨granOf ((List.range 8).flatMap fun _ => toBytes 8 pattern), false⟩
  let s := s.engWrites p 2 d.off ((mvSpans d).map fun x => (x.1, List.replicate (x.2 / 64) g))
  s.mvBegin p n { MvRun.of d 0 with
    writes := mvSpans d
    heads := (mvSpans d).flatMap fun y => s.regionEnds p true 3 y.1 y.2 }

/-! ## Raw rows (R170, R186, R522) -/

/-- The bytes of consecutive raw rows named by a row-view address. -/
def State.rowsAt (s : State) (rva n : Nat) : List Byte :=
  (List.range n).flatMap fun i => s.rowBytes (rva / 2 ^ 20 % 256) (rva / 2 ^ 19 % 2) (rva / 2 ^ 14 % 32) (rva % 2 ^ 14 + i)

/-- Raw rows written from a row-view address. -/
def State.putRows (s : State) (rva : Nat) (rows : List (List Byte)) : State :=
  (rows.zip (List.range rows.length)).foldl (fun st x =>
    st.putRow (rva / 2 ^ 20 % 256) (rva / 2 ^ 19 % 2) (rva / 2 ^ 14 % 32) (rva % 2 ^ 14 + x.2) x.1) s

/-- A run-time copy into a spare row that a remap entry waits for makes the entry valid (R213). -/
def State.remapValid (s : State) (p : Fin 168) (die bank row : Nat) : State :=
  (List.range 8).foldl (fun st e =>
    let off := 0x18508100 + 64 * die + 8 * e
    let v := st.reg (.site p) off
    if !bit v 63 && v != 0 && fld v 14 5 == bank && 12288 + fld v 19 2 == row then st.setReg (.site p) off (setBit v 63 true) else st) s

/-- A ROW_COPY starts: rows of this site are copied at once, rows for another site travel as ROW_WRITE packets of up to three (R522). -/
def State.runRowCopy (s : State) (p : Fin 168) (n : Nat) (d : Desc) : State :=
  let dst := mvRemote d
  if dst / 2 ^ 20 % 256 = p.val then
    let s := s.putRows dst (chunks 576 (mvRows d) (s.rowsAt (mvLocal d) (mvRows d)))
    let s := (List.range (mvRows d)).foldl (fun st i => st.remapValid p (dst / 2 ^ 19 % 2) (dst / 2 ^ 14 % 32) (dst % 2 ^ 14 + i)) s
    s.mvBegin p n (MvRun.of d 0)
  else
    let x := (List.range ((mvRows d + 2) / 3)).foldl (fun (a : State × List MvReq) i =>
      let m := min 3 (mvRows d - 3 * i)
      let k := { mkPacket 0x09 0xF2 (dst / 2 ^ 20 % 256) 0xF2 p.val 0xFE (a.1.site p).mvNextSeq.toNat with
        addr := w64 (dst + 3 * i), aux := BitVec.ofNat 32 m }
      let y := a.1.mvSend p (withPayload k (cleanGrans (a.1.rowsAt (mvLocal d + 3 * i) m))) 0
      (y.1, a.2 ++ [y.2])) (s, [])
    x.1.mvBegin p n { MvRun.of d 0 with reqs := x.2 }

/-! ## Answers (R187, R262) -/

/-- Whether a ring awaits an answer to a request of this number. -/
def MvRing.awaits (r : MvRing) (seq : W32) : Bool :=
  (match r.run with
    | some x => x.reqs.any fun q => q.seq == seq && q.resendAt.isNone
    | none => false) || r.awaiting.any fun q => q.seq == seq

/-- The ring that awaits an answer to a request of this number. -/
def State.mvAwaiting (s : State) (p : Fin 168) (seq : W32) : Option Nat := lowest 9 fun n => (s.ring p n).awaits seq

/-- The request of a number that a ring awaits. -/
def MvRing.req (r : MvRing) (seq : W32) : Option MvReq :=
  match (match r.run with
    | some x => x.reqs.find? fun q => q.seq == seq
    | none => none) with
  | some q => some q
  | none => r.awaiting.find? fun q => q.seq == seq

/-- An answered request is no longer awaited. -/
def MvRing.done (r : MvRing) (seq : W32) : MvRing :=
  { r with
    run := r.run.map fun x => { x with reqs := x.reqs.filter fun q => q.seq != seq }
    awaiting := r.awaiting.filter fun q => q.seq != seq }

/-- A READ_RESP lands in local scratchpad through the request port (R184), and its request is answered. -/
def State.mvLand (s : State) (p : Fin 168) (n : Nat) (k : Packet) : State :=
  match (s.ring p n).req k.seq with
  | some q =>
    let s := (State.engWrite [] (s.grants p 3 q.land (64 * k.payload.length)) p 3 q.land k.payload).1
    s.updRing p n fun r =>
      let r := r.done k.seq
      { r with run := r.run.map fun x => { x with poison := x.poison || k.payload.any (·.poison) } }
  | none => s

/-- The backoff before a resend, in nanoseconds (R187, R299). -/
def nextBackoff (b : Nat) : Nat := if b = 0 then 64 else min 16000 (2 * b)

/-- Nanoseconds as drone ticks of 10 ns, rounded up (R17). -/
def nsTicks (ns : Nat) : Nat := (ns + 9) / 10

/-- A NACK of a mover request (R187): MOVING and QUEUE_FULL of a write or a COPY_IN read wait for a resend while SEND_BUDGET lasts; any other,
and an expired budget, end the descriptor with NACKED, a ROW_WRITE's with ROWVIEW_OFF (R522). A NACK of an aborted descriptor's packet starts nothing. -/
def State.mvNacked (s : State) (p : Fin 168) (n : Nat) (k : Packet) : State :=
  let r := s.ring p n
  match r.run with
  | some x =>
    match x.reqs.find? fun q => q.seq == k.seq with
    | some q =>
      let retry := (k.reason = 0x05 || k.reason = 0x01) && (mvOp x.desc = 1 || mvOp x.desc = 2 || mvOp x.desc = 3)
      if retry && s.time < q.first + (s.cc p).sendBudget.toNat then
        let b := nextBackoff q.backoff
        s.updRing p n fun r => { r with run := r.run.map fun x => { x with
          reqs := mapFirst (fun q => q.seq == k.seq) (fun q => { q with backoff := b, resendAt := some (s.time + nsTicks b) }) x.reqs } }
      else
        let s := s.setRf (.site p) (0x18502000 + 32 * n) 24 8 k.reason.toNat
        s.updRing p n fun r =>
          let r := r.done k.seq
          { r with
            run := r.run.map fun x => { x with reason := if x.reason ≠ 0 then x.reason else if mvOp x.desc = 7 then 0x25 else 0x21, reqs := [] }
            awaiting := r.awaiting ++ (match r.run with
              | some x => x.reqs.filter fun q => q.resendAt.isNone
              | none => []) }
    | none => s.updRing p n fun r => r.done k.seq
  | none => s.updRing p n fun r => r.done k.seq

/-! ## Completion and control -/

/-- The running descriptor of a ring completes (R189): record, MV_CR_HEAD, MV_DONEn and region pointers; a refused or faulted one faults its
ring (R190). The management ring is not the control core's, so its fault raises no ENGINE_FAULT. -/
def State.mvComplete (s : State) (p : Fin 168) (n : Nat) (x : MvRun) : State :=
  let u := RegUnit.site p
  let reason := if x.reason = 0 && x.poison && mvOp x.desc = 3 then 0x24 else x.reason
  let s := s.updRing p n fun r => { r with run := none }
  let s := s.putRecord p (s.rn u 0x18502200) (s.rn u 0x18502208)
    (recordBytes (mvToken x.desc) reason (if x.poison then 8 else 0) (mvOp x.desc) n (Config.free64 s.free))
  let s := (s.draw.count64 u 0x18502208 1).count64 u (0x18502010 + 32 * n) 1
  if reason ≠ 0 then
    let st := 0x18502000 + 32 * n
    let s := s.setReg u st (setFld (setFld (s.reg u st) 8 8 reason) 1 1 1)
    let s := (s.count32 u 0x18502218).updRing p n fun r => { r with token := BitVec.ofNat 32 (mvToken x.desc) }
    if n = 8 then s
    else
      let s := s.updCc p fun c => { c with engPending := c.engPending ++ [⟨2, n, reason, BitVec.ofNat 32 (mvToken x.desc)⟩] }
      s.coreEvent p 0x7021 [2, n, reason, mvToken x.desc]
  else (s.advanceHeads p x.heads).advanceTails p x.tails

/-- A ring's issue count goes back after a discard (R147). -/
def State.mvDiscard (s : State) (p : Fin 168) (n : Nat) : State :=
  let last := match (s.ring p n).run with
    | some x => x.desc.ticket
    | none => s.reg (.site p) (0x18502010 + 32 * n)
  if n = 8 then s else s.updCc p fun c => { c with mvIssued := Sparse.put 0 c.mvIssued n last }

/-- ABORT of a ring (R187): the running descriptor and the queue go without records; answers to packets already sent are awaited. -/
def State.mvAbort (s : State) (p : Fin 168) (n : Nat) : State :=
  (s.updRing p n fun r =>
    { r with
      queue := [], run := none
      awaiting := r.awaiting ++ (match r.run with
        | some x => x.reqs.filter fun q => q.resendAt.isNone
        | none => []) }).mvDiscard p n

/-- CLEAR_FAULT of a ring (R190); without effect while the mover is frozen (R518). -/
def State.mvClearFault (s : State) (p : Fin 168) (n : Nat) : State :=
  if s.mvFrozen p then s
  else
    let st := 0x18502000 + 32 * n
    let s := s.setReg (.site p) st 0
    (s.updRing p n fun r => { r with queue := [] }).mvDiscard p n

/-- A backoff of a ring has expired: the packet is sent again (R187), or the descriptor ends with NACKED when the budget is spent. -/
def State.mvResend (s : State) (p : Fin 168) (n : Nat) : State :=
  match (s.ring p n).run with
  | some x =>
    match x.reqs.find? fun q => match q.resendAt with
      | some t => decide (t ≤ s.time)
      | none => false with
    | some q =>
      if s.time < q.first + (s.cc p).sendBudget.toNat then
        (s.inject (.stop p) q.pkt).updRing p n fun r => { r with run := r.run.map fun x => { x with
          reqs := mapFirst (fun y => y.seq == q.seq) (fun y => { y with resendAt := none }) x.reqs } }
      else
        let s := s.setRf (.site p) (0x18502000 + 32 * n) 24 8 0x01
        s.updRing p n fun r => { r with
          run := r.run.map fun x => { x with reason := if x.reason = 0 then 0x21 else x.reason, reqs := [] }
          awaiting := r.awaiting ++ x.reqs.filter fun y => y.resendAt.isNone }
    | none => s
  | none => s

/-! ## The rows -/

/-- MV_COPY_OUT (R186). -/
def execMvCopyOut (p : Site) (ring : Fin 9) (s : State) : Host.Outcome State Fault Refusal :=
  .next (s.mvStart p ring.val 1 fun st d => st.runOut p ring.val d)

/-- MV_COPY_IN (R186). -/
def execMvCopyIn (p : Site) (ring : Fin 9) (s : State) : Host.Outcome State Fault Refusal :=
  .next (s.mvStart p ring.val 2 fun st d => st.runIn p ring.val d)

/-- MV_HOST_OUT (R186, R188). -/
def execMvHostOut (p : Site) (ring : Fin 9) (s : State) : Host.Outcome State Fault Refusal :=
  .next (s.mvStart p ring.val 3 fun st d => st.runOut p ring.val d)

/-- MV_HOST_IN (R186). -/
def execMvHostIn (p : Site) (ring : Fin 9) (s : State) : Host.Outcome State Fault Refusal :=
  .next (s.mvStart p ring.val 4 fun st d => st.runIn p ring.val d)

/-- MV_FILL (R186). -/
def execMvFill (p : Site) (ring : Fin 9) (s : State) : Host.Outcome State Fault Refusal :=
  .next (s.mvStart p ring.val 5 fun st d => st.runPattern p ring.val d (mvRemote d))

/-- MV_ZERO (R186). -/
def execMvZero (p : Site) (ring : Fin 9) (s : State) : Host.Outcome State Fault Refusal :=
  .next (s.mvStart p ring.val 6 fun st d => st.runPattern p ring.val d 0)

/-- MV_ROW_COPY (R186). -/
def execMvRowCopy (p : Site) (ring : Fin 9) (s : State) : Host.Outcome State Fault Refusal :=
  .next (s.mvStart p ring.val 7 fun st d => st.runRowCopy p ring.val d)

/-- MV_SYNC (R186): every older descriptor of the ring has completed, so it completes. -/
def execMvSync (p : Site) (ring : Fin 9) (s : State) : Host.Outcome State Fault Refusal :=
  .next (s.mvStart p ring.val 8 fun st d => (st.mvBegin p ring.val (MvRun.of d 0)).mvComplete p ring.val (MvRun.of d 0))

/-- MV_DESC_COMPLETE (R189): the ring's running descriptor completes once no answer is awaited, or it has failed; with none running, a
head of no listed OPCODE is refused (R190). -/
def execMvDescComplete (p : Site) (ring : Fin 9) (s : State) : Host.Outcome State Fault Refusal :=
  .next (if s.mvFrozen p || s.coreState p == 3 then s else match (s.ring p ring.val).run with
    | some x => if x.reason != 0 || x.reqs.isEmpty then s.mvComplete p ring.val x else s
    | none =>
      match (s.ring p ring.val).queue with
      | d :: _ =>
        if s.mvReady p ring.val && (mvOp d == 0 || decide (8 < mvOp d)) then
          (s.mvBegin p ring.val (MvRun.of d 0x01)).mvComplete p ring.val (MvRun.of d 0x01)
        else s
      | [] => s)

/-- MV_MGMT_ISSUE (R184): the active management die places the descriptor at an offset into ring 8; nothing happens when the ring is full or the
descriptor's segment is off. -/
def execMvMgmtIssue (p : Site) (offset : BitVec 29) (s : State) : Host.Outcome State Fault Refusal :=
  let off := offset.toNat / 64 * 64
  .next (if (s.ring p 8).queue.length < 32 && s.segOn p off then
    let x := s.readWide p 2 off
    x.1.updRing p 8 fun r => { r with queue := r.queue ++ [⟨0, off, granBytes x.2.1, x.2.2, 0⟩] }
  else s)

/-- MV_ABORT (R187): the control core writes ABORT for a customer ring, the management die for ring 8. -/
def execMvAbort (p : Site) (ring : Fin 9) (s : State) : Host.Outcome State Fault Refusal :=
  .next (if s.coreRuns p || ring.val == 8 then s.mvAbort p ring.val else s)

/-- MV_CLEAR_FAULT (R190): the control core writes CLEAR_FAULT for a customer ring, the management die for ring 8. -/
def execMvClearFault (p : Site) (ring : Fin 9) (s : State) : Host.Outcome State Fault Refusal :=
  .next (if s.coreRuns p || ring.val == 8 then s.mvClearFault p ring.val else s)

/-- MV_RESEND (R187). -/
def execMvResend (p : Site) (ring : Fin 9) (s : State) : Host.Outcome State Fault Refusal :=
  .next (if s.mvFrozen p then s else s.mvResend p ring.val)

end Sys2Proof.Machine
end

