-- ==== Sys2Proof/Machine/Channels.lean ====
section
/-! DEFINITION. Channels, queues and windows (R286-R312) at a core: placing and landing messages in its receive queues, its send contexts,
and its windows. The request plane's rows and the control core's instructions use these operations. -/

namespace Sys2Proof.Machine

/-- 100 µs in drone ticks. -/
def ticks100us : Nat := 10000

/-! ## Receive queues (R286-R291) -/

/-- A queue's pointers and items. -/
def State.queue (s : State) (p : Fin 168) (q : Nat) : QueueSt := Sparse.get QueueSt.init (s.site p).queues q

/-- The state with a queue's pointers and items replaced. -/
def State.setQueue (s : State) (p : Fin 168) (q : Nat) (x : QueueSt) : State :=
  s.updSite p fun y => { y with queues := Sparse.put QueueSt.init y.queues q x }

/-- Whether a queue is ACTIVE. -/
def State.qActive (s : State) (p : Fin 168) (q : Nat) : Bool := s.rf (.site p) (0x18300000 + 256 * q) 62 2 == 1

/-- The size of a queue's ring. -/
def State.qSize (s : State) (p : Fin 168) (q : Nat) : Nat := 2 ^ s.rf (.site p) (0x18300000 + 256 * q) 32 5

/-- The base of a queue's ring. -/
def State.qBase (s : State) (p : Fin 168) (q : Nat) : Nat := s.rf (.site p) (0x18300000 + 256 * q) 9 20 * 512

/-- The bytes a message of `len` payload bytes occupies (R289). -/
def slotSize (len : Nat) : Nat := 64 * ((16 + len + 63) / 64)

/-- Free space of a queue (R287). -/
def QueueSt.free (x : QueueSt) (size : Nat) : Nat := size - 64 - (x.rs - x.rp / 64 * 64)

/-- WP after it has advanced over the complete items at the front (R294). -/
def QueueSt.advance (x : QueueSt) : QueueSt :=
  let rest := x.items.dropWhile (·.done)
  { x with items := rest, wp := match rest with
    | r :: _ => r.start
    | [] => x.rs }

/-- WP advances, and QUEUE_HIGH is raised when the occupied bytes reach THRESHOLD (R294, R311). -/
def State.qAdvance (s : State) (p : Fin 168) (q : Nat) : State :=
  let old := s.queue p q
  let new := old.advance
  let s := s.setQueue p q new
  let thr := s.rf (.site p) (0x18300008 + 256 * q) 0 32
  let occ := new.wp - new.rp
  if new.wp ≠ old.wp && thr ≠ 0 && decide (thr ≤ occ) && s.rf (.site p) (0x18300028 + 256 * q) 0 1 == 0 then
    (s.setRf (.site p) (0x18300028 + 256 * q) 0 1 1).coreEvent p 0x3003 [s.lcidOf p, q, occ]
  else s

/-- A granule of an item's slot is written to scratchpad from the item's bytes (R293, R208). -/
def State.qPutGran (s : State) (p : Fin 168) (q : Nat) (r : Resv) (g : Nat) : State :=
  let off := s.qBase p q + r.start % s.qSize p q + 64 * g
  (s.grants p 3 off 64).writeWide p off ⟨granOf ((r.buf.drop (64 * g)).take 64), r.bad.contains g⟩

/-- A skip marker is written at an item's start (R290, R295). -/
def State.qMarker (s : State) (p : Fin 168) (q : Nat) (start size flags : Nat) : State :=
  let off := s.qBase p q + start % s.qSize p q
  ((s.grants p 3 off 64).writeWide p off ⟨granOf (toBytes 4 size ++ toBytes 1 flags), false⟩).count64 (.site p) (0x18300040 + 256 * q) 1

/-- A message is given a slot (R290, R291): the state, and whether there was room. -/
def State.qPlace (s : State) (p : Fin 168) (q ch : Nat) (seq : W32) (len : Nat) : State × Bool :=
  let x := s.queue p q
  let size := s.qSize p q
  let n := slotSize len
  let stop := size - x.rs % size
  let item (start : Nat) : Resv := ⟨ch, seq, start, n, len, List.replicate n 0, [], [], s.time, false, false⟩
  if size - 64 < n then
    (if s.rf (.site p) (0x18300028 + 256 * q) 2 1 = 0 then
      (s.setRf (.site p) (0x18300028 + 256 * q) 2 1 1).coreEvent p 0x3004 [s.lcidOf p, q, n, ch]
     else s, false)
  else if (x.items.filter fun r => !r.skip).length ≥ 8 then (s, false)
  else if n ≤ stop && n ≤ x.free size then
    (s.setQueue p q { x with rs := x.rs + n, items := x.items ++ [item x.rs] }, true)
  else if stop < n && stop + n ≤ x.free size then
    let marker : Resv := ⟨ch, 0, x.rs, stop, 0, [], [], [], s.time, true, true⟩
    let s := s.qMarker p q x.rs stop 1
    ((s.setQueue p q { x with rs := x.rs + stop + n, items := x.items ++ [marker, item (x.rs + stop)] }).qAdvance p q, true)
  else (s, false)

/-! ## Receive channels (R293-R296) -/

/-- A receive channel entry. -/
def State.recvCh (s : State) (p : Fin 168) (c : Nat) : Option RecvCh := Sparse.get none (s.site p).recv c

/-- The state with a receive channel entry replaced. -/
def State.setRecv (s : State) (p : Fin 168) (c : Nat) (x : Option RecvCh) : State :=
  s.updSite p fun y => { y with recv := Sparse.put none y.recv c x }

/-- The reservation that a channel holds in its queue. -/
def State.resvOf (s : State) (p : Fin 168) (c : Nat) : Option Resv :=
  match s.recvCh p c with
  | some x => (s.queue p x.queue).items.find? fun r => !r.skip && !r.done && r.ch == c
  | none => none

/-- A channel's reservation changes. -/
def State.updResv (s : State) (p : Fin 168) (q c : Nat) (f : Resv → Resv) : State :=
  let x := s.queue p q
  s.setQueue p q { x with items := mapFirst (fun r => !r.skip && !r.done && r.ch == c) f x.items }

/-- A channel's reservation is abandoned (R295): its slot becomes a skip marker and NEXT_SEQ stays. -/
def State.abandon (s : State) (p : Fin 168) (c : Nat) : State :=
  match s.recvCh p c, s.resvOf p c with
  | some x, some r =>
    let s := s.qMarker p x.queue r.start r.size 5
    let s := s.updResv p x.queue c fun r => { r with done := true, skip := true }
    let s := s.setRf (.site p) (0x18300028 + 256 * x.queue) 1 1 1
    (s.coreEvent p 0x3002 [s.lcidOf p, x.queue, c, r.seq.toNat, r.size]).qAdvance p x.queue
  | _, _ => s

/-- The header of a message (R289). -/
def msgHeader (r : Resv) (x : RecvCh) : List Byte :=
  toBytes 4 r.len ++ toBytes 1 (if r.bad.isEmpty then 0 else 2) ++ [x.src, x.srcUnit] ++ toBytes 1 0 ++ toBytes 2 r.ch ++ toBytes 2 0 ++
    toBytes 4 r.seq.toNat

/-- The packets of a message of `len` bytes, by their ADDR (R292). -/
def msgAddrs (len : Nat) : List Nat := if len = 0 then [0] else (List.range ((len + 2047) / 2048)).map (2048 * ·)

/-- A packet's payload lands in its channel's reservation (R293, R294); when every packet has landed the message is complete. -/
def State.qLand (s : State) (p : Fin 168) (c : Nat) (k : Packet) : State :=
  match s.recvCh p c, s.resvOf p c with
  | some x, some r =>
    let a := 16 + k.addr.toNat
    let bytes := ((flitBytes k.payload).take (min 2048 (r.len - k.addr.toNat))).take (r.size - a)
    let bad := ((List.range k.payload.length).filter fun i => (k.payload.map (·.poison)).getD i false).flatMap fun i =>
      [(a + 64 * i) / 64, min ((a + 64 * i + 63) / 64) (r.size / 64 - 1)]
    let r := { r with
      buf := overwrite r.buf a bytes
      bad := (r.bad ++ bad).eraseDups
      got := (k.addr.toNat :: r.got).eraseDups
      last := s.time }
    let done := (msgAddrs r.len).all fun m => r.got.contains m
    let r := if done then { r with buf := overwrite r.buf 0 (msgHeader r x), done := true } else r
    let grans := (List.range ((a + bytes.length + 63) / 64 - a / 64)).map (· + a / 64)
    let s := (if done then (0 :: grans).eraseDups else grans).foldl (fun st g => st.qPutGran p x.queue r g) s
    let s := s.updResv p x.queue c fun _ => r
    if done then
      ((s.setRecv p c (some { x with nextSeq := x.nextSeq + 1 })).count64 (.site p) (0x18300030 + 256 * x.queue) 1).qAdvance p x.queue
    else s
  | _, _ => s

/-- A NACK of QUEUE_FULL for a queue (R293). -/
def State.qFull (s : State) (p : Fin 168) (q : Nat) (k : Packet) : State :=
  (s.count32 (.site p) (0x18300038 + 256 * q)).nack (.stop p) k 0x01 false

/-- A MSG packet that has passed the arrival checks, on a registered channel (R293). -/
def State.recvMsg (s : State) (p : Fin 168) (c : Nat) (x : RecvCh) (k : Packet) : State :=
  if k.seq ≠ x.nextSeq then
    (if (k.seq - x.nextSeq).msb then (s.count32 (.site p) 0x18403028).ack (.stop p) k
     else (s.count32 (.site p) 0x18403020).qFull p x.queue k)
  else if (s.resvOf p c).isSome then (s.qLand p c k).ack (.stop p) k
  else if k.addr ≠ 0 then (s.count32 (.site p) 0x18403020).qFull p x.queue k
  else
    let y := s.qPlace p x.queue c k.seq (fld k.aux 0 17)
    if y.2 then (y.1.qLand p c k).ack (.stop p) k else y.1.qFull p x.queue k

/-- The lowest free receive channel entry. -/
def State.freeRecv (s : State) (p : Fin 168) : Option Nat := lowest 256 fun c => (s.recvCh p c).isNone

/-- A receive channel is registered in an entry (R296). -/
def State.register (s : State) (p : Fin 168) (c q : Nat) (src srcUnit : Byte) : State := s.setRecv p c (some ⟨q, src, srcUnit, 0⟩)

/-! ## Send contexts (R296-R303) -/

/-- A send context of a core. -/
def State.sctx (s : State) (p : Fin 168) (n : Nat) : SendCtx := Sparse.get SendCtx.init (s.site p).ctxs n

/-- The state with a send context changed. -/
def State.updCtx (s : State) (p : Fin 168) (n : Nat) (f : SendCtx → SendCtx) : State :=
  s.updSite p fun x => { x with ctxs := Sparse.put SendCtx.init x.ctxs n (f (Sparse.get SendCtx.init x.ctxs n)) }

/-- A started operation of a kind and context has ended (R590). -/
def State.endOp (s : State) (p : Fin 168) (kind : PendKind) (n : Nat) (seq : W32) (nacks : Nat) (r : PendResult) : State :=
  s.updCc p fun c => { c with
    pends := mapWhere (fun o => o.kind == kind && o.ctx == n && o.result.isNone && (kind != .chanSend || o.seq == seq))
      (fun o => { o with nacks := nacks, result := some r }) c.pends }

/-- Bit 63 set with a reason (R151). -/
def failWith (reason : Nat) : W64 := w64 (2 ^ 63 + reason)

/-- One MSG packet of a message is read and injected (R292, R297). -/
def State.sendMsgPkt (p : Fin 168) (c : SendCtx) (m : PendMsg) (s : State) (a : Nat) : State :=
  let n := min 2048 (m.len - a)
  let r := if n = 0 then (s, []) else s.engRead p 3 (m.addr + a) n
  let fs := ((r.2.drop ((m.addr + a) % 512 / 64)).take ((n + 63) / 64))
  let fs := (fs.zip (List.range fs.length)).map fun x => (⟨granOf ((granBytes x.1.data).take (n - 64 * x.2)), x.1.poison⟩ : Flit)
  let k := { mkPacket 0x04 c.dest.toNat 0 (s.lcidOf p) 0 (s.siteTag p) m.seq.toNat with
    addr := w64 a, ctx := BitVec.ofNat 16 c.channel, queue := BitVec.ofNat 8 c.queue, aux := BitVec.ofNat 32 m.len }
  let k := withPayload k fs
  (if m.att = 0 then r.1.noteRequest p k else r.1).inject (.stop p) k

/-- A message of a context changes. -/
def State.updMsg (s : State) (p : Fin 168) (n : Nat) (seq : W32) (f : PendMsg → PendMsg) : State :=
  s.updCtx p n fun c => { c with msgs := mapFirst (fun m => m.seq == seq) f c.msgs }

/-- A message's attempt is sent, from packet 0 (R297, R299). -/
def State.chAttempt (s : State) (p : Fin 168) (n : Nat) (m : PendMsg) : State :=
  let s := (msgAddrs m.len).foldl (State.sendMsgPkt p (s.sctx p n) m) s
  s.updMsg p n m.seq fun m => { m with
    first := some (m.first.getD s.time)
    budget := if m.first.isNone then (s.cc p).sendBudget.toNat else m.budget
    att := m.att + 1
    out := m.out ++ (msgAddrs m.len).map fun a => (m.att + 1, a)
    refused := false
    redo := false
    resendAt := none }

/-- Whether a message's budget has run out (R299). -/
def PendMsg.late (m : PendMsg) (now : Nat) : Bool :=
  match m.first with
  | some t => decide (t + m.budget ≤ now)
  | none => false

/-- A message is dropped (R300): the context is FAILED and later messages are flushed; a closing context keeps its other messages (R303). -/
def State.chDropMark (s : State) (p : Fin 168) (n : Nat) (seq : W32) (expired : Bool) : State :=
  s.updCtx p n fun c =>
    let closing := c.state == 4
    let after := c.msgs.dropWhile fun m => m.seq != seq
    { c with
      state := if closing then 4 else 3
      msgs := (c.msgs.takeWhile fun m => m.seq != seq) ++ (after.take 1).map (fun m => { m with status := some 1, expired := expired }) ++
        (after.drop 1).map fun m => if !closing && m.status.isNone then { m with status := some 2 } else m }

/-- Later messages are sent again once the one before them is delivered (R299). -/
def State.chResume (p : Fin 168) (n : Nat) (s : State) (m : PendMsg) : State :=
  if (s.sctx p n).state = 2 && m.redo && m.status.isNone then
    (if m.late s.time then s.chDropMark p n m.seq true else s.chAttempt p n m)
  else s

/-- A completion record of a message (R302). -/
def State.chRecord (s : State) (p : Fin 168) (n : Nat) (m : PendMsg) (status : Nat) : State :=
  let u := RegUnit.site p
  let s := s.putRecord p (s.rn u 0x18403000) (s.rn u 0x18403008)
    (toBytes 4 m.seq.toNat ++ toBytes 1 status ++ toBytes 1 m.lastReason ++ toBytes 1 n ++ toBytes 1 0 ++
      toBytes 2 (min m.nacks 65535) ++ toBytes 6 0)
  let s := (s.count64 u 0x18403008 1).count64 u 0x18403010 1
  if status = 0 then s else s.count32 u 0x18403018

/-- What the end of a message tells (R300, R301): SEND_DROPPED for a plain send, the outcome of a BLOCK send. -/
def State.chTell (s : State) (p : Fin 168) (n : Nat) (m : PendMsg) (status : Nat) : State :=
  if m.block then
    s.endOp p .chanSend n m.seq m.nacks
      (if status = 0 then .value (m.seq.zeroExtend 64)
       else if status = 1 && m.expired then .deadline
       else .value (failWith (if status = 2 then 0x07 else m.lastReason)))
  else if status = 1 then s.coreEvent p 0x3001 [s.lcidOf p, n, m.seq.toNat, m.lastReason, m.nacks]
  else s

/-- Messages at the front of a context that have ended leave it with their records, in sequence order (R302). -/
def State.chSettle (p : Fin 168) (n : Nat) : Nat → State → State
  | 0, s => s
  | k + 1, s =>
    match (s.sctx p n).msgs with
    | m :: t =>
      match m.status with
      | some st =>
        let s := (s.chRecord p n m st).chTell p n m st
        let s := s.updCtx p n fun c => { c with
          msgs := c.msgs.drop 1
          orphans := c.orphans ++ m.out.map fun o => (m.seq, o.2)
          drops := c.drops + if st = 0 then 0 else 1 }
        State.chSettle p n k (if st = 0 then t.foldl (State.chResume p n) s else s)
      | none => s
    | [] => s

/-- A packet of the handshakes (R263): CHAN_OPEN or CHAN_CLOSE, with a fresh request number. -/
def State.chShake (s : State) (p : Fin 168) (n typ : Nat) : State :=
  let c := s.sctx p n
  let seq := (s.site p).mvNextSeq
  let k := { mkPacket typ c.dest.toNat 0 (s.lcidOf p) 0 (s.siteTag p) seq.toNat with
    ctx := BitVec.ofNat 16 (if typ = 0x07 then c.channel else 0), queue := BitVec.ofNat 8 c.queue }
  let s := ((s.noteRequest p k).inject (.stop p) k).updSite p fun x => { x with mvNextSeq := x.mvNextSeq + 1 }
  s.updCtx p n fun c => { c with req := some seq, resendAt := none }

/-- A closing context sends CHAN_CLOSE once its messages are gone and every answer has arrived (R303). -/
def State.chCloseGo (s : State) (p : Fin 168) (n : Nat) : State :=
  let c := s.sctx p n
  if c.state = 4 && c.msgs.isEmpty && c.orphans.isEmpty && c.req.isNone then s.chShake p n 0x07 else s

/-- A context's messages settle, and it goes on closing. -/
def State.chGo (s : State) (p : Fin 168) (n : Nat) : State := (State.chSettle p n 64 s).chCloseGo p n

/-- The lowest free send context. -/
def State.freeCtx (s : State) (p : Fin 168) : Option Nat := lowest 256 fun n => (s.sctx p n).state == 0

/-- CHAN.OPEN takes a context and sends CHAN_OPEN (R296). -/
def State.chOpen (s : State) (p : Fin 168) (n : Nat) (dest : Byte) (q : Nat) : State :=
  (s.updCtx p n fun _ => { SendCtx.init with
    state := 1, dest := dest, queue := q, first := s.time, budget := (s.cc p).sendBudget.toNat }).chShake p n 0x06

/-- A context becomes free; a CHAN.CLOSE that waits for it ends with the messages dropped (R303). -/
def State.chFree (s : State) (p : Fin 168) (n : Nat) : State :=
  let drops := (s.sctx p n).drops
  (s.updCtx p n fun _ => SendCtx.init).endOp p .chanClose n 0 0 (.value (w64 drops))

/-- A message is handed to a context, and sent unless an earlier one waits for a resend (R297, R299). -/
def State.chHandOver (s : State) (p : Fin 168) (n addr len : Nat) (block : Bool) : State :=
  let c := s.sctx p n
  let held := c.msgs.any fun m => m.status.isNone && (m.redo || m.backoff != 0)
  let m : PendMsg := ⟨c.next, addr, len, block, 0, 0, none, 0, 0, [], false, held, 0, none, none, false⟩
  let s := s.updCtx p n fun c => { c with next := c.next + 1, msgs := c.msgs ++ [m] }
  if held then s else s.chAttempt p n m

/-- CHAN.CLOSE begins (R303): messages never sent are flushed, refused ones dropped, the others keep their answers. A context still opening is
freed at once when no handshake is unanswered. -/
def State.chClose (s : State) (p : Fin 168) (n : Nat) : State :=
  let c := s.sctx p n
  if c.state = 1 then
    (if c.req.isNone then s.chFree p n else s.updCtx p n fun c => { c with state := 4 })
  else
    (s.updCtx p n fun c => { c with
      state := 4
      msgs := c.msgs.map fun m =>
        if m.status.isSome then m else if m.first.isNone then { m with status := some 2 }
        else if m.refused then { m with status := some 1 } else m }).chGo p n

/-! ## Answers to a context (R294, R296, R299, R303) -/

/-- The context that a MSG answer belongs to: one that awaits an answer to a packet of this SEQ and ADDR on this channel, at this destination
or refused at the core's own stop (R269). -/
def State.ctxAwaiting (s : State) (p : Fin 168) (k : Packet) : Option Nat :=
  ((s.site p).ctxs.find? fun e =>
    let c := e.2
    c.state ≠ 0 && c.channel == k.ctx.toNat && (c.dest == k.src || k.src.toNat == s.lcidOf p) &&
      ((c.msgs.any fun m => m.seq == k.seq && m.out.any fun o => o.2 == k.addr.toNat) || c.orphans.contains (k.seq, k.addr.toNat))).map
    Prod.fst

/-- The attempt that an answer to a packet belongs to: the oldest that still awaits one for this ADDR. -/
def PendMsg.answered (m : PendMsg) (a : Nat) : Option Nat := (m.out.find? fun o => o.2 == a).map Prod.fst

/-- An ACK of a MSG packet (R294). -/
def State.chAcked (s : State) (p : Fin 168) (n : Nat) (k : Packet) : State :=
  match (s.sctx p n).msgs.find? fun m => m.seq == k.seq && (m.answered k.addr.toNat).isSome with
  | some _ =>
    (s.updMsg p n k.seq fun m =>
      let out := dropFirst (fun o => o.2 == k.addr.toNat) m.out
      { m with
        out := out
        status := if m.status.isNone && !m.refused && !out.any (fun o => o.1 == m.att) then some 0 else m.status }).chGo p n
  | none => (s.updCtx p n fun c => { c with orphans := dropFirst (fun o => o == (k.seq, k.addr.toNat)) c.orphans }).chGo p n

/-- A NACK of a MSG packet (R299, R300). -/
def State.chNacked (s : State) (p : Fin 168) (n : Nat) (k : Packet) : State :=
  let c := s.sctx p n
  let s := s.updCtx p n fun c => { c with lastReason := k.reason.toNat }
  match c.msgs.find? fun m => m.seq == k.seq && (m.answered k.addr.toNat).isSome with
  | some m =>
    let att := (m.answered k.addr.toNat).getD 0
    let acting := m.status.isNone && att == m.att && !m.refused
    let s := s.updMsg p n k.seq fun m => { m with
      out := dropFirst (fun o => o.2 == k.addr.toNat) m.out
      nacks := m.nacks + 1
      lastReason := k.reason.toNat
      refused := m.refused || att == m.att }
    if !acting then s.chGo p n
    else if c.state = 4 || (k.reason ≠ 0x01 && k.reason ≠ 0x05) then (s.chDropMark p n k.seq false).chGo p n
    else if m.redo then s
    else if m.late s.time then (s.chDropMark p n k.seq true).chGo p n
    else
      let b := nextBackoff m.backoff
      s.updCtx p n fun c => { c with
        msgs := (c.msgs.takeWhile fun m => m.seq != k.seq) ++
          ((c.msgs.dropWhile fun m => m.seq != k.seq).take 1).map (fun m => { m with backoff := b, resendAt := some (s.time + nsTicks b) }) ++
          ((c.msgs.dropWhile fun m => m.seq != k.seq).drop 1).map fun m => { m with redo := true } }
  | none => (s.updCtx p n fun c => { c with orphans := dropFirst (fun o => o == (k.seq, k.addr.toNat)) c.orphans }).chGo p n

/-- The context that awaits the answer to a handshake of a request number. -/
def State.ctxShaking (s : State) (p : Fin 168) (seq : W32) : Option Nat :=
  ((s.site p).ctxs.find? fun e => e.2.req == some seq).map Prod.fst

/-- A CHAN_ACCEPT reaches its context (R296). -/
def State.chAccepted (s : State) (p : Fin 168) (n : Nat) (k : Packet) : State :=
  let c := s.sctx p n
  let s := s.updCtx p n fun c => { c with state := if c.state = 1 then 2 else c.state, channel := fld k.ctx 0 8, req := none }
  if c.state = 1 then s.endOp p .chanOpen n 0 0 (.value (w64 n)) else s.chCloseGo p n

/-- A NACK of a CHAN_OPEN (R296): MOVING is resent within the budget, any other refusal frees the context. -/
def State.chRefused (s : State) (p : Fin 168) (n : Nat) (k : Packet) : State :=
  let c := s.sctx p n
  if c.state = 1 && k.reason = 0x05 && decide (s.time < c.first + c.budget) then
    let b := nextBackoff c.backoff
    s.updCtx p n fun c => { c with req := none, lastReason := 5, backoff := b, resendAt := some (s.time + nsTicks b) }
  else (s.chFree p n).endOp p .chanOpen n 0 0 (.value (failWith k.reason.toNat))

/-! ## Time-driven rows (R295, R299, R301) -/

/-- MSG_ABANDONED (R295): no packet has reached a channel's reservation for 100 µs. -/
def execMsgAbandoned (p : Site) (ch : BitVec 8) (s : State) : Host.Outcome State Fault Refusal :=
  .next (match s.resvOf p ch.toNat with
    | some r => if s.coreState p != 3 && r.last + ticks100us ≤ s.time then s.abandon p ch.toNat else s
    | none => s)

/-- CHANNEL_RESEND (R296, R299): a backoff has elapsed and a resend starts, within the budget. -/
def execChannelResend (p : Site) (ctx : BitVec 8) (s : State) : Host.Outcome State Fault Refusal :=
  let n := ctx.toNat
  let c := s.sctx p n
  let due (t : Option Nat) : Bool := match t with
    | some x => decide (x ≤ s.time)
    | none => false
  .next (if !s.enginesRun p then s
    else if c.state = 1 then
      (if due c.resendAt && decide (s.time < c.first + c.budget) then s.chShake p n 0x06 else s)
    else if c.state = 2 then
      match c.msgs.find? fun m => m.status.isNone && due m.resendAt && !m.late s.time with
      | some m => s.chAttempt p n m
      | none => s
    else s)

/-- SEND_BUDGET_EXPIRY (R296, R300, R301): the budget of a message, or of an open handshake, has run out after a retryable refusal. -/
def execSendBudgetExpiry (p : Site) (ctx : BitVec 8) (s : State) : Host.Outcome State Fault Refusal :=
  let n := ctx.toNat
  let c := s.sctx p n
  .next (if !s.enginesRun p then s
    else if c.state = 1 then
      (if c.resendAt.isSome && decide (c.first + c.budget ≤ s.time) then
        (s.chFree p n).endOp p .chanOpen n 0 0 (.value (failWith c.lastReason)) else s)
    else if c.state = 2 then
      match c.msgs.find? fun m => m.status.isNone && m.resendAt.isSome && m.late s.time with
      | some m => (s.chDropMark p n m.seq true).chGo p n
      | none => s
    else s)

/-! ## Windows (R305-R309) -/

/-- Whether a window is open. -/
def State.winIsOpen (s : State) (p : Fin 168) (w : Nat) : Bool := bit (s.reg (.site p) (0x18402000 + 32 * w)) 63

/-- The generation of a window. -/
def State.winGen (s : State) (p : Fin 168) (w : Nat) : Nat := s.rf (.site p) (0x18402000 + 32 * w) 40 8

/-- The permitted tag of a window as PUTs carry it: the core's own tag for 0xFF. -/
def State.winTag (s : State) (p : Fin 168) (w : Nat) : Nat :=
  let t := s.rf (.site p) (0x18402000 + 32 * w) 32 8
  if t = 0xFF then s.siteTag p else t

/-- A window opens with a new generation (R305). -/
def State.winOpen (s : State) (p : Fin 168) (w base len tag : Nat) : State :=
  let gen := (s.winGen p w + 1) % 256
  (s.setReg (.site p) (0x18402000 + 32 * w) (w64 (2 ^ 63 + gen * 2 ^ 40 + tag * 2 ^ 32 + base))).setReg (.site p) (0x18402008 + 32 * w) (w64 len)

/-- A window closes, keeping its generation and its tag (R307). -/
def State.winClose (s : State) (p : Fin 168) (w : Nat) : State := s.setRf (.site p) (0x18402000 + 32 * w) 63 1 0

/-- A PUT refused with WINDOW_CLOSED or STALE_GENERATION (R309): counted; the 1,001st in one drone second is a violation of its source. -/
def State.winRefuse (s : State) (p : Fin 168) (w : Nat) (k : Packet) (reason : Nat) : State :=
  let s := s.count32 (.site p) (0x18402010 + 32 * w)
  let sec := s.time / 10 ^ 8
  let old := Sparse.get (0, 0) (s.site p).winSec w
  let n := if old.1 = sec then old.2 + 1 else 1
  let s := s.updSite p fun x => { x with winSec := Sparse.put (0, 0) x.winSec w (sec, n) }
  if n = 1001 then
    (s.coreEvent p 0x9005 [s.lcidOf p, w, k.src.toNat, n]).nack (.stop p) k reason true
  else s.nack (.stop p) k reason (decide (1001 ≤ n))

end Sys2Proof.Machine
end

