-- ==== Sys2Proof/Machine/Me.lean ====
section
/-! DEFINITION. The matrix engine (R73-R100): the checks at the head of the queue, what each descriptor computes and writes, and
completion, abort and clearing a fault. A descriptor's data take effect when it starts; its record, done count, flags and
region pointers when it completes (log entry 8). -/

namespace Sys2Proof.Machine

/-! ## Descriptor fields (R90) -/

/-- OPCODE. -/
def meOp (d : Desc) : Nat := bytesAt d.bytes 0 1
/-- FLAGS. -/
def meFlags (d : Desc) : Nat := bytesAt d.bytes 1 1
/-- FORMATS. -/
def meFormats (d : Desc) : Nat := bytesAt d.bytes 2 2
/-- A_FMT. -/
def meA (d : Desc) : Nat := meFormats d % 16
/-- B_FMT. -/
def meB (d : Desc) : Nat := meFormats d / 16 % 16
/-- OUT_FMT. -/
def meOut (d : Desc) : Nat := meFormats d / 2 ^ 8 % 16
/-- ROUND. -/
def meRound (d : Desc) : Nat := meFormats d / 2 ^ 12 % 4
/-- ACC_MODE is WA96. -/
def meWa (d : Desc) : Bool := meFormats d / 2 ^ 14 % 2 == 1
/-- ANCHOR. -/
def meAnchor (d : Desc) : Nat := bytesAt d.bytes 4 2
/-- KIND of TARGET. -/
def meKind (d : Desc) : Nat := bytesAt d.bytes 6 1 % 4
/-- BANK of TARGET. -/
def meBank (d : Desc) : Nat := bytesAt d.bytes 6 1 / 4 % 2
/-- M. -/
def meM (d : Desc) : Nat := bytesAt d.bytes 8 2
/-- K_UNITS. -/
def meK (d : Desc) : Nat := bytesAt d.bytes 10 2
/-- N_UNITS. -/
def meN (d : Desc) : Nat := bytesAt d.bytes 12 2
/-- A_ADDR. -/
def meAAddr (d : Desc) : Nat := bytesAt d.bytes 16 4
/-- A_SCALE_ADDR. -/
def meAScale (d : Desc) : Nat := bytesAt d.bytes 20 4
/-- B_ADDR. -/
def meBAddr (d : Desc) : Nat := bytesAt d.bytes 24 4
/-- B_SCALE_ADDR. -/
def meBScale (d : Desc) : Nat := bytesAt d.bytes 28 4
/-- OUT_ADDR. -/
def meOutAddr (d : Desc) : Nat := bytesAt d.bytes 32 4
/-- A_STRIDE. -/
def meAStride (d : Desc) : Nat := bytesAt d.bytes 36 4
/-- OUT_STRIDE. -/
def meOutStride (d : Desc) : Nat := bytesAt d.bytes 40 4
/-- ACC of FLAGS. -/
def meAcc (d : Desc) : Bool := meFlags d % 2 == 1
/-- LIVE of FLAGS. -/
def meLive (d : Desc) : Bool := meFlags d / 2 % 2 == 1
/-- LATCH of FLAGS. -/
def meLatch (d : Desc) : Bool := meFlags d / 4 % 2 == 1

/-- The multiplicity of an operand pair (R73). -/
def meMult (a b : Nat) : Nat :=
  if fmtBits a = 16 || fmtBits b = 16 then 1 else if fmtBits a = 8 || fmtBits b = 8 then 2 else 4

/-- Whether a pair of operand formats is permitted (R74). -/
def pairOk (a b : Nat) : Bool := decide (1 ≤ a) && decide (a ≤ 0xB) && decide (1 ≤ b) && decide (b ≤ 0xB) && (isInt8 a == isInt8 b)

/-- Whether an output format is permitted for a target and accumulation mode (R88, R89). -/
def outOk (kind fmt : Nat) (wa : Bool) : Bool :=
  (fmt ≤ 2 || (kind != 1 && (fmt == 3 || fmt == 4)) || (kind != 1 && kind != 2 && fmt == 5) ||
    (wa && kind != 1 && fmt == 0xD) || (wa && kind != 1 && kind != 2 && fmt == 0xC))

/-- Values that a DRAIN or a GEMV_STREAM puts out. -/
def meOutCount (d : Desc) : Nat := if meOp d = 4 then meM d * 256 else meN d * 256

/-- Bytes that a DRAIN or a GEMV_STREAM puts out. -/
def meOutBytes (d : Desc) : Nat := elemBytes (meOut d) (meOutCount d)

/-- The operand cache span that a handoff fills (R89), empty for any other descriptor. -/
def meHandoff (d : Desc) : List (Nat × Nat) :=
  if (meOp d = 3 || meOp d = 4) && meKind d = 1 then [(meOutAddr d % 128 * 2048, meOutBytes d)] else []

/-! ## Spans (R75, R80, R84, R89) -/

/-- The spans a descriptor reads. -/
def meReads (d : Desc) : List (Nat × Nat) :=
  let k := 256 * meK d
  let b (n : Nat) := [(meBAddr d, elemBytes (meB d) n), (meBScale d, scaleBytes (meB d) n)]
  if meOp d = 1 then b (256 * k)
  else if meOp d = 2 then
    (if meLive d then [] else b (256 * k)) ++
      ((List.range (meM d)).map fun r => (meAAddr d + r * meAStride d, elemBytes (meA d) k)) ++
      [(meAScale d, meM d * scaleBytes (meA d) k)]
  else if meOp d = 3 then
    (if meLatch d then [] else [(meAAddr d, elemBytes (meA d) k), (meAScale d, scaleBytes (meA d) k)]) ++
      b (256 * meN d * k) ++
      (if meAcc d && meKind d = 0 then [(meOutAddr d, meN d * 256 * (if meWa d then 16 else 4))] else [])
  else []

/-- The spans of scratchpad that a descriptor writes. -/
def meWrites (d : Desc) : List (Nat × Nat) :=
  if meKind d ≠ 0 then []
  else if meOp d = 3 then [(meOutAddr d, meOutBytes d)]
  else if meOp d = 4 then (List.range (meM d)).map fun r => (meOutAddr d + r * meOutStride d, elemBytes (meOut d) 256)
  else []

/-! ## Checks at the head of the queue (R97, R98) -/

/-- The bytes each opcode uses (Fields used by opcode). -/
def meUsed (op : Nat) : List (Nat × Nat) :=
  match op with
  | 1 => [(0, 1), (2, 1), (10, 4), (24, 8), (44, 4)]
  | 2 => [(0, 7), (8, 6), (16, 16), (36, 4), (44, 4)]
  | 3 => [(0, 7), (10, 4), (16, 20), (44, 4)]
  | 4 => [(0, 1), (2, 5), (8, 2), (32, 4), (40, 8)]
  | _ => [(0, 1), (44, 4)]

/-- BAD_RESERVED (R90): a non-zero reserved or unused field. -/
def meReserved (d : Desc) : Bool :=
  let op := meOp d
  let fl := meFlags d
  let fm := meFormats d
  let tg := bytesAt d.bytes 6 1
  !unusedZero d.bytes (meUsed op) ||
    (op == 2 && (fl / 4 != 0 || fm / 2 ^ 8 % 64 != 0)) ||
    (op == 3 && (fl / 8 != 0 || fl / 2 % 2 != 0 || tg / 4 != 0)) ||
    (op == 4 && fm % 256 != 0) ||
    ((op == 2 || op == 3 || op == 4) && (fm / 2 ^ 15 != 0 || tg / 8 != 0 || (!meWa d && meAnchor d != 0))) ||
    ((op == 2 || op == 3) && meAScale d != 0 && !isMx (meA d)) ||
    ((op == 1 || op == 2 || op == 3) && meBScale d != 0 && !isMx (meB d))

/-- BAD_DIMENSION. -/
def meBadDim (d : Desc) : Bool :=
  let m := meMult (meA d) (meB d)
  match meOp d with
  | 1 => meK d != m || meN d != 1
  | 2 => meM d == 0 || decide (1024 < meM d) || meK d == 0 || decide (4096 < meK d) || meK d % m != 0 || meN d != 1 ||
      (meLive d && meK d != m)
  | 3 => meK d == 0 || decide (128 < meK d) || meN d == 0 || decide (4096 < meN d)
  | 4 => meM d == 0 || decide (1024 < meM d)
  | _ => false

/-- BAD_ALIGNMENT. -/
def meBadAlign (d : Desc) : Bool :=
  let op := meOp d
  let off (x : Nat) := x % 512 != 0
  ((op == 2 || op == 3) && (off (meAAddr d) || off (meAScale d))) ||
    ((op == 1 || op == 2 || op == 3) && (off (meBAddr d) || off (meBScale d))) ||
    (op == 2 && (off (meAStride d) || decide (meAStride d < (elemBytes (meA d) (256 * meK d) + 511) / 512 * 512))) ||
    (op == 4 && off (meOutStride d)) ||
    ((op == 3 || op == 4) && meKind d == 0 && off (meOutAddr d))

/-- TARGET_BAD. -/
def meBadTarget (d : Desc) : Bool :=
  match meOp d with
  | 2 => meKind d != 3
  | 3 => meKind d == 3 || (meAcc d && meKind d != 0) || (meKind d == 1 && decide (128 * 2048 < meOutAddr d % 128 * 2048 + meOutBytes d)) ||
      (meKind d == 2 && decide (256 * 64 < meOutBytes d))
  | 4 => meKind d == 3 || (meKind d == 1 && decide (128 * 2048 < meOutAddr d % 128 * 2048 + meOutBytes d)) ||
      (meKind d == 2 && decide (256 * 64 < meOutBytes d))
  | _ => false

/-- A bank of the engine. -/
def Me.bank (m : Me) (i : Nat) : Bank := if i = 0 then m.bank0 else m.bank1

/-- The engine with a bank replaced. -/
def Me.setBank (m : Me) (i : Nat) (b : Bank) : Me := if i = 0 then { m with bank0 := b } else { m with bank1 := b }

/-- Whether a bank's tag matches a descriptor (R79, R91). -/
def Bank.matchesTag (b : Bank) (d : Desc) : Bool :=
  b.fmt == some (if meWa d then BankFmt.wa96 else BankFmt.fp32) && b.rows == meM d && (!meWa d || b.anchor.toNat == meAnchor d)

/-- NO_TILE (R82, R98). -/
def Me.noTile (m : Me) (d : Desc) : Bool :=
  (meOp d == 2 && meLive d && (match m.live with
    | some t => t.fmt != meB d || t.mult != meMult (meA d) (meB d)
    | none => true)) ||
  (meOp d == 3 && meLatch d && (match m.latch with
    | some l => l.fmt != meA d || decide (l.count < 256 * meK d)
    | none => true))

/-- The checks of a descriptor that depend on its bytes and the core's layout alone, each with its reason (R98, R324). -/
def State.meStatic (s : State) (p : Fin 168) (d : Desc) : List (Nat × Bool) :=
  let op := meOp d
  [(0x01, op == 0 || decide (5 < op)),
   (0x02, ((op == 1 || op == 2 || op == 3) && !pairOk (meA d) (meB d)) ||
      ((op == 3 || op == 4) && !outOk (meKind d) (meOut d) (meWa d))),
   (0x03, (op == 3 || op == 4) && decide (2 ≤ meRound d)),
   (0x04, (op == 2 || op == 3 || op == 4) && meWa d && !anchorOk (meAnchor d)),
   (0x05, meBadDim d),
   (0x06, meBadAlign d),
   (0x07, !(meReads d ++ meWrites d).all fun x => s.spanOn p (lineSpan x.1 x.2).1 (lineSpan x.1 x.2).2),
   (0x09, (op == 2 || op == 4) && meWa d && decide (256 < meM d)),
   (0x0C, meBadTarget d),
   (0x0D, meReserved d)]

/-- The reason with the lowest code that refuses a descriptor at the head of the queue, none when it passes (R98). -/
def State.meCheck (s : State) (p : Fin 168) (d : Desc) : Option Nat :=
  let op := meOp d
  let m := (s.site p).me
  lowestFault (s.meStatic p d ++
    [(0x08, m.noTile d),
     (0x0A, d.poison),
     (0x0B, ((op == 2 && meAcc d) || op == 4) && !(m.bank (meBank d)).matchesTag d)])

/-! ## Starting (R92, R93) -/

/-- Whether a running descriptor is a compute descriptor. -/
def isCompute (d : Desc) : Bool := meOp d == 2 || meOp d == 3

/-- Whether R93 lets the head start beside the running descriptors. The older of two compute descriptors is taken to be in its
tail (log entry 8). -/
def Me.mayStart (m : Me) (d : Desc) : Bool :=
  let run := m.running.map (·.desc)
  let comp := run.filter isCompute
  let rest := run.filter fun x => !isCompute x
  if m.running.any (fun r => r.reason != 0) then false
  else if run.isEmpty then true
  else if isCompute d then
    decide (comp.length ≤ 1) && decide (rest.length ≤ 1) &&
      rest.all fun x => meOp x == 1 || (meOp x == 4 && !(meOp d == 2 && meBank x == meBank d))
  else if meOp d = 1 then rest.isEmpty
  else if meOp d = 4 then rest.isEmpty && comp.all fun x => !(meOp x == 2 && meBank x == meBank d)
  else false

/-- Whether the matrix engine of a site can start descriptors: the core's engines run and FAULTED is clear (R97). -/
def State.meReady (s : State) (p : Fin 168) : Bool := s.enginesRun p && s.rf (.site p) 0x18100000 7 1 == 0

/-- The head of the queue joins the running descriptors. -/
def State.meBegin (s : State) (p : Fin 168) (r : EngRun) : State :=
  s.updSite p fun x => { x with me := { x.me with queue := x.me.queue.drop 1, running := x.me.running ++ [r] } }

/-- A started descriptor with nothing to publish. -/
def EngRun.of (d : Desc) (reason : Nat) : EngRun := ⟨d, reason, 0, [], [], [], [], [], 0, []⟩

/-- The head is refused (R97): its record waits for the older descriptors; a tile prefetched for it is discarded (R77). -/
def State.meRefuse (s : State) (p : Fin 168) (d : Desc) (reason : Nat) : State :=
  let s := s.updSite p fun x => { x with me := { x.me with
    shadow := match x.me.shadow with
      | some t => if t.serves.isSome then none else some t
      | none => none } }
  s.meBegin p (EngRun.of d reason)

/-- The head descriptor when it has one of the opcodes and may start. -/
def State.meHead (s : State) (p : Fin 168) (op : Nat) : Option Desc :=
  match (s.site p).me.queue with
  | d :: _ => if s.meReady p && meOp d == op && (s.site p).me.mayStart d then some d else none
  | [] => none

/-- What a start row does with the head: nothing while no such descriptor may start or a STALL region holds it back (R178), a refusal when
a check fails (R97) or a FAULT region is overrun, else the descriptor's effect. -/
def State.meStart (s : State) (p : Fin 168) (op : Nat) (run : State → Desc → State) : State :=
  match s.meHead p op with
  | none => s
  | some d =>
    match s.meCheck p d with
    | some r => s.meRefuse p d r
    | none =>
      match (s.readsOk p 1 (meReads d)).join (s.writesOk p 1 (meWrites d)) with
      | .wait => s
      | .overrun => s.meRefuse p d 0x16
      | _ => run s d

/-! ## Tiles (R76, R77, R80) -/

/-- The first tile of a descriptor's B is read. -/
def State.readTile (s : State) (p : Fin 168) (d : Desc) (serves : Option Nat) : State × Tile :=
  let n := 256 * 256 * meMult (meA d) (meB d)
  let x := s.engRead p 0 (meBAddr d) (elemBytes (meB d) n)
  let y := x.1.engRead p 0 (meBScale d) (scaleBytes (meB d) n)
  (y.1, ⟨meB d, meMult (meA d) (meB d), meBAddr d, meBScale d, (flitBytes x.2).take (elemBytes (meB d) n),
    (flitBytes y.2).take (scaleBytes (meB d) n), x.2.any (·.poison) || y.2.any (·.poison), serves⟩)

/-- Whether a shadow tile serves a descriptor: it was loaded or prefetched from the same B (R77, R91). -/
def Tile.servesDesc (t : Tile) (d : Desc) : Bool :=
  t.fmt == meB d && t.mult == meMult (meA d) (meB d) && t.addr == meBAddr d && t.scaleAddr == meBScale d &&
    (match t.serves with
      | some n => n == d.serial
      | none => true)

/-- The prefetch of the next descriptor's first tile during the last pass (R77). -/
def State.mePrefetch (s : State) (p : Fin 168) : State :=
  match (s.site p).me.queue with
  | d :: _ =>
    let k := if meOp d = 1 then meK d == meMult (meA d) (meB d) && meN d == 1
      else meK d != 0 && decide (meK d ≤ 4096) && meK d % meMult (meA d) (meB d) == 0 && meN d == 1
    let n := 256 * 256 * meMult (meA d) (meB d)
    let spans := [(meBAddr d, elemBytes (meB d) n), (meBScale d, scaleBytes (meB d) n)]
    if (meOp d = 1 || (meOp d = 2 && !meLive d)) && pairOk (meA d) (meB d) && k && meBAddr d % 512 == 0 && meBScale d % 512 == 0 &&
        spans.all (fun x => s.spanOn p x.1 x.2) && s.readsOk p 1 spans == .ok then
      let x := s.readTile p d (some d.serial)
      x.1.updSite p fun y => { y with me := { y.me with shadow := some x.2 } }
    else s
  | [] => s

/-- A LOAD_TILE starts (R91). -/
def State.runLoadTile (s : State) (p : Fin 168) (d : Desc) : State :=
  let held := match (s.site p).me.shadow with
    | some t => if t.serves.isSome && t.servesDesc d then some t else none
    | none => none
  let x := match held with
    | some t => (s, t)
    | none => s.readTile p d none
  let s := x.1.updSite p fun y => { y with me := { y.me with shadow := some { x.2 with serves := none } } }
  s.meBegin p { EngRun.of d 0 with
    tails := s.regionEnds p false 1 (meBAddr d) (elemBytes (meB d) (65536 * x.2.mult)) ++
      s.regionEnds p false 1 (meBScale d) (scaleBytes (meB d) (65536 * x.2.mult)) }

/-! ## GEMM_WS (R76-R81) -/

/-- The output sums of one row of a GEMM_WS: for each column the products over K in the reference order (R56, R80), or as WA96
contributions (R86). -/
def gemmRow (d : Desc) (a b : Operand) (row : Nat) (start : Nat → Option (BitVec 128)) : List (BitVec 128) :=
  let k := 256 * meK d
  (List.range 256).map fun c =>
    accumulate (meWa d) (anchorOf (meAnchor d)) (start c)
      ((List.range k).map fun i =>
        (a.value i (row * (k / 32) + i / 32)).mul (b.value ((i / 32 * 256 + c) * 32 + i % 32) (i / 32 * 256 + c)))

/-- The rest of B after the first tile is read, for a GEMM_WS of more than one tile. -/
def State.readRest (s : State) (p : Fin 168) (d : Desc) (first : Tile) : State × List Byte × List Byte × Bool :=
  let n := 256 * 256 * meK d
  let x := s.engRead p 0 (meBAddr d + first.elems.length) (elemBytes (meB d) n - first.elems.length)
  let y := x.1.engRead p 0 (meBScale d + first.scales.length) (scaleBytes (meB d) n - first.scales.length)
  (y.1, first.elems ++ flitBytes x.2, first.scales ++ flitBytes y.2, first.poison || x.2.any (·.poison) || y.2.any (·.poison))

/-- One row of A is read and its 256 sums go into the bank. -/
def State.gemmStep (p : Fin 168) (d : Desc) (b : Operand) (bPoison : Bool) (scales : List Flit) (s : State) (r : Nat) : State :=
  let k := 256 * meK d
  let x := s.engRead p 0 (meAAddr d + r * meAStride d) (elemBytes (meA d) k)
  let a := mkOperand (meA d) ((flitBytes x.2).take (elemBytes (meA d) k)) (flitBytes scales)
  let old := (x.1.site p).me.bank (meBank d)
  let start (c : Nat) := if meAcc d then some (Sparse.get 0 old.sums (r * 256 + c)) else none
  let sums := gemmRow d a b r start
  let bad := bPoison || flitsPoison x.2 0 (elemBytes (meA d) k) ||
    flitsPoison scales (r * scaleBytes (meA d) k) (scaleBytes (meA d) k) || (meAcc d && old.poison.contains r)
  let bank : Bank :=
    { fmt := some (if meWa d then .wa96 else .fp32), rows := meM d, anchor := BitVec.ofNat 16 (meAnchor d),
      sums := (sums.zip (List.range 256)).foldl (fun m e => Sparse.put 0 m (r * 256 + e.2) e.1) old.sums,
      poison := (old.poison.filter (· != r)) ++ (if bad then [r] else []) }
  x.1.updSite p fun y => { y with me := y.me.setBank (meBank d) bank }

/-- A GEMM_WS starts: its passes over B, its rows of A, and its bank (R76-R79), with the prefetch of its last pass. -/
def State.runGemm (s : State) (p : Fin 168) (d : Desc) : State :=
  let mult := meMult (meA d) (meB d)
  let first : State × Tile :=
    if meLive d then (s, ((s.site p).me.live).getD ⟨0, 0, 0, 0, [], [], false, none⟩)
    else match (s.site p).me.shadow with
      | some t => if t.servesDesc d then (s, t) else s.readTile p d none
      | none => s.readTile p d none
  let rest := if meLive d then (first.1, first.2.elems, first.2.scales, first.2.poison) else first.1.readRest p d first.2
  let b := mkOperand (meB d) rest.2.1 rest.2.2.1
  let bytes := elemBytes (meB d) (65536 * mult)
  let sbytes := scaleBytes (meB d) (65536 * mult)
  let last : Tile := ⟨meB d, mult, meBAddr d, meBScale d, rest.2.1.drop (rest.2.1.length - bytes),
    rest.2.2.1.drop (rest.2.2.1.length - sbytes), rest.2.2.2, none⟩
  let s := rest.1.updSite p fun y => { y with me := { y.me with live := some last, shadow := if meLive d then y.me.shadow else none } }
  let sc := s.engRead p 0 (meAScale d) (meM d * scaleBytes (meA d) (256 * meK d))
  let s := if meAcc d then sc.1 else sc.1.updSite p fun y => { y with me := y.me.setBank (meBank d) Bank.init }
  let s := (List.range (meM d)).foldl (State.gemmStep p d b rest.2.2.2 sc.2) s
  let poison := ((s.site p).me.bank (meBank d)).poison
  let s := s.meBegin p { EngRun.of d 0 with
    flags := if poison.isEmpty then 0 else 8
    count := meM d * (256 * meK d) * 256
    tails := (meReads d).flatMap fun x => s.regionEnds p false 1 (lineSpan x.1 x.2).1 (lineSpan x.1 x.2).2 }
  if meLive d then s else s.mePrefetch p

/-! ## Output (R87-R89) -/

/-- One output value: its bits, its NAN, OVER and LOSS flags, and its poison. -/
structure OutVal where
  bits : Nat
  flags : Nat
  poison : Bool
  deriving DecidableEq, Repr

/-- Output values in flit or granule order, 512 / w a granule; a granule is marked when a value in it is poisoned. -/
def outGrans (w : Nat) (vs : List OutVal) : List Flit :=
  (chunks (512 / w) (vs.length * w / 512) vs).map fun c =>
    ⟨BitVec.ofNat 512 (packElems w (c.map (·.bits))), c.any (·.poison)⟩

/-- Rows of output values written to a descriptor's target; the first list gives a scratchpad address for each row. -/
def State.mePut (s : State) (p : Fin 168) (d : Desc) (addrs : List Nat) (rows : List (List OutVal)) : State :=
  let grans := rows.map (outGrans (fmtBits (meOut d)))
  if meKind d = 0 then s.engWrites p 0 d.off (addrs.zip grans)
  else if meKind d = 1 then (s.spoilVe p (meHandoff d)).putCache p (meOutAddr d % 128 * 2048) grans.flatten
  else s.injectFlits p (meOutAddr d % 64) grans.flatten

/-- The FLAGS of a completion record from output rows (R95). -/
def outFlags (rows : List (List OutVal)) : Nat :=
  orAll (rows.map fun r => orAll (r.map fun v => v.flags ||| (if v.poison then 8 else 0)))

/-- A descriptor with output rows begins, with what its completion publishes. -/
def State.meOutput (s : State) (p : Fin 168) (d : Desc) (addrs : List Nat) (rows : List (List OutVal)) (macs : Nat) : State :=
  let s := s.mePut p d addrs rows
  s.meBegin p { EngRun.of d 0 with
    flags := outFlags rows
    writes := meWrites d
    cacheWrites := meHandoff d
    heads := (meWrites d).flatMap fun x => s.regionEnds p true 1 x.1 x.2
    tails := (meReads d).flatMap fun x => s.regionEnds p false 1 (lineSpan x.1 x.2).1 (lineSpan x.1 x.2).2
    count := macs }

/-- Whether an injection waits for room in its slot buffer (R240). -/
def State.meNoRoom (s : State) (p : Fin 168) (d : Desc) : Bool :=
  meKind d == 2 && s.slotMode p (meOutAddr d % 64) == 1 &&
    decide (256 < (s.slotBuf p (meOutAddr d % 64)).length + (meOutBytes d + 63) / 64)

/-- A DRAIN starts (R91): the bank's rows converted and written. -/
def State.runDrain (s : State) (p : Fin 168) (d : Desc) : State :=
  if s.meNoRoom p d then s
  else
    let b := (s.site p).me.bank (meBank d)
    let rows := (List.range (meM d)).map fun r =>
      (List.range 256).map fun c =>
        let v := convertOut (meWa d) (anchorOf (meAnchor d)) (meOut d) (rmodeOf (meRound d)) (Sparse.get 0 b.sums (r * 256 + c))
        ⟨v.1, v.2, b.poison.contains r⟩
    s.meOutput p d ((List.range (meM d)).map fun r => meOutAddr d + r * meOutStride d) rows 0

/-! ## GEMV_STREAM (R82-R85) -/

/-- The activation latch for a GEMV_STREAM: as held, or loaded (R82). -/
def State.meLatchLoad (s : State) (p : Fin 168) (d : Desc) : State × Latch :=
  let k := 256 * meK d
  if meLatch d then (s, ((s.site p).me.latch).getD ⟨0, 0, [], [], false⟩)
  else
    let x := s.engRead p 0 (meAAddr d) (elemBytes (meA d) k)
    let y := x.1.engRead p 0 (meAScale d) (scaleBytes (meA d) k)
    let l : Latch := ⟨meA d, k, (flitBytes x.2).take (elemBytes (meA d) k), (flitBytes y.2).take (scaleBytes (meA d) k),
      flitsPoison x.2 0 (elemBytes (meA d) k) || flitsPoison y.2 0 (scaleBytes (meA d) k)⟩
    (y.1.updSite p fun z => { z with me := { z.me with latch := some l } }, l)

/-- The 256 results of a row group (R83, R84). -/
def gemvGroup (d : Desc) (a b : Operand) (g : Nat) (start : Nat → Option (BitVec 128)) : List (BitVec 128) :=
  let u := meK d
  (List.range 256).map fun j =>
    accumulate (meWa d) (anchorOf (meAnchor d)) (start j)
      ((List.range (256 * u)).map fun i =>
        let beat := (g * u + i / 256) * 8 + i % 256 / 32
        (a.value i (i / 32)).mul (b.value ((beat * 256 + j) * 32 + i % 32) (beat * 256 + j)))

/-- A GEMV_STREAM starts: the latch, W and the starting values are read, and the results are written (R82-R87). -/
def State.runGemv (s : State) (p : Fin 168) (d : Desc) : State :=
  if s.meNoRoom p d then s
  else
    let lt := s.meLatchLoad p d
    let n := 256 * meN d * (256 * meK d)
    let eb := elemBytes (meB d) n
    let sb := scaleBytes (meB d) n
    let x := lt.1.engRead p 0 (meBAddr d) eb
    let y := x.1.engRead p 0 (meBScale d) sb
    let ow := if meWa d then 16 else 4
    let z := if meAcc d then y.1.engRead p 0 (meOutAddr d) (meN d * 256 * ow) else (y.1, [])
    let a := mkOperand (meA d) lt.2.elems lt.2.scales
    let b := mkOperand (meB d) (flitBytes x.2) (flitBytes y.2)
    let held := ofBytes (flitBytes z.2)
    let start (g j : Nat) : Option (BitVec 128) :=
      if meAcc d then some (BitVec.ofNat 128 (streamElem held (8 * ow) (g * 256 + j))) else none
    let ge := eb / meN d
    let gs := sb / meN d
    let rows := (List.range (meN d)).map fun g =>
      let bad := lt.2.poison || flitsPoison x.2 (g * ge) ge || flitsPoison y.2 (g * gs) gs
      ((gemvGroup d a b g (start g)).zip (List.range 256)).map fun v =>
        let c := convertOut (meWa d) (anchorOf (meAnchor d)) (meOut d) (rmodeOf (meRound d)) v.1
        ⟨c.1, c.2, bad || (meAcc d && flitsPoison z.2 ((g * 256 + v.2) * ow) ow)⟩
    let ob := elemBytes (meOut d) 256
    z.1.meOutput p d ((List.range (meN d)).map fun g => meOutAddr d + g * ob) rows (256 * meN d * (256 * meK d))

/-! ## Completion, abort and clearing (R95, R97, R100, R147) -/

/-- ME_FLAGS takes a completed descriptor's flags. -/
def State.meSetFlags (s : State) (p : Fin 168) (flags : Nat) : State :=
  s.setReg (.site p) 0x18100038 (s.reg (.site p) 0x18100038 ||| w64 (flags % 16))

/-- The oldest running descriptor completes (R95, R179): record, counts, flags and region pointers, a DRAIN's bank becomes EMPTY, and for a
refused one FAULTED (R97). -/
def State.meComplete (s : State) (p : Fin 168) (r : EngRun) : State :=
  let s := s.updSite p fun x => { x with me := { x.me with running := x.me.running.drop 1 } }
  let s := s.engRecord p 0x18100000 r.desc r.reason r.flags
  if r.reason ≠ 0 then s.engFault p 0x18100000 0 r.reason (bytesAt r.desc.bytes 44 4)
  else
    let s := if meOp r.desc = 4 then s.updSite p fun x => { x with me := x.me.setBank (meBank r.desc) Bank.init } else s
    let s := (s.count64 (.site p) 0x18100028 r.count).meSetFlags p r.flags
    (s.advanceHeads p r.heads).advanceTails p r.tails

/-- Queued descriptors leave without completion records: the issue count goes back (R147), and vector descriptors that wait for their handoff
will be refused (R126). -/
def State.meDiscard (s : State) (p : Fin 168) (gone : List Desc) : State :=
  let last := match (s.site p).me.running.getLast? with
    | some r => r.desc.ticket
    | none => s.reg (.site p) 0x18100020
  let lost := gone.map (·.serial)
  let s := s.updCc p fun c => { c with meIssued := last }
  s.updSite p fun x => { x with
    me := { x.me with hands := x.me.hands.map fun h => (h.1, h.2.1, h.2.2 || lost.contains h.2.1) }
    ve := { x.ve with
      discarded := x.ve.discarded ++ (x.ve.handoff.filter fun h => lost.contains h.2).map Prod.fst
      handoff := x.ve.handoff.filter fun h => !lost.contains h.2 } }

/-- ABORT (R100): running descriptors stop without records, the queue is discarded, and both banks become EMPTY. -/
def State.meAbort (s : State) (p : Fin 168) : State :=
  let m := (s.site p).me
  let s := s.updSite p fun x => { x with me := { x.me with
    queue := [], running := [], bank0 := Bank.init, bank1 := Bank.init
    shadow := match x.me.shadow with
      | some t => if t.serves.isSome then none else some t
      | none => none } }
  s.meDiscard p (m.running.map (·.desc) ++ m.queue)

/-- CLEAR_FAULT (R97): the queue is discarded and FAULTED clears. -/
def State.meClearFault (s : State) (p : Fin 168) : State :=
  let m := (s.site p).me
  let s := s.setReg (.site p) 0x18100000 (setFld (setFld (s.reg (.site p) 0x18100000) 8 8 0) 7 1 0)
  let s := s.updSite p fun x => { x with me := { x.me with
    queue := []
    shadow := match x.me.shadow with
      | some t => if t.serves.isSome then none else some t
      | none => none } }
  s.meDiscard p m.queue

/-! ## The rows -/

/-- ME_LOAD_TILE (R91). -/
def execMeLoadTile (p : Site) (s : State) : Host.Outcome State Fault Refusal := .next (s.meStart p 1 fun st d => st.runLoadTile p d)

/-- ME_GEMM_WS (R77). -/
def execMeGemmWs (p : Site) (s : State) : Host.Outcome State Fault Refusal := .next (s.meStart p 2 fun st d => st.runGemm p d)

/-- ME_GEMV_STREAM (R85). -/
def execMeGemvStream (p : Site) (s : State) : Host.Outcome State Fault Refusal := .next (s.meStart p 3 fun st d => st.runGemv p d)

/-- ME_DRAIN (R91). -/
def execMeDrain (p : Site) (s : State) : Host.Outcome State Fault Refusal := .next (s.meStart p 4 fun st d => st.runDrain p d)

/-- ME_SYNC (R93). -/
def execMeSync (p : Site) (s : State) : Host.Outcome State Fault Refusal := .next (s.meStart p 5 fun st d => st.meBegin p (EngRun.of d 0))

/-- ME_DESC_COMPLETE (R95): the oldest running descriptor completes; with none running, a head of no listed OPCODE is refused (R97). -/
def execMeDescComplete (p : Site) (s : State) : Host.Outcome State Fault Refusal :=
  .next (if s.enginesRun p then
    match (s.site p).me.running with
    | r :: _ => s.meComplete p r
    | [] =>
      match (s.site p).me.queue with
      | d :: _ =>
        if s.meReady p && (meOp d == 0 || decide (5 < meOp d)) then (s.meRefuse p d 0x01).meComplete p (EngRun.of d 0x01) else s
      | [] => s
  else s)

/-- ME_ABORT (R100): the control core writes ABORT; a core that does not run writes nothing. -/
def execMeAbort (p : Site) (s : State) : Host.Outcome State Fault Refusal := .next (if s.coreRuns p then s.meAbort p else s)

/-- ME_CLEAR_FAULT (R97): the control core writes CLEAR_FAULT. -/
def execMeClearFault (p : Site) (s : State) : Host.Outcome State Fault Refusal := .next (if s.coreRuns p then s.meClearFault p else s)

end Sys2Proof.Machine
end

