-- ==== Sys2Proof/Machine/Operands.lean ====
section
/-! DEFINITION. The operands of the control core: general registers and predicates (R132), immediates (R138), branch targets (R138). -/

namespace Sys2Proof.Machine

/-- A general register; g0 reads as zero (R132). -/
def Cc.r (c : Cc) (n : BitVec 5) : W64 := if n = 0 then 0 else Sparse.get 0 c.g n.toNat

/-- The control core with a general register written; a write to g0 is discarded (R132). -/
def Cc.setR (c : Cc) (n : BitVec 5) (v : W64) : Cc := if n = 0 then c else { c with g := Sparse.put 0 c.g n.toNat v }

/-- A predicate; p0 reads as true (R132). Bit n of the byte is pn, bit 0 of it unused. -/
def Cc.pr (c : Cc) (n : BitVec 3) : Bool := n == 0 || bit c.preds n.toNat

/-- The control core with a predicate written; a write to p0 is discarded (R132). -/
def Cc.setPr (c : Cc) (n : BitVec 3) (b : Bool) : Cc := if n = 0 then c else { c with preds := setBit c.preds n.toNat b }

/-- A signed immediate (R138). -/
def simm {n : Nat} (x : BitVec n) : W64 := x.signExtend 64

/-- A zero-extended immediate (R138). -/
def zimm {n : Nat} (x : BitVec n) : W64 := x.zeroExtend 64

/-- The effective address of a load or store (R139). -/
def Cc.ea (c : Cc) (rs1 : BitVec 5) (imm : BitVec 16) : W64 := c.r rs1 + simm imm

/-- The target of a branch or a JAL: an offset in words from the instruction's own address (R138). -/
def Cc.target {n : Nat} (c : Cc) (imm : BitVec n) : W64 := c.pc.zeroExtend 64 + simm imm * 4

/-- The target of a JALR: bits [1:0] of the sum cleared (R138). -/
def Cc.jalrTarget (c : Cc) (rs1 : BitVec 5) (imm : BitVec 16) : W64 := (c.r rs1 + simm imm) &&& ~~~3#64

/-- Whether a target lies in instruction memory (R138). -/
def targetOk (t : W64) : Bool := decide (t.toNat < 0x10000)

/-- The result of a load of n bytes, zero- or sign-extended (R139). -/
def extendLoad (n : Nat) (signed : Bool) (v : Nat) : W64 :=
  if signed && decide (2 ^ (8 * n - 1) ≤ v % 2 ^ (8 * n)) then w64 (2 ^ 64 - 2 ^ (8 * n) + v % 2 ^ (8 * n)) else w64 (v % 2 ^ (8 * n))

end Sys2Proof.Machine
end

