-- ==== Sys2Proof/Machine/Ve.lean ====
section
/-! DEFINITION. The vector engine (R101-R131): the checks at the head of the queue, FILL, EVICT, LOAD_TABLE, the fused chains with
their summaries and segments, and completion, abort, clearing a fault and writing a summary. As for the matrix engine, a
descriptor's data take effect when it starts and its record, counts and summaries when it completes (log entry 8). -/

namespace Sys2Proof.Machine

/-! ## Descriptor fields (R122) -/

/-- OPCODE. -/
def veOp (d : Desc) : Nat := bytesAt d.bytes 0 1
/-- ZERO of FLAGS. -/
def veZero (d : Desc) : Bool := bytesAt d.bytes 1 1 % 2 == 1
/-- STAGES. -/
def veStages (d : Desc) : Nat := bytesAt d.bytes 2 1
/-- SR_STREAM. -/
def veStreamNo (d : Desc) : Nat := bytesAt d.bytes 3 1
/-- N, the elements of a chain. -/
def veN (d : Desc) : Nat := 32 * bytesAt d.bytes 4 2
/-- LINES. -/
def veLines (d : Desc) : Nat := bytesAt d.bytes 6 1
/-- FIRST_LINE. -/
def veFirst (d : Desc) : Nat := bytesAt d.bytes 7 1
/-- ADDR. -/
def veAddr (d : Desc) : Nat := bytesAt d.bytes 8 4
/-- The stream word of stream i: 0 A, 1 B, 2 C, 3 OUT. -/
def veStream (d : Desc) (i : Nat) : Nat := bytesAt d.bytes (16 + 4 * i) 4
/-- An immediate as FP32. -/
def veImm (d : Desc) (i : Nat) : Fp := fp32 (BitVec.ofNat 32 (bytesAt d.bytes (32 + 4 * i) 4))
/-- INDEX_BASE. -/
def veIndex (d : Desc) : Nat := bytesAt d.bytes 40 4
/-- SEG. -/
def veSeg (d : Desc) : Nat := bytesAt d.bytes 44 1
/-- SEG_LINE. -/
def veSegLine (d : Desc) : Nat := bytesAt d.bytes 45 1
/-- Emit word i. -/
def veEmit (d : Desc) (i : Nat) : Nat := bytesAt d.bytes (48 + 2 * i) 2
/-- Stage word i. -/
def veStage (d : Desc) (i : Nat) : Nat := bytesAt d.bytes (64 + 4 * i) 4

/-- FMT of a stream word. -/
def swFmt (w : Nat) : Nat := w % 16
/-- EN of a stream word. -/
def swEn (w : Nat) : Bool := w / 2 ^ 7 % 2 == 1
/-- ROUND of a stream word. -/
def swRound (w : Nat) : Nat := w / 2 ^ 5 % 4
/-- LINE of a stream word. -/
def swLine (w : Nat) : Nat := w / 2 ^ 8 % 2 ^ 7
/-- SCALE_LINE of a stream word. -/
def swScale (w : Nat) : Nat := w / 2 ^ 16 % 2 ^ 7

/-- The element span of an enabled stream, in bytes of the operand cache (R111). -/
def swElems (n w : Nat) : List (Nat × Nat) := if swEn w then [(swLine w * 2048, n * fmtBits (swFmt w) / 8)] else []

/-- The scale span of an enabled MX stream. -/
def swScales (n w : Nat) : List (Nat × Nat) := if swEn w && isMx (swFmt w) then [(swScale w * 2048, n / 32)] else []

/-- The number of segments of a chain (R121). -/
def veSegs (d : Desc) : Nat := if veSeg d = 0 then 0 else veN d / (veSeg d * 512)

/-- The segment area of a chain. -/
def veSegSpan (d : Desc) : List (Nat × Nat) := if veSeg d = 0 then [] else [(veSegLine d * 2048, veSegs d * 32)]

/-- Spans widened to whole operand cache lines. -/
def wholeLines (l : List (Nat × Nat)) : List (Nat × Nat) :=
  l.map fun x => (x.1 / 2048 * 2048, ((x.1 + x.2 + 2047) / 2048 - x.1 / 2048) * 2048)

/-- The operand cache lines a descriptor reads. -/
def veCacheReads (d : Desc) : List (Nat × Nat) :=
  if veOp d = 2 then [(veFirst d * 2048, veLines d * 2048)]
  else if veOp d = 3 then
    wholeLines ((List.range 3).flatMap (fun i => swElems (veN d) (veStream d i) ++ swScales (veN d) (veStream d i)) ++ veSegSpan d)
  else []

/-- The operand cache lines a descriptor writes. -/
def veCacheWrites (d : Desc) : List (Nat × Nat) :=
  if veOp d = 1 then [(veFirst d * 2048, veLines d * 2048)]
  else if veOp d = 3 then wholeLines (swElems (veN d) (veStream d 3) ++ swScales (veN d) (veStream d 3) ++ veSegSpan d)
  else []

/-- The scratchpad span a descriptor reads. -/
def veReads (d : Desc) : List (Nat × Nat) :=
  if veOp d = 1 && !veZero d then [(veAddr d, veLines d * 2048)] else if veOp d = 4 then [(veAddr d, 1536)] else []

/-- The scratchpad span a descriptor writes. -/
def veWrites (d : Desc) : List (Nat × Nat) := if veOp d = 2 then [(veAddr d, veLines d * 2048)] else []

/-! ## Checks at the head of the queue (R129) -/

/-- Sources an operation takes (0, 1 or 2) and the PARAM bits it uses; none for a reserved operation (R106, Stage operations). -/
def stageShape (op : Nat) : Option (Nat × Nat) :=
  if op = 0x00 || op = 0x0C || op = 0x0D || op = 0x0F || (0x12 ≤ op && op ≤ 0x19) || (0x1C ≤ op && op ≤ 0x20) then some (0, 0)
  else if (0x01 ≤ op && op ≤ 0x05) || (0x08 ≤ op && op ≤ 0x0A) || op = 0x0E then some (1, 0)
  else if op = 0x06 || op = 0x07 || op = 0x0B || op = 0x11 then some (2, 0)
  else if op = 0x10 then some (1, 0x0007)
  else if op = 0x1A then some (0, 0x03FF)
  else if op = 0x1B then some (0, 0x003F)
  else if op = 0x21 || op = 0x22 then some (0, 0x3F00)
  else none

/-- Whether a rounding mode is permitted for a target (R50). -/
def modeOk (fmt mode : Nat) : Bool :=
  mode == 0 || (mode == 1 && (fmt ≤ 2 || fmt == 5)) || (mode == 2 && isMx fmt)

/-- Whether a stage word is well formed (R105, R106, R109). -/
def stageOk (d : Desc) (w : Nat) : Bool :=
  let s1 := w / 2 ^ 22 % 16
  let s2 := w / 2 ^ 18 % 16
  let aux := w / 2 ^ 14 % 16
  let par := w % 2 ^ 14
  let srcOk (x : Nat) : Bool := decide (x ≤ 10) && !(decide (1 ≤ x) && decide (x ≤ 3) && !swEn (veStream d (x - 1))) &&
    !(x == 7 && veSeg d == 0)
  match stageShape (w / 2 ^ 26) with
  | none => false
  | some (n, mask) =>
    (if n ≥ 1 then srcOk s1 else s1 == 0) && (if n ≥ 2 then srcOk s2 else s2 == 0) &&
      (aux == 0 || (n ≥ 1 && (s1 == 6 || s1 == 7)) || (n ≥ 2 && (s2 == 6 || s2 == 7))) &&
      (par &&& mask) == par &&
      (w / 2 ^ 26 != 0x21 || (decide (1 ≤ par / 2 ^ 10) && decide (par / 2 ^ 10 ≤ 5) && modeOk (par / 2 ^ 10) (par / 2 ^ 8 % 4))) &&
      (w / 2 ^ 26 != 0x22 || (isMx (par / 2 ^ 10) && modeOk (par / 2 ^ 10) (par / 2 ^ 8 % 4)))

/-- Whether R112 lets the output coincide with a stream. -/
def overlapOk (n o x : Nat) : Bool :=
  let oe := swElems n o
  let os := swScales n o
  let xe := swElems n x
  let xs := swScales n x
  !spansMeet (wholeLines (oe ++ os)) (wholeLines (xe ++ xs)) ||
    (swLine o == swLine x && fmtBits (swFmt o) == fmtBits (swFmt x) &&
      (isMx (swFmt o) == isMx (swFmt x)) && (!isMx (swFmt o) || swScale o == swScale x) &&
      !spansMeet (wholeLines oe) (wholeLines xs) && !spansMeet (wholeLines os) (wholeLines xe))

/-- The bytes each opcode uses (Fields used by opcode). -/
def veUsed (d : Desc) : List (Nat × Nat) :=
  match veOp d with
  | 1 => if veZero d then [(0, 2), (6, 2), (12, 4)] else [(0, 2), (6, 6), (12, 4)]
  | 2 => [(0, 1), (6, 6), (12, 4)]
  | 3 => [(0, 1), (2, 4), (12, 34), (48, 8), (64, 32)]
  | 4 => [(0, 1), (8, 8)]
  | _ => [(0, 1), (12, 4)]

/-- BAD_RESERVED (R122). -/
def veReserved (d : Desc) : Bool :=
  !unusedZero d.bytes (veUsed d) || (veOp d == 1 && bytesAt d.bytes 1 1 / 2 != 0) ||
    (veOp d == 3 &&
      ((List.range 4).any (fun i =>
          let w := veStream d i
          w / 2 ^ 23 != 0 || w / 2 ^ 15 % 2 != 0 || w / 2 ^ 4 % 2 != 0 || (i != 3 && swRound w != 0) ||
            (swScale w != 0 && !isMx (swFmt w))) ||
        (List.range 8).any (fun i => decide (veStages d ≤ i) && veStage d i != 0) ||
        (List.range 4).any (fun i => veEmit d i % 16 != 0)))

/-- The checks of a descriptor that depend on its bytes and the core's layout alone, each with its reason (R98, R324). -/
def State.veStatic (s : State) (p : Fin 168) (d : Desc) : List (Nat × Bool) :=
  let op := veOp d
  let chain := op == 3
  let n := veN d
  let past (l : List (Nat × Nat)) := l.any fun x => decide (128 * 2048 < x.1 + x.2)
  let out := veStream d 3
  [(0x01, op == 0 || decide (5 < op)),
   (0x02, chain && (List.range 4).any fun i => decide (0xB < swFmt (veStream d i))),
   (0x03, chain && (swRound out == 3 || (swEn out && !(modeOk (swFmt out) (swRound out) && (swFmt out != 0 || swRound out == 0))))),
   (0x05, (chain && (n == 0 || decide (65536 < n) || veStages d == 0 || decide (8 < veStages d) ||
          (veSeg d != 0 && (n % (veSeg d * 512) != 0 || decide (128 < veSegs d))))) ||
        ((op == 1 || op == 2) && (veLines d == 0 || decide (128 < veFirst d + veLines d)))),
   (0x06, ((op == 1 && !veZero d) || op == 2 || op == 4) && veAddr d % 512 != 0),
   (0x07, !(veReads d ++ veWrites d).all fun x => s.spanOn p x.1 x.2),
   (0x0D, veReserved d),
   (0x10, chain && (List.range (min 8 (veStages d))).any fun i => !stageOk d (veStage d i)),
   (0x11, chain && (List.range 4).any fun i =>
        veEmit d i / 2 ^ 15 == 1 && (decide (veStages d ≤ veEmit d i / 2 ^ 8 % 8) || veEmit d i / 2 ^ 11 % 8 == 7)),
   (0x12, chain && (past ((List.range 4).flatMap fun i => swElems n (veStream d i) ++ swScales n (veStream d i)) || past (veSegSpan d))),
   (0x13, chain && (!(List.range 3).all (fun i => overlapOk n out (veStream d i)) ||
        spansMeet (wholeLines (veSegSpan d)) (wholeLines ((List.range 4).flatMap fun i =>
          swElems n (veStream d i) ++ swScales n (veStream d i)))))]

/-- The reason with the lowest code that refuses a vector descriptor, none when it passes (R98, R129). -/
def State.veCheck (s : State) (p : Fin 168) (d : Desc) : Option Nat :=
  let chain := veOp d == 3
  let v := (s.site p).ve
  lowestFault (s.veStatic p d ++
    [(0x0A, d.poison),
     (0x14, chain && v.table.isNone && (List.range (min 8 (veStages d))).any fun i => veStage d i / 2 ^ 26 == 0x19),
     (0x15, v.discarded.contains d.serial)])

/-! ## Starting (R125, R126) -/

/-- Whether a running descriptor is a transfer. -/
def isTransfer (d : Desc) : Bool := veOp d == 1 || veOp d == 2

/-- Whether R125 lets the head start beside the running descriptors. -/
def Ve.mayStart (v : Ve) (d : Desc) : Bool :=
  if v.running.any (fun r => r.reason != 0) then false
  else if v.running.isEmpty then true
  else if isTransfer d then
    v.running.all fun r => !isTransfer r.desc && veOp r.desc == 3 &&
      !spansMeet (veCacheReads d ++ veCacheWrites d) (r.cacheReads ++ r.cacheWrites)
  else false

/-- Whether a descriptor waits for a matrix-engine handoff whose completion is not recorded (R126). -/
def State.veWaitsMe (s : State) (p : Fin 168) (d : Desc) : Bool :=
  (s.site p).ve.handoff.any fun h => h.1 == d.serial &&
    ((s.site p).me.queue.any (fun e => e.serial == h.2) || (s.site p).me.running.any (fun r => r.desc.serial == h.2))

/-- Whether the vector engine of a site can start descriptors. -/
def State.veReady (s : State) (p : Fin 168) : Bool := s.enginesRun p && s.rf (.site p) 0x18200000 7 1 == 0

/-- The head of the queue joins the running descriptors. -/
def State.veBegin (s : State) (p : Fin 168) (r : EngRun) : State :=
  s.updSite p fun x => { x with ve := { x.ve with
    queue := x.ve.queue.drop 1
    running := x.ve.running ++ [r]
    handoff := x.ve.handoff.filter fun h => h.1 != r.desc.serial
    discarded := x.ve.discarded.filter fun n => n != r.desc.serial } }

/-- A started vector descriptor with nothing to publish. -/
def veRunOf (d : Desc) (reason : Nat) : EngRun := ⟨d, reason, 0, [], [], [], [], [], 0, []⟩

/-- What a start row does with the head: as for the matrix engine, with the handoff wait (R126), and lines that a running handoff of the
matrix engine shares left undefined (R127). -/
def State.veStart (s : State) (p : Fin 168) (op : Nat) (run : State → Desc → State) : State :=
  match (s.site p).ve.queue with
  | d :: _ =>
    if s.veReady p && veOp d == op && (s.site p).ve.mayStart d && !s.veWaitsMe p d then
      match s.veCheck p d with
      | some r => s.veBegin p (veRunOf d r)
      | none =>
        match (s.readsOk p 2 (veReads d)).join (s.writesOk p 2 (veWrites d)) with
        | .wait => s
        | .overrun => s.veBegin p (veRunOf d 0x16)
        | _ =>
          let me := (s.site p).me.running.flatMap (·.cacheWrites)
          let s := run (s.freeCache p (spansCommon (veCacheReads d) me)) d
          s.freeCache p (spansCommon (veCacheWrites d) me)
    else s
  | [] => s

/-! ## FILL, EVICT and LOAD_TABLE (R123, R124) -/

/-- A FILL starts. -/
def State.runFill (s : State) (p : Fin 168) (d : Desc) : State :=
  let x := if veZero d then (s, List.replicate (32 * veLines d) ⟨0, false⟩) else s.engRead p 1 (veAddr d) (veLines d * 2048)
  let s := x.1.putCache p (veFirst d * 2048) x.2
  s.veBegin p { veRunOf d 0 with
    flags := if x.2.any (·.poison) then 8 else 0
    cacheWrites := veCacheWrites d
    tails := (veReads d).flatMap fun y => s.regionEnds p false 2 y.1 y.2 }

/-- The granules of the operand cache from a byte offset. -/
def State.cacheGrans (s : State) (p : Fin 168) (a n : Nat) : List Flit :=
  (List.range n).map fun i => ⟨granOf (s.cacheBytes p (a + 64 * i) 64), (s.site p).ve.marks.contains (a / 64 + i)⟩

/-- An EVICT starts. -/
def State.runEvict (s : State) (p : Fin 168) (d : Desc) : State :=
  let fs := s.cacheGrans p (veFirst d * 2048) (32 * veLines d)
  let s := s.engWrites p 1 d.off [(veAddr d, fs)]
  s.veBegin p { veRunOf d 0 with
    flags := if fs.any (·.poison) then 8 else 0
    writes := veWrites d
    cacheReads := veCacheReads d
    heads := (veWrites d).flatMap fun y => s.regionEnds p true 2 y.1 y.2 }

/-- A LOAD_TABLE starts (R124). -/
def State.runLoadTable (s : State) (p : Fin 168) (d : Desc) : State :=
  let x := s.engRead p 1 (veAddr d) 1536
  let b := flitBytes x.2
  let t : VeTable := ⟨(List.range 256).map fun i => BitVec.ofNat 32 (bytesAt b (4 * i) 4), BitVec.ofNat 32 (bytesAt b 1024 4),
    BitVec.ofNat 32 (bytesAt b 1028 4), x.2.any (·.poison)⟩
  let s := x.1.updSite p fun y => { y with ve := { y.ve with table := some t } }
  s.veBegin p { veRunOf d 0 with
    flags := if t.poison then 8 else 0
    tails := (veReads d).flatMap fun y => s.regionEnds p false 2 y.1 y.2 }

/-! ## Chains (R101-R109) -/

/-- An element in a chain: the running value, the flag, and their poison (R104, R130). -/
structure VElem where
  t : Fp
  f : Bool
  pt : Bool
  pf : Bool
  deriving DecidableEq, Repr

/-- A source's values, one for each element, with their poison. -/
abbrev VSrc := Nat → Fp × Bool

/-- Whether a byte range of the operand cache meets a marked granule. -/
def marked (marks : List Nat) (a n : Nat) : Bool := (List.range ((a + n - 1) / 64 - a / 64 + 1)).any fun i => marks.contains (a / 64 + i)

/-- A stream as a source (R104, R111, R130). -/
def State.streamSrc (s : State) (p : Fin 168) (n w : Nat) : VSrc :=
  let fmt := swFmt w
  let wb := fmtBits fmt
  let a := swLine w * 2048
  let o := mkOperand fmt (s.cacheBytes p a (n * wb / 8)) (if isMx fmt then s.cacheBytes p (swScale w * 2048) (n / 32) else [])
  let marks := (s.site p).ve.marks
  fun e =>
    let x := streamElem o.elems wb e
    if isMx fmt then
      (widen fmt x (streamElem o.scales 8 (e / 32)),
       marked marks (a + e / 32 * (4 * wb)) (4 * wb) || marked marks (swScale w * 2048 + e / 32) 1)
    else (widen fmt x 0, marked marks (a + e * wb / 8) 1)

/-- The value of a source code of a stage for element `e`, whose running element is `t` (R105). -/
def State.stageSrc (s : State) (p : Fin 168) (d : Desc) (streams : Nat → VSrc) (aux code e : Nat) (t : VElem) : Fp × Bool :=
  match code with
  | 0 => (t.t, t.pt)
  | 1 => streams 0 e
  | 2 => streams 1 e
  | 3 => streams 2 e
  | 4 => (veImm d 0, false)
  | 5 => (veImm d 1, false)
  | 6 => (fp32 ((s.reg (.site p) (0x18200100 + 8 * aux)).setWidth 32), bit (s.reg (.site p) 0x18200050) aux)
  | 7 =>
    let a := veSegLine d * 2048 + (e / (veSeg d * 512) * 4 + aux % 4) * 8
    (fp32 (BitVec.ofNat 32 (ofBytes (s.cacheBytes p a 4))), marked (s.site p).ve.marks a 1)
  | 8 => (rne32 (.fin false (veIndex d + e) 0), false)
  | 10 => (Fp.one, false)
  | _ => (Fp.zero, false)

/-- CMP's condition (Stage operations, 0x10). -/
def cmpStage (cc : Nat) (a b : Fp) : Bool :=
  match cc with
  | 0 => a.eq b
  | 1 => !a.eq b
  | 2 => a.lt b
  | 3 => a.lt b || a.eq b
  | 4 => b.lt a
  | 5 => b.lt a || a.eq b
  | 6 => a.isNan || b.isNan
  | _ => !a.isNan && !b.isNan

/-- SHIFT (R109). -/
def shiftStage (par : Nat) (t : Fp) : Fp :=
  let i : Int := match t with
    | .nan => 0
    | .inf n => if n then -2 ^ 31 else 2 ^ 31 - 1
    | .fin _ _ _ => max (-2 ^ 31) (min (2 ^ 31 - 1) t.trunc.toInt)
  let x : BitVec 32 := BitVec.ofInt 32 i
  let n := par % 64
  let y := if n < 32 then x <<< n else x.sshiftRight (64 - n)
  rne32 (.ofInt y.toInt 0)

/-- POLY (R108). -/
def polyStage (tb : VeTable) (t : Fp) : Fp :=
  let u := mul32 (add32 t (fp32 tb.x0).opp) (fp32 tb.invW)
  match u with
  | .nan => .nan
  | _ =>
    let i : Nat := match u with
      | .inf n => if n then 0 else 63
      | _ => (max 0 (min 63 u.floor.toInt)).toNat
    let d := add32 u (Fp.opp (.fin false i 0))
    let c (k : Nat) := fp32 (tb.coef.getD (4 * i + k) 0)
    fma32 (fma32 (fma32 (c 3) d (c 2)) d (c 1)) d (c 0)

/-- What a stage other than QMX makes of t, with its sources (R107, Stage operations). -/
def stageValue (table : VeTable) (op par : Nat) (f : Bool) (t a b : Fp) : Fp :=
  match op with
  | 0x01 => a
  | 0x02 => add32 t a
  | 0x03 => add32 t a.opp
  | 0x04 => add32 a t.opp
  | 0x05 => mul32 t a
  | 0x06 => fma32 t a b
  | 0x07 => rne32 (b.add (t.mul a).opp)
  | 0x08 => rne32 (t.div a)
  | 0x09 => t.min a
  | 0x0A => t.max a
  | 0x0B => (t.max a).min b
  | 0x0C => t.abs
  | 0x0D => t.opp
  | 0x0E => if a.neg then t.abs.opp else t.abs
  | 0x0F => if t.isNan || t.isZero then t else if t.neg then Fp.one.opp else Fp.one
  | 0x11 => if f then a else b
  | 0x12 => rne32 t.exp2
  | 0x13 => rne32 t.exp
  | 0x14 => rne32 (t.log true)
  | 0x15 => rne32 (t.log false)
  | 0x16 => rne32 (Fp.one.div t)
  | 0x17 => rne32 t.sqrt
  | 0x18 => rne32 t.rsqrt
  | 0x19 => polyStage table t
  | 0x1A => rne32 (t.shift (if par % 1024 < 512 then (par % 1024 : Nat) else ((par % 1024 : Nat) : Int) - 1024))
  | 0x1B => shiftStage par t
  | 0x1C => rne32 t.trunc
  | 0x1D => rne32 t.floor
  | 0x1E => rne32 t.ceil
  | 0x1F => rne32 t.rint
  | 0x20 => add32 t t.floor.opp
  | 0x21 => (elemValue (par / 2 ^ 10) (narrow (par / 2 ^ 10) (rmodeOf (par / 2 ^ 8 % 4)) t))
  | _ => t

/-- The rounding of element `e` for an MX target in a mode (R50, R52). -/
def veMode (sr : W64 × Nat × Nat) (stream mode e : Nat) : RMode :=
  if mode = 2 then .sr (srBits sr.1 sr.2.1 stream sr.2.2 e) else rmodeOf mode

/-- The blocks of a chain's elements: 32 each (R45). -/
def blocksOf (l : List VElem) : List (List VElem) := chunks 32 (l.length / 32) l

/-- QMX over a whole chain (R109, R130). -/
def qmxStage (sr : W64 × Nat × Nat) (stream par : Nat) (l : List VElem) : List VElem :=
  ((blocksOf l).zip (List.range (l.length / 32))).flatMap fun bj =>
    let q := quantBlock (par / 2 ^ 10) (fun i => veMode sr stream (par / 2 ^ 8 % 4) (32 * bj.2 + i)) (bj.1.map (·.t))
    let bad := bj.1.any (·.pt)
    (bj.1.zip q.2).map fun x => { x.1 with t := widen (par / 2 ^ 10) x.2 q.1, pt := bad }

/-- One stage over a whole chain. -/
def State.runStage (s : State) (p : Fin 168) (d : Desc) (streams : Nat → VSrc) (l : List VElem) (w : Nat) : List VElem :=
  let op := w / 2 ^ 26
  let par := w % 2 ^ 14
  let aux := w / 2 ^ 14 % 16
  if op = 0x22 then qmxStage (s.srInputs p) (veStreamNo d) par l
  else
    let n := match stageShape op with
      | some x => x.1
      | none => 0
    let table := ((s.site p).ve.table).getD ⟨[], 0, 0, false⟩
    (l.zip (List.range l.length)).map fun x =>
      let a := s.stageSrc p d streams aux (w / 2 ^ 22 % 16) x.2 x.1
      let b := s.stageSrc p d streams aux (w / 2 ^ 18 % 16) x.2 x.1
      let bad := x.1.pt || (n ≥ 1 && a.2) || (n ≥ 2 && b.2) || (op == 0x19 && table.poison)
      if op = 0x10 then { x.1 with f := cmpStage (par % 8) x.1.t a.1, pt := bad, pf := bad }
      else { x.1 with t := stageValue table op par x.1.f x.1.t a.1 b.1, pt := bad || (op == 0x11 && x.1.pf) }

/-- The elements after each stage, and after the last. -/
def State.runStages (s : State) (p : Fin 168) (d : Desc) (streams : Nat → VSrc) : List Nat → List VElem → List (List VElem)
  | [], _ => []
  | w :: t, l =>
    let m := s.runStage p d streams l w
    m :: State.runStages s p d streams t m

/-! ## Summaries (R115-R121) -/

/-- A summary of values that follow one another from element `first` of the chain: the 64-bit value, its poison, and whether a float result
is NaN (Summary values). -/
def summarise (kind base first : Nat) (l : List VElem) : W64 × Bool × Bool :=
  let vs := l.map (·.t)
  let bad := l.any (·.pt)
  let f32 (v : Fp) : W64 := (fp32Bits v).setWidth 64
  match kind with
  | 0 =>
    let clocks := (chunks 512 ((vs.length + 511) / 512) vs).map chunkSum
    let v := match clocks with
      | c :: t => t.foldl add32 c
      | [] => Fp.zero
    (f32 v, bad, v.isNan)
  | 1 =>
    let v := vs.foldl Fp.max .nan
    (f32 v, bad, v.isNan)
  | 2 =>
    let v := vs.foldl Fp.min .nan
    (f32 v, bad, v.isNan)
  | 3 =>
    let r := (vs.zip (List.range vs.length)).foldl (fun (a : Fp × Nat) x =>
      if x.1.isNan then a else if a.1.isNan || a.1.ltz x.1 then (x.1, (base + first + x.2) % 2 ^ 32) else a) (Fp.nan, 0xFFFFFFFF)
    (w64 (r.2 * 2 ^ 32) + f32 r.1, bad, r.1.isNan)
  | 4 => (w64 (vs.filter fun v => !v.isZero).length, bad, false)
  | 5 => (w64 (b01 (vs.any (·.isNan))), bad, false)
  | _ => (w64 (b01 bad), false, false)

/-- A summary combined with a register's old value (R118). -/
def combineSummary (kind : Nat) (old new : W64) : W64 :=
  let o := fp32 (old.setWidth 32)
  let n := fp32 (new.setWidth 32)
  match kind with
  | 0 => (fp32Bits (add32 o n)).setWidth 64
  | 1 => (fp32Bits (o.max n)).setWidth 64
  | 2 => (fp32Bits (o.min n)).setWidth 64
  | 3 => if n.isNan then old else if o.isNan || o.ltz n then new else old
  | 4 => old + new
  | _ => old ||| new

/-- Bytes written into the operand cache as (offset, bytes, poison) pieces: a granule covered fully takes the data's mark, one covered in
part keeps its old mark too (R113). -/
def State.cachePieces (s : State) (p : Fin 168) (ps : List (Nat × List Byte × Bool)) : State :=
  let gs := (ps.flatMap fun x => (List.range ((x.1 + x.2.1.length + 63) / 64 - x.1 / 64)).map (· + x.1 / 64)).eraseDups
  let inG (g : Nat) (x : Nat × List Byte × Bool) : Nat := min (x.1 + x.2.1.length) (64 * g + 64) - max x.1 (64 * g)
  let old := (s.site p).ve.marks
  let isMarked (g : Nat) : Bool :=
    ps.any (fun x => inG g x != 0 && x.2.2) || (old.contains g && (ps.foldl (fun a x => a + inG g x) 0) < 64)
  s.updSite p fun x => { x with ve := { x.ve with
    cache := ps.foldl (fun m y => m.writeBytes y.1 y.2.1) x.ve.cache
    marks := ((x.ve.marks.filter fun m => !gs.contains m) ++ gs.filter isMarked).mergeSort (· ≤ ·) } }

/-- A byte string from a line's start cut at granules, each piece poisoned by the elements of `w` bits that touch it. -/
def outPieces (a w : Nat) (bytes : List Byte) (bad : Nat → Bool) : List (Nat × List Byte × Bool) :=
  ((chunks 64 ((bytes.length + 63) / 64) bytes).zip (List.range ((bytes.length + 63) / 64))).map fun x =>
    (a + 64 * x.2, x.1,
     (List.range (((512 * x.2 + 8 * x.1.length - 1) / w + 1) - 512 * x.2 / w)).any fun i => bad (512 * x.2 / w + i))

/-- The output of a chain: its pieces, whether some element is NaN, and whether some is poisoned. -/
def State.chainOut (s : State) (p : Fin 168) (d : Desc) (l : List VElem) : List (Nat × List Byte × Bool) × Bool × Bool :=
  let w := veStream d 3
  let fmt := swFmt w
  let wb := fmtBits fmt
  let n := l.length
  if !swEn w then ([], false, false)
  else if isMx fmt then
    let qs := ((blocksOf l).zip (List.range (n / 32))).map fun bj =>
      (quantBlock fmt (fun i => veMode (s.srInputs p) (veStreamNo d) (swRound w) (32 * bj.2 + i)) (bj.1.map (·.t)), bj.1.any (·.pt))
    let bad (j : Nat) : Bool := (qs.map Prod.snd).getD j false
    (outPieces (swLine w * 2048) (32 * wb) (toBytes (n * wb / 8) (packElems wb (qs.flatMap fun q => q.1.2))) bad ++
      outPieces (swScale w * 2048) 8 (qs.map fun q => BitVec.ofNat 8 q.1.1) bad,
     qs.any (fun q => q.1.1 == 255), qs.any Prod.snd)
  else
    let bad (e : Nat) : Bool := (l.map (·.pt)).getD e false
    (outPieces (swLine w * 2048) wb (toBytes (n * wb / 8) (packElems wb (l.map fun x => narrow fmt (rmodeOf (swRound w)) x.t))) bad,
     fmt != 5 && l.any (fun x => x.t.isNan || (fmt == 3 && !x.t.isFin)), l.any (·.pt))

/-- A CHAIN starts: its elements pass the stages, its output, segment entries and summaries are formed (R101-R121). -/
def State.runChain (s : State) (p : Fin 168) (d : Desc) : State :=
  let n := veN d
  let src (i : Nat) : VSrc := if swEn (veStream d i) then s.streamSrc p n (veStream d i) else fun _ => (Fp.zero, false)
  let first := (List.range n).map fun e => (⟨(src 0 e).1, false, (src 0 e).2, false⟩ : VElem)
  let taps := s.runStages p d src ((List.range (veStages d)).map (veStage d)) first
  let out := s.chainOut p d (taps.getLast?.getD first)
  let emits := (List.range 4).filter fun i => veEmit d i / 2 ^ 15 == 1
  let kind (i : Nat) := veEmit d i / 2 ^ 11 % 8
  let tap (i : Nat) := taps.getD (veEmit d i / 2 ^ 8 % 8) []
  let whole := emits.map fun i => (i, summarise (kind i) (veIndex d) 0 (tap i))
  let len := veSeg d * 512
  let segs := (List.range (veSegs d)).flatMap fun k =>
    emits.map fun i =>
      let r := summarise (kind i) (veIndex d) (k * len) (((tap i).drop (k * len)).take len)
      (veSegLine d * 2048 + (k * 4 + i) * 8, r)
  let s := s.cachePieces p (out.1 ++ segs.map fun e => (e.1, toBytes 8 e.2.1.toNat, e.2.2.1))
  let poison := out.2.2 || whole.any (fun e => e.2.2.1) || segs.any (fun e => e.2.2.1)
  let nan := out.2.1 || whole.any (fun e => e.2.2.2) || segs.any (fun e => e.2.2.2)
  s.veBegin p { veRunOf d 0 with
    flags := b01 poison * 8 + b01 nan * 4 + b01 out.2.1
    cacheReads := veCacheReads d
    cacheWrites := veCacheWrites d
    count := n
    sums := whole.map fun e =>
      (veEmit d e.1 / 2 ^ 4 % 16 + kind e.1 * 16 + veEmit d e.1 / 2 ^ 14 % 2 * 128, e.2.1, e.2.2.1) }

/-! ## Completion, abort, clearing and writing a summary -/

/-- A summary register takes a value and a poison bit. -/
def State.setSum (s : State) (p : Fin 168) (n : Nat) (v : W64) (bad : Bool) : State :=
  (s.setReg (.site p) (0x18200100 + 8 * n) v).setReg (.site p) 0x18200050 (setBit (s.reg (.site p) 0x18200050) n bad)

/-- The summaries of a completed chain go to their registers (R117, R118). -/
def State.veSums (s : State) (p : Fin 168) (l : List (Nat × W64 × Bool)) : State :=
  l.foldl (fun st e =>
    let n := e.1 % 16
    if e.1 / 128 = 1 then
      st.setSum p n (combineSummary (e.1 / 16 % 8) (st.reg (.site p) (0x18200100 + 8 * n)) e.2.1)
        (e.2.2 || bit (st.reg (.site p) 0x18200050) n)
    else st.setSum p n e.2.1 e.2.2) s

/-- The oldest running vector descriptor completes (R117, R128). Bit 0 of a chain's flags says that an output element was NaN. -/
def State.veComplete (s : State) (p : Fin 168) (r : EngRun) : State :=
  let s := s.updSite p fun x => { x with ve := { x.ve with running := x.ve.running.drop 1 } }
  let s := s.engRecord p 0x18200000 r.desc r.reason (r.flags / 4 * 4)
  if r.reason ≠ 0 then s.engFault p 0x18200000 1 r.reason (bytesAt r.desc.bytes 12 4)
  else
    let s := s.veSums p r.sums
    let s := s.count64 (.site p) 0x18200028 r.count
    let s := s.setReg (.site p) 0x18200038 (s.reg (.site p) 0x18200038 ||| w64 (r.flags / 8 % 2 * 8 + r.flags % 2 * 4))
    (s.advanceHeads p r.heads).advanceTails p r.tails

/-- After a discard the issue count goes back (R147). -/
def State.veDiscard (s : State) (p : Fin 168) : State :=
  let last := match (s.site p).ve.running.getLast? with
    | some r => r.desc.ticket
    | none => s.reg (.site p) 0x18200020
  (s.updCc p fun c => { c with veIssued := last }).updSite p fun x => { x with ve := { x.ve with handoff := [], discarded := [] } }

/-- ABORT (R131). -/
def State.veAbort (s : State) (p : Fin 168) : State :=
  (s.updSite p fun x => { x with ve := { x.ve with queue := [], running := [] } }).veDiscard p

/-- CLEAR_FAULT (R129). -/
def State.veClearFault (s : State) (p : Fin 168) : State :=
  let s := s.setReg (.site p) 0x18200000 (setFld (setFld (s.reg (.site p) 0x18200000) 8 8 0) 7 1 0)
  (s.updSite p fun x => { x with ve := { x.ve with queue := [] } }).veDiscard p

/-- VE_FILL (R123). -/
def execVeFill (p : Site) (s : State) : Host.Outcome State Fault Refusal := .next (s.veStart p 1 fun st d => st.runFill p d)

/-- VE_EVICT (R123). -/
def execVeEvict (p : Site) (s : State) : Host.Outcome State Fault Refusal := .next (s.veStart p 2 fun st d => st.runEvict p d)

/-- VE_CHAIN (R102). -/
def execVeChain (p : Site) (s : State) : Host.Outcome State Fault Refusal := .next (s.veStart p 3 fun st d => st.runChain p d)

/-- VE_LOAD_TABLE (R124). -/
def execVeLoadTable (p : Site) (s : State) : Host.Outcome State Fault Refusal := .next (s.veStart p 4 fun st d => st.runLoadTable p d)

/-- VE_SYNC (R125): it starts when every older descriptor has completed, and completes at once. -/
def execVeSync (p : Site) (s : State) : Host.Outcome State Fault Refusal :=
  .next (s.veStart p 5 fun st d => (st.veBegin p (veRunOf d 0)).veComplete p (veRunOf d 0))

/-- VE_DESC_COMPLETE (R128): the oldest running descriptor completes; with none running, a head of no listed OPCODE is refused (R129). -/
def execVeDescComplete (p : Site) (s : State) : Host.Outcome State Fault Refusal :=
  .next (if s.enginesRun p then
    match (s.site p).ve.running with
    | r :: _ => s.veComplete p r
    | [] =>
      match (s.site p).ve.queue with
      | d :: _ =>
        if s.veReady p && (veOp d == 0 || decide (5 < veOp d)) then (s.veBegin p (veRunOf d 0x01)).veComplete p (veRunOf d 0x01) else s
      | [] => s
  else s)

/-- VE_ABORT (R131): the control core writes ABORT. -/
def execVeAbort (p : Site) (s : State) : Host.Outcome State Fault Refusal := .next (if s.coreRuns p then s.veAbort p else s)

/-- VE_CLEAR_FAULT (R129): the control core writes CLEAR_FAULT. -/
def execVeClearFault (p : Site) (s : State) : Host.Outcome State Fault Refusal := .next (if s.coreRuns p then s.veClearFault p else s)

/-- VE_SUM_WRITE (R119): the control core writes a summary register, which clears its poison. -/
def execVeSumWrite (p : Site) (n : BitVec 4) (v : W64) (s : State) : Host.Outcome State Fault Refusal :=
  .next (if s.coreRuns p then s.setSum p n.toNat v false else s)

end Sys2Proof.Machine
end

