-- ==== Sys2Proof/Machine/RegView.lean ====
section
/-! DEFINITION. What a register reads as: the value in the register file, or for the fields that mirror other state (queue depths,
pointers, the CC_ registers) a view of it. Reading through the maps' access codes is State.regRead. -/

namespace Sys2Proof.Machine

/-! ## Control registers (R159) -/

/-- STATUS of a control core. -/
def State.ccStatus (s : State) (p : Fin 168) : Nat :=
  let c := s.cc p
  b01 c.ex + b01 (!c.engPending.isEmpty) * 2 + b01 c.stepPending * 4 + b01 (s.coreState p == 4) * 8 + b01 (s.coreState p == 3) * 16 +
    b01 c.inStep * 32

/-- A control register's value, none for an unlisted number. TIME and CYCLE are the exact ones. -/
def State.crValue (s : State) (p : Fin 168) (n : Nat) : Option W64 :=
  let c := s.cc p
  match n with
  | 0x000 => some (w64 (s.ccStatus p))
  | 0x001 => some (c.epc.zeroExtend 64)
  | 0x002 => some (c.ecause.zeroExtend 64)
  | 0x003 => some c.einfo
  | 0x004 => some (c.evec.zeroExtend 64)
  | 0x005 => some (w64 (c.preds.toNat / 2 * 2 + 1))
  | 0x006 => some c.escratch
  | 0x010 => some (w64 (s.lcidOf (s.actingSite p)))
  | 0x011 => some (w64 (s.partOf (s.actingSite p)))
  | 0x012 => some c.stepIndex
  | 0x020 => some (w64 s.time)
  | 0x021 => some c.cycle
  | 0x022 => some c.instret
  | 0x030 => some c.sendBudget
  | 0x031 => some c.stepDeadline
  | 0x040 => some (w64 (s.rf (.site p) 0x18600000 12 4))
  | 0x041 => some (c.fretHint.zeroExtend 64)
  | 0x050 => some c.meIssued
  | 0x051 => some c.veIssued
  | n => if 0x058 ≤ n ∧ n < 0x060 then some (Sparse.get 0 c.mvIssued (n - 0x058)) else none

/-! ## Views of a site's registers -/

/-- ME_STATUS (after R100). -/
def State.meStatus (s : State) (p : Fin 168) : W64 :=
  let m := (s.site p).me
  s.reg (.site p) 0x18100000 ||| w64 (b01 (!m.running.isEmpty || !m.queue.isEmpty) + b01 (m.running.any fun r => meOp r.desc == 3) * 2 +
    b01 (m.running.any fun r => meOp r.desc == 4) * 4 + b01 m.live.isSome * 8 + b01 m.shadow.isSome * 16 + b01 m.bank0.fmt.isSome * 32 +
    b01 m.bank1.fmt.isSome * 64 + m.queue.length * 2 ^ 32)

/-- VE_STATUS (after R131). -/
def State.veStatus (s : State) (p : Fin 168) : W64 :=
  let v := (s.site p).ve
  let waits := match v.queue with
    | d :: _ => s.veWaitsMe p d
    | [] => false
  s.reg (.site p) 0x18200000 ||| w64 (b01 (!v.running.isEmpty || !v.queue.isEmpty) + b01 (v.running.any fun r => veOp r.desc == 3) * 2 +
    b01 (v.running.any fun r => veOp r.desc == 1 || veOp r.desc == 2 || veOp r.desc == 4) * 4 + b01 v.table.isSome * 8 + b01 waits * 16 +
    v.queue.length * 2 ^ 32)

/-- MV_STATUSn (after R194). -/
def State.mvStatus (s : State) (p : Fin 168) (n : Nat) : W64 :=
  let r := s.ring p n
  s.reg (.site p) (0x18502000 + 32 * n) ||| w64 (b01 (r.run.isSome || !r.queue.isEmpty || !r.awaiting.isEmpty) + r.queue.length * 2 ^ 32)

/-- SCn_CTL (R312). -/
def State.scCtl (s : State) (p : Fin 168) (n : Nat) : W64 :=
  let c := s.sctx p n
  w64 (c.state * 2 ^ 61 + c.msgs.length % 16 * 2 ^ 52 + c.lastReason % 256 * 2 ^ 40 + c.channel % 256 * 2 ^ 32 + c.dest.toNat * 2 ^ 16 +
    c.queue % 128)

/-- SCn_SEQ (R312). -/
def State.scSeq (s : State) (p : Fin 168) (n : Nat) : W64 :=
  let c := s.sctx p n
  w64 (c.next.toNat * 2 ^ 32 + (match c.msgs with
    | m :: _ => m.seq.toNat
    | [] => c.next.toNat))

/-- RCHn (R312). -/
def State.rch (s : State) (p : Fin 168) (n : Nat) : W64 :=
  match s.recvCh p n with
  | some x => w64 (2 ^ 63 + b01 (s.resvOf p n).isSome * 2 ^ 62 + x.queue % 128 * 2 ^ 55 + x.src.toNat * 2 ^ 47 + x.srcUnit.toNat * 2 ^ 39 +
      x.nextSeq.toNat)
  | none => 0

/-- The packets of the other epoch than a stop's INJECT_EPOCH that are in flight from it (R274). -/
def State.oldInflight (s : State) (p : Fin 168) : Nat :=
  (s.net.filter fun f => attachStop f.src == p && b01 (epochOf f.pkt) != s.injectEpoch p).length

/-- Flits held in a stop's turn queues (R243). -/
def State.tqLevel (s : State) (p : Fin 168) : Nat := (s.site p).turnQs.foldl (fun a e => a + e.2.length) 0

/-- The view of a site's register, where one replaces the register file's value. -/
def State.siteView (s : State) (p : Fin 168) (off : Nat) : W64 :=
  let r := s.reg (.site p) off
  let halted := s.coreState p != 2
  if off < 0x18100000 then
    (if 0x18000100 ≤ off && off < 0x18000200 then
      (if halted then (s.cc p).r (BitVec.ofNat 5 ((off - 0x18000100) / 8)) else 0)
     else if off = 0x18000200 then (if halted then ((s.cc p).pc.zeroExtend 64) else 0)
     else if 0x18000400 ≤ off then (if halted then (s.crValue p ((off - 0x18000400) / 8)).getD 0 else 0)
     else r)
  else if off = 0x18100000 then s.meStatus p
  else if off = 0x18200000 then s.veStatus p
  else if 0x18300000 ≤ off && off < 0x18308000 then
    let q := (off - 0x18300000) / 256
    let x := s.queue p q
    match off % 256 with
    | 0x10 => w64 (x.wp % s.qSize p q)
    | 0x18 => w64 (x.rp % s.qSize p q)
    | 0x20 => w64 (x.rs % s.qSize p q)
    | 0x28 => r ||| w64 ((x.items.filter fun y => !y.skip).length % 16 * 2 ^ 8)
    | _ => r
  else if 0x18400000 ≤ off && off < 0x18401000 then
    (if off % 16 = 0 then s.scCtl p ((off - 0x18400000) / 16) else s.scSeq p ((off - 0x18400000) / 16))
  else if 0x18401000 ≤ off && off < 0x18401800 then s.rch p ((off - 0x18401000) / 8)
  else if off = 0x18500000 then
    w64 (r.toNat / 2 * 2 % 8 + r.toNat % 2 + s.rf (.site p) 0x18500008 0 1 * 8)
  else if inTable off 0x18502000 32 9 then s.mvStatus p ((off - 0x18502000) / 32)
  else if off = 0x18508000 then
    r ||| w64 (b01 (s.site p).scrubPass.isSome + b01 (!(s.site p).writeBacks.isEmpty) * 8)
  else if off = 0x18700000 then r ||| w64 (b01 (s.reg (.site p) 0x18700018 != BitVec.allOnes 64))
  else if off = 0x18700010 then s.frameCount
  else if off = 0x18700030 then w64 (s.tqLevel p)
  else if inTable off 0x18703008 16 64 then r ||| w64 ((s.slotBuf p ((off - 0x18703008) / 16)).length % 512)
  else if off = 0x18710000 then r ||| w64 (b01 (s.reg (.site p) 0x18710008 != BitVec.allOnes 64) * 4)
  else if off = 0x18710010 then w64 (s.oldInflight p % 2 ^ 16)
  else if inTable off 0x18730000 64 32 then
    let i := (off - 0x18730000) / 64
    let count (k : Nat) : Nat := ((List.range 64).filter fun b => bit (s.reg (.site p) (0x18730008 + 64 * i + 8 * k)) b).length
    r ||| w64 (count 0 + count 1 + count 2)
  else if inTable off 0x18730020 64 32 then
    r ||| w64 ((Sparse.get Barrier.init (s.site p).bars ((off - 0x18730020) / 64)).arrived.length % 256 * 2 ^ 8)
  else r

/-- POD_OFFSET now, in units of 2^-16 ticks (R417): what is left to slew is removed at 100 ppm of elapsed time. -/
def State.podOffset (s : State) : Int :=
  let v := s.servo
  let step : Int := min v.slew.natAbs ((s.time - v.since) * 65536 / 10000)
  if 0 ≤ v.slew then v.base + step else v.base - step

/-- Pod time in ticks (R417): panel time and POD_OFFSET. -/
def State.podTime (s : State) : Int := (s.time * 65536 + s.podOffset) / 65536

/-- The view of a port die's register, where one replaces the register file's value (R410, R417-R419). -/
def State.dieView (s : State) (d : Fin 42) (off : Nat) : W64 :=
  let r := s.reg (.die d) off
  let v := s.servo
  if off = 0x0000 then
    r ||| w64 ((s.colls.filter fun c => c.die == d.val).length * 2 ^ 8 + b01 v.locked * 2)
  else if off = 0x0020 then BitVec.ofInt 64 s.podTime
  else if off = 0x0028 then BitVec.ofInt 64 s.podOffset
  else if off = 0x0030 then
    w64 (v.upstream.getD 0xFF * 2 ^ 56 + v.distance % 64 * 2 ^ 50 + v.master % 2 ^ 10 * 2 ^ 40 + (BitVec.ofInt 32 v.lastError).toNat)
  else r

/-- What a register holds, its mirrored fields included. -/
def State.regView (s : State) (u : RegUnit) (off : Nat) : W64 :=
  match u with
  | .site p => s.siteView p off
  | .die d => s.dieView d off
  | _ => s.reg u off

/-- What a read of a register returns (R12, R13). -/
def State.regRead (s : State) (u : RegUnit) (off : Nat) : W64 := readFields (regFields u off) (s.regView u off)

/-- What a read of a register leaves: RC fields return to zero (R13). -/
def State.regClear (s : State) (u : RegUnit) (off : Nat) : State :=
  if (regFields u off).any fun f => f.acc == .rc then s.setReg u off (readClearFields (regFields u off) (s.reg u off)) else s

end Sys2Proof.Machine
end

