-- ==== Sys2Proof/Machine/Sched.lean ====
section
/-! DEFINITION. The scheduled plane (R219-R255): leases, slot entries, slot buffers and turn queues, lost slots, FEED and LAND. A slot command
carries the local slot at which the entry acts, and whether the arriving flit failed its CRC. A flit that leaves a stop waits in
`courses` under the next stop, course and local slot (R229). The frame mark is in Machine/Frame.lean. -/

namespace Sys2Proof.Machine

/-! ## Courses, leases and entries -/

/-- A stop's position on the bundle of one of its courses (R219, R220). -/
def coursePos (p : Fin 168) (c : Nat) : Nat := if c < 6 then siteCol p else siteRow p + 1

/-- Whether a course runs toward increasing position (R220). -/
def courseUp (c : Nat) : Bool := decide (c % 6 < 3)

/-- The site of the next ring-stop on a course; none at its end and where a stack port follows (R221, R373). -/
def nextStop (p : Fin 168) (c : Nat) : Option (Fin 168) :=
  let a := coursePos p c
  if c < 6 then
    (if courseUp c then (if a < 13 then some (siteAt (siteRow p) (a + 1)) else none)
     else if 0 < a then some (siteAt (siteRow p) (a - 1)) else none)
  else
    (if courseUp c then (if a < 12 then some (siteAt a (siteCol p)) else none)
     else if 1 < a then some (siteAt (a - 2) (siteCol p)) else none)

/-- Whether a flit leaves the stop on a course: everywhere but at the course's last stop (R221). -/
def leavesStop (p : Fin 168) (c : Nat) : Bool := decide (6 ≤ c) || (nextStop p c).isSome

/-- The frame length F in force at a stop (R231). -/
def State.frameLen (s : State) (p : Fin 168) : Nat := (s.site p).frameLen

/-- The hop length H at a stop (R229). -/
def State.hopLen (s : State) (p : Fin 168) : Nat := s.rf (.site p) 0x18700020 0 4 + 2

/-- The active bank of slot tables and leases (R233). -/
def State.slotBank (s : State) (p : Fin 168) : Nat := s.rf (.site p) 0x18700000 1 1

/-- The course slot that a flit meeting a local slot has (R232). -/
def State.courseSlot (s : State) (p : Fin 168) (c slot : Nat) : Nat :=
  let a := coursePos p c
  let d := s.hopLen p * (if courseUp c then a else 13 - a)
  (((slot : Int) - d) % (s.frameLen p : Int)).toNat

/-- LEASEk_n (R245). -/
def State.lease (s : State) (p : Fin 168) (bank n : Nat) : W64 := s.reg (.site p) (0x18701000 + 0x400 * bank + 8 * n)

/-- The owner of a course slot at a stop: the tag of the valid range with the lowest index, none when unleased (R245). -/
def State.leaseOwner (s : State) (p : Fin 168) (c slot : Nat) : Option Nat :=
  let r := s.courseSlot p c slot
  let n0 := c / 6 * 48 + c % 3 * 16
  (List.range 16).findSome? fun i =>
    let v := s.lease p (s.slotBank p) (n0 + i)
    if bit v 63 && decide (fld v 0 14 ≤ r) && decide (r ≤ fld v 16 14) then some (fld v 32 8) else none

/-- The slot entry of the active bank for a local slot (R233). -/
def State.slotEntry (s : State) (p : Fin 168) (c slot : Nat) : W16 :=
  BitVec.ofNat 16 (fld (s.reg (.site p) (0x18740000 + 0x30000 * s.slotBank p + 0x4000 * c + 8 * (slot / 4))) (16 * (slot % 4)) 16)

/-- PCTXn_CTL of a partition at a stop. -/
def State.pctx (s : State) (p : Fin 168) (tag : Nat) : W64 := s.reg (.site p) (0x18702000 + 32 * (tag % 64))

/-- Whether a partition's context is active at a stop (R247). -/
def State.pctxActive (s : State) (p : Fin 168) (tag : Nat) : Bool :=
  decide (tag < 64) && bit (s.pctx p tag) 63 && fld (s.pctx p tag) 16 8 == tag

/-- The frame index of a partition's step at a stop. -/
def State.frameIndex (s : State) (p : Fin 168) (tag : Nat) : Nat :=
  (s.frameCount - s.reg (.site p) (0x18702008 + 32 * (tag % 64))).toNat

/-- Whether an entry of a class acts in the current frame (R247). -/
def State.classActs (s : State) (p : Fin 168) (tag cls : Nat) : Bool :=
  let k := s.frameIndex p tag
  let frames := fld (s.pctx p tag) 0 16
  let w := s.reg (.site p) (0x18702010 + 32 * (tag % 64))
  s.pctxActive p tag && decide (k < frames) && decide (fld w (16 * cls) 8 ≤ k) && decide (k + fld w (16 * cls + 8) 8 + 1 ≤ frames)

/-- ACTION of an entry. -/
def slotAction (e : W16) : Nat := fld e 13 3

/-- The action that an entry carries out: its own when it acts, PASS otherwise (R235). -/
def State.effAction (s : State) (p : Fin 168) (c slot : Nat) : Nat :=
  let e := s.slotEntry p c slot
  match s.leaseOwner p c slot with
  | some t => if slotAction e < 7 && fld e 0 4 == 0 && s.classActs p t (fld e 4 2) then slotAction e else 0
  | none => 0

/-! ## Flits under way -/

/-- The key of a course and local slot at a stop. -/
def courseKey (p : Fin 168) (c slot : Nat) : Nat := (p.val * 12 + c) * 8192 + slot % 8192

/-- The flit that meets a stop on a course at a local slot. -/
def State.arriving (s : State) (p : Fin 168) (c slot : Nat) : SFlit := Sparse.get SFlit.empty s.courses (courseKey p c slot)

/-- The state with a flit removed from a course. -/
def State.takeFlit (s : State) (p : Fin 168) (c slot : Nat) : State :=
  { s with courses := Sparse.put SFlit.empty s.courses (courseKey p c slot) SFlit.empty }

/-- A flit leaves a stop on a course (R221, R229, R373). -/
def State.sendFlit (s : State) (p : Fin 168) (c slot : Nat) (f : SFlit) : State :=
  if !f.valid || !leavesStop p c || (s.site p).fabricDown then s
  else
    let s := if f.late then s else s.count64 (.site p) (0x18700100 + 8 * c) 1
    match nextStop p c with
    | some q => { s with courses := Sparse.put SFlit.empty s.courses (courseKey q c ((slot + s.hopLen p) % s.frameLen p)) f }
    | none => s

/-- A LATE flit of an owner (R225). -/
def SFlit.lateOf (tag : Nat) : SFlit := ⟨true, true, BitVec.ofNat 8 tag, ⟨0, false⟩⟩

/-- A DATA flit of an owner. -/
def SFlit.dataOf (tag : Nat) (f : Flit) : SFlit := ⟨true, false, BitVec.ofNat 8 tag, f⟩

/-- Whether a flit is neither EMPTY nor foreign (R235). -/
def SFlit.ownedBy (f : SFlit) (tag : Nat) : Bool := f.valid && f.tag.toNat == tag

/-! ## Lost slots (R250, R251) -/

/-- A lost slot's report to the management die (R250; its fields are the model's, log entry 10). -/
def State.stepFailPkt (s : State) (p : Fin 168) (tag code : Nat) : State :=
  s.inject (.stop p) { mkPacket 0x26 0xF0 0 0xF2 p.val tag s.frameCount.toNat with
    addr := w64 p.val, aux := BitVec.ofNat 32 (tag + code * 2 ^ 8) }

/-- A lost slot is counted, raised under the frame rule and reported. -/
def State.lostSlot (s : State) (p : Fin 168) (tag code counter : Nat) (detail : List Nat) (countAt : Option Nat) : State :=
  ((s.count32 (.site p) counter).frameEvent p code tag detail countAt).stepFailPkt p tag code

/-- An underrun. -/
def State.underrun (s : State) (p : Fin 168) (c slot tag : Nat) : State :=
  s.lostSlot p tag 0x2001 0x18700180 [p.val, c, slot, tag, 1] (some 4)

/-- A missing flit. -/
def State.missing (s : State) (p : Fin 168) (c slot tag : Nat) : State :=
  s.lostSlot p tag 0x2002 0x18700188 [p.val, c, slot, tag, 1] (some 4)

/-- A collision: the arriving flit is discarded (R237). -/
def State.collision (s : State) (p : Fin 168) (c slot tag : Nat) (f : SFlit) : State :=
  if f.valid then s.lostSlot p tag 0x2003 0x18700190 [p.val, c, slot, f.tag.toNat] none else s

/-- An overrun at a slot buffer or turn queue (R242, R243). -/
def State.overrun (s : State) (p : Fin 168) (buf tag : Nat) : State :=
  s.lostSlot p tag 0x2004 0x18700198 [p.val, buf, tag, 1] (some 3)

/-- A lease violation (R249, R519): the event, and for an INJECT or REDUCE_ADD the freeze of the site's core. -/
def State.leaseViolation (s : State) (p : Fin 168) (c slot tag : Nat) (freeze : Bool) : State :=
  let s := (s.count32 (.site p) 0x187001A0).stepFailPkt p tag 0x9003
  let s := s.siteEvent p 0x9003 [p.val, c, slot, tag, s.siteTag p]
  if freeze then (s.recordViolation p 1 1 (s.lcidOf p) 0 0x9003 p.val 0).freezeCore p 0x9003 else s

/-- The incoming edge of a course at a stop (R251). -/
def courseEdge (c : Nat) : Nat := if c < 6 then (if courseUp c then 0 else 1) else if courseUp c then 2 else 3

/-- A CRC error on a lane group is counted in its second; the 65th raises GROUP_DEGRADED (R227). Groups are numbered by course
(log entry 10). -/
def State.groupError (s : State) (p : Fin 168) (edge group : Nat) : State :=
  let key := edge * 16 + group
  let sec := s.time / 10 ^ 8
  let old := Sparse.get (0, 0) (s.site p).groupErrs key
  let n := if old.1 = sec then old.2 + 1 else 1
  let s := s.updSite p fun x => { x with groupErrs := Sparse.put (0, 0) x.groupErrs key (sec, n) }
  if n = 65 then s.frameEvent p 0x2007 0xFF [p.val, edge, group, n] none else s

/-- A CRC error on a scheduled course (R226): the arriving flit becomes LATE with the owner's tag where the owner's step is active, and EMPTY
otherwise. -/
def State.schedCrc (s : State) (p : Fin 168) (c slot : Nat) : State × SFlit :=
  let s := (s.count32 (.site p) 0x187001A8).groupError p (courseEdge c) (c % 6)
  let detail := [p.val, courseEdge c, c % 6, slot, 1]
  match s.leaseOwner p c slot with
  | some t =>
    if s.pctxActive p t then
      ((s.frameEvent p 0x2006 t detail (some 4)).stepFailPkt p t 0x2006, SFlit.lateOf t)
    else (s.frameEvent p 0x2006 t detail (some 4), SFlit.empty)
  | none => (s.frameEvent p 0x2006 0xFF detail (some 4), SFlit.empty)

/-! ## Slot buffers and turn queues (R239-R244) -/

/-- Whether the ring-stop finds the site's core in reset, frozen or without clocks (R244). -/
def State.coreDown (s : State) (p : Fin 168) : Bool :=
  !(s.coreState p == 2 || s.coreState p == 4 || s.coreState p == 5)

/-- A flit is placed in a LAND buffer of a site (R242, R244). -/
def State.landAt (s : State) (p : Fin 168) (n tag : Nat) (f : SFlit) : State :=
  if s.coreDown p then s.count32 (.site p) 0x187001B0
  else if s.slotMode p n ≠ 3 then (s.slotMisuse p n).overrun p n tag
  else if 256 ≤ (s.slotBuf p n).length then s.overrun p n tag
  else s.setSlotBuf p n (s.slotBuf p n ++ [⟨f.flit, f.late, 0⟩])

/-- The sites whose attempt shadows a site's core. -/
def State.shadowing (s : State) (p : Fin 168) : List (Fin 168) :=
  (List.finRange 168).filter fun q => (s.site q).symp.any fun y => y.work == p.val

/-- A flit is placed in a LAND buffer by an EXTRACT or DROP_CONTINUE; a flit delivered to a core is also delivered to the spare that shadows it
(R526 step 3; the copy is made here, log entry 21). -/
def State.landPlace (s : State) (p : Fin 168) (n tag : Nat) (f : SFlit) : State :=
  (s.shadowing p).foldl (fun st q =>
    if !st.coreDown q && st.slotMode q n == 3 && decide ((st.slotBuf q n).length < 256) then
      st.setSlotBuf q n (st.slotBuf q n ++ [⟨f.flit, f.late, 0⟩]) else st) (s.landAt p n tag f)

/-- A turn queue of a stop. -/
def State.turnQ (s : State) (p : Fin 168) (q : Nat) : List TqFlit := Sparse.get [] (s.site p).turnQs q

/-- The state with a turn queue replaced. -/
def State.setTurnQ (s : State) (p : Fin 168) (q : Nat) (l : List TqFlit) : State :=
  s.updSite p fun x => { x with turnQs := Sparse.put [] x.turnQs q l }

/-- A flit is placed in a turn queue (R236, R243). -/
def State.turnPlace (s : State) (p : Fin 168) (q slot tag : Nat) (f : SFlit) : State :=
  if 256 ≤ s.tqLevel p then s.overrun p (0x40 + q) tag
  else s.setTurnQ p q (s.turnQ p q ++ [⟨f, s.frameCount.toNat, slot⟩])

/-- The bytes of a flit for the CRC of R527: its data and its poison bit as one byte. -/
def flitCrcBytes (f : Flit) : List Byte := granBytes f.data ++ [BitVec.ofNat 8 (b01 f.poison)]

/-- A spare folds what its core has ready of the flits and payloads it owes, in the working core's order (R527): a number below 64 is a slot buffer,
64 the next request payload, none the end of a frame, where the CRCs are compared. -/
def State.sympSettle (p : Fin 168) : Nat → State → State
  | 0, s => s
  | n + 1, s =>
    match (s.site p).symp with
    | none => s
    | some y =>
      match y.owed with
      | [] => s
      | none :: rest =>
        let mine := ~~~ w64 y.spareRun
        let theirs := y.waiting.headD 0
        let s := s.count64 (.site p) 0x18000040 1
        State.sympSettle p n (s.updSite p fun x => { x with symp := some { y with
          owed := rest, waiting := y.waiting.drop 1, spareRun := 0xFFFFFFFFFFFFFFFF,
          differ := if y.differ.isNone && mine != theirs then some (s.frameCount.toNat, theirs, mine) else y.differ } })
      | some 64 :: rest =>
        match y.loads with
        | l :: ls => State.sympSettle p n (s.updSite p fun x => { x with symp := some { y with
            owed := rest, loads := ls, spareRun := crc64Run y.spareRun l } })
        | [] => s
      | some b :: rest =>
        match s.slotBuf p b with
        | f :: fs => State.sympSettle p n ((s.setSlotBuf p b fs).updSite p fun x => { x with symp := some { y with
            owed := rest, spareRun := crc64Run y.spareRun (flitCrcBytes f.flit) } })
        | [] => s

/-- A core has supplied a flit for an INJECT or REDUCE_ADD entry (R527, R530). -/
def State.noteFlit (s : State) (p : Fin 168) (n : Nat) (f : Flit) : State :=
  let s := if (s.part (s.partOf p)).any (·.stepHash) then
    s.updSite p fun x => { x with stepRun := crc64Run x.stepRun (flitCrcBytes f) } else s
  (s.shadowing p).foldl (fun st q =>
    State.sympSettle q 512 (st.updSite q fun x => { x with symp := x.symp.map fun y =>
      { y with workRun := crc64Run y.workRun (flitCrcBytes f), owed := y.owed ++ [some n] } })) s

/-- The head flit of an inject buffer at its slot: the state, and the flit when one is ready; `keep` leaves it in the buffer. FEED advances
TAIL when a flit has left (R241). -/
def State.injectHead (s : State) (p : Fin 168) (n : Nat) (keep : Bool) : State × Option Flit :=
  if s.coreDown p then (s, none)
  else
    let m := s.slotMode p n
    if m ≠ 1 && m ≠ 2 then (s.slotMisuse p n, none)
    else match s.slotBuf p n with
      | f :: t =>
        if keep then (s, some f.flit)
        else
          let s := s.setSlotBuf p n t
          let s := if m = 2 then s.advanceTails p [(s.rf (.site p) (0x18703000 + 16 * n) 10 6, f.pos + 64)] else s
          (s.noteFlit p n f.flit, some f.flit)
      | [] => (s, none)

/-! ## The actions (R236) -/

/-- The arriving flit of an owner, or LATE in place of a missing one, which is counted. -/
def State.takeOwned (s : State) (p : Fin 168) (c slot tag : Nat) (f : SFlit) : State × SFlit :=
  if f.ownedBy tag then (s, f) else (s.missing p c slot tag, SFlit.lateOf tag)

/-- INJECT. -/
def State.actInject (s : State) (p : Fin 168) (c slot tag : Nat) (e : W16) (f : SFlit) : State :=
  if s.siteTag p ≠ tag then (s.leaseViolation p c slot tag true).sendFlit p c slot f
  else
    let x := (s.collision p c slot tag f).injectHead p (fld e 6 6) (bit e 12)
    match x.2 with
    | some d => x.1.sendFlit p c slot (SFlit.dataOf tag d)
    | none => (x.1.underrun p c slot tag).sendFlit p c slot (SFlit.lateOf tag)

/-- EXTRACT. -/
def State.actExtract (s : State) (p : Fin 168) (c slot tag : Nat) (e : W16) (f : SFlit) : State :=
  let x := s.takeOwned p c slot tag f
  x.1.landPlace p (fld e 6 6) tag x.2

/-- DROP_CONTINUE. -/
def State.actDrop (s : State) (p : Fin 168) (c slot tag : Nat) (e : W16) (f : SFlit) : State :=
  let x := s.takeOwned p c slot tag f
  let s := if bit e 12 then x.1.turnPlace p (fld e 6 4) slot tag x.2 else x.1.landPlace p (fld e 6 6) tag x.2
  s.sendFlit p c slot x.2

/-- REDUCE_ADD. -/
def State.actReduce (s : State) (p : Fin 168) (c slot tag : Nat) (e : W16) (f : SFlit) : State :=
  if s.siteTag p ≠ tag then (s.leaseViolation p c slot tag true).sendFlit p c slot f
  else
    let s := if f.ownedBy tag then s else s.missing p c slot tag
    let x := s.injectHead p (fld e 6 6) false
    match x.2 with
    | some d =>
      if f.ownedBy tag && !f.late then
        let sum := if bit e 12 then waMerge512 f.flit.data d.data else fpAdd512 f.flit.data d.data
        x.1.sendFlit p c slot (SFlit.dataOf tag ⟨sum, f.flit.poison || d.poison⟩)
      else x.1.sendFlit p c slot (SFlit.lateOf tag)
    | none => (x.1.underrun p c slot tag).sendFlit p c slot (SFlit.lateOf tag)

/-- TURN. -/
def State.actTurn (s : State) (p : Fin 168) (c slot tag : Nat) (e : W16) (f : SFlit) : State :=
  let x := s.takeOwned p c slot tag f
  x.1.turnPlace p (fld e 6 4) slot tag x.2

/-- Whether a flit entered its turn queue at least two slots before a slot of the current frame (R236). -/
def State.turnReady (s : State) (p : Fin 168) (slot : Nat) (t : TqFlit) : Bool :=
  decide (t.frame * s.frameLen p + t.slot + 2 ≤ s.frameCount.toNat * s.frameLen p + slot)

/-- TURN_IN (R236, R249). -/
def State.actTurnIn (s : State) (p : Fin 168) (c slot tag : Nat) (e : W16) (f : SFlit) : State :=
  let s := s.collision p c slot tag f
  let q := fld e 6 4
  match s.turnQ p q with
  | t :: rest =>
    if !s.turnReady p slot t then (s.underrun p c slot tag).sendFlit p c slot (SFlit.lateOf tag)
    else if !t.flit.ownedBy tag then
      ((s.setTurnQ p q rest).leaseViolation p c slot tag false).sendFlit p c slot (SFlit.lateOf tag)
    else (if bit e 12 then s else s.setTurnQ p q rest).sendFlit p c slot t.flit
  | [] => (s.underrun p c slot tag).sendFlit p c slot (SFlit.lateOf tag)

/-- A slot row: the entry of a course at a local slot, when it carries out the row's action (R235, R318). -/
def State.slotRow (s : State) (p : Fin 168) (c slot : Nat) (crcError : Bool) (action : Nat)
    (act : State → Nat → W16 → SFlit → State) : State :=
  if slot < s.frameLen p && s.effAction p c slot == action then
    let f := s.arriving p c slot
    let x := if crcError then (s.takeFlit p c slot).schedCrc p c slot else (s.takeFlit p c slot, f)
    act x.1 ((s.leaseOwner p c slot).getD 0xFF) (s.slotEntry p c slot) x.2
  else s

/-- SLOT_PASS (R236). -/
def execSlotPass (p : Site) (course : Fin 12) (slot : BitVec 13) (crcError : Bool) (s : State) : Host.Outcome State Fault Refusal :=
  .next (s.slotRow p course.val slot.toNat crcError 0 fun st _ _ f => st.sendFlit p course.val slot.toNat f)

/-- SLOT_INJECT (R236). -/
def execSlotInject (p : Site) (course : Fin 12) (slot : BitVec 13) (crcError : Bool) (s : State) : Host.Outcome State Fault Refusal :=
  .next (s.slotRow p course.val slot.toNat crcError 1 fun st t e f => st.actInject p course.val slot.toNat t e f)

/-- SLOT_EXTRACT (R236). -/
def execSlotExtract (p : Site) (course : Fin 12) (slot : BitVec 13) (crcError : Bool) (s : State) : Host.Outcome State Fault Refusal :=
  .next (s.slotRow p course.val slot.toNat crcError 2 fun st t e f => st.actExtract p course.val slot.toNat t e f)

/-- SLOT_DROP_CONTINUE (R236). -/
def execSlotDropContinue (p : Site) (course : Fin 12) (slot : BitVec 13) (crcError : Bool) (s : State) : Host.Outcome State Fault Refusal :=
  .next (s.slotRow p course.val slot.toNat crcError 3 fun st t e f => st.actDrop p course.val slot.toNat t e f)

/-- SLOT_REDUCE_ADD (R236). -/
def execSlotReduceAdd (p : Site) (course : Fin 12) (slot : BitVec 13) (crcError : Bool) (s : State) : Host.Outcome State Fault Refusal :=
  .next (s.slotRow p course.val slot.toNat crcError 4 fun st t e f => st.actReduce p course.val slot.toNat t e f)

/-- SLOT_TURN (R236). -/
def execSlotTurn (p : Site) (course : Fin 12) (slot : BitVec 13) (crcError : Bool) (s : State) : Host.Outcome State Fault Refusal :=
  .next (s.slotRow p course.val slot.toNat crcError 5 fun st t e f => st.actTurn p course.val slot.toNat t e f)

/-- SLOT_TURN_IN (R236). -/
def execSlotTurnIn (p : Site) (course : Fin 12) (slot : BitVec 13) (crcError : Bool) (s : State) : Host.Outcome State Fault Refusal :=
  .next (s.slotRow p course.val slot.toNat crcError 6 fun st t e f => st.actTurnIn p course.val slot.toNat t e f)

/-! ## FEED and LAND (R241) -/

/-- The circular region of a FEED or LAND buffer. -/
def State.sbRegion (s : State) (p : Fin 168) (n : Nat) : Nat := s.rf (.site p) (0x18703000 + 16 * n) 10 6

/-- The core offset of a position of a region (R177). -/
def State.regionOff (s : State) (p : Fin 168) (n pos : Nat) : Nat := s.regionBase p n + pos % s.regionSize p n

/-- FEED_LINE_FETCH (R241): a FEED buffer with room for a line's 8 flits reads the next line that lies wholly below HEAD. -/
def execFeedLineFetch (p : Site) (buf : BitVec 6) (s : State) : Host.Outcome State Fault Refusal :=
  let n := buf.toNat
  let g := s.sbRegion p n
  let pos := max (Sparse.get 0 (s.site p).feedPos n) (s.regionTail p g)
  let off := s.regionOff p g pos
  .next (if !s.coreDown p && s.slotMode p n == 2 && decide ((s.slotBuf p n).length ≤ 248) && decide (2 ≤ s.regionMode p g) &&
      s.regionConsumer p g == 5 && decide (pos + 512 ≤ s.regionHead p g) && s.spanOn p off 512 then
    let x := (s.grants p 3 off 512).readGrans p 3 off 8
    let flits := (x.2.zip (List.range 8)).map fun y => (⟨y.1, false, pos + 64 * y.2⟩ : SbFlit)
    let s := x.1.setSlotBuf p n (x.1.slotBuf p n ++ flits)
    s.updSite p fun y => { y with feedPos := Sparse.put 0 y.feedPos n (pos + 512) }
  else s)

/-- LAND_FLIT_WRITE (R241, R242): a LAND buffer writes its oldest flit at HEAD once R177 permits and advances HEAD. -/
def execLandFlitWrite (p : Site) (buf : BitVec 6) (s : State) : Host.Outcome State Fault Refusal :=
  let n := buf.toNat
  let g := s.sbRegion p n
  let head := s.regionHead p g
  let off := s.regionOff p g head
  .next (match s.slotBuf p n with
    | f :: t =>
      if !s.coreDown p && s.slotMode p n == 3 && decide (2 ≤ s.regionMode p g) && s.regionProducer p g == 5 &&
          decide (head < s.regionTail p g + s.regionSize p g) && s.spanOn p off 64 then
        let s := (s.grants p 3 off 64).writeWide p off (if f.late then ⟨0, false⟩ else f.flit)
        let s := if f.late then s.setRf (.site p) (0x18703008 + 16 * n) 16 1 1 else s
        (s.setSlotBuf p n t).advanceHeads p [(g, head + 64)]
      else s
    | [] => s)

end Sys2Proof.Machine
end

