-- ==== Sys2Proof/Machine/Crypto.lean ====
section
/-! DEFINITION. The checks by digest and signature that the spec names: SHA-384 (R324), HMAC-SHA-256 (R555, R556) and ECDSA P-384 (R315, R566,
R567), written from their published standards (PRESUMED, log entry 17). -/

namespace Sys2Proof.Machine

/-- `k` bytes of a number, most significant first. -/
def beBytes (k x : Nat) : List Byte := (toBytes k x).reverse

/-- The number whose bytes, most significant first, are the list. -/
def ofBE (l : List Byte) : Nat := ofBytes l.reverse

/-- A message padded to whole blocks of `b` bytes, its length in bits in the last `b / 8` bytes. -/
def shaPad (b : Nat) (m : List Byte) : List Byte :=
  m ++ [0x80] ++ List.replicate ((2 * b - 1 - b / 8 - m.length % b) % b) 0 ++ beBytes (b / 8) (8 * m.length)

/-- The round constants of SHA-384. -/
def sha512K : List W64 :=
  [0x428A2F98D728AE22, 0x7137449123EF65CD, 0xB5C0FBCFEC4D3B2F, 0xE9B5DBA58189DBBC] ++
  [0x3956C25BF348B538, 0x59F111F1B605D019, 0x923F82A4AF194F9B, 0xAB1C5ED5DA6D8118] ++
  [0xD807AA98A3030242, 0x12835B0145706FBE, 0x243185BE4EE4B28C, 0x550C7DC3D5FFB4E2] ++
  [0x72BE5D74F27B896F, 0x80DEB1FE3B1696B1, 0x9BDC06A725C71235, 0xC19BF174CF692694] ++
  [0xE49B69C19EF14AD2, 0xEFBE4786384F25E3, 0x0FC19DC68B8CD5B5, 0x240CA1CC77AC9C65] ++
  [0x2DE92C6F592B0275, 0x4A7484AA6EA6E483, 0x5CB0A9DCBD41FBD4, 0x76F988DA831153B5] ++
  [0x983E5152EE66DFAB, 0xA831C66D2DB43210, 0xB00327C898FB213F, 0xBF597FC7BEEF0EE4] ++
  [0xC6E00BF33DA88FC2, 0xD5A79147930AA725, 0x06CA6351E003826F, 0x142929670A0E6E70] ++
  [0x27B70A8546D22FFC, 0x2E1B21385C26C926, 0x4D2C6DFC5AC42AED, 0x53380D139D95B3DF] ++
  [0x650A73548BAF63DE, 0x766A0ABB3C77B2A8, 0x81C2C92E47EDAEE6, 0x92722C851482353B] ++
  [0xA2BFE8A14CF10364, 0xA81A664BBC423001, 0xC24B8B70D0F89791, 0xC76C51A30654BE30] ++
  [0xD192E819D6EF5218, 0xD69906245565A910, 0xF40E35855771202A, 0x106AA07032BBD1B8] ++
  [0x19A4C116B8D2D0C8, 0x1E376C085141AB53, 0x2748774CDF8EEB99, 0x34B0BCB5E19B48A8] ++
  [0x391C0CB3C5C95A63, 0x4ED8AA4AE3418ACB, 0x5B9CCA4F7763E373, 0x682E6FF3D6B2B8A3] ++
  [0x748F82EE5DEFB2FC, 0x78A5636F43172F60, 0x84C87814A1F0AB72, 0x8CC702081A6439EC] ++
  [0x90BEFFFA23631E28, 0xA4506CEBDE82BDE9, 0xBEF9A3F7B2C67915, 0xC67178F2E372532B] ++
  [0xCA273ECEEA26619C, 0xD186B8C721C0C207, 0xEADA7DD6CDE0EB1E, 0xF57D4F7FEE6ED178] ++
  [0x06F067AA72176FBA, 0x0A637DC5A2C898A6, 0x113F9804BEF90DAE, 0x1B710B35131C471B] ++
  [0x28DB77F523047D84, 0x32CAAB7B40C72493, 0x3C9EBE0A15C9BEBC, 0x431D67C49C100D4C] ++
  [0x4CC5D4BECB3E42B6, 0x597F299CFC657E2A, 0x5FCB6FAB3AD6FAEC, 0x6C44198C4A475817]

/-- The round constants of SHA-256. -/
def sha256K : List W32 :=
  [0x428A2F98, 0x71374491, 0xB5C0FBCF, 0xE9B5DBA5, 0x3956C25B, 0x59F111F1, 0x923F82A4, 0xAB1C5ED5] ++
  [0xD807AA98, 0x12835B01, 0x243185BE, 0x550C7DC3, 0x72BE5D74, 0x80DEB1FE, 0x9BDC06A7, 0xC19BF174] ++
  [0xE49B69C1, 0xEFBE4786, 0x0FC19DC6, 0x240CA1CC, 0x2DE92C6F, 0x4A7484AA, 0x5CB0A9DC, 0x76F988DA] ++
  [0x983E5152, 0xA831C66D, 0xB00327C8, 0xBF597FC7, 0xC6E00BF3, 0xD5A79147, 0x06CA6351, 0x14292967] ++
  [0x27B70A85, 0x2E1B2138, 0x4D2C6DFC, 0x53380D13, 0x650A7354, 0x766A0ABB, 0x81C2C92E, 0x92722C85] ++
  [0xA2BFE8A1, 0xA81A664B, 0xC24B8B70, 0xC76C51A3, 0xD192E819, 0xD6990624, 0xF40E3585, 0x106AA070] ++
  [0x19A4C116, 0x1E376C08, 0x2748774C, 0x34B0BCB5, 0x391C0CB3, 0x4ED8AA4A, 0x5B9CCA4F, 0x682E6FF3] ++
  [0x748F82EE, 0x78A5636F, 0x84C87814, 0x8CC70208, 0x90BEFFFA, 0xA4506CEB, 0xBEF9A3F7, 0xC67178F2]

/-- The initial hash of SHA-384. -/
def sha384H : List W64 :=
  [0xCBBB9D5DC1059ED8, 0x629A292A367CD507, 0x9159015A3070DD17, 0x152FECD8F70E5939] ++
  [0x67332667FFC00B31, 0x8EB44A8768581511, 0xDB0C2E0D64F98FA7, 0x47B5481DBEFA4FA4]

/-- The initial hash of SHA-256. -/
def sha256H : List W32 :=
  [0x6A09E667, 0xBB67AE85, 0x3C6EF372, 0xA54FF53A, 0x510E527F, 0x9B05688C, 0x1F83D9AB, 0x5BE0CD19]

/-- The message schedule: words are added at the front, newest first. -/
def shaSchedule {n : Nat} (s0 s1 : BitVec n → BitVec n) : Nat → List (BitVec n) → List (BitVec n)
  | 0, w => w
  | k + 1, w => shaSchedule s0 s1 k ((s1 (w.getD 1 0) + w.getD 6 0 + s0 (w.getD 14 0) + w.getD 15 0) :: w)

/-- One round of SHA-2 on the eight working variables. -/
def shaRound {n : Nat} (b0 b1 : BitVec n → BitVec n) (v : List (BitVec n)) (kw : BitVec n × BitVec n) : List (BitVec n) :=
  match v with
  | [a, b, c, d, e, f, g, h] =>
    let t1 := h + b1 e + ((e &&& f) ^^^ (~~~e &&& g)) + kw.1 + kw.2
    let t2 := b0 a + ((a &&& b) ^^^ (a &&& c) ^^^ (b &&& c))
    [t1 + t2, a, b, c, d + t1, e, f, g]
  | v => v

/-- One block of SHA-2. -/
def shaBlock {n : Nat} (b0 b1 s0 s1 : BitVec n → BitVec n) (k : List (BitVec n)) (h : List (BitVec n)) (block : List Byte) : List (BitVec n) :=
  let w := (chunks (n / 8) 16 block).map fun l => BitVec.ofNat n (ofBE l)
  let w := (shaSchedule s0 s1 (k.length - 16) w.reverse).reverse
  let v := (k.zip w).foldl (shaRound b0 b1) h
  (h.zip v).map fun x => x.1 + x.2

/-- SHA-384 of a byte string. -/
def sha384 (m : List Byte) : List Byte :=
  let p := shaPad 128 m
  let h := (chunks 128 (p.length / 128) p).foldl
    (shaBlock (n := 64) (fun x => x.rotateRight 28 ^^^ x.rotateRight 34 ^^^ x.rotateRight 39)
      (fun x => x.rotateRight 14 ^^^ x.rotateRight 18 ^^^ x.rotateRight 41)
      (fun x => x.rotateRight 1 ^^^ x.rotateRight 8 ^^^ x >>> 7) (fun x => x.rotateRight 19 ^^^ x.rotateRight 61 ^^^ x >>> 6) sha512K) sha384H
  (h.flatMap fun x => beBytes 8 x.toNat).take 48

/-- SHA-256 of a byte string. -/
def sha256 (m : List Byte) : List Byte :=
  let p := shaPad 64 m
  let h := (chunks 64 (p.length / 64) p).foldl
    (shaBlock (n := 32) (fun x => x.rotateRight 2 ^^^ x.rotateRight 13 ^^^ x.rotateRight 22)
      (fun x => x.rotateRight 6 ^^^ x.rotateRight 11 ^^^ x.rotateRight 25)
      (fun x => x.rotateRight 7 ^^^ x.rotateRight 18 ^^^ x >>> 3) (fun x => x.rotateRight 17 ^^^ x.rotateRight 19 ^^^ x >>> 10) sha256K) sha256H
  h.flatMap fun x => beBytes 4 x.toNat

/-- HMAC-SHA-256 of a message under a key of at most 64 bytes. -/
def hmac256 (key m : List Byte) : List Byte :=
  let k := key ++ List.replicate (64 - key.length) 0
  sha256 ((k.map (· ^^^ 0x5C)) ++ sha256 ((k.map (· ^^^ 0x36)) ++ m))

/-! ## ECDSA on P-384 -/

/-- The field prime of P-384. -/
def p384 : Nat := 2 ^ 384 - 2 ^ 128 - 2 ^ 96 + 2 ^ 32 - 1

/-- The order of the base point. -/
def p384n : Nat :=
  0xFFFFFFFFFFFFFFFFFFFFFFFFFFFFFFFFFFFFFFFFFFFFFFFFC7634D81F4372DDF581A0DB248B0A77AECEC196ACCC52973

/-- The coefficient b of the curve y^2 = x^3 - 3 x + b. -/
def p384b : Nat :=
  0xB3312FA7E23EE7E4988E056BE3F82D19181D9C6EFE8141120314088F5013875AC656398D8A2ED19D2A85C8EDD3EC2AEF

/-- The base point. -/
def p384g : Nat × Nat :=
  (0xAA87CA22BE8B05378EB1C71EF320AD746E1D3B628BA79B9859F741E082542A385502F25DBF55296C3A545E3872760AB7,
   0x3617DE4A96262C6F5D9E98BF9292DC29F8F41DBD289A147CE9DA3113B5F0B8C00A60B1CE1D7E819D7A431D7C90EA0E5F)

/-- Powers modulo m by repeated squaring, over `fuel` bits of the exponent. -/
def powMod (m : Nat) : Nat → Nat → Nat → Nat → Nat
  | 0, _, _, acc => acc
  | fuel + 1, b, e, acc => powMod m fuel (b * b % m) (e / 2) (if e % 2 = 1 then acc * b % m else acc)

/-- The inverse modulo a prime of 384 bits. -/
def invMod (m x : Nat) : Nat := powMod m 384 (x % m) (m - 2) 1

/-- The sum of two points, none being the point at infinity. -/
def ecAdd (a b : Option (Nat × Nat)) : Option (Nat × Nat) :=
  match a, b with
  | none, y => y
  | x, none => x
  | some (x1, y1), some (x2, y2) =>
    if x1 = x2 && (y1 + y2) % p384 = 0 then none
    else
      let l := if x1 = x2 then (3 * x1 * x1 + (p384 - 3)) * invMod p384 (2 * y1) % p384
        else (y2 + (p384 - y1)) * invMod p384 (x2 + (p384 - x1)) % p384
      let x3 := (l * l + (p384 - x1) + (p384 - x2)) % p384
      some (x3, (l * (x1 + (p384 - x3)) + (p384 - y1)) % p384)

/-- A multiple of a point, over `fuel` bits of the factor. -/
def ecMul : Nat → Nat → Option (Nat × Nat) → Option (Nat × Nat) → Option (Nat × Nat)
  | 0, _, _, acc => acc
  | fuel + 1, k, a, acc => ecMul fuel (k / 2) (ecAdd a a) (if k % 2 = 1 then ecAdd acc a else acc)

/-- Whether a signature (r and s, 48 bytes each, least significant byte first as R8 has it) over a message verifies under a public key of 97 bytes in
uncompressed form (R566). -/
def ecdsaOk (key message sig : List Byte) : Bool :=
  let x := ofBE ((key.drop 1).take 48)
  let y := ofBE ((key.drop 49).take 48)
  let r := bytesAt sig 0 48
  let s := bytesAt sig 48 48
  let onCurve := decide (x < p384) && decide (y < p384) && y * y % p384 == (x * x * x + (p384 - 3) * x + p384b) % p384
  if key.head? != some 0x04 || !onCurve || r = 0 || s = 0 || p384n ≤ r || p384n ≤ s then false
  else
    let w := invMod p384n s
    let e := ofBE (sha384 message)
    match ecAdd (ecMul 384 (e * w % p384n) (some p384g) none) (ecMul 384 (r * w % p384n) (some (x, y)) none) with
    | some q => q.1 % p384n == r
    | none => false

end Sys2Proof.Machine
end

