-- ==== Sys2Proof/Machine/Reply.lean ====
section
/-! DEFINITION. How the answer to an MCI command returns: in its mailbox page (R550, R551) or as a datagram of its session (R555, R557). -/

namespace Sys2Proof.Machine

/-- A mailbox of a management die, as a key. -/
def boxKey (south : Bool) (m : Nat) : Nat := b01 south * 64 + m

/-- The address of a mailbox page's first byte in the pages. -/
def pageAt (south : Bool) (m : Nat) : Nat := boxKey south m * 4096

/-- MBm_STATE of a mailbox: COMPLETED and STATE (R548). -/
def State.box (s : State) (south : Bool) (m : Nat) : W64 := Sparse.get 0 s.mgmt.boxes (boxKey south m)

/-- The state with MBm_STATE replaced. -/
def State.setBox (s : State) (south : Bool) (m : Nat) (v : W64) : State :=
  { s with mgmt.boxes := Sparse.put 0 s.mgmt.boxes (boxKey south m) v }

/-- The header of a command or of its answer (R551): LENGTH, STATUS, DETAIL and RESP_LENGTH as given. -/
def mciHeader (c : MciCmd) (opcode length status detail respLen : Nat) : List Byte :=
  toBytes 2 opcode ++ [c.flags, 0] ++ toBytes 4 c.tag.toNat ++ toBytes 4 length ++ toBytes 4 c.session.toNat ++
    toBytes 2 status ++ toBytes 2 detail ++ toBytes 4 respLen ++ toBytes 8 0

/-- An answer: header and payload. LENGTH of an answer's header is a free value, since R551 gives it none (log entry 2). -/
def State.mciBytes (s : State) (c : MciCmd) (opcode status detail : Nat) (payload : List Byte) : State × List Byte :=
  (s.draw, mciHeader c opcode (Config.free32 s.free).toNat status detail payload.length ++ payload)

/-- A session by its id; session 0 is that of PCI Express. -/
def State.session (s : State) (id : W32) : Option Session := s.sessions.find? fun x => x.id == id

/-- The state with a session changed. -/
def State.updSession (s : State) (id : W32) (f : Session → Session) : State :=
  { s with sessions := mapFirst (fun x => x.id == id) f s.sessions }

/-- A datagram of a session leaves a management port: the panel's own counter, and the tag over all that stands before it (R555). -/
def State.sendDatagram (s : State) (south : Bool) (x : Session) (bytes : List Byte) : State :=
  let n := x.sent + 1
  let body := toBytes 4 x.id.toNat ++ toBytes 4 0 ++ toBytes 8 n.toNat ++ bytes
  let mac := hmac256 (toBytes 32 x.key.toNat) body
  let s := s.updSession x.id fun y => { y with sent := n }
  { s with outbox := s.outbox ++ [.datagram south (body ++ mac.take 16)] }

/-- An answer goes back the way its command came (R550 steps 3 to 5, R555). -/
def State.sendAnswer (s : State) (c : MciCmd) (bytes : List Byte) : State :=
  match c.via with
  | .mailbox south m =>
    let v := s.box south m.val
    let s := { s with mgmt.pages := s.mgmt.pages.writeBytes (pageAt south m.val) bytes }
    let s := s.setBox south m.val (w64 ((fld v 32 32 + 1) % 2 ^ 32 * 2 ^ 32 + 2))
    if bit c.flags 0 then { s with outbox := s.outbox ++ [.msix m.val] } else s
  | .ether south id _ _ _ =>
    match s.session id with
    | some x => s.sendDatagram south x bytes
    | none => s

/-- An answer is kept by its TAG among the last 64 of its session (R557). -/
def Session.keep (x : Session) (tag : W32) (bytes : List Byte) : Session :=
  { x with kept := ((tag, bytes) :: x.kept.filter fun k => k.1 != tag).take 64 }

/-- A command is answered: the answer of a datagram is kept by its session, and the answer is sent (R550, R551, R557; log entry 29). -/
def State.mciReply (s : State) (c : MciCmd) (opcode status detail : Nat) (payload : List Byte) : State :=
  let x := s.mciBytes c opcode status detail payload
  match c.via with
  | .mailbox _ _ => x.1.sendAnswer c x.2
  | .ether _ id _ _ _ => (x.1.updSession id fun y => y.keep c.tag x.2).sendAnswer c x.2

end Sys2Proof.Machine
end

