-- ==== Sys2Proof/Machine/Flags.lean ====
section
/-! DEFINITION. What the control core's predicates take: the conditions of CMP and CMPI, the operations of PSET and the summary
tests of BS (R139, R140). -/

namespace Sys2Proof.Machine

/-- CMP's condition on two registers (R139): signed for LT and GE, unsigned for LTU and GEU. -/
def condHolds (c : Cond) (a b : W64) : Bool :=
  match c with
  | .eq => a == b
  | .ne => a != b
  | .lt => a.slt b
  | .ge => !a.slt b
  | .ltu => a.ult b
  | .geu => !a.ult b

/-- CMPI's condition (R139). -/
def condIHolds (c : CondI) (a b : W64) : Bool :=
  match c with
  | .eq => a == b
  | .ne => a != b
  | .lt => a.slt b
  | .ge => !a.slt b

/-- PSET's operation (R139). -/
def predOp (op : PredOp) (a b : Bool) : Bool :=
  match op with
  | .and => a && b
  | .or => a || b
  | .xor => a != b
  | .andNot => a && !b
  | .not => !a

/-- BS's test of a summary value (R140). -/
def sumTest (t : SumTest) (v : W64) : Bool :=
  match t with
  | .nz => v.setWidth 32 != 0#32
  | .z => v.setWidth 32 == 0#32
  | .hnz => (v >>> 32).setWidth 32 != 0#32
  | .hz => (v >>> 32).setWidth 32 == 0#32

end Sys2Proof.Machine
end

