-- ==== Sys2Proof/Machine/Protect.lean ====
section
/-! DEFINITION. Circular-region advances (R180) and the protection of stored data: patrol scrub (R203-R205), write-back (R200), the
correction watch (R201) and run-time remapping (R213, R214). -/

namespace Sys2Proof.Machine

/-! ## REGn_ADV (R180) -/

/-- Whether a write of REGn_ADV is an access violation (R180). -/
def State.regAdvBad (s : State) (p : Fin 168) (n : Nat) (head : Bool) (amount : Nat) : Bool :=
  if head then
    s.regionProducer p n != 4 || decide (s.regionTail p n + s.regionSize p n < s.regionHead p n + amount)
  else s.regionConsumer p n != 4 || decide (s.regionHead p n < s.regionTail p n + amount)

/-- A permitted write of REGn_ADV advances the pointer. -/
def State.regAdvance (s : State) (p : Fin 168) (n : Nat) (head : Bool) (amount : Nat) : State :=
  if head then s.setReg (.site p) (0x18501008 + 32 * n) (w64 (s.regionHead p n + amount))
  else s.setReg (.site p) (0x18501010 + 32 * n) (w64 (s.regionTail p n + amount))

/-- REG_ADV (R180): the control core writes REGn_ADV. The row does not carry the store's instruction word, which the violation's event
names, so that word is a free value. -/
def execRegAdv (p : Site) (region : BitVec 6) (head : Bool) (amount : BitVec 32) (s : State) : Host.Outcome State Fault Refusal :=
  .next (if s.coreRuns p then
    (if s.regAdvBad p region.toNat head amount.toNat then
      s.draw.accessViolation p (w64 (0x18501018 + 32 * region.toNat)) (Config.free32 s.free)
     else s.regAdvance p region.toNat head amount.toNat)
  else s)

/-! ## Patrol scrub (R203-R205) -/

/-- The spans of a scrub pass: every class-S region that is not OFF, in ascending number (R203). -/
def State.scrubScope (s : State) (p : Fin 168) : List (Nat × Nat) :=
  (List.range 64).filterMap fun n =>
    if s.regionMode p n ≠ 0 && bit (s.regionCfg p n) 3 then some (s.regionBase p n, s.regionSize p n) else none

/-- The lines of spans. -/
def scrubLines (spans : List (Nat × Nat)) : Nat := spans.foldl (fun a x => a + x.2 / 512) 0

/-- The offset of line `k` of spans, none past the last. -/
def scrubLineAt : List (Nat × Nat) → Nat → Option Nat
  | [], _ => none
  | (b, n) :: t, k => if k < n / 512 then some (b + 512 * k) else scrubLineAt t (k - n / 512)

/-- SCRUB_PERIOD in drone ticks. -/
def State.scrubPeriod (s : State) (p : Fin 168) : Nat := s.rf (.site p) 0x18508008 0 32 * 10 ^ 8

/-- Whether patrol scrub and write-backs run (R200, R205): clocks on, not frozen, no kill-with-clear fill. -/
def State.scrubRuns (s : State) (p : Fin 168) : Bool := s.coreState p != 0 && s.coreState p != 3 && s.coreState p != 6

/-- The eight granules of a line are read by patrol scrub; a granule in an unpowered segment is not (R173). -/
def State.scrubLine (s : State) (p : Fin 168) (off : Nat) : State :=
  if s.segOn p off then ((s.grants p 4 off 512).readGrans p 5 off 8).1 else s

/-- One line of a pass is scrubbed: the position moves on, and the pass ends after its last line (R204). -/
def State.scrubStep (s : State) (p : Fin 168) (x : ScrubPass) : State :=
  match scrubLineAt x.spans x.done with
  | some off =>
    let s := (s.scrubLine p off).count64 (.site p) 0x18508018 1
    match scrubLineAt x.spans (x.done + 1) with
    | some next =>
      (s.setReg (.site p) 0x18508010 (w64 next)).updSite p fun y => { y with scrubPass := some { x with done := x.done + 1 } }
    | none =>
      let s := s.updSite p fun y => { y with scrubPass := none }
      let s := match scrubLineAt (s.scrubScope p) 0 with
        | some first => s.setReg (.site p) 0x18508010 (w64 first)
        | none => s
      if x.behind then s else s.setRf (.site p) 0x18508000 1 1 0
  | none => s.updSite p fun y => { y with scrubPass := none }

/-- SCRUB_LINE_READ (R204): a pass starts if none is in progress, and its next line is read. -/
def execScrubLineRead (p : Site) (s : State) : Host.Outcome State Fault Refusal :=
  .next (if s.scrubRuns p && s.scrubPeriod p != 0 then
    match (s.site p).scrubPass with
    | some x => s.scrubStep p x
    | none => if (s.scrubScope p).isEmpty then s else s.scrubStep p ⟨s.time, s.scrubScope p, 0, false⟩
  else s)

/-- SCRUB_BEHIND (R204): one period after its start the pass is not complete. -/
def execScrubBehind (p : Site) (s : State) : Host.Outcome State Fault Refusal :=
  .next (match (s.site p).scrubPass with
    | some x =>
      if !x.behind && s.scrubPeriod p != 0 && x.start + s.scrubPeriod p ≤ s.time then
        let s := s.updSite p fun y => { y with scrubPass := some { x with behind := true } }
        (s.setRf (.site p) 0x18508000 1 1 1).siteEvent p 0x1006 [scrubLines x.spans - x.done]
      else s
    | none => s)

/-! ## Write-back and the watch (R200, R201) -/

/-- WRITE_BACK (R200): the oldest queued granule is written back. -/
def execWriteBack (p : Site) (s : State) : Host.Outcome State Fault Refusal :=
  .next (match (s.site p).writeBacks with
    | g :: t =>
      if s.scrubRuns p then
        let s := if s.segOn p (g * 64) then (s.grants p 4 (g * 64) 64).writeBackGran p (g * 64) else s
        s.updSite p fun x => { x with writeBacks := t }
      else s
    | [] => s)

/-- One hour in drone ticks. -/
def hourTicks : Nat := 3600 * 10 ^ 8

/-- WATCH_ENTRY_EXPIRY (R201): the entry is freed one hour after its first correction, unless its count has reached three. -/
def execWatchEntryExpiry (p : Site) (n : BitVec 5) (s : State) : Host.Outcome State Fault Refusal :=
  let v := s.reg (.site p) (0x18508200 + 8 * n.toNat)
  .next (if bit v 63 && fld v 61 2 < 3 && hourTicks ≤ (s.time + 2 ^ 41 - fld v 0 41) % 2 ^ 41 then
    s.setReg (.site p) (0x18508200 + 8 * n.toNat) 0 else s)

/-! ## Remapping (R213, R214) -/

/-- The core offset of a granule of a data row (R162). -/
def rowOffset (die bank row g : Nat) : Nat := row * 2 ^ 15 + bank / 8 * 2 ^ 13 + die * 2 ^ 12 + bank % 8 * 2 ^ 9 + g * 64

/-- The watch entry of a raw row is freed. -/
def State.freeWatch (s : State) (p : Fin 168) (die bank row : Nat) : State :=
  (List.range 32).foldl (fun st n =>
    let v := st.reg (.site p) (0x18508200 + 8 * n)
    if bit v 63 && fld v 60 1 == die && fld v 55 5 == bank && fld v 41 14 == row then st.setReg (.site p) (0x18508200 + 8 * n) 0
    else st) s

/-- No entry or no spare row is free (R214). -/
def State.retireAtMaintenance (s : State) (p : Fin 168) (die bank row : Nat) : State :=
  if s.rf (.site p) 0x18508000 2 1 = 1 then s
  else (s.setRf (.site p) 0x18508000 2 1 1).siteEvent p 0x1005 [die, bank, row]

/-- REMAP_ADD (R213): the active management die adds an entry for a failing row by row copy; without a free entry or spare row, and for a row
that is itself a spare, R214 applies. -/
def execRemapAdd (p : Site) (die : BitVec 1) (bank : BitVec 5) (row : BitVec 14) (s : State) : Host.Outcome State Fault Refusal :=
  let d := die.toNat
  let b := bank.toNat
  let r := row.toNat
  .next (match s.remapFree p d b with
    | some (e, spare) =>
      if 12288 ≤ r then s.retireAtMaintenance p d b r
      else
        let s := s.putRow p.val d b (12288 + spare) (s.rowBytes p.val d b r)
        let image := w64 (2 ^ 63 + spare * 2 ^ 19 + b * 2 ^ 14 + r)
        let s := s.setReg (.site p) (0x18508100 + 64 * d + 8 * e) image
        let s := (List.range 8).foldl (fun st g =>
          let off := rowOffset d b r g
          let x := st.granAt p off
          let o := x.outcomes [0, 1, 2, 3]
          let st := st.noteRead p off 5 [0, 1, 2, 3] x
          if o.1 = 0 && o.2 = 0 then st else (st.writeBackGran p off).dropWriteBack p off) s
        let s := (s.freeWatch p d b r).siteEvent p 0x1004 [d, b, r, spare]
        { s with flash.remaps := s.flash.remaps ++ [(p.val * 2 + d, image)] }
    | none => s.retireAtMaintenance p d b r)

end Sys2Proof.Machine
end

