-- ==== Sys2Proof/Machine/ControlCore.lean ====
section
/-! DEFINITION. The control core (R132-R160, R590): one meaning per instruction. Each command runs at the control core's PC on a core that
runs and has no asynchronous exception due (R155); a stalled instruction leaves the state as it is and is given again (log
entry 11). -/

namespace Sys2Proof.Machine

/-! ## Executing one instruction -/

/-- Whether an asynchronous exception is due at the next instruction boundary (R155). -/
def State.ccDue (s : State) (p : Fin 168) : Bool := !(s.cc p).ex && (!(s.cc p).engPending.isEmpty || (s.cc p).stepPending)

/-- An instruction executes on a running core with no asynchronous exception due. -/
def State.ccExec (s : State) (p : Fin 168) (body : Cc → State) : Host.Outcome State Fault Refusal :=
  .next (if s.coreRuns p && !s.ccDue p then body (s.cc p) else s)

/-- An instruction completes: its effect on the core, the next PC, INSTRET and the clocks it occupies (R159, R160). -/
def State.ccDone (s : State) (p : Fin 168) (clocks : Nat) (pc : W16) (f : Cc → Cc) : State :=
  s.updCc p fun c => { f c with pc := pc, instret := c.instret + 1, cycle := c.cycle + w64 clocks }

/-- An instruction completes and the next in order follows. -/
def State.ccNext (s : State) (p : Fin 168) (clocks : Nat) (f : Cc → Cc) : State := s.ccDone p clocks ((s.cc p).pc + 4) f

/-- A taken branch or jump (R138): to its target, or ILLEGAL with detail TARGET. -/
def State.ccJump (s : State) (p : Fin 168) (word : W32) (t : W64) (f : Cc → Cc) : State :=
  if targetOk t then s.ccDone p 3 (t.setWidth 16) f else s.illegal p 2 word

/-- An instruction that writes one general register and takes one clock. -/
def State.ccWrite (s : State) (p : Fin 168) (rd : BitVec 5) (v : W64) : State := s.ccNext p 1 fun c => c.setR rd v

/-- An instruction that writes one predicate. -/
def State.ccPred (s : State) (p : Fin 168) (pd : BitVec 3) (b : Bool) : State := s.ccNext p 1 fun c => c.setPr pd b

/-- The address of the link register's value. -/
def Cc.link (c : Cc) : W64 := c.pc.zeroExtend 64 + 4

/-! ## Register, compare and immediate instructions (R139) -/

/-- ADD. -/
def execAdd (p : Site) (rd rs1 rs2 : BitVec 5) (s : State) : Host.Outcome State Fault Refusal :=
  s.ccExec p fun c => s.ccWrite p rd (c.r rs1 + c.r rs2)

/-- SUB. -/
def execSub (p : Site) (rd rs1 rs2 : BitVec 5) (s : State) : Host.Outcome State Fault Refusal :=
  s.ccExec p fun c => s.ccWrite p rd (c.r rs1 - c.r rs2)

/-- MUL. -/
def execMul (p : Site) (rd rs1 rs2 : BitVec 5) (s : State) : Host.Outcome State Fault Refusal :=
  s.ccExec p fun c => s.ccWrite p rd (c.r rs1 * c.r rs2)

/-- MULHU. -/
def execMulhu (p : Site) (rd rs1 rs2 : BitVec 5) (s : State) : Host.Outcome State Fault Refusal :=
  s.ccExec p fun c => s.ccWrite p rd (w64 ((c.r rs1).toNat * (c.r rs2).toNat / 2 ^ 64))

/-- AND. -/
def execAnd (p : Site) (rd rs1 rs2 : BitVec 5) (s : State) : Host.Outcome State Fault Refusal :=
  s.ccExec p fun c => s.ccWrite p rd (c.r rs1 &&& c.r rs2)

/-- OR. -/
def execOr (p : Site) (rd rs1 rs2 : BitVec 5) (s : State) : Host.Outcome State Fault Refusal :=
  s.ccExec p fun c => s.ccWrite p rd (c.r rs1 ||| c.r rs2)

/-- XOR. -/
def execXor (p : Site) (rd rs1 rs2 : BitVec 5) (s : State) : Host.Outcome State Fault Refusal :=
  s.ccExec p fun c => s.ccWrite p rd (c.r rs1 ^^^ c.r rs2)

/-- SHL. -/
def execShl (p : Site) (rd rs1 rs2 : BitVec 5) (s : State) : Host.Outcome State Fault Refusal :=
  s.ccExec p fun c => s.ccWrite p rd (c.r rs1 <<< ((c.r rs2).toNat % 64))

/-- SHR. -/
def execShr (p : Site) (rd rs1 rs2 : BitVec 5) (s : State) : Host.Outcome State Fault Refusal :=
  s.ccExec p fun c => s.ccWrite p rd (c.r rs1 >>> ((c.r rs2).toNat % 64))

/-- SAR. -/
def execSar (p : Site) (rd rs1 rs2 : BitVec 5) (s : State) : Host.Outcome State Fault Refusal :=
  s.ccExec p fun c => s.ccWrite p rd ((c.r rs1).sshiftRight ((c.r rs2).toNat % 64))

/-- CMP. -/
def execCmp (p : Site) (pd : BitVec 3) (rs1 rs2 : BitVec 5) (cond : Cond) (s : State) : Host.Outcome State Fault Refusal :=
  s.ccExec p fun c => s.ccPred p pd (condHolds cond (c.r rs1) (c.r rs2))

/-- SEL. -/
def execSel (p : Site) (rd rs1 rs2 : BitVec 5) (ps : BitVec 3) (s : State) : Host.Outcome State Fault Refusal :=
  s.ccExec p fun c => s.ccWrite p rd (if c.pr ps then c.r rs1 else c.r rs2)

/-- PSET. -/
def execPset (p : Site) (pd pa pb : BitVec 3) (op : PredOp) (s : State) : Host.Outcome State Fault Refusal :=
  s.ccExec p fun c => s.ccPred p pd (predOp op (c.pr pa) (c.pr pb))

/-- ADDI. -/
def execAddi (p : Site) (rd rs1 : BitVec 5) (imm : BitVec 16) (s : State) : Host.Outcome State Fault Refusal :=
  s.ccExec p fun c => s.ccWrite p rd (c.r rs1 + simm imm)

/-- ANDI. -/
def execAndi (p : Site) (rd rs1 : BitVec 5) (imm : BitVec 16) (s : State) : Host.Outcome State Fault Refusal :=
  s.ccExec p fun c => s.ccWrite p rd (c.r rs1 &&& zimm imm)

/-- ORI. -/
def execOri (p : Site) (rd rs1 : BitVec 5) (imm : BitVec 16) (s : State) : Host.Outcome State Fault Refusal :=
  s.ccExec p fun c => s.ccWrite p rd (c.r rs1 ||| zimm imm)

/-- XORI. -/
def execXori (p : Site) (rd rs1 : BitVec 5) (imm : BitVec 16) (s : State) : Host.Outcome State Fault Refusal :=
  s.ccExec p fun c => s.ccWrite p rd (c.r rs1 ^^^ zimm imm)

/-- SHLI. -/
def execShli (p : Site) (rd rs1 : BitVec 5) (sh : BitVec 6) (s : State) : Host.Outcome State Fault Refusal :=
  s.ccExec p fun c => s.ccWrite p rd (c.r rs1 <<< sh.toNat)

/-- SHRI. -/
def execShri (p : Site) (rd rs1 : BitVec 5) (sh : BitVec 6) (s : State) : Host.Outcome State Fault Refusal :=
  s.ccExec p fun c => s.ccWrite p rd (c.r rs1 >>> sh.toNat)

/-- SARI. -/
def execSari (p : Site) (rd rs1 : BitVec 5) (sh : BitVec 6) (s : State) : Host.Outcome State Fault Refusal :=
  s.ccExec p fun c => s.ccWrite p rd ((c.r rs1).sshiftRight sh.toNat)

/-- CMPI. -/
def execCmpi (p : Site) (pd : BitVec 3) (rs1 : BitVec 5) (imm : BitVec 16) (cond : CondI) (s : State) : Host.Outcome State Fault Refusal :=
  s.ccExec p fun c => s.ccPred p pd (condIHolds cond (c.r rs1) (simm imm))

/-- LUI. -/
def execLui (p : Site) (rd : BitVec 5) (imm : BitVec 21) (s : State) : Host.Outcome State Fault Refusal :=
  s.ccExec p fun _ => s.ccWrite p rd (simm imm <<< 16)

/-! ## Branches and jumps (R138-R140) -/

/-- JAL. -/
def execJal (p : Site) (rd : BitVec 5) (imm : BitVec 21) (s : State) : Host.Outcome State Fault Refusal :=
  s.ccExec p fun c => s.ccJump p (ccWord (.jal p rd imm)) (c.target imm) fun k => k.setR rd c.link

/-- JALR. -/
def execJalr (p : Site) (rd rs1 : BitVec 5) (imm : BitVec 16) (s : State) : Host.Outcome State Fault Refusal :=
  s.ccExec p fun c => s.ccJump p (ccWord (.jalr p rd rs1 imm)) (c.jalrTarget rs1 imm) fun k => k.setR rd c.link

/-- BP. -/
def execBp (p : Site) (ps : BitVec 3) (imm : BitVec 16) (s : State) : Host.Outcome State Fault Refusal :=
  s.ccExec p fun c =>
    if c.pr ps then s.ccJump p (ccWord (.bp p ps imm)) (c.target imm) id else s.ccNext p 1 id

/-- BNP. -/
def execBnp (p : Site) (ps : BitVec 3) (imm : BitVec 16) (s : State) : Host.Outcome State Fault Refusal :=
  s.ccExec p fun c =>
    if c.pr ps then s.ccNext p 1 id else s.ccJump p (ccWord (.bnp p ps imm)) (c.target imm) id

/-- BS (R140): a poisoned summary raises POISON with detail SUMMARY. -/
def execBs (p : Site) (test : SumTest) (sum : BitVec 4) (imm : BitVec 16) (s : State) : Host.Outcome State Fault Refusal :=
  s.ccExec p fun c =>
    let n := sum.toNat
    if bit (s.reg (.site p) 0x18200050) n then s.poisonException p 1 (w64 (0x18200100 + 8 * n)) none
    else if sumTest test (s.reg (.site p) (0x18200100 + 8 * n)) then
      s.ccJump p (ccWord (.bs p test sum imm)) (c.target imm) id
    else s.ccNext p 1 id

/-! ## Loads and stores (R141-R145) -/

/-- A load of register space (R10, R141, R142). -/
def State.ccLoadReg (s : State) (p : Fin 168) (rd : BitVec 5) (ea : Nat) : State :=
  if inTable ea 0x18200100 8 16 && bit (s.reg (.site p) 0x18200050) ((ea - 0x18200100) / 8) then s.poisonException p 0 (w64 ea) none
  else
    let v := s.regRead (.site p) ea
    (s.regClear (.site p) ea).ccWrite p rd v

/-- A load of scratchpad through the narrow view (R141, R142, R145): data an engine is still writing is a free value. -/
def State.ccLoadSp (s : State) (p : Fin 168) (rd : BitVec 5) (ea size : Nat) (signed : Bool) : State :=
  let r := s.granAt p ea
  let w := ea % 64 / 16
  let s := s.noteRead p ea 4 [w] r
  if bit r.poison w then s.poisonException p 0 (w64 ea) (some (ea / 64))
  else if spanHas (s.hotSpans p) ea then s.draw.ccWrite p rd (extendLoad size signed (Config.free64 s.free).toNat)
  else s.ccWrite p rd (extendLoad size signed (r.data.toNat / 2 ^ (8 * (ea % 64))))

/-- A load (R141). -/
def State.ccLoad (s : State) (p : Fin 168) (size : Nat) (signed : Bool) (rd : BitVec 5) (addr : W64) (word : W32) : State :=
  let ea := addr.toNat
  if 0x18800000 ≤ ea then s.accessViolation p addr word
  else if ea < 0x18000000 then
    (if !s.spanOn p ea size then s.accessViolation p addr word
     else if ea % size ≠ 0 then s.misaligned p addr
     else s.ccLoadSp p rd ea size signed)
  else if size ≠ 8 || ea % 8 ≠ 0 then s.accessViolation p addr word
  else s.ccLoadReg p rd ea

/-- What a control-core store to a register does, none where it is an access violation (R141, R194, R218, R312, R438, R543). -/
def State.ccStoreReg (s : State) (p : Fin 168) (ea : Nat) (v : W64) : Option State :=
  let u := RegUnit.site p
  if ea < 0x18100000 then none
  else if ea < 0x18200000 then some (
    if ea = 0x18100008 then
      let s := if bit v 1 then s.meAbort p else s
      if bit v 0 then s.meClearFault p else s
    else if ea = 0x18100010 then s.setReg u ea (w64 (fld v 12 17 * 4096))
    else s.setReg u ea (writeFields (regFields u ea) true (s.reg u ea) v))
  else if ea < 0x18300000 then some (
    if ea = 0x18200008 then
      let s := if bit v 1 then s.veAbort p else s
      if bit v 0 then s.veClearFault p else s
    else if ea = 0x18200010 then s.setReg u ea (w64 (fld v 12 17 * 4096))
    else if inTable ea 0x18200100 8 16 then s.setSum p ((ea - 0x18200100) / 8) v false
    else s.setReg u ea (writeFields (regFields u ea) true (s.reg u ea) v))
  else if ea < 0x18500000 then
    (if ea = 0x18403000 then some (s.setReg u ea (w64 (fld v 12 17 * 4096))) else none)
  else if ea < 0x18508000 then
    (if ea = 0x18500008 || ea = 0x18500010 || ea = 0x18502210 || inTable ea 0x18501000 32 64 then none
     else if ea = 0x18502200 then some (s.setReg u ea (w64 (fld v 12 17 * 4096)))
     else if inTable ea 0x18501018 32 64 then
      let n := (ea - 0x18501018) / 32
      if s.regAdvBad p n (bit v 32) (fld v 0 32) then none else some (s.regAdvance p n (bit v 32) (fld v 0 32))
     else if inTable ea 0x18502008 32 9 then
      let n := (ea - 0x18502008) / 32
      let s := if bit v 1 then s.mvAbort p n else s
      some (if bit v 0 then s.mvClearFault p n else s)
     else some s)
  else none

/-- A store (R141, R143, R181): a region of another producer, and any register the control core may not write, is an access violation. -/
def State.ccStore (s : State) (p : Fin 168) (size : Nat) (v addr : W64) (word : W32) : State :=
  let ea := addr.toNat
  if 0x18800000 ≤ ea then s.accessViolation p addr word
  else if ea < 0x18000000 then
    (if !s.spanOn p ea size then s.accessViolation p addr word
     else
      let foreign := match s.regionOf p ea with
        | some n => decide (2 ≤ s.regionMode p n) && s.regionProducer p n != 4
        | none => false
      if foreign then s.accessViolation p addr word
      else if ea % size ≠ 0 then s.misaligned p addr
      else (s.writeNarrow p ea size v.toNat).ccNext p 1 id)
  else if size ≠ 8 || ea % 8 ≠ 0 then s.accessViolation p addr word
  else match s.ccStoreReg p ea v with
    | some t => t.ccNext p 1 id
    | none => s.accessViolation p addr word

/-- LD8U. -/
def execLd8u (p : Site) (rd rs1 : BitVec 5) (imm : BitVec 16) (s : State) : Host.Outcome State Fault Refusal :=
  s.ccExec p fun c => s.ccLoad p 1 false rd (c.ea rs1 imm) (ccWord (.ld8u p rd rs1 imm))

/-- LD8S. -/
def execLd8s (p : Site) (rd rs1 : BitVec 5) (imm : BitVec 16) (s : State) : Host.Outcome State Fault Refusal :=
  s.ccExec p fun c => s.ccLoad p 1 true rd (c.ea rs1 imm) (ccWord (.ld8s p rd rs1 imm))

/-- LD16U. -/
def execLd16u (p : Site) (rd rs1 : BitVec 5) (imm : BitVec 16) (s : State) : Host.Outcome State Fault Refusal :=
  s.ccExec p fun c => s.ccLoad p 2 false rd (c.ea rs1 imm) (ccWord (.ld16u p rd rs1 imm))

/-- LD16S. -/
def execLd16s (p : Site) (rd rs1 : BitVec 5) (imm : BitVec 16) (s : State) : Host.Outcome State Fault Refusal :=
  s.ccExec p fun c => s.ccLoad p 2 true rd (c.ea rs1 imm) (ccWord (.ld16s p rd rs1 imm))

/-- LD32U. -/
def execLd32u (p : Site) (rd rs1 : BitVec 5) (imm : BitVec 16) (s : State) : Host.Outcome State Fault Refusal :=
  s.ccExec p fun c => s.ccLoad p 4 false rd (c.ea rs1 imm) (ccWord (.ld32u p rd rs1 imm))

/-- LD32S. -/
def execLd32s (p : Site) (rd rs1 : BitVec 5) (imm : BitVec 16) (s : State) : Host.Outcome State Fault Refusal :=
  s.ccExec p fun c => s.ccLoad p 4 true rd (c.ea rs1 imm) (ccWord (.ld32s p rd rs1 imm))

/-- LD64. -/
def execLd64 (p : Site) (rd rs1 : BitVec 5) (imm : BitVec 16) (s : State) : Host.Outcome State Fault Refusal :=
  s.ccExec p fun c => s.ccLoad p 8 false rd (c.ea rs1 imm) (ccWord (.ld64 p rd rs1 imm))

/-- ST8. -/
def execSt8 (p : Site) (rs2 rs1 : BitVec 5) (imm : BitVec 16) (s : State) : Host.Outcome State Fault Refusal :=
  s.ccExec p fun c => s.ccStore p 1 (c.r rs2) (c.ea rs1 imm) (ccWord (.st8 p rs2 rs1 imm))

/-- ST16. -/
def execSt16 (p : Site) (rs2 rs1 : BitVec 5) (imm : BitVec 16) (s : State) : Host.Outcome State Fault Refusal :=
  s.ccExec p fun c => s.ccStore p 2 (c.r rs2) (c.ea rs1 imm) (ccWord (.st16 p rs2 rs1 imm))

/-- ST32. -/
def execSt32 (p : Site) (rs2 rs1 : BitVec 5) (imm : BitVec 16) (s : State) : Host.Outcome State Fault Refusal :=
  s.ccExec p fun c => s.ccStore p 4 (c.r rs2) (c.ea rs1 imm) (ccWord (.st32 p rs2 rs1 imm))

/-- ST64. -/
def execSt64 (p : Site) (rs2 rs1 : BitVec 5) (imm : BitVec 16) (s : State) : Host.Outcome State Fault Refusal :=
  s.ccExec p fun c => s.ccStore p 8 (c.r rs2) (c.ea rs1 imm) (ccWord (.st64 p rs2 rs1 imm))

/-! ## Control registers, return and fence (R144, R155, R159) -/

/-- CRR: TIME is at most 40 ns stale, and CYCLE counts stall clocks that the model leaves free. -/
def execCrr (p : Site) (rd : BitVec 5) (num : BitVec 12) (s : State) : Host.Outcome State Fault Refusal :=
  s.ccExec p fun _ =>
    match s.crValue p num.toNat with
    | some v =>
      if num = 0x020 then s.draw.ccWrite p rd (w64 (s.time - Config.freeNat s.free % 5))
      else if num = 0x021 then s.draw.ccWrite p rd (v + Config.free64 s.free)
      else s.ccWrite p rd v
    | none => s.illegal p 1 (ccWord (.crr p rd num))

/-- The control core with a writable control register written, none for any other number (R159). -/
def Cc.crWrite (c : Cc) (n : Nat) (v : W64) : Option Cc :=
  match n with
  | 0x001 => some { c with epc := v.setWidth 16 &&& 0xFFFC }
  | 0x004 => some { c with evec := v.setWidth 16 &&& 0xFFFC }
  | 0x005 => some { c with preds := setBit (v.setWidth 8) 0 false }
  | 0x006 => some { c with escratch := v }
  | _ => none

/-- CRW. -/
def execCrw (p : Site) (rs1 : BitVec 5) (num : BitVec 12) (s : State) : Host.Outcome State Fault Refusal :=
  s.ccExec p fun c =>
    match c.crWrite num.toNat (c.r rs1) with
    | some k => s.ccNext p 1 fun _ => k
    | none => s.illegal p 1 (ccWord (.crw p rs1 num))

/-- ERET (R155). -/
def execEret (p : Site) (s : State) : Host.Outcome State Fault Refusal :=
  s.ccExec p fun _ => (s.returnException p).updCc p fun c => { c with instret := c.instret + 1, cycle := c.cycle + 3 }

/-- FENCE (R144): in a model in which loads and stores take effect one by one, it only completes. -/
def execFence (p : Site) (s : State) : Host.Outcome State Fault Refusal := s.ccExec p fun _ => s.ccNext p 1 id

/-! ## Issue and wait (R146-R150) -/

/-- EINFO of an ENGINE_FAULT (R150). -/
def engInfo (eng ring reason : Nat) : W64 := w64 (ring * 2 ^ 16 + eng * 2 ^ 8 + reason)

/-- A precise ENGINE_FAULT of an ISSUE (R149). -/
def State.engineFault (s : State) (p : Fin 168) (eng ring reason token : Nat) : State :=
  (s.coreEvent p 0x7021 [eng, ring, reason, token]).takeException p 0x07 (engInfo eng ring reason)

/-- An ISSUE's checks (R146, R149), then the descriptor's bytes and poison go to `accept`; a full queue stalls. A poisoned descriptor is
consumed here (R209). -/
def State.ccIssue (s : State) (p : Fin 168) (addr : W64) (size : Nat) (word : W32) (eng ring : Nat) (status : W64) (token : Nat) (full : Bool)
    (accept : State → List Byte → Bool → State) : State :=
  let ea := addr.toNat
  let reasonOf := fld status 8 8
  let faulted := if eng = 2 then bit status 1 else bit status 7
  if !s.spanOn p ea size then s.accessViolation p addr word
  else if ea % size ≠ 0 then s.misaligned p addr
  else if faulted then s.engineFault p eng ring reasonOf token
  else if full then s
  else
    let x := s.readGrans p 4 ea (size / 64)
    let bad := x.2.any (·.poison)
    let s := if bad then x.1.poisonConsumed p 3 ea ((List.range (size / 64)).findSome? fun i =>
        if (x.2.map (·.poison)).getD i false then some (ea / 64 + i) else none) else x.1
    accept s (flitBytes x.2) bad

/-- The matrix-engine queue accepts a descriptor; the lines it hands off into are noted (R126, R147). -/
def State.meAccept (s : State) (p : Fin 168) (off : Nat) (l : List Byte) (bad : Bool) : State :=
  let n := (s.site p).me.accepted
  let t := (s.cc p).meIssued + 1
  let d : Desc := ⟨t, off, l, bad, n⟩
  let lines := (meHandoff d).flatMap fun x => (List.range ((x.1 + x.2 + 2047) / 2048 - x.1 / 2048)).map fun i => (x.1 / 2048 + i) % 128
  let s := s.updSite p fun x => { x with me := { x.me with
    queue := x.me.queue ++ [d]
    accepted := n + 1
    hands := lines.foldl (fun h i => Sparse.ins h i (n, false)) x.me.hands } }
  s.updCc p fun c => { c with meIssued := t }

/-- The vector-engine queue accepts a descriptor, noting the newest matrix-engine descriptor accepted before it that hands off into a line it
reads (R126). -/
def State.veAccept (s : State) (p : Fin 168) (off : Nat) (l : List Byte) (bad : Bool) : State :=
  let n := (s.site p).ve.accepted
  let t := (s.cc p).veIssued + 1
  let d : Desc := ⟨t, off, l, bad, n⟩
  let m := (s.site p).me
  let notes := m.hands.filter fun h => (veCacheReads d).any fun x => decide (x.1 < h.1 * 2048 + 2048) && decide (h.1 * 2048 < x.1 + x.2)
  let newest := notes.foldl (fun (a : Option (Nat × Bool)) h => match a with
    | some b => if b.1 < h.2.1 then some h.2 else some b
    | none => some h.2) none
  let live (k : Nat) : Bool := m.queue.any (fun e => e.serial == k) || m.running.any fun r => r.desc.serial == k
  let s := s.updSite p fun x => { x with ve := { x.ve with
    queue := x.ve.queue ++ [d]
    accepted := n + 1
    handoff := (match newest with
      | some (k, false) => if live k then x.ve.handoff ++ [(n, k)] else x.ve.handoff
      | _ => x.ve.handoff)
    discarded := (match newest with
      | some (_, true) => x.ve.discarded ++ [n]
      | _ => x.ve.discarded) } }
  s.updCc p fun c => { c with veIssued := t }

/-- A mover ring accepts a descriptor. -/
def State.mvAccept (s : State) (p : Fin 168) (ring off : Nat) (l : List Byte) (bad : Bool) : State :=
  let t := Sparse.get 0 (s.cc p).mvIssued ring + 1
  (s.updRing p ring fun r => { r with queue := r.queue ++ [⟨t, off, l, bad, 0⟩] }).updCc p fun c =>
    { c with mvIssued := Sparse.put 0 c.mvIssued ring t }

/-- ISSUE.ME (R146). -/
def execIssueMe (p : Site) (rd rs1 : BitVec 5) (s : State) : Host.Outcome State Fault Refusal :=
  s.ccExec p fun c =>
    s.ccIssue p (c.r rs1) 64 (ccWord (.issueMe p rd rs1)) 0 0 (s.reg (.site p) 0x18100000) (s.rn (.site p) 0x18100048)
      (decide (16 ≤ (s.site p).me.queue.length)) fun st l bad =>
        let st := st.meAccept p (c.r rs1).toNat l bad
        st.ccNext p 2 fun k => k.setR rd k.meIssued

/-- ISSUE.VE (R146). -/
def execIssueVe (p : Site) (rd rs1 : BitVec 5) (s : State) : Host.Outcome State Fault Refusal :=
  s.ccExec p fun c =>
    s.ccIssue p (c.r rs1) 128 (ccWord (.issueVe p rd rs1)) 1 0 (s.reg (.site p) 0x18200000) (s.rn (.site p) 0x18200048)
      (decide (16 ≤ (s.site p).ve.queue.length)) fun st l bad =>
        let st := st.veAccept p (c.r rs1).toNat l bad
        st.ccNext p 2 fun k => k.setR rd k.veIssued

/-- ISSUE.MV (R146). -/
def execIssueMv (p : Site) (rd rs1 : BitVec 5) (ring : BitVec 3) (s : State) : Host.Outcome State Fault Refusal :=
  s.ccExec p fun c =>
    let n := ring.toNat
    s.ccIssue p (c.r rs1) 64 (ccWord (.issueMv p rd rs1 ring)) 2 n (s.reg (.site p) (0x18502000 + 32 * n)) (s.ring p n).token.toNat
      (decide (32 ≤ (s.ring p n).queue.length)) fun st l bad =>
        let st := st.mvAccept p n (c.r rs1).toNat l bad
        st.ccNext p 2 fun k => k.setR rd (Sparse.get 0 k.mvIssued n)

/-- WAIT (R148): the ticket's completion comes before a fault. -/
def execWait (p : Site) (pd : BitVec 3) (rs1 : BitVec 5) (eng : Engine) (ring : BitVec 3) (s : State) : Host.Outcome State Fault Refusal :=
  s.ccExec p fun c =>
    let u := RegUnit.site p
    let done := match eng with
      | .me => s.reg u 0x18100020
      | .ve => s.reg u 0x18200020
      | .mv => s.reg u (0x18502010 + 32 * ring.toNat)
    let faulted := match eng with
      | .me => bit (s.reg u 0x18100000) 7
      | .ve => bit (s.reg u 0x18200000) 7
      | .mv => bit (s.reg u (0x18502000 + 32 * ring.toNat)) 1
    if atOrPast done (c.r rs1) then s.ccPred p pd true
    else if faulted then s.ccPred p pd false
    else s

/-! ## Channels (R151, R296-R303, R590) -/

/-- The operation in progress of the instruction at PC (R590). -/
def Cc.pendHere (c : Cc) (kind : PendKind) : Option PendOp := c.pends.find? fun o => o.addr == c.pc && o.kind == kind

/-- The record of the instruction at PC clears. -/
def Cc.clearPend (c : Cc) : Cc := { c with pends := c.pends.filter fun o => o.addr != c.pc }

/-- The instruction at PC ends when its operation has: it writes rd or raises SEND_DEADLINE (R301, R590); otherwise it stalls. -/
def State.ccFinish (s : State) (p : Fin 168) (kind : PendKind) (rd : BitVec 5) : State :=
  match (s.cc p).pendHere kind with
  | some o =>
    match o.result with
    | some (.value v) => (s.updCc p Cc.clearPend).ccWrite p rd v
    | some .deadline =>
      let s := (s.updCc p Cc.clearPend).coreEvent p 0x3010 [o.ctx, o.seq.toNat, o.nacks]
      s.takeException p 0x05 (w64 (o.seq.toNat * 2 ^ 32 + o.ctx))
    | none => s
  | none => s

/-- The instruction at PC has started an operation. -/
def State.ccStart (s : State) (p : Fin 168) (kind : PendKind) (n : Nat) (seq : W32) : State :=
  s.updCc p fun c => { c with pends := c.pends ++ [⟨c.pc, kind, n, seq, 0, none⟩] }

/-- CHAN.OPEN (R151, R296). -/
def execChanOpen (p : Site) (rd rs1 : BitVec 5) (s : State) : Host.Outcome State Fault Refusal :=
  s.ccExec p fun c =>
    let v := c.r rs1
    if (c.pendHere .chanOpen).isSome then s.ccFinish p .chanOpen rd
    else if fld v 15 49 ≠ 0 || decide (144 ≤ fld v 0 8) then s.illegal p 1 (ccWord (.chanOpen p rd rs1))
    else match s.freeCtx p with
      | some n => (s.ccStart p .chanOpen n 0).chOpen p n (BitVec.ofNat 8 (fld v 0 8)) (fld v 8 7)
      | none => s.ccWrite p rd (failWith 0xFF)

/-- CHAN.SEND, plain or BLOCK (R151, R297, R301). -/
def State.ccSend (s : State) (p : Fin 168) (rd : BitVec 5) (v addr : W64) (block : Bool) (word : W32) : State :=
  let n := fld v 0 8
  let len := fld v 32 17
  let c := s.sctx p n
  if len ≠ 0 && !s.spanOn p addr.toNat len then s.accessViolation p addr word
  else if fld v 8 24 ≠ 0 || fld v 49 15 ≠ 0 || decide (65536 < len) || c.state = 0 then s.illegal p 1 word
  else if addr.toNat % 64 ≠ 0 then s.misaligned p addr
  else if c.state = 1 then s
  else if c.state ≠ 2 then s.ccWrite p rd (failWith 0x07)
  else if 8 ≤ c.msgs.length then s
  else if block then (s.ccStart p .chanSend n c.next).chHandOver p n addr.toNat len true
  else (s.chHandOver p n addr.toNat len false).ccWrite p rd (c.next.zeroExtend 64)

/-- CHAN.SEND (R297). -/
def execChanSend (p : Site) (rd rs1 rs2 : BitVec 5) (s : State) : Host.Outcome State Fault Refusal :=
  s.ccExec p fun c => s.ccSend p rd (c.r rs1) (c.r rs2) false (ccWord (.chanSend p rd rs1 rs2))

/-- CHAN.SEND with BLOCK (R301). -/
def execChanSendBlock (p : Site) (rd rs1 rs2 : BitVec 5) (s : State) : Host.Outcome State Fault Refusal :=
  s.ccExec p fun c =>
    if (c.pendHere .chanSend).isSome then s.ccFinish p .chanSend rd
    else s.ccSend p rd (c.r rs1) (c.r rs2) true (ccWord (.chanSendBlock p rd rs1 rs2))

/-- CHAN.CLOSE (R303): it clears the record of an operation of its context (R590). -/
def execChanClose (p : Site) (rd rs1 : BitVec 5) (s : State) : Host.Outcome State Fault Refusal :=
  s.ccExec p fun c =>
    let n := fld (c.r rs1) 0 8
    if (c.pendHere .chanClose).isSome then s.ccFinish p .chanClose rd
    else if (s.sctx p n).state = 0 then s.illegal p 1 (ccWord (.chanClose p rd rs1))
    else
      let s := s.updCc p fun c => { c with pends := c.pends.filter fun o => o.ctx != n }
      let s := s.ccStart p .chanClose n 0
      (if (s.sctx p n).state = 4 then s else s.chClose p n).ccFinish p .chanClose rd

/-! ## Windows, queues and barriers (R151) -/

/-- WIN.OPEN (R305). -/
def execWinOpen (p : Site) (rd rs1 rs2 : BitVec 5) (win : BitVec 6) (s : State) : Host.Outcome State Fault Refusal :=
  s.ccExec p fun c =>
    let base := (c.r rs1).toNat
    let v := c.r rs2
    let len := fld v 0 32
    let tag := fld v 32 8
    if fld v 40 24 ≠ 0 || len = 0 || len % 512 ≠ 0 || tag = 0xFD || tag = 0xFE || !s.spanOn p base len then
      s.illegal p 1 (ccWord (.winOpen p rd rs1 rs2 win))
    else if base % 512 ≠ 0 then s.misaligned p (c.r rs1)
    else
      let s := s.winOpen p win.toNat base len tag
      s.ccWrite p rd (w64 (s.winGen p win.toNat))

/-- WIN.CLOSE (R307): packets land whole, so every PUT that passed its checks has landed. -/
def execWinClose (p : Site) (rd : BitVec 5) (win : BitVec 6) (s : State) : Host.Outcome State Fault Refusal :=
  s.ccExec p fun _ => (s.winClose p win.toNat).ccWrite p rd (w64 (s.winGen p win.toNat))

/-- Q.WP (R287, R288). -/
def execQWp (p : Site) (rd : BitVec 5) (q : BitVec 7) (wait : Bool) (s : State) : Host.Outcome State Fault Refusal :=
  s.ccExec p fun _ =>
    let x := s.queue p q.toNat
    if !s.qActive p q.toNat then s.illegal p 1 (ccWord (.qWp p rd q wait))
    else if wait && x.wp == x.rp then s
    else s.ccWrite p rd (w64 (x.wp % s.qSize p q.toNat))

/-- Q.ADV (R287): past the write pointer it is an access violation with the operand in EINFO. -/
def execQAdv (p : Site) (rs1 : BitVec 5) (q : BitVec 7) (s : State) : Host.Outcome State Fault Refusal :=
  s.ccExec p fun c =>
    let x := s.queue p q.toNat
    let n := (c.r rs1).toNat
    let word := ccWord (.qAdv p rs1 q)
    if !s.qActive p q.toNat then s.illegal p 1 word
    else if x.wp < x.rp + n then s.accessViolation p (c.r rs1) word
    else if n % 16 ≠ 0 then s.illegal p 1 word
    else (s.setQueue p q.toNat { x with rp := x.rp + n }).ccNext p 1 id

/-- The home stop of a core's barrier instance, none where its partition does not configure it (R280). -/
def State.barHome (s : State) (p : Fin 168) (inst : Nat) : Option (Fin 168) :=
  match s.part (s.partOf (s.actingSite p)) with
  | some x =>
    let h := Fin.ofNat 168 x.home
    if bit (s.reg (.site h) (0x18730000 + 64 * inst)) 63 && s.rf (.site h) (0x18730000 + 64 * inst) 8 8 == s.partOf (s.actingSite p) then some h else none
  | none => none

/-- BAR_GEN of a partition at a stop (R284). -/
def State.barGen (s : State) (p : Fin 168) (tag : Nat) : Nat := s.rf (.site p) (0x18702000 + 32 * (tag % 64)) 24 8

/-- A barrier packet of an instance and an episode from one stop to another (R281, R282); it names a stop, whatever the map (log entry 12). -/
def State.barPacket (s : State) (src dst : Fin 168) (typ destLcid srcLcid tag inst : Nat) (episode : W32) : State :=
  let k := { mkPacket typ destLcid 0 srcLcid 0 tag episode.toNat with
    aux := BitVec.ofNat 32 (inst + s.barGen src tag * 2 ^ 8), flags := setBit 0 2 (s.injectEpoch src = 1) }
  if s.quiet src then s
  else
    let s := s.countPath (s.path (.stop src) (.stop dst) (s.injectEpoch src)) 1
    { s with net := s.net ++ [⟨.stop src, .stop dst, k⟩] }

/-- BAR.ARRIVE (R151, R281). -/
def execBarArrive (p : Site) (rd : BitVec 5) (inst : BitVec 5) (s : State) : Host.Outcome State Fault Refusal :=
  s.ccExec p fun c =>
    let i := inst.toNat
    match s.barHome p i with
    | some h =>
      let old : W32 := Sparse.get 0 c.barIssued i
      if !atOrPast ((s.reg (.site p) (0x18731000 + 8 * i)).setWidth 32) old then s
      else
        let s := s.updCc p fun c => { c with barIssued := Sparse.put 0 c.barIssued i (old + 1) }
        let s := s.barPacket p h 0x21 (s.lcidOf h) (s.lcidOf p) (s.siteTag p) i (old + 1)
        s.ccWrite p rd ((old + 1).zeroExtend 64)
    | none => s.illegal p 1 (ccWord (.barArrive p rd inst))

/-- BAR.WAIT (R151, R282): the episode is rs1[31:0]. -/
def execBarWait (p : Site) (rs1 : BitVec 5) (inst : BitVec 5) (s : State) : Host.Outcome State Fault Refusal :=
  s.ccExec p fun c =>
    let i := inst.toNat
    if (s.barHome p i).isNone then s.illegal p 1 (ccWord (.barWait p rs1 inst))
    else if atOrPast ((s.reg (.site p) (0x18731000 + 8 * i)).setWidth 32) ((c.r rs1).setWidth 32) then s.ccNext p 1 id
    else s

/-! ## Hints, deadlines and steps (R152-R154) -/

/-- FRET.HINT (R152). -/
def execFretHint (p : Site) (clear : Bool) (fret : BitVec 4) (s : State) : Host.Outcome State Fault Refusal :=
  s.ccExec p fun _ => s.ccNext p 1 fun c => { c with fretHint := if clear then 0x10 else fret.zeroExtend 5 }

/-- DL.SET of SEND_BUDGET (R153). -/
def execDlSetSendBudget (p : Site) (rs1 : BitVec 5) (s : State) : Host.Outcome State Fault Refusal :=
  s.ccExec p fun c => s.ccNext p 1 fun k => { k with sendBudget := c.r rs1 }

/-- DL.SET of STEP_DEADLINE (R153). -/
def execDlSetStepDeadline (p : Site) (rs1 : BitVec 5) (s : State) : Host.Outcome State Fault Refusal :=
  s.ccExec p fun c => s.ccNext p 1 fun k => { k with stepDeadline := c.r rs1, stepFired := false }

/-- STEP.WAIT (R154): the core waits, and completes once a frame mark has started its partition's step. -/
def execStepWait (p : Site) (rd : BitVec 5) (s : State) : Host.Outcome State Fault Refusal :=
  s.ccExec p fun c =>
    match c.stepGo with
    | some i => s.ccNext p 1 fun k => { k.setR rd i with stepIndex := i, inStep := true, stepWaiting := false, stepGo := none }
    | none => s.updCc p fun k => { k with stepWaiting := true }

/-- STEP.DONE (R154): the report goes to the management die, and STEP_DEADLINE becomes zero. -/
def execStepDone (p : Site) (s : State) : Host.Outcome State Fault Refusal :=
  s.ccExec p fun c =>
    let k := { withPayload (mkPacket 0x25 0xF0 0 (s.lcidOf p) 0 (s.siteTag p) 0) [⟨0, false⟩] with addr := c.stepIndex, aux := 1 }
    (s.inject (.stop p) k).ccNext p 1 fun c => { c with stepDeadline := 0, stepFired := false, inStep := false }

/-! ## Exceptions (R150, R153, R155) -/

/-- EXCEPTION_ENTRY (R155): the first asynchronous cause by R158 is taken at an instruction boundary; a stalled STEP.WAIT has not executed. -/
def execExceptionEntry (p : Site) (s : State) : Host.Outcome State Fault Refusal :=
  .next (if s.coreRuns p && s.ccDue p then
    let c := s.cc p
    let first := c.engPending.foldl (fun (a : Option EngCause) e => match a with
      | some b => if e.eng < b.eng then some e else some b
      | none => some e) none
    match first with
    | some e =>
      let s := s.updCc p fun c => { c with
        engPending := dropFirst (fun x => x == e) c.engPending, stepWaiting := false, stepGo := none }
      s.takeException p 0x07 (engInfo e.eng e.ring e.reason)
    | none =>
      let s := s.updCc p fun c => { c with stepPending := false, stepWaiting := false, stepGo := none }
      s.takeException p 0x06 c.stepHit
  else s)

/-- CC_STEP_DEADLINE_EXPIRY (R153): panel time has reached a non-zero STEP_DEADLINE, which becomes pending. -/
def execCcStepDeadlineExpiry (p : Site) (s : State) : Host.Outcome State Fault Refusal :=
  let c := s.cc p
  .next (if s.coreRuns p && c.stepDeadline != 0 && !c.stepFired && decide (c.stepDeadline.toNat ≤ s.time) then
    let s := s.updCc p fun c => { c with stepPending := true, stepFired := true, stepHit := c.stepDeadline }
    s.coreEvent p 0x7022 [c.stepDeadline.toNat, c.stepIndex.toNat]
  else s)

end Sys2Proof.Machine
end

