-- ==== Sys2Proof/Machine/StopPkts.lean ====
section
/-! DEFINITION. What a core's ring-stop does with the packets that reach it: the arrival checks (R182, R272), landing of writes, reads,
puts, messages, reductions and row writes, the answers to its own core's requests, and the barriers (R280-R284). -/

namespace Sys2Proof.Machine

/-! ## Arrival checks (R272) -/

/-- Checks 1 to 3 of R272 in order, then the rest. -/
def State.stopChecks (s : State) (p : Fin 168) (k : Packet) (tagFine : Bool) (go : State → State) : State :=
  match s.coreRefusal p with
  | some r => s.nack (.stop p) k r false
  | none => if tagFine then go s else s.nack (.stop p) k 0x06 true

/-- A packet whose checks have passed lands, unless it ended in a TRUNC tail (R273). -/
def State.orTruncated (s : State) (p : Fin 168) (k : Packet) (go : State → State) : State :=
  if k.trunc then s.nack (.stop p) k 0x08 false else go s

/-- The checks of a remote span and of the regions it meets (R173, R178, R181, R182), then the access. -/
def State.remoteSpan (s : State) (p : Fin 168) (k : Packet) (len : Nat) (check : RegionCheck) (go : State → State) : State :=
  if !s.remoteSpanOk p k.addr.toNat len then s.nack (.stop p) k 0x06 true
  else match check with
    | .violation => s.nack (.stop p) k 0x06 true
    | .ok => s.orTruncated p k go
    | _ => s.nack (.stop p) k 0x01 false

/-! ## Writes, reads, reductions and puts -/

/-- A payload lands in scratchpad, HEAD of remote-producer regions advances (R179), and the packet is acknowledged. -/
def State.landWrite (s : State) (p : Fin 168) (k : Packet) : State :=
  let off := k.addr.toNat
  let len := 64 * k.payload.length
  let s := (s.grants p 3 off len).writeGrans p off k.payload
  (s.advanceHeads p (s.regionEnds p true 5 off len)).ack (.stop p) k

/-- WRITE at a core (R182). -/
def State.stopWrite (s : State) (p : Fin 168) (k : Packet) : State :=
  s.stopChecks p k (s.tagOk p k) fun s =>
    let len := 64 * k.payload.length
    s.remoteSpan p k len (s.checkWrites p 5 k.addr.toNat len) fun s => s.landWrite p k

/-- READ_REQ at a core (R182, R263). -/
def State.stopRead (s : State) (p : Fin 168) (k : Packet) : State :=
  s.stopChecks p k (s.tagOk p k && decide (k.aux.toNat ≤ 2048)) fun s =>
    let off := k.addr.toNat
    let len := k.aux.toNat
    s.remoteSpan p k len (s.checkReads p 5 off len) fun s =>
      let ends := s.regionEnds p false 5 off len
      let x := (s.grants p 3 off len).readGrans p 3 off (len / 64)
      (x.1.inject (.stop p) (withPayload (x.1.answer (.stop p) k 0x10) x.2)).advanceTails p ends

/-- One granule of a reduction: read, merge, write, with the poison of each result the OR of its operands' (R278). -/
def State.reduceGran (s : State) (p : Fin 168) (off : Nat) (f : Flit) : State :=
  let r := s.granAt p off
  let s := s.noteRead p off 3 [0, 1, 2, 3] r
  let data := waMerge512 r.data f.data
  (s.putRaw p off data (checkOf (s.classSAt p off) data (r.poison ||| (if f.poison then 15 else 0)))).dropWriteBack p off

/-- Granules of a reduction from an offset. -/
def State.reduceGrans (s : State) (p : Fin 168) (off : Nat) : List Flit → State
  | [] => s
  | f :: t => State.reduceGrans (s.reduceGran p off f) p (off + 64) t

/-- REDUCE at a core (R278). -/
def State.stopReduce (s : State) (p : Fin 168) (k : Packet) : State :=
  s.stopChecks p k (s.tagOk p k) fun s =>
    let off := k.addr.toNat
    let len := 64 * k.payload.length
    s.remoteSpan p k len (s.checkWrites p 5 off len) fun s =>
      let s := (s.grants p 3 off len).reduceGrans p off k.payload
      (s.advanceHeads p (s.regionEnds p true 5 off len)).ack (.stop p) k

/-- PUT at a core (R306-R309). -/
def State.stopPut (s : State) (p : Fin 168) (k : Packet) : State :=
  let w := fld k.ctx 0 6
  s.stopChecks p k (s.tagOk p k || k.tag.toNat == s.winTag p w) fun s =>
    let off := k.addr.toNat
    let len := 64 * k.payload.length
    let base := s.rf (.site p) (0x18402000 + 32 * w) 9 20 * 512
    if !s.winIsOpen p w then s.winRefuse p w k 0x02
    else if k.gen.toNat ≠ s.winGen p w then s.winRefuse p w k 0x03
    else if k.tag.toNat ≠ s.winTag p w || off < base || base + s.rn (.site p) (0x18402008 + 32 * w) < off + len then
      s.nack (.stop p) k 0x06 true
    else s.remoteSpan p k len (s.checkWrites p 5 off len) fun s => s.landWrite p k

/-! ## Channels (R293-R296, R303) -/

/-- MSG at a core (R293). -/
def State.stopMsg (s : State) (p : Fin 168) (k : Packet) : State :=
  s.stopChecks p k (s.tagOk p k) fun s =>
    match s.recvCh p k.ctx.toNat with
    | some x => if s.qActive p x.queue then s.orTruncated p k fun s => s.recvMsg p k.ctx.toNat x k else s.nack (.stop p) k 0x07 false
    | none => s.nack (.stop p) k 0x07 false

/-- CHAN_OPEN at a core (R296). -/
def State.stopChanOpen (s : State) (p : Fin 168) (k : Packet) : State :=
  s.stopChecks p k (s.tagOk p k) fun s =>
    match s.freeRecv p with
    | some c =>
      if s.qActive p (fld k.queue 0 7) then
        s.orTruncated p k fun s =>
          let s := s.register p c (fld k.queue 0 7) k.src k.srcUnit
          s.inject (.stop p) { s.answer (.stop p) k 0x12 with ctx := BitVec.ofNat 16 c }
      else s.nack (.stop p) k 0x07 false
    | none => s.nack (.stop p) k 0x07 false

/-- CHAN_CLOSE at a core (R295, R303). -/
def State.stopChanClose (s : State) (p : Fin 168) (k : Packet) : State :=
  s.stopChecks p k (s.tagOk p k) fun s =>
    let c := k.ctx.toNat
    if (s.recvCh p c).isSome then
      s.orTruncated p k fun s =>
        let s := (s.abandon p c).setRecv p c none
        s.inject (.stop p) (s.answer (.stop p) k 0x13)
    else s.nack (.stop p) k 0x07 false

/-! ## Row writes (R522) -/

/-- ROW_WRITE at a site. -/
def State.stopRowWrite (s : State) (p : Fin 168) (k : Packet) : State :=
  let rva := fld k.addr 0 32
  let n := fld k.aux 0 2
  if k.tag ≠ 0xFE || k.dest ≠ 0xF2 || s.rf (.site p) 0x18500008 0 1 = 0 || rva / 2 ^ 20 % 256 ≠ p.val || n = 0 ||
      k.payload.length ≠ 9 * n || 12292 < rva % 2 ^ 14 + n then s.nack (.stop p) k 0x06 false
  else s.orTruncated p k fun s => (s.putRows rva (chunks 576 n (flitBytes k.payload))).ack (.stop p) k

/-! ## Answers to the core's own requests (R262, R273, R294-R303, R519) -/

/-- An answer that matches nothing outstanding, or reaches a core in reset, is discarded and counted (R262, R273). -/
def State.discardAnswer (s : State) (p : Fin 168) : State := s.count32 (.site p) 0x187001B0

/-- Whether answers to a site's core are taken: its engines go on, or for a site's own number, whatever its core does. -/
def State.takesAnswers (s : State) (p : Fin 168) (k : Packet) : Bool := k.dest = 0xF2 || s.enginesRun p

/-- READ_RESP at a core (R184). -/
def State.stopReadResp (s : State) (p : Fin 168) (k : Packet) : State :=
  match s.mvAwaiting p k.seq with
  | some n => if s.takesAnswers p k then s.mvLand p n k else s.discardAnswer p
  | none => s.discardAnswer p

/-- ACK at a core (R187, R294). -/
def State.stopAck (s : State) (p : Fin 168) (k : Packet) : State :=
  if !s.takesAnswers p k then s.discardAnswer p
  else if fld k.aux 0 8 = 0x04 then
    (match s.ctxAwaiting p k with
      | some n => s.chAcked p n k
      | none => s.discardAnswer p)
  else match s.mvAwaiting p k.seq with
    | some n => s.updRing p n fun r => r.done k.seq
    | none => s.discardAnswer p

/-- CHAN_ACCEPT at a core (R296). -/
def State.stopAccept (s : State) (p : Fin 168) (k : Packet) : State :=
  match s.ctxShaking p k.seq with
  | some n => if s.takesAnswers p k then s.chAccepted p n k else s.discardAnswer p
  | none => s.discardAnswer p

/-- CHAN_CLOSED at a core (R303). -/
def State.stopClosed (s : State) (p : Fin 168) (k : Packet) : State :=
  match s.ctxShaking p k.seq with
  | some n => if s.takesAnswers p k && (s.sctx p n).state == 4 then s.chFree p n else s.discardAnswer p
  | none => s.discardAnswer p

/-- Whether a NACK answers a request outstanding from the core (R262). -/
def State.nackMatches (s : State) (p : Fin 168) (k : Packet) : Bool :=
  let t := fld k.aux 0 8
  if t = 0x04 then (s.ctxAwaiting p k).isSome
  else if t = 0x06 || t = 0x07 then (s.ctxShaking p k.seq).isSome
  else if t = 0x21 then true
  else (s.mvAwaiting p k.seq).isSome

/-- NACK at a core: a violation freezes the master (R519); a channel's is handled by R299 and R300, a handshake's by R296 and R303, the
mover's by R187. -/
def State.stopNack (s : State) (p : Fin 168) (k : Packet) : State :=
  let t := fld k.aux 0 8
  if !s.nackMatches p k then s.discardAnswer p
  else if bit k.aux 12 then
    (if s.enginesRun p || s.coreState p = 3 then s.violationNack p k ((s.mvAwaiting p k.seq).getD 0) else s.discardAnswer p)
  else if !s.takesAnswers p k then s.discardAnswer p
  else if t = 0x04 then (match s.ctxAwaiting p k with
    | some n => s.chNacked p n k
    | none => s)
  else if t = 0x06 || t = 0x07 then (match s.ctxShaking p k.seq with
    | some n => if (s.sctx p n).state = 4 then s.chFree p n else s.chRefused p n k
    | none => s)
  else match s.mvAwaiting p k.seq with
    | some n => s.mvNacked p n k
    | none => s

/-! ## Barriers (R280-R284) -/

/-- A barrier instance at its home. -/
def State.bar (s : State) (p : Fin 168) (i : Nat) : Barrier := Sparse.get Barrier.init (s.site p).bars i

/-- The state with a barrier instance replaced. -/
def State.setBar (s : State) (p : Fin 168) (i : Nat) (b : Barrier) : State :=
  s.updSite p fun x => { x with bars := Sparse.put Barrier.init x.bars i b }

/-- Whether an LCID is a member of an instance. -/
def State.barMember (s : State) (p : Fin 168) (i lcid : Nat) : Bool :=
  decide (lcid < 144) && bit (s.reg (.site p) (0x18730008 + 64 * i + 8 * (lcid / 64))) (lcid % 64)

/-- The members of an instance, in ascending LCID. -/
def State.barMembers (s : State) (p : Fin 168) (i : Nat) : List Nat := (List.range 144).filter (s.barMember p i)

/-- The releases go out in descending route length and, among equal lengths, ascending LCID (R282). -/
def State.releaseOrder (s : State) (p : Fin 168) (lcids : List Nat) : List (Fin 168 × Nat) :=
  let sites := lcids.filterMap fun l => (s.siteOf l).map fun q => (q, l)
  let len (x : Fin 168 × Nat) : Nat := (s.path (.stop p) (.stop x.1) (s.injectEpoch p)).length
  sites.mergeSort fun a b => decide (len b < len a) || (len a == len b && decide (a.2 ≤ b.2))

/-- The last member has arrived: the episode completes, releases and the report go out, and the next episode opens (R282, R283). The arrival
times are in fabric clocks. -/
def State.barComplete (s : State) (p : Fin 168) (i : Nat) (b : Barrier) (tag : Nat) : State :=
  let times := b.arrived.map Prod.snd
  let t1 := maxOf times
  let last := match b.arrived.getLast? with
    | some x => x.1
    | none => 0xFF
  let gap := t1 - maxOf (b.arrived.dropLast.map Prod.snd)
  let spread := t1 - times.foldl min t1
  let s := s.setReg (.site p) (0x18730020 + 64 * i) (w64 (b.episode.toNat * 2 ^ 32 + last))
  let s := s.setReg (.site p) (0x18730028 + 64 * i) (w64 (gap % 2 ^ 32))
  let s := (s.releaseOrder p (s.barMembers p i)).foldl
    (fun st x => st.barPacket p x.1 0x22 x.2 (st.lcidOf p) tag i b.episode) s
  let report := { withPayload (mkPacket 0x23 0xF0 0 0xF2 p.val tag b.episode.toNat)
      [⟨granOf (toBytes 4 last ++ toBytes 4 gap ++ toBytes 4 spread), false⟩] with aux := BitVec.ofNat 32 i }
  (s.inject (.stop p) report).setBar p i ⟨b.episode + 1, []⟩

/-- BAR_ARRIVE at its home (R281, R284). -/
def State.stopBarArrive (s : State) (p : Fin 168) (k : Packet) : State :=
  let i := fld k.aux 0 5
  let tag := s.rf (.site p) (0x18730000 + 64 * i) 8 8
  let lcid := k.src.toNat
  if !bit (s.reg (.site p) (0x18730000 + 64 * i)) 63 || fld k.aux 8 8 ≠ s.barGen p k.tag.toNat then s.discardAnswer p
  else if k.tag.toNat ≠ tag || !s.barMember p i lcid then
    (s.siteEvent p 0x9004 [p.val, i, lcid, k.tag.toNat]).nack (.stop p) k 0x06 true
  else
    let b := s.bar p i
    if k.seq ≠ b.episode || b.arrived.any (fun x => x.1 == lcid) then s.count32 (.site p) 0x18730800
    else
      let now := s.time * 20 + Config.freeNat s.free % 20
      let s := s.draw
      let b := { b with arrived := b.arrived ++ [(lcid, max now (maxOf (b.arrived.map Prod.snd)))] }
      if (s.barMembers p i).all fun l => b.arrived.any fun x => x.1 == l then s.barComplete p i b tag else s.setBar p i b

/-- BAR_RELEASE at a member's stop (R282, R284). -/
def State.stopBarRelease (s : State) (p : Fin 168) (k : Packet) : State :=
  if k.tag.toNat ≠ s.siteTag p || fld k.aux 8 8 ≠ s.barGen p k.tag.toNat then s.discardAnswer p
  else s.setReg (.site p) (0x18731000 + 8 * fld k.aux 0 5) (k.seq.zeroExtend 64)

end Sys2Proof.Machine
end

