-- ==== Sys2Proof/Machine/Resets.lean ====
section
/-! DEFINITION. What happens to one core as a whole: core reset, restart and QUIESCE (R512-R517, R543), retirement of its site (R521), fetching an
unlisted or uncorrectable word (R133, R137), truncated worms (R514), and link-level retry at its stop (R260). -/

namespace Sys2Proof.Machine

/-! ## Core reset (R100, R114, R131, R134, R191, R215, R310, R512, R513) -/

/-- Whether a register of a site's core window keeps its value at a core reset: the protection, clock and ring-stop blocks, the core status
block but for the freeze records, ME_CR_BASE and VE_CR_BASE, queue configuration and thresholds, windows, CH_CR_BASE, SP_SEG_ON, region
configuration and SP_STATUS. -/
def keptAtReset (off : Nat) : Bool :=
  if off < 0x18100000 then off != 0x18000010 && off != 0x18000018 && off != 0x18000020
  else if off < 0x18300000 then off == 0x18100010 || off == 0x18200010
  else if off < 0x18400000 then off % 256 == 0x00 || off % 256 == 0x08
  else if off < 0x18500000 then
    (decide (0x18402000 ≤ off) && decide (off < 0x18402800) && (off % 32 == 0 || off % 32 == 8)) || off == 0x18403000
  else if off < 0x18508000 then off == 0x18500000 || off == 0x18500010 || inTable off 0x18501000 32 64
  else true

/-- The register file with a site's registers that a core reset does not keep at their reset values. -/
def State.resetRegs (s : State) (p : Fin 168) : State :=
  { s with regs := s.regs.filter fun e => e.1 / 2 ^ 29 != p.val || keptAtReset (e.1 % 2 ^ 29) }

/-- What a core reset leaves of a site's structures: instruction memory, the ring-stop's and the protection block's state. -/
def SiteSt.afterReset (x : SiteSt) : SiteSt :=
  { x with cc := Cc.init, me := Me.init, ve := Ve.init, rings := [], slotBufs := [], feedPos := [], queues := [], ctxs := [], recv := [] }

/-- A core enters reset. A core that is OFF, being cleared or held has nothing to reset; a fill runs to its end (R517). -/
def State.resetCore (s : State) (p : Fin 168) : State :=
  let st := s.coreState p
  if st = 0 || st = 6 || st = 7 then s
  else
    let s := (s.resetRegs p).updSite p SiteSt.afterReset
    let s := (List.range 64).foldl (fun st w => st.winClose p w) s
    (s.setRf (.site p) 0x18000000 12 2 0).setCoreState p 1

/-- CORE_RESET (R512): the core's partition loses its current step (R335). -/
def execCoreReset (p : Site) (s : State) : Host.Outcome State Fault Refusal :=
  .next (if s.coreState p = 0 then s else (s.resetCore p).failCoreStep p 0x8025)

/-- A core leaves reset at PC 0x0000 (R134, R516). -/
def State.restartCore (s : State) (p : Fin 168) : State :=
  if s.coreState p = 1 then (s.updCc p fun _ => Cc.init).setCoreState p 2 else s

/-- CORE_RESTART (R516). -/
def execCoreRestart (p : Site) (s : State) : Host.Outcome State Fault Refusal := .next (s.restartCore p)

/-- QUIESCE is set on a running core (R543). -/
def State.quiesceCore (s : State) (p : Fin 168) : State := if s.coreState p = 2 then s.setCoreState p 5 else s

/-- QUIESCE is cleared (R543). -/
def State.unquiesceCore (s : State) (p : Fin 168) : State := if s.coreState p = 5 then s.setCoreState p 2 else s

/-- CORE_QUIESCE (R543). -/
def execCoreQuiesce (p : Site) (s : State) : Host.Outcome State Fault Refusal := .next (s.quiesceCore p)

/-- CORE_UNQUIESCE (R543). -/
def execCoreUnquiesce (p : Site) (s : State) : Host.Outcome State Fault Refusal := .next (s.unquiesceCore p)

/-- A write of CORE_CONTROL by the active management die (R543). -/
def State.coreControl (s : State) (p : Fin 168) (v : W64) : State :=
  if bit v 0 then (s.resetCore p).failCoreStep p 0x8025
  else
    let s := if bit v 1 then s.restartCore p else s
    if bit v 2 && bit v 3 then s
    else if bit v 2 then s.quiesceCore p
    else if bit v 3 then s.unquiesceCore p else s

/-! ## Retirement (R521) -/

/-- SITEn_STATE of a site. -/
def siteStateOff (p : Fin 168) : Nat := 0x00131000 + 8 * p.val

/-- A site is retired with a cause code of SITEn_STATE: its state, the stored map (R500), SITE_RETIRED, and the failure of its partition's step. -/
def State.retireSite (s : State) (p : Fin 168) (cause : Nat) : State :=
  if s.rf .mgmt (siteStateOff p) 0 3 = 4 then s
  else
    let v := s.reg .mgmt (siteStateOff p)
    let s := s.setReg .mgmt (siteStateOff p) (setFld (setFld v 0 3 4) 16 4 cause)
    let s := { s with flash.retired := if s.flash.retired.contains p.val then s.flash.retired else s.flash.retired ++ [p.val] }
    let s := s.siteEvent p 0x8020 [p.val, cause, s.lcidOf p]
    s.failCoreStep p 0x8020

/-- ILLEGAL_INSTRUCTION (R133, R137, R157): the word at PC decodes to no instruction and raises ILLEGAL with detail ENCODING, or it is
uncorrectable, which halts the core with POISON and detail FETCH and retires the site. -/
def execIllegalInstruction (p : Site) (uncorrectable : Bool) (s : State) : Host.Outcome State Fault Refusal :=
  .next (if s.coreRuns p && !s.ccDue p then
    let c := s.cc p
    let word : W32 := Sparse.get 0 (s.site p).imem (c.pc.toNat / 4)
    if uncorrectable then
      ((s.poisonConsumed p 2 c.pc.toNat none).haltCore p 0x0203 (c.pc.zeroExtend 64)).retireSite p 11
    else if (ccDecode p word).isNone then s.illegal p 0 word
    else s
  else s)

/-! ## Worms and links (R260, R514) -/

/-- The list with its last element that has a predicate changed. -/
def mapLast {α : Type} (p : α → Bool) (f : α → α) (l : List α) : List α := (mapFirst p f l.reverse).reverse

/-- WORM_TRUNCATE (R514): the stop of a core that a reset, freeze or halt has stopped ends its worm with a TRUNC tail: the newest packet
from the stop that is still in flight, once (log entry 14). -/
def execWormTruncate (p : Site) (s : State) : Host.Outcome State Fault Refusal :=
  let mine (f : Flight) : Bool := f.src == .stop p && !f.pkt.payload.isEmpty
  .next (if !s.coreRuns p && !s.net.any (fun f => mine f && f.pkt.trunc) then
    { s with net := mapLast mine (fun f => { f with pkt := { f.pkt with trunc := true } }) s.net }
  else s)

/-- Whether a request track runs toward increasing position: Q0 forward and Q1 return do (R256). -/
def trackUp (t : Nat) : Bool := t / 2 % 2 == t % 2

/-- The edge through which a track enters a stop (R251). -/
def trackIn (t : Nat) : Nat := if t < 4 then (if trackUp t then 0 else 1) else if trackUp t then 2 else 3

/-- The edge through which a track leaves a stop. -/
def trackOut (t : Nat) : Nat := if t < 4 then (if trackUp t then 1 else 0) else if trackUp t then 3 else 2

/-- The ring-stop that an outgoing track of a stop leads to, none past the bundle's ends and where a stack port follows. -/
def trackNext (p : Fin 168) (t : Nat) : Option (Fin 168) :=
  let a := if t < 4 then siteCol p else siteRow p
  let n := if t < 4 then 14 else 12
  let stop (b : Nat) : Fin 168 := if t < 4 then siteAt (siteRow p) b else siteAt b (siteCol p)
  if trackUp t then (if a + 1 < n then some (stop (a + 1)) else none) else if 0 < a then some (stop (a - 1)) else none

/-- A link's retry state at a stop. -/
def State.link (s : State) (p : Fin 168) (t : Nat) : RqLink := Sparse.get RqLink.init (s.site p).links t

/-- The state with a link's retry state changed. -/
def State.updLink (s : State) (p : Fin 168) (t : Nat) (f : RqLink → RqLink) : State :=
  s.updSite p fun x => { x with links := Sparse.put RqLink.init x.links t (f (Sparse.get RqLink.init x.links t)) }

/-- RQ_FLIT_CRC_ERROR (R227, R260): the receiver discards the flit and asks for a replay. -/
def execRqFlitCrcError (p : Site) (track : BitVec 3) (s : State) : Host.Outcome State Fault Refusal :=
  let t := track.toNat
  .next (((s.count32 (.site p) 0x18710180).groupError p (trackIn t) (6 + t % 4)).updLink p t fun x => { x with nak := true })

/-- LINK_NAK_REPLAY (R260): the sender of a track resends from ACK_SEQ + 1; a flit replayed 8 times in succession raises RQ_RETRY_STORM, at most
once a second on a track. -/
def execLinkNakReplay (p : Site) (track : BitVec 3) (ackSeq : BitVec 7) (s : State) : Host.Outcome State Fault Refusal :=
  let t := track.toNat
  let x := s.link p t
  let n := if x.repeats ≠ 0 && x.nakFrom == ackSeq + 1 then x.repeats + 1 else 1
  let sec := s.time / 10 ^ 8
  let storm := 8 ≤ n && x.stormAt != some sec
  let s := (s.count32 (.site p) 0x18710188).updLink p t fun y =>
    { y with nakFrom := ackSeq + 1, repeats := n, stormAt := if storm then some sec else y.stormAt }
  let s := match trackNext p t with
    | some q => s.updLink q t fun y => { y with nak := false }
    | none => s
  .next (if storm then s.frameEvent p 0x2010 0xFF [p.val, trackOut t, t / 2 % 2, t % 2] none else s)

end Sys2Proof.Machine
end

