-- ==== Sys2Proof/Machine/Ihlyx.lean ====
section
/-! DEFINITION. Ihlyx ports as links (R387-R400) and the routing of frames (R401-R404): frames as bytes, credits and retry, sending, going DOWN and
training, transit between port dies, and the freezes of R409. What is sent leaves the panel through `outbox`. -/

namespace Sys2Proof
open Machine

/-! ## Frames (R390-R392) -/

/-- The class of a frame: 0 control, 1 collective, 2 service, 3 bulk. -/
def Frame.cls (f : Frame) : Nat := fld f.typ 6 2

/-- A field of a frame's ARGS, by byte offset and size. -/
def Frame.arg (f : Frame) (off n : Nat) : Nat := fld f.args (8 * off) (8 * n)

/-- Whether a frame is LINK_LOCAL. -/
def Frame.isLocal (f : Frame) : Bool := bit f.flags 2

/-- The bytes of a frame header. -/
def Frame.headerBytes (f : Frame) : List Byte :=
  [f.typ, f.granules, f.flags, f.hops] ++ toBytes 2 f.seq.toNat ++ toBytes 2 f.ackSeq.toNat ++ toBytes 2 f.srcPanel.toNat ++
    toBytes 2 f.dstPanel.toNat ++ [f.crClass, f.crTotal] ++ toBytes 2 f.res14.toNat ++ toBytes 16 f.args.toNat

/-- The CRC of a byte string by R391. -/
def crc32 (l : List Byte) : Nat := (l.foldl (crcByte 0xEDB88320) 0xFFFFFFFF) ^^^ 0xFFFFFFFF

/-- The bytes of a frame before its CRC field. -/
def Frame.bodyBytes (f : Frame) : List Byte :=
  f.headerBytes ++ f.payload.flatMap granBytes ++ toBytes 4 f.poison.toNat ++ toBytes 24 f.resTrailer.toNat

/-- A frame's CRC (R391). -/
def Frame.crc (f : Frame) : Nat := crc32 f.bodyBytes

/-- A frame's length in bytes. -/
def Frame.size (f : Frame) : Nat := 64 + 64 * f.payload.length

/-- The least and greatest GRANULES of a listed type, and the ARGS bytes it uses, as (offset, size). -/
def frameType (t : Nat) : Option (Nat × Nat × List (Nat × Nat)) :=
  match t with
  | 0x00 => some (0, 0, [])
  | 0x01 => some (1, 1, [])
  | 0x02 => some (0, 0, [(0, 11)])
  | 0x03 => some (0, 0, [(0, 16)])
  | 0x04 => some (0, 0, [(0, 7), (8, 3)])
  | 0x40 => some (1, 31, [(0, 10)])
  | 0x41 => some (1, 31, [(0, 10)])
  | 0x80 => some (1, 31, [(0, 5)])
  | 0x81 => some (1, 1, [(0, 4)])
  | 0x82 => some (1, 31, [(0, 12)])
  | 0xC0 => some (1, 31, [(0, 1), (8, 8)])
  | _ => none

/-- Whether a frame follows the tables of R390 and R392. -/
def Frame.wellFormed (f : Frame) : Bool :=
  match frameType f.typ.toNat with
  | some (lo, hi, used) =>
    decide (lo ≤ f.payload.length) && decide (f.payload.length ≤ hi) && decide (f.granules.toNat = f.payload.length) &&
      fld f.flags 3 5 == 0 && fld f.srcPanel 10 6 == 0 && fld f.dstPanel 10 6 == 0 && fld f.crClass 2 6 == 0 && f.res14 == 0 &&
      fld f.poison f.payload.length (32 - f.payload.length) == 0 && f.resTrailer == 0 && fld f.hops 6 2 == 0 &&
      unusedZero (toBytes 16 f.args.toNat) used && (f.typ != 0 || f.seq == 0) && (f.typ != 2 || fld f.args 74 5 == 0)
  | none => false

/-- The POISON bitmap of a list of granules (R390). -/
def poisonMap (l : List Flit) : W32 :=
  BitVec.ofNat 32 ((l.zip (List.range l.length)).foldl (fun a x => a + b01 x.1.poison * 2 ^ x.2) 0)

/-- A frame of a type with ARGS and payload; its link fields are filled when it is sent. -/
def mkFrame (typ flags dst args : Nat) (payload : List Flit) : Frame :=
  { typ := BitVec.ofNat 8 typ, granules := BitVec.ofNat 8 payload.length, flags := BitVec.ofNat 8 flags, hops := 0, seq := 0, ackSeq := 0,
    srcPanel := 0, dstPanel := BitVec.ofNat 16 dst, crClass := 0, crTotal := 0, res14 := 0, args := BitVec.ofNat 128 args,
    payload := payload.map (·.data), poison := poisonMap payload, resTrailer := 0 }

/-- A frame's payload granules with their poison marks. -/
def Frame.flits (f : Frame) : List Flit := (f.payload.zip (List.range f.payload.length)).map fun x => ⟨x.1, bit f.poison x.2⟩

/-- A frame with SEQ, ACK_SEQ, NAK and the credit fields zero (R402). -/
def Frame.unlinked (f : Frame) : Frame := { f with seq := 0, ackSeq := 0, flags := setBit f.flags 0 false, crClass := 0, crTotal := 0 }

/-- The frame as flit 0 of a transit or control packet: header and trailer (R402). -/
def Frame.flit0 (f : Frame) : Flit :=
  let g := f.unlinked
  ⟨granOf (g.headerBytes ++ toBytes 4 g.poison.toNat ++ toBytes 24 g.resTrailer.toNat ++ toBytes 4 g.crc), false⟩

/-- The frame that flit 0 and the payload flits of a packet hold (R402). -/
def frameOf (l : List Flit) : Option Frame :=
  match l with
  | h :: t =>
    let v := h.data
    some {
      typ := BitVec.ofNat 8 (fld v 0 8), granules := BitVec.ofNat 8 (fld v 8 8), flags := BitVec.ofNat 8 (fld v 16 8)
      hops := BitVec.ofNat 8 (fld v 24 8), seq := BitVec.ofNat 16 (fld v 32 16), ackSeq := BitVec.ofNat 16 (fld v 48 16)
      srcPanel := BitVec.ofNat 16 (fld v 64 16), dstPanel := BitVec.ofNat 16 (fld v 80 16), crClass := BitVec.ofNat 8 (fld v 96 8)
      crTotal := BitVec.ofNat 8 (fld v 104 8), res14 := BitVec.ofNat 16 (fld v 112 16), args := BitVec.ofNat 128 (fld v 128 128)
      payload := t.map (·.data), poison := poisonMap t, resTrailer := BitVec.ofNat 192 (fld v 288 192) }
  | [] => none

end Sys2Proof

namespace Sys2Proof.Machine

/-! ## Ports and dies -/

/-- A port's state beside its registers. -/
def State.port (s : State) (i : Nat) : PortSt := Sparse.get PortSt.init s.ports i

/-- The state with a port's state changed. -/
def State.updPort (s : State) (i : Nat) (f : PortSt → PortSt) : State := { s with ports := Sparse.put PortSt.init s.ports i (f (s.port i)) }

/-- A port die's state beside its registers. -/
def State.dieSt (s : State) (d : Nat) : DieSt := Sparse.get DieSt.init s.dies d

/-- The state with a port die's state changed. -/
def State.updDie (s : State) (d : Nat) (f : DieSt → DieSt) : State := { s with dies := Sparse.put DieSt.init s.dies d (f (s.dieSt d)) }

/-- The port die of a port (R421). -/
def portDie (i : Nat) : Fin 42 := Fin.ofNat 42 (i / 2)

/-- The offset of a port's register in its die. -/
def portReg (i off : Nat) : Nat := off + 0x800 * (i % 2)

/-- PORTk_STATUS.STATE: 0 DISABLED, 1 DOWN, 2 TRAINING, 3 UP. -/
def State.portState (s : State) (i : Nat) : Nat := s.rf (.die (portDie i)) (portReg i 0x1000) 0 2

/-- Whether a port is UP. -/
def State.portUp (s : State) (i : Nat) : Bool := s.portState i == 3

/-- A counter of a port is incremented. -/
def State.portCount (s : State) (i off : Nat) : State := s.count32 (.die (portDie i)) (portReg i off)

/-- An event of a port. -/
def State.portEvent (s : State) (i code : Nat) (detail : List Nat) : State := s.event code 6 i 0xFF 0xFF detail

/-- The panel id, none until it is valid (R35, R401). -/
def State.ownPanel (s : State) : Option Nat :=
  if s.rf (.die 0) 0x0000 0 1 = 1 then some (s.rf (.die 0) 0x0008 0 10) else none

/-- Whether a port carries frames of a class: control frames always, others with a valid panel id and no conflict (R400, R401). -/
def State.carries (s : State) (i c : Nat) : Bool := c == 0 || (s.ownPanel.isSome && !(s.port i).conflict)

/-- A port's receiver has freed a frame of a class (R394). -/
def State.freeCredit (s : State) (i c : Nat) : State := s.updPort i fun x => { x with freed := x.freed.set c (x.freed.getD c 0 + 1) }

/-! ## Sending (R393-R395) -/

/-- Whether a port can send a waiting frame of a class. -/
def PortSt.sendable (x : PortSt) (c : Nat) : Bool := x.egress.any (fun e => e.frame.cls == c) && decide (0 < x.credits.getD c 0)

/-- The class of the next frame and the round that follows (R393): control first, then the weighted rotation. -/
def PortSt.nextClass (x : PortSt) (w : List Nat) : Option (Nat × List Nat) :=
  if x.sendable 0 then some (0, x.round)
  else match ([1, 2, 3] : List Nat).find? fun c => x.sendable c && decide (0 < x.round.getD (c - 1) 0) with
    | some c => some (c, x.round.set (c - 1) (x.round.getD (c - 1) 0 - 1))
    | none => match ([1, 2, 3] : List Nat).find? x.sendable with
      | some c => some (c, w.set (c - 1) (w.getD (c - 1) 0 - 1))
      | none => none

/-- The weights of a port for classes 1 to 3. -/
def State.weights (s : State) (i : Nat) : List Nat :=
  let v := s.reg (.die (portDie i)) (portReg i 0x1010)
  [fld v 0 4, fld v 4 4, fld v 8 4]

/-- A frame with the link fields that a port gives it as it goes out (R394, R395). -/
def PortSt.dress (x : PortSt) (f : Frame) : Frame :=
  { f with ackSeq := x.rxSeq, flags := setBit f.flags 0 x.nak, crClass := BitVec.ofNat 8 x.rot, crTotal := x.freed.getD x.rot 0 }

/-- A frame goes out on the lanes of a port. -/
def State.emit (s : State) (i : Nat) (f : Frame) : State :=
  let f := (s.port i).dress f
  let u := RegUnit.die (portDie i)
  let s := (s.count64 u (portReg i 0x1100) 1).count64 u (portReg i 0x1110) f.size
  ({ s with outbox := s.outbox ++ [.frame i f] } : State).updPort i fun x => { x with rot := (x.rot + 1) % 4 }

/-- A transit credit returns to the port die that holds it, in a MGMT packet on VC0 (R403): AUX = 4, the class in ADDR (log entry 10). -/
def State.returnCredit (s : State) (place : Place) (self : Nat × Nat) (holder : Option Nat) (c : Nat) : State :=
  match holder with
  | some d => s.inject place { withPayload (mkPacket 0x25 0xF8 d self.1 self.2 0xFD 0) [⟨0, false⟩] with aux := 4, addr := w64 c }
  | none => s

/-- A frame of a BULK_SEND has left a port: the command whose last frame it is, oldest first, is answered (R407, R559). -/
def State.bulkLeft (s : State) (i : Nat) : State :=
  match s.mgmt.bulk.find? fun b => b.2.1 == i with
  | some b =>
    let mine (y : MciCmd × Nat × Nat) : Bool := y.2.1 == i
    if b.2.2 ≤ 1 then ({ s with mgmt.bulk := dropFirst mine s.mgmt.bulk }).mciReply b.1 0x0406 0 0 []
    else { s with mgmt.bulk := mapFirst mine (fun y => (y.1, y.2.1, y.2.2 - 1)) s.mgmt.bulk }
  | none => s

/-- A frame leaves an egress port: the transit credit that it holds returns, and a bulk frame of this panel's own, on its first way out, counts for its
command. -/
def State.egressDone (s : State) (i : Nat) (e : EgFrame) : State :=
  let own := s.ownPanel == some (fld e.frame.srcPanel 0 10)
  let s := if e.frame.typ = 0xC0 && own && e.frame.seq == 0 then s.bulkLeft i else s
  s.returnCredit (.die (portDie i)) (0xF8, i / 2) e.holder e.frame.cls

/-- A port sends its waiting frames, as many as credits and the replay buffer permit; while a replay is due it comes first. -/
def State.pump (i : Nat) : Nat → State → State
  | 0, s => s
  | n + 1, s =>
    let x := s.port i
    if !s.portUp i || x.replayDue || 512 ≤ x.replay.length then s
    else match x.nextClass (s.weights i) with
      | some (c, round) =>
        match x.egress.find? fun e => e.frame.cls == c with
        | some e =>
          let f := { e.frame with seq := x.txSeq + 1 }
          let s := s.updPort i fun x => { x with
            txSeq := x.txSeq + 1, round := round, replay := x.replay ++ [f]
            credits := x.credits.set c (x.credits.getD c 0 - 1)
            egress := dropFirst (fun e => e.frame.cls == c) x.egress }
          State.pump i n ((s.emit i f).egressDone i e)
        | none => s
      | none => s

/-- A port sends what it can. -/
def State.send (s : State) (i : Nat) : State := State.pump i (s.port i).egress.length s

/-! ## Drops (R401, R403, R420) -/

/-- TRANSIT_DROPPED of a port die and cause (0 NO_ROUTE, 1 HOP_LIMIT, 2 TIMEOUT, 3 PORT_DOWN), at most once per second, with the count. -/
def State.transitDropped (s : State) (d : Fin 42) (cause dst : Nat) : State :=
  let x := Sparse.get (0, 0) (s.dieSt d.val).drops cause
  if x.1 ≤ s.time then
    let s := s.updDie d.val fun y => { y with drops := Sparse.put (0, 0) y.drops cause (s.time + 10 ^ 8, 0) }
    s.event 0x6006 5 d.val 0xFF 0xFF [d.val, cause, dst, x.2 + 1]
  else s.updDie d.val fun y => { y with drops := Sparse.put (0, 0) y.drops cause (x.1, x.2 + 1) }

/-- A frame dropped by R401 or R403 at a port: counted there, at its die, and reported. -/
def State.dropFrame (s : State) (i cause : Nat) (f : Frame) : State :=
  let s := s.portCount i 0x11A0
  let s := if cause < 3 then s.count32 (.die (portDie i)) (0x0180 + 8 * cause) else s
  s.transitDropped (portDie i) cause (fld f.dstPanel 0 10)

/-! ## Egress and transit (R401-R403) -/

/-- The control frames that a port die holds awaiting egress. -/
def State.controlHeld (s : State) (i : Nat) : Nat :=
  let n (k : Nat) : Nat := ((s.port k).egress.filter fun e => e.frame.cls == 0).length
  n (i / 2 * 2) + n (i / 2 * 2 + 1)

/-- A frame joins the egress of a port; to a DOWN port it is dropped, a port that does not carry its class discards it, and a control frame beyond
2,048 at the die is dropped (R401, R403). -/
def State.toEgress (s : State) (i : Nat) (f : Frame) (holder : Option Nat) : State :=
  let e : EgFrame := ⟨f, s.time, holder⟩
  if !s.portUp i then (s.dropFrame i 3 f).egressDone i e
  else if !s.carries i f.cls || (f.cls == 0 && decide (2048 ≤ s.controlHeld i)) then (s.portCount i 0x11A0).egressDone i e
  else (s.updPort i fun x => { x with egress := x.egress ++ [e] }).send i

/-- The die that a held frame's destination lies on, and the destination of its packet with AUX (R402, log entry 10). -/
def transitTo (dst ingress : Nat) : Nat × Nat × Nat × Nat :=
  if dst < 84 then (dst / 2, 0xF8, dst / 2, dst)
  else if dst < 200 then (dst - 100, 0xF8, dst - 100, 0xFF + ingress * 2 ^ 8)
  else (100, 0xF0, 0, ingress)

/-- A frame crosses the panel from a port die (R402, R403): a control frame in an ABORT packet, any other in a TRANSIT packet for which a transit
credit is taken; without one it waits. -/
def State.transit (s : State) (d : Fin 42) (h : HeldFrame) : State :=
  let y := transitTo h.dst (h.ingress.getD 0xFF)
  let c := h.frame.cls
  let free (st : State) : State := match h.ingress with
    | some i => st.freeCredit i c
    | none => st
  if c = 0 then
    free (s.inject (.die d) (withPayload { mkPacket 0x24 y.2.1 y.2.2.1 0xF8 d.val 0xFD 0 with aux := BitVec.ofNat 32 y.2.2.2 } [h.frame.flit0]))
  else
    let key := y.1 * 4 + c
    let used := Sparse.get 0 (s.dieSt d.val).credits key
    if 32 ≤ used then s.updDie d.val fun x => { x with held := x.held ++ [h] }
    else
      let s := s.updDie d.val fun x => { x with credits := Sparse.put 0 x.credits key (used + 1) }
      free (s.inject (.die d) (withPayload { mkPacket 0x08 y.2.1 y.2.2.1 0xF8 d.val 0xFD 0 with aux := BitVec.ofNat 32 y.2.2.2 }
          (h.frame.flit0 :: h.frame.flits)))

/-- A transit credit has returned to a port die: the frames that wait are tried again in order. -/
def State.creditBack (s : State) (d : Fin 42) (dest c : Nat) : State :=
  let hs := (s.dieSt d.val).held
  let s := s.updDie d.val fun x => { x with
    credits := Sparse.put 0 x.credits (dest * 4 + c) (Sparse.get 0 x.credits (dest * 4 + c) - 1), held := [] }
  hs.foldl (fun st h => st.transit d h) s

/-- A frame goes from a port die to an egress port of the panel; `ingress` is the port whose receiver holds it (R401, R402). -/
def State.forward (s : State) (d : Fin 42) (egress : Nat) (f : Frame) (ingress : Option Nat) : State :=
  if egress / 2 = d.val then
    let s := match ingress with
      | some i => s.freeCredit i f.cls
      | none => s
    s.toEgress egress f none
  else s.transit d ⟨egress, f, ingress⟩

/-- MAX_HOPS of a port die. -/
def State.maxHops (s : State) (d : Fin 42) : Nat := s.rf (.die d) 0x0010 0 6

/-- ROUTE[n] of a port die: the egress port, none when the entry is invalid. -/
def State.routeOf (s : State) (d : Fin 42) (n : Nat) : Option Nat :=
  let v := s.reg (.die d) (0x8000 + 8 * n)
  if bit v 8 then some (fld v 0 8) else none

/-- POISON_CONSUMED for a frame that leaves the panel with a poisoned granule (R209, R408). -/
def State.poisonLeaves (s : State) (d : Fin 42) (f : Frame) : State :=
  if f.poison = 0 then s
  else s.event 0x1002 5 d.val 0xFF 0xFF [6, f.typ.toNat, 0, 0]

/-- A frame that this panel originates at a port die is sent to a given egress port, with its source, HOPS and the poison event. -/
def State.originate (s : State) (d : Fin 42) (egress : Nat) (f : Frame) : State :=
  let f := { f with srcPanel := BitVec.ofNat 16 (s.ownPanel.getD 0), hops := BitVec.ofNat 8 (s.maxHops d) }
  (s.poisonLeaves d f).forward d egress f none

/-- A frame that this panel originates is sent by the routing table (R401). -/
def State.originateTo (s : State) (d : Fin 42) (f : Frame) : State :=
  match s.routeOf d (fld f.dstPanel 0 10) with
  | some e => if e < 84 then s.originate d e f else s
  | none => (s.count32 (.die d) 0x0180).transitDropped d 0 (fld f.dstPanel 0 10)

/-! ## Going DOWN and training (R396-R400) -/

/-- The upstream port, master and distance by R419: a time master is at distance 0; otherwise the lowest valid master, then distance, then port
id among UP ports, as long as the distance stays below 63. -/
def State.chooseMaster (s : State) : Option Nat × Nat × Nat :=
  if s.rf (.die 0) 0x0010 6 1 = 1 then (none, s.ownPanel.getD 0, 0)
  else
    let better (a b : Nat × Nat × Nat) : Bool := a.2.1 < b.2.1 || (a.2.1 == b.2.1 && a.2.2 < b.2.2)
    let cands := (List.range 84).filterMap fun i =>
      match (s.port i).adv with
      | some (m, d) => if s.portUp i && decide (d < 62) then some (i, m, d) else none
      | none => none
    match cands.foldl (fun (best : Option (Nat × Nat × Nat)) x => match best with
        | some b => if better x b then some x else some b
        | none => some x) none with
    | some (i, m, d) => (some i, m, d + 1)
    | none => (none, 0, 63)

/-- POD_LOCKED clears with POD_TIME_UNLOCKED: cause 0 error, 1 no exchange, 2 no master (log entry 10), the last error and the step applied. -/
def State.podUnlock (s : State) (cause : Nat) (step : Int) : State :=
  if s.servo.locked then
    let e := s.servo.lastError
    let s : State := { s with servo := { s.servo with locked := false, good := 0, stepped := decide (step ≠ 0) } }
    s.event 0x6008 0 0 0xFF 0xFF [cause, (BitVec.ofInt 64 e).toNat, (BitVec.ofInt 64 step).toNat]
  else s

/-- The upstream port is chosen anew; a change restarts the count of good exchanges, and distance 63 clears POD_LOCKED (R419). -/
def State.rechoose (s : State) : State :=
  let c := s.chooseMaster
  let v := s.servo
  let s : State := { s with servo := { v with
    upstream := c.1, master := c.2.1, distance := c.2.2, good := if v.upstream = c.1 then v.good else 0 } }
  if c.2.2 = 63 then s.podUnlock 2 0 else s

/-- A port goes DOWN with a cause (R396-R398): replay buffer, egress and the frames its receiver holds are discarded and counted, transit credits
return, PORT_DOWN is raised. DISABLED (4) leaves STATE DISABLED. -/
def State.portFall (s : State) (i cause : Nat) : State :=
  let u := RegUnit.die (portDie i)
  let x := s.port i
  let mine (h : HeldFrame) : Bool := h.ingress == some i
  let n := x.replay.length + x.egress.length + ((s.dieSt (i / 2)).held.filter mine).length
  let s := x.egress.foldl (fun st e => st.egressDone i e) s
  let s := s.updDie (i / 2) fun y => { y with held := y.held.filter fun h => !mine h }
  let s := s.updPort i fun x => { PortSt.init with
    limit := x.limit, peer := x.peer, feature := x.feature, downAt := s.time, frozenAll := x.frozenAll }
  let v := s.reg u (portReg i 0x1000)
  let v := setFld (setFld (setFld (setFld v 0 2 (if cause = 4 then 0 else 1)) 8 3 0) 11 3 cause) 17 4 0
  let s := s.setReg u (portReg i 0x1000) v
  let s := (s.count32n u (portReg i 0x11A0) n).portCount i 0x1198
  (s.portEvent i 0x6002 [i, cause, n]).rechoose

/-- A port begins training toward a width (R397, R400): its link starts anew; frames it had not had acknowledged wait again. -/
def State.portTrain (s : State) (i limit : Nat) : State :=
  let u := RegUnit.die (portDie i)
  let s := s.updPort i fun x => { PortSt.init with
    egress := (x.replay.map fun f => ⟨f, s.time, none⟩) ++ x.egress
    limit := limit, peer := x.peer, feature := x.feature, trainAt := s.time, frozenAll := x.frozenAll }
  let v := s.reg u (portReg i 0x1000)
  (s.setReg u (portReg i 0x1000) (setFld (setFld (setFld v 0 2 2) 8 3 0) 17 4 0)).rechoose

/-- The largest width of R398 that a mask of common lanes gives, up to a limit; 0 for none. -/
def widthOf (mask limit : Nat) : Nat :=
  if mask % 16 = 15 && 4 ≤ limit then 4
  else if (mask % 4 = 3 || mask / 4 % 4 = 3) && 2 ≤ limit then 2
  else if mask % 16 ≠ 0 then 1 else 0

/-- Whether a lane is active at a width with a mask of common lanes (R398). -/
def laneActive (mask width lane : Nat) : Bool :=
  match width with
  | 4 => true
  | 2 => if mask % 4 = 3 then decide (lane < 2) else decide (2 ≤ lane)
  | 1 => lane == ([0, 1, 2, 3] : List Nat).findIdx fun l => mask / 2 ^ l % 2 == 1
  | _ => false

/-! ## Receiving (R394, R395, R409) -/

/-- The acknowledgement, NAK and credit fields of a valid frame take effect at the receiving port (R394, R395). -/
def PortSt.linkFields (x : PortSt) (f : Frame) : PortSt :=
  let acked (g : Frame) : Bool := (f.ackSeq - g.seq).toNat < 0x8000
  let c := fld f.crClass 0 2
  let more := (f.crTotal - x.totals.getD c 0).toNat
  let rest := x.replay.filter fun g => !acked g
  { x with
    replay := rest
    resent := if rest.length = x.replay.length then x.resent else 0
    replayDue := x.replayDue || (bit f.flags 0 && !rest.isEmpty)
    credits := x.credits.set c (x.credits.getD c 0 + more)
    totals := x.totals.set c f.crTotal }

/-- Whether a class from a panel is frozen on a port (R409). -/
def State.isFrozen (s : State) (i c panel : Nat) : Bool :=
  (s.port i).frozenAll.contains c ||
    (List.range 16).any fun k =>
      let v := s.reg (.die (portDie i)) (0x3800 + 8 * k)
      bit v 63 && fld v 12 8 == i && fld v 10 2 == c && fld v 0 10 == panel

/-- A violation of a traffic class from a remote panel (R409): the triple freezes, beyond 16 the class on that port for every source; causes 0
collective not bound, 1 wrong port, 2 outside the aperture, 3 invalid aperture, 4 panel not permitted by the aperture, 5 by SVC_PEERS (log entry 10). -/
def State.ihlyxViolation (s : State) (i cause : Nat) (f : Frame) : State :=
  let u := RegUnit.die (portDie i)
  let panel := fld f.srcPanel 0 10
  let s := s.portEvent i 0x9006 [i, f.cls, panel, cause]
  match lowest 16 fun k => !bit (s.reg u (0x3800 + 8 * k)) 63 with
  | some k => s.setReg u (0x3800 + 8 * k) (w64 (2 ^ 63 + i * 2 ^ 12 + f.cls * 2 ^ 10 + panel))
  | none =>
    let s := (List.range 16).foldl (fun st k =>
      let v := st.reg u (0x3800 + 8 * k)
      if fld v 12 8 == i && fld v 10 2 == f.cls then st.setReg u (0x3800 + 8 * k) (setBit v 62 true) else st) s
    s.updPort i fun x => { x with frozenAll := f.cls :: x.frozenAll }

/-- A freeze entry is released (R409, R421): with ALL set, or on a die whose table no longer holds its class, the class on the port is released for
every source. -/
def State.releaseFreeze (s : State) (d : Fin 42) (k : Nat) : State :=
  let v := s.reg (.die d) (0x3800 + 8 * k)
  let s := s.setReg (.die d) (0x3800 + 8 * k) 0
  let free (st : State) (i : Nat) : State := st.updPort i fun x => { x with
    frozenAll := x.frozenAll.filter fun c =>
      !(bit v 62 && fld v 12 8 == i && fld v 10 2 == c) &&
        (List.range 16).any fun k =>
          let w := st.reg (.die d) (0x3800 + 8 * k)
          bit w 63 && fld w 12 8 == i && fld w 10 2 == c }
  free (free s (2 * d.val)) (2 * d.val + 1)

/-- The frame that a port receives next in order is accepted: SEQ, counters, and what `go` does with it; a malformed one is discarded (R392). -/
def State.acceptFrame (s : State) (i : Nat) (f : Frame) (go : State → State) : State :=
  let u := RegUnit.die (portDie i)
  let s := s.updPort i fun x => { x with rxSeq := f.seq, nak := false }
  if !f.wellFormed then (s.portCount i 0x1188).freeCredit i f.cls
  else go ((s.count64 u (portReg i 0x1108) 1).count64 u (portReg i 0x1118) f.size)

/-- A valid frame other than IDLE reaches a port that takes frames (R395): in SEQ order it is accepted, one beyond a gap is discarded with NAK, one
accepted before is discarded. A row acts on frames of its own type, and on unlisted types. -/
def State.receive (s : State) (i typ : Nat) (f : Frame) (go : State → State) : State :=
  if !s.portUp i || (f.typ.toNat ≠ typ && (frameType f.typ.toNat).isSome) then s
  else
    let s := s.updPort i fun x => x.linkFields f
    let x := s.port i
    (if f.seq = x.rxSeq + 1 then s.acceptFrame i f go
      else if (f.seq - x.rxSeq).toNat < 0x8000 && f.seq ≠ x.rxSeq then s.updPort i fun x => { x with nak := true }
      else s).send i

/-- A routed frame that a port has accepted (R401, R409): frozen classes and classes the port does not carry are discarded; a frame for this panel
is delivered by `deliver`, any other is forwarded. -/
def State.routeFrame (s : State) (i : Nat) (f : Frame) (deliver : State → State) : State :=
  let d := portDie i
  let c := f.cls
  if c ≠ 0 && s.isFrozen i c (fld f.srcPanel 0 10) then (s.portCount i 0x11A8).freeCredit i c
  else match s.ownPanel with
    | none => (if c = 0 then s else s.portCount i 0x11A0).freeCredit i c
    | some me =>
      if !s.carries i c then (s.portCount i 0x11A0).freeCredit i c
      else if fld f.dstPanel 0 10 = me then deliver s
      else
        let f := { f with hops := f.hops - 1 }
        if f.hops = 0 || f.hops = 0xFF then (s.dropFrame i 1 f).freeCredit i c
        else match s.routeOf d (fld f.dstPanel 0 10) with
          | none => (s.dropFrame i 0 f).freeCredit i c
          | some e =>
            if 84 ≤ e || !s.portUp e then (s.dropFrame i 3 f).freeCredit i c
            else (s.count64 (.die d) 0x0100 1).forward d e f (some i)

end Sys2Proof.Machine
end

