-- ==== Sys2Proof/Machine/Coll.lean ====
section
/-! DEFINITION. Cross-panel collectives at their anchors (R410-R416, R533, R562): the local contribution, the chunks of the tree, the result and its
delivery, retained results, and aborts. -/

namespace Sys2Proof.Machine

/-! ## Sizes and chunks (R410, R412) -/

/-- Whether COLL_MEMBERS has given every rank (R562). -/
def Coll.ready (c : Coll) : Bool := (List.range c.members).all fun r => Sparse.get 0 c.ids r != 0

/-- Bytes of the RESULT. -/
def Coll.resultLen (c : Coll) : Nat := if c.op = 2 then c.members * c.length else c.length

/-- The footprint in collective memory (R410). -/
def Coll.footprint (c : Coll) : Nat := 2 * (c.length + c.resultLen + c.children.length * c.resultLen)

/-- Chunks of 1,984 bytes in each part of the data: the whole of it, or one member's part of an all-gather (log entry 16). -/
def Coll.partChunks (c : Coll) : Nat := (c.length + 1983) / 1984

/-- Chunks of the result. -/
def Coll.numChunks (c : Coll) : Nat := if c.op = 2 then c.members * c.partChunks else c.partChunks

/-- Offset and size of a chunk of the result. -/
def Coll.chunkAt (c : Coll) (i : Nat) : Nat × Nat :=
  let j := i % c.partChunks
  ((if c.op = 2 then i / c.partChunks * c.length else 0) + 1984 * j, min 1984 (c.length - 1984 * j))

/-- The flits of a byte string with poisoned granules by index. -/
def chunkFlits (bytes : List Byte) (bad : List Nat) : List Flit :=
  let gs := bytesToGrans bytes
  (gs.zip (List.range gs.length)).map fun x => ⟨x.1, bad.contains x.2⟩

/-- The poisoned granules of a list of flits, by index. -/
def badOf (l : List Flit) : List Nat := (List.range l.length).filter fun i => (l.getD i ⟨0, false⟩).poison

/-- Two contributions combined granule by granule (R412): FP32 sums rounded to nearest even (R59) or WA96 merges (R63). -/
def Coll.combine (c : Coll) (x y : List Flit) : List Flit :=
  (x.zip y).map fun p => ⟨if c.format = 0 then fpAdd512 p.1.data p.2.data else waMerge512 p.1.data p.2.data, p.1.poison || p.2.poison⟩

/-! ## Bindings and invocations -/

/-- The state with a binding changed. -/
def State.updColl (s : State) (die index : Nat) (f : Coll → Coll) : State :=
  { s with colls := mapFirst (fun c => c.die == die && c.index == index) f s.colls }

/-- A binding by its place. -/
def State.collAt (s : State) (die index : Nat) : Option Coll := s.colls.find? fun c => c.die == die && c.index == index

/-- The number of the invocation that belongs to the partition's present step (R411). -/
def State.collNow (s : State) (c : Coll) : W32 :=
  match s.part c.part with
  | some x => BitVec.ofNat 32 x.stepIndex.toNat
  | none => 0

/-- Whether the anchor holds an invocation: the present one or the next (R414). -/
def State.collHolds (s : State) (c : Coll) (num : W32) : Bool := num == s.collNow c || num == s.collNow c + 1

/-- An invocation of a binding. -/
def Coll.inv (c : Coll) (num : W32) : CollInv := (c.invs.find? fun v => v.num == num).getD (CollInv.init num)

/-- A binding with an invocation replaced. -/
def Coll.setInv (c : Coll) (v : CollInv) : Coll := { c with invs := (c.invs.filter fun x => x.num != v.num) ++ [v] }

/-- Whether this node has completed an invocation and still keeps its result (R414). -/
def Coll.isRetained (c : Coll) (num : W32) : Bool := match c.retained with
  | some v => v.num == num
  | none => false

/-- Frames of a collective are counted in COLL_STALE of the anchor's die (R414, R416, R562). -/
def State.collStale (s : State) (c : Coll) (n : Nat) : State := s.count32n (.die (Fin.ofNat 42 c.die)) 0x0198 n

/-! ## The tree (R412) -/

/-- The panel at the other end of a port. -/
def State.peerPanel (s : State) (i : Nat) : Nat := s.rf (.die (portDie i)) (portReg i 0x1000) 22 10

/-- A chunk leaves on a tree port as COLL_UP (0x40) or COLL_DOWN (0x41). -/
def State.collSend (s : State) (c : Coll) (typ port : Nat) (num : W32) (i : Nat) (l : List Flit) : State :=
  s.originate (Fin.ofNat 42 c.die) port
    (mkFrame typ 0 (s.peerPanel port) (c.id + num.toNat * 2 ^ 16 + i % 2 ^ 32 * 2 ^ 48) l)

/-- A chunk of the retained or present result as flits. -/
def CollInv.resultChunk (v : CollInv) (c : Coll) (i : Nat) : List Flit :=
  let x := c.chunkAt i
  chunkFlits (v.result.readBytes x.1 x.2) ((List.range (x.2 / 64)).filter fun g => v.resPoison.contains (x.1 / 64 + g))

/-- The bytes delivered to each entry (R413): the whole result, or for reduce-scatter the member's slice, as flits. -/
def CollInv.delivery (v : CollInv) (c : Coll) : List Flit :=
  let n := if c.op = 1 then c.length / c.members else c.resultLen
  let off := if c.op = 1 then c.rank * n else 0
  chunkFlits (v.result.readBytes off n) ((List.range (n / 64)).filter fun g => v.resPoison.contains (off / 64 + g))

/-- A WRITE packet from a port die (R407, R413); its number is taken. -/
def State.dieWrite (s : State) (d : Fin 42) (dest unit tag addr : Nat) (l : List Flit) : State × W32 :=
  let seq := (s.dieSt d.val).nextSeq
  let s := s.updDie d.val fun x => { x with nextSeq := x.nextSeq + 1 }
  (s.inject (.die d) (withPayload { mkPacket 0x01 dest unit 0xF8 d.val tag seq.toNat with addr := w64 addr } l), seq)

/-- The LCID of a relative core of the binding's partition. -/
def State.collCore (s : State) (c : Coll) (rel : Nat) : Nat := match s.part c.part with
  | some x => x.lcids.getD rel 0xFF
  | none => 0xFF

/-- The result of an invocation is written to its DELIVER entries (R413). -/
def State.collDeliver (s : State) (c : Coll) (v : CollInv) : State × List (Nat × W32) :=
  let l := v.delivery c
  c.deliver.foldl (fun a e =>
    let lcid := s.collCore c e.1
    (List.range ((l.length + 31) / 32)).foldl (fun (b : State × List (Nat × W32)) j =>
      let y := b.1.dieWrite (Fin.ofNat 42 c.die) lcid 0 c.part (e.2.1 + 2048 * j) ((l.drop (32 * j)).take 32)
      (y.1, b.2 ++ [(e.1, y.2)])) a) (s, [])

/-- A chunk of the result is held at this node: it goes to each child in order, and with the last chunk the invocation completes, is retained and
delivered (R412-R414). -/
def State.collHold (s : State) (die index : Nat) (num : W32) (i : Nat) (l : List Flit) : State :=
  match s.collAt die index with
  | some c =>
    let v := c.inv num
    if v.held.contains i then s
    else
      let x := c.chunkAt i
      let v := { v with
        result := v.result.writeBytes x.1 (l.flatMap fun f => granBytes f.data)
        resPoison := v.resPoison ++ (badOf l).map fun g => x.1 / 64 + g
        held := i :: v.held }
      let s := c.children.foldl (fun st p => st.collSend c 0x41 p num i l) s
      if v.held.length = c.numChunks then
        let y := s.collDeliver c v
        y.1.updColl die index fun c => { c with
          retained := some { v with complete := true, writes := y.2 }, invs := c.invs.filter fun x => x.num != num }
      else s.updColl die index fun c => c.setInv v
  | none => s

/-- A chunk goes up the tree, or at the root becomes the result (R412). -/
def State.collUp (s : State) (die index : Nat) (num : W32) (i : Nat) (l : List Flit) : State :=
  match s.collAt die index with
  | some c =>
    if c.parent = 0xFF then s.collHold die index num i l
    else s.collSend c 0x40 c.parent num i l
  | none => s

/-- A node's own value of a chunk of its contribution, as flits. -/
def CollInv.own (v : CollInv) (off size : Nat) : List Flit :=
  chunkFlits (v.input.readBytes off size) ((List.range (size / 64)).filter fun g => v.inPoison.contains (off / 64 + g))

/-- The combination of a chunk at a node (R412): its own value, then the children's in binding order; none while one is missing. -/
def CollInv.nodeChunk (v : CollInv) (c : Coll) (i : Nat) : Option (List Flit) :=
  let x := c.chunkAt i
  if v.goAt.isNone then none
  else (List.range c.children.length).foldl (fun a j =>
    match a, v.up.find? fun u => u.1 == j && u.2.1 == i with
    | some l, some u => some (c.combine l (chunkFlits u.2.2.1 u.2.2.2))
    | _, _ => none) (some (v.own x.1 x.2))

/-- The chunks that can go on do so: combined chunks of all-reduce and reduce-scatter, the node's own chunks of all-gather, the root's of broadcast. -/
def State.collAdvance (s : State) (die index : Nat) (num : W32) : State :=
  match s.collAt die index with
  | some c =>
    (List.range c.partChunks).foldl (fun st j =>
      match st.collAt die index with
      | some c =>
        let v := c.inv num
        let i := if c.op = 2 then c.rank * c.partChunks + j else j
        if v.aborted || v.sent.contains i || c.isRetained num || (c.op = 3 && c.parent ≠ 0xFF) then st
        else
          let l := if c.op < 2 then v.nodeChunk c i
            else if v.goAt.isSome then some (v.own (1984 * j) (c.chunkAt i).2) else none
          match l with
          | some l => (st.updColl die index fun c => c.setInv { v with sent := i :: v.sent }).collUp die index num i l
          | none => st
      | none => st) s
  | none => s

/-! ## The local contribution (R411, R533) -/

/-- A granule of the IN area of an invocation; the area is zero where nothing was written. -/
def CollInv.putIn (v : CollInv) (off : Nat) (f : Flit) (reduce : Bool) : CollInv :=
  let g := off / 64
  let old := granOf (v.input.readBytes off 64)
  { v with
    input := v.input.writeBytes off (granBytes (if reduce then waMerge512 old f.data else f.data))
    inPoison := if f.poison || (reduce && v.inPoison.contains g) then (if v.inPoison.contains g then v.inPoison else g :: v.inPoison)
      else v.inPoison.filter fun x => x != g }

/-- A write or a reduction lands in the IN area at an offset, for the present invocation. -/
def State.collInput (s : State) (c : Coll) (off : Nat) (l : List Flit) (reduce : Bool) : State :=
  let num := s.collNow c
  if c.isRetained num || (c.inv num).aborted then s
  else s.updColl c.die c.index fun c => c.setInv
    ((l.zip (List.range l.length)).foldl (fun v x => v.putIn (off + 64 * x.2) x.1 reduce) (c.inv num))

/-- A GO write with a number: with the NCONTRIB-th for an invocation the contribution is complete and its pod time recorded. -/
def State.collGo (s : State) (c : Coll) (value : Nat) : State :=
  let num : W32 := BitVec.ofNat 32 value
  let v := c.inv num
  if value ≠ num.toNat || !s.collHolds c num || c.isRetained num || v.aborted || c.ncontrib ≤ v.go then s
  else
    let full := v.go + 1 = c.ncontrib
    let v := { v with go := v.go + 1, goAt := if full then some s.time else none }
    let t := BitVec.ofInt 64 s.podTime
    let s := s.updColl c.die c.index fun c => (if full then { c with lateness := ((num, t) :: c.lateness).take 1024 } else c).setInv v
    if full then s.collAdvance c.die c.index num else s

/-! ## Frames at the anchor (R412, R414) -/

/-- A chunk of a collective reaches its anchor, having come in on a tree port. -/
def State.collFrame (s : State) (die : Nat) (ingress : Nat) (f : Frame) : State :=
  match s.colls.find? fun c => c.die == die && c.id == f.arg 0 2 with
  | none => s
  | some c =>
    let num : W32 := BitVec.ofNat 32 (f.arg 2 4)
    let i := f.arg 6 4
    let up := f.typ = 0x40
    if up && c.isRetained num then
      (match c.retained with
        | some v => (List.range c.numChunks).foldl (fun st j => st.collSend c 0x41 ingress num j (v.resultChunk c j)) s
        | none => s)
    else if c.isRetained num then s
    else
      let v := c.inv num
      if !c.ready || !s.collHolds c num || v.aborted || c.numChunks ≤ i || f.payload.length * 64 ≠ (c.chunkAt i).2 || (up && c.op = 3) then
        s.collStale c 1
      else if !up then s.collHold die c.index num i f.flits
      else if c.op = 2 then s.collUp die c.index num i f.flits
      else
        let j := c.children.findIdx fun p => p == ingress
        if v.up.any fun u => u.1 == j && u.2.1 == i then s
        else
          let s := s.updColl die c.index fun c => c.setInv
            { v with up := v.up ++ [(j, i, f.payload.flatMap granBytes, badOf f.flits)] }
          s.collAdvance die c.index num

/-! ## Answers to the anchor's writes (R413) -/

/-- The invocation that awaits an answer with a number, in a binding. -/
def Coll.awaiting (c : Coll) (seq : W32) : Option CollInv := match c.retained with
  | some v => if v.writes.any fun w => w.2 == seq then some v else none
  | none => none

/-- A result write is acknowledged: with the last one of a core, the invocation number is written to the core's DONE_OFFSET, in a granule whose other
bytes are zero (log entry 16). -/
def State.collAcked (s : State) (c : Coll) (v : CollInv) (seq : W32) : State :=
  match v.writes.find? fun w => w.2 == seq with
  | some w =>
    let rest := v.writes.filter fun x => x.2 != seq
    let s := s.updColl c.die c.index fun c => { c with retained := some { v with writes := rest } }
    if rest.any fun x => x.1 == w.1 then s
    else (c.deliver.filter fun e => e.1 == w.1).foldl (fun st e =>
      (st.dieWrite (Fin.ofNat 42 c.die) (st.collCore c e.1) 0 c.part e.2.2 [⟨granOf (toBytes 8 v.num.toNat), false⟩]).1) s
  | none => s

/-! ## Aborts (R415, R416) -/

/-- The invocation that a cause at this panel aborts: the present one, or the next when the present one is complete. -/
def State.collTarget (s : State) (c : Coll) : W32 :=
  let k := s.collNow c
  if c.isRetained k then k + 1 else k

/-- A member marks an invocation ABORTED: its frames are discarded and counted, its result writes stop, COLL_ABORTED is raised and the active management
die gets a report, an ABORT packet with AUX[7:0] = 0xFF, AUX[15:8] the cause and AUX[16] set where the invocation was complete here (log entry
10). A second abort is ignored; a completed invocation stays complete. -/
def State.collMark (s : State) (c : Coll) (num : W32) (cause panel port : Nat) : State :=
  let v := c.inv num
  let done := c.isRetained num
  if v.aborted then s
  else if !done && !s.collHolds c num then s.collStale c 1
  else
    let s := if done then s else
      (s.collStale c v.up.length).updColl c.die c.index fun c => c.setInv { CollInv.init num with aborted := true }
    let s := s.event 0x6005 10 c.index c.part 0xFF [c.id, num.toNat, cause, panel * 256 + port, b01 done]
    s.inject (.die (Fin.ofNat 42 c.die)) { mkPacket 0x24 0xF0 0 0xF8 c.die c.part 0 with
      aux := BitVec.ofNat 32 (0xFF + cause * 2 ^ 8 + b01 done * 2 ^ 16), addr := w64 (c.id + num.toNat * 2 ^ 32) }

/-- A cause at this panel aborts a collective (R415): the member marks it, and sends an ABORT frame to every other member. -/
def State.collAbort (s : State) (c : Coll) (cause port : Nat) : State :=
  let num := s.collTarget c
  if (c.inv num).aborted then s
  else
    let me := s.ownPanel.getD 0
    let d : Fin 42 := Fin.ofNat 42 c.die
    let s := s.collMark c num cause me port
    ((List.range c.members).filter fun r => r != c.rank).foldl (fun st r =>
      let id := Sparse.get 0 c.ids r
      if id = 0 then st
      else st.originateTo d (mkFrame 0x04 0 (id - 1)
        (c.id + num.toNat * 2 ^ 16 + cause * 2 ^ 48 + me * 2 ^ 64 + port * 2 ^ 80) [])) s

/-- The collectives that have a tree port on a port abort with LINK_DOWN (R396, R415). -/
def State.linkDown (s : State) (i : Nat) : State :=
  (s.colls.filter fun c => c.parent == i || c.children.contains i).foldl (fun st c => st.collAbort c 0 i) s

/-- A port goes DOWN (R396, R415). -/
def State.portDown (s : State) (i cause : Nat) : State := (s.portFall i cause).linkDown i

/-- A collective is unbound. -/
def State.collRemove (s : State) (c : Coll) : State := { s with colls := s.colls.filter fun x => !(x.die == c.die && x.index == c.index) }

/-- A kill or an unbind aborts each collective bound to the partition, with PARTITION_GONE, and unbinds it (R405, R415). -/
def State.collsGone (s : State) (tag : Nat) : State :=
  (s.colls.filter fun c => c.part == tag).foldl (fun st c => (st.collAbort c 3 0xFF).collRemove c) s

/-- A replay of a partition's step starts its aborted invocations anew (R416). -/
def State.collsRestart (s : State) (tag : Nat) : State :=
  { s with colls := s.colls.map fun c => if c.part = tag then { c with invs := c.invs.filter fun v => !v.aborted } else c }

end Sys2Proof.Machine
end

