-- ==== Sys2Proof/Machine/IhlyxRows.lean ====
section
/-! DEFINITION. The rows of the Ihlyx ports: frames received (R394-R416), the links' own events (R395-R400, R403), and pod time (R417-R419). -/

namespace Sys2Proof.Machine

/-! ## Links -/

/-- FRAME_IDLE (R394): credits and acknowledgement; a malformed one is counted (R392). -/
def execFrameIdle (port : Fin 84) (f : Frame) (s : State) : Host.Outcome State Fault Refusal :=
  let i := port.val
  let u := RegUnit.die (portDie i)
  .next (if !s.portUp i || f.typ ≠ 0 then s
    else if !f.wellFormed then s.portCount i 0x1188
    else (((s.count64 u (portReg i 0x1108) 1).count64 u (portReg i 0x1118) f.size).updPort i fun x => x.linkFields f).send i)

/-- FRAME_CRC_ERROR (R389, R395): the frame is discarded and the port asks for a replay. -/
def execFrameCrcError (port : Fin 84) (s : State) : Host.Outcome State Fault Refusal :=
  let i := port.val
  .next (if s.portState i < 2 then s else (s.portCount i 0x1188).updPort i fun x => { x with nak := true })

/-- IHLYX_REPLAY (R395, R396): the unacknowledged frames are resent from ACK_SEQ + 1; a frame resent 16 times in succession takes the port DOWN. -/
def execIhlyxReplay (port : Fin 84) (s : State) : Host.Outcome State Fault Refusal :=
  let i := port.val
  let x := s.port i
  .next (if !s.portUp i || !x.replayDue then s
    else
      let s := (s.updPort i fun x => { x with replayDue := false, resent := x.resent + 1 }).portCount i 0x1190
      let s := x.replay.foldl (fun st f => st.emit i f) s
      if 16 ≤ x.resent + 1 then s.portDown i 3 else s.send i)

/-- PORT_LOSS_OF_LOCK (R396): an active lane of an UP port. -/
def execPortLossOfLock (port : Fin 84) (lane : BitVec 2) (s : State) : Host.Outcome State Fault Refusal :=
  let i := port.val
  let v := s.reg (.die (portDie i)) (portReg i 0x1000)
  .next (if s.portUp i && laneActive (fld v 17 4) (fld v 8 3) lane.toNat then s.portDown i 1 else s)

/-- PORT_SILENT (R396). -/
def execPortSilent (port : Fin 84) (s : State) : Host.Outcome State Fault Refusal :=
  .next (if s.portUp port.val then s.portDown port.val 2 else s)

/-- PORT_TRAIN_TIMEOUT (R397): 200 ms of training without reaching UP. -/
def execPortTrainTimeout (port : Fin 84) (s : State) : Host.Outcome State Fault Refusal :=
  let i := port.val
  .next (if s.portState i = 2 && (s.port i).trainAt + 20000000 ≤ s.time then s.portDown i 5 else s)

/-- PORT_RETRAIN_TIMER (R400, R405): 1 s after going DOWN the port trains again, up to the width of its last UP, where its region's fabric rail stands. -/
def execPortRetrainTimer (port : Fin 84) (s : State) : Host.Outcome State Fault Refusal :=
  let i := port.val
  .next (if s.rf (.gov (portDie i)) 0 2 1 = 1 && s.portState i = 1 && (s.port i).downAt + 10 ^ 8 ≤ s.time then s.portTrain i (s.port i).limit else s)

/-- PORT_IDLE_SEND (R394): an UP port sends what it can, or IDLE. -/
def execPortIdleSend (port : Fin 84) (s : State) : Host.Outcome State Fault Refusal :=
  let i := port.val
  let x := s.port i
  .next (if !s.portUp i then s
    else if (x.nextClass (s.weights i)).isSome && !x.replayDue && decide (x.replay.length < 512) then s.send i
    else s.emit i (mkFrame 0x00 4 0 0 []))

/-- EGRESS_TIMEOUT (R403): a frame that has waited more than 1 ms at an egress port is dropped. -/
def execEgressTimeout (port : Fin 84) (s : State) : Host.Outcome State Fault Refusal :=
  let i := port.val
  let late (e : EgFrame) : Bool := decide (e.since + 100000 < s.time)
  .next (match (s.port i).egress.find? late with
    | some e => ((s.updPort i fun x => { x with egress := dropFirst late x.egress }).dropFrame i 2 e.frame).egressDone i e
    | none => s)

/-! ## Training (R397-R400) -/

/-- The IDENT payload of a port (R397). -/
def State.identFlit (s : State) (i mask : Nat) : Flit :=
  let id := match s.ownPanel with
    | some n => n + 0x8000
    | none => 0
  ⟨granOf (toBytes 2 id ++ toBytes 1 i ++ [0x01] ++ toBytes 2 (s.rf (.die (portDie i)) 0x0000 16 16) ++ toBytes 1 mask), false⟩

/-- A trained port comes UP at a width with its peer's identity (R398-R400). -/
def State.portRise (s : State) (i width mask : Nat) (id : Nat) (peerPort feature : Nat) : State :=
  let u := RegUnit.die (portDie i)
  let valid := 0x8000 ≤ id
  let panel := id % 2 ^ 10
  let old := (s.port i).peer
  let v := s.reg u (portReg i 0x1000)
  let s := s.setReg u (portReg i 0x1000)
    (w64 (peerPort * 2 ^ 32 + panel * 2 ^ 22 + b01 valid * 2 ^ 21 + mask * 2 ^ 17 + fld v 11 3 * 2 ^ 11 + width * 2 ^ 8 + 3))
  let conflict := valid && s.ownPanel == some panel
  let s := s.updPort i fun x => { x with
    peer := some (panel, peerPort), feature := BitVec.ofNat 16 feature, limit := width, conflict := conflict, resent := 0 }
  let s := s.portEvent i 0x6001 [i, width, panel, peerPort, s.rn u (portReg i 0x1018)]
  let s := match old with
    | some o => if o ≠ (panel, peerPort) then s.portEvent i 0x6003 [i, o.1, o.2, panel, peerPort] else s
    | none => s
  if conflict then s.portEvent i 0x6004 [i, panel] else s

/-- FRAME_IDENT (R397-R400): the port sends its own IDENT; a peer of another version or without a common lane sends it DOWN, any other brings it UP at
the largest common width. The lanes this side has locked are the link's own outcome, a free value (log entry 15). -/
def execFrameIdent (port : Fin 84) (f : Frame) (s : State) : Host.Outcome State Fault Refusal :=
  let i := port.val
  .next (if s.portState i = 3 then s.receive i 0x01 f fun s => s.freeCredit i 0
    else if s.portState i ≠ 2 || f.typ ≠ 0x01 || f.seq ≠ (s.port i).rxSeq + 1 then s
    else if !f.wellFormed then (s.acceptFrame i f fun s => s)
    else
      let mine := Config.freeNat s.free % 16
      let s := (s.draw.updPort i fun x => x.linkFields f).acceptFrame i f fun s => s.freeCredit i 0
      let own := { mkFrame 0x01 4 0 0 [s.identFlit i mine] with seq := (s.port i).txSeq + 1 }
      let s := s.updPort i fun x => { x with
        txSeq := x.txSeq + 1, replay := x.replay ++ [own], credits := x.credits.set 0 (x.credits.getD 0 0 - 1) }
      let s := s.emit i own
      let g := f.payload.getD 0 0
      let mask := Nat.land mine (fld g 48 4)
      let width := widthOf mask (s.port i).limit
      if fld g 24 8 ≠ 1 then s.portDown i 7
      else if width = 0 then s.portDown i 6
      else (s.portRise i width mask (fld g 0 16) (fld g 16 8) (fld g 32 16)).send i)

/-! ## Pod time (R417-R419) -/

/-- A time stamp at the lanes: pod time in 1/256 tick, the part below a tick free (log entry 2). -/
def State.stamp (s : State) : W64 := BitVec.ofInt 64 ((s.time * 256 + Config.freeNat s.free % 256 : Nat) + s.podOffset / 256)

/-- TIME_SYNC_SEND (R418). -/
def execTimeSyncSend (port : Fin 84) (s : State) : Host.Outcome State Fault Refusal :=
  let i := port.val
  .next (if !s.portUp i then s
    else
      let t := s.stamp
      let v := s.servo
      let master := if v.distance = 63 then 0 else v.master % 2 ^ 10 + 0x8000
      let s := s.draw.updPort i fun x => { x with t1 := some t }
      s.toEgress i (mkFrame 0x02 4 0 (t.toNat + master * 2 ^ 64 + v.distance * 2 ^ 80) []) none)

/-- FRAME_TIME_SYNC (R418, R419): answered with TIME_REPLY; the peer's master and distance are taken. -/
def execFrameTimeSync (port : Fin 84) (f : Frame) (s : State) : Host.Outcome State Fault Refusal :=
  let i := port.val
  .next (s.receive i 0x02 f fun s =>
    let t2 := s.stamp
    let s := s.draw
    let t3 := if atOrPast s.stamp t2 then s.stamp else t2
    let m := f.arg 8 2
    let adv := if 0x8000 ≤ m && f.arg 10 1 < 63 then some (m % 2 ^ 10, f.arg 10 1) else none
    let s := ((s.draw.freeCredit i 0).updPort i fun x => { x with adv := adv }).rechoose
    s.toEgress i (mkFrame 0x03 4 0 (t2.toNat + t3.toNat * 2 ^ 64) []) none)

/-- A valid exchange on the upstream port with an error in 1/256 tick moves the servo (R417, R419): while unlocked the first one steps POD_OFFSET,
later ones slew it; an error beyond 20 ns unlocks and steps; the eighth in succession within 5 ns locks. -/
def State.servoExchange (s : State) (e : Int) : State :=
  let off := s.podOffset
  let v := { s.servo with lastAt := s.time, lastError := e }
  let stepped := { v with base := off + e * 256, slew := 0, since := s.time, stepped := true }
  let good := if e.natAbs ≤ 128 then v.good + 1 else 0
  if v.locked && 512 < e.natAbs then ({ s with servo := stepped } : State).podUnlock 0 e
  else
    let v := if !v.locked && !v.stepped then { stepped with good := good }
      else { v with base := off, slew := e * 256, since := s.time, good := good }
    if !v.locked && 8 ≤ good then
      let s : State := { s with servo := { v with locked := true } }
      s.event 0x6007 0 0 0xFF 0xFF [v.master, v.distance, v.upstream.getD 0xFF]
    else { s with servo := v }

/-- FRAME_TIME_REPLY (R418): round trip, delay and error; the upstream port's exchange feeds the servo. -/
def execFrameTimeReply (port : Fin 84) (f : Frame) (s : State) : Host.Outcome State Fault Refusal :=
  let i := port.val
  .next (s.receive i 0x03 f fun s =>
    let t4 := s.stamp
    let s := s.draw.freeCredit i 0
    match (s.port i).t1 with
    | some t1 =>
      let t2 : W64 := BitVec.ofNat 64 (f.arg 0 8)
      let t3 : W64 := BitVec.ofNat 64 (f.arg 8 8)
      let trip := (t4 - t1) - (t3 - t2)
      let delay := trip.toInt / 2
      let s := s.setReg (.die (portDie i)) (portReg i 0x1018) (w64 (trip.toNat % 2 ^ 32))
      let s := s.updPort i fun x => { x with t1 := none }
      if s.servo.upstream = some i then s.servoExchange ((t2 - t1).toInt - delay) else s
    | none => s)

/-- POD_TIME_UNLOCK_TIMEOUT (R419): no valid exchange for 10 ms at the die of the upstream port. -/
def execPodTimeUnlockTimeout (die : Fin 42) (s : State) : Host.Outcome State Fault Refusal :=
  .next (if s.servo.upstream.any (fun i => i / 2 == die.val) && s.servo.lastAt + 1000000 ≤ s.time then s.podUnlock 1 0 else s)

/-! ## Routed frames (R401, R406-R409, R412-R416) -/

/-- FRAME_ABORT (R416). -/
def execFrameAbort (port : Fin 84) (f : Frame) (s : State) : Host.Outcome State Fault Refusal :=
  let i := port.val
  .next (s.receive i 0x04 f fun s => s.routeFrame i f fun s =>
    let s := s.freeCredit i 0
    match s.colls.find? fun c => c.id == f.arg 0 2 with
    | some c => s.collMark c (BitVec.ofNat 32 (f.arg 2 4)) (f.arg 6 1) (f.arg 8 2) (f.arg 10 1)
    | none => s)

/-- A collective frame for this panel goes to its anchor; one not bound here, or on another port than its binding names, is a violation (R409). -/
def State.collArrive (s : State) (i : Nat) (f : Frame) (up : Bool) : State :=
  match s.colls.find? fun c => c.id == f.arg 0 2 with
  | none => (s.ihlyxViolation i 0 f).freeCredit i 1
  | some c =>
    if !(if up then c.children.contains i else c.parent == i) then (s.ihlyxViolation i 1 f).freeCredit i 1
    else if c.die = i / 2 then (s.freeCredit i 1).collFrame c.die i f
    else s.transit (portDie i) ⟨100 + c.die, f, some i⟩

/-- FRAME_COLL_UP (R412). -/
def execFrameCollUp (port : Fin 84) (f : Frame) (s : State) : Host.Outcome State Fault Refusal :=
  .next (s.receive port.val 0x40 f fun s => s.routeFrame port.val f fun s => s.collArrive port.val f true)

/-- FRAME_COLL_DOWN (R412). -/
def execFrameCollDown (port : Fin 84) (f : Frame) (s : State) : Host.Outcome State Fault Refusal :=
  .next (s.receive port.val 0x41 f fun s => s.routeFrame port.val f fun s => s.collArrive port.val f false)

/-- FRAME_SVC_REQUEST (R406, R409): from a permitted panel it goes to the active management die. -/
def execFrameSvcRequest (port : Fin 84) (f : Frame) (s : State) : Host.Outcome State Fault Refusal :=
  let i := port.val
  .next (s.receive i 0x80 f fun s => s.routeFrame i f fun s =>
    let n := fld f.srcPanel 0 10
    if bit (s.reg (.die (portDie i)) (0x3000 + 8 * (n / 64))) (n % 64) then s.transit (portDie i) ⟨200, f, some i⟩
    else (s.ihlyxViolation i 5 f).freeCredit i 2)

/-- FRAME_SVC_RESPONSE (R406): addressed to a panel, discarded. -/
def execFrameSvcResponse (port : Fin 84) (f : Frame) (s : State) : Host.Outcome State Fault Refusal :=
  let i := port.val
  .next (s.receive i 0x81 f fun s => s.routeFrame i f fun s => (s.portCount i 0x11A0).freeCredit i 2)

/-- FRAME_SVC_OUTPUT (R406): addressed to a panel, discarded. -/
def execFrameSvcOutput (port : Fin 84) (f : Frame) (s : State) : Host.Outcome State Fault Refusal :=
  let i := port.val
  .next (s.receive i 0x82 f fun s => s.routeFrame i f fun s => (s.portCount i 0x11A0).freeCredit i 2)

/-- FRAME_BULK_WRITE (R407, R409): one WRITE packet into the aperture's spill extent. -/
def execFrameBulkWrite (port : Fin 84) (f : Frame) (s : State) : Host.Outcome State Fault Refusal :=
  let i := port.val
  let d := portDie i
  .next (s.receive i 0xC0 f fun s => s.routeFrame i f fun s =>
    let a := f.arg 0 1
    let off := f.arg 8 8
    let v := s.reg (.die d) (0x4000 + 32 * a)
    let s := s.freeCredit i 3
    if 64 ≤ a || !bit v 63 then s.ihlyxViolation i 3 f
    else if !bit v 11 && fld v 0 10 ≠ fld f.srcPanel 0 10 then s.ihlyxViolation i 4 f
    else if s.rf (.die d) (0x4008 + 32 * a) 0 36 < off + 64 * f.payload.length then s.ihlyxViolation i 2 f
    else
      let y := s.dieWrite d 0xFC (fld v 40 5) (fld v 48 8) (fld v 12 24 * 4096 + off) f.flits
      y.1.updDie d.val fun x => { x with bulk := x.bulk ++ [(y.2, i)] })

/-! ## Packets at a port die -/

/-- A WRITE or REDUCE at a port die (R39, R411): into the IN or GO area of a collective bound to the sender's partition it lands; any other is
refused as R182 gives. The active management die's register writes travel in MGMT packets. -/
def State.dieWritten (s : State) (d : Fin 42) (k : Packet) (reduce : Bool) : State :=
  let len := 64 * k.payload.length
  let addr := k.addr.toNat
  let holds (base size : Nat) : Bool := decide (base % 2 ^ 43 ≤ addr) && decide (addr + len ≤ base % 2 ^ 43 + size)
  match s.colls.find? fun c => c.die == d.val && c.part == k.tag.toNat && (holds c.inPa c.length || holds c.goPa 64) with
  | some c =>
    if addr % 64 ≠ 0 || k.trunc then s.nack (.die d) k (if k.trunc then 0x08 else 0x06) (!k.trunc)
    else if holds c.inPa c.length then
      (if reduce && c.format ≠ 1 then s.nack (.die d) k 0x06 true
       else (s.collInput c (addr - c.inPa % 2 ^ 43) k.payload reduce).ack (.die d) k)
    else if reduce then s.nack (.die d) k 0x06 true
    else (s.collGo c (fld (k.payload.getD 0 ⟨0, false⟩).data 0 64)).ack (.die d) k
  | none => s.nack (.die d) k 0x06 true

/-- A TRANSIT packet at its egress port die or at a collective's anchor (R402): the frame is rebuilt; the credit of a collective frame returns as it
is taken. -/
def State.dieTransit (s : State) (d : Fin 42) (k : Packet) : State :=
  let holder := if k.src = 0xF8 then some k.srcUnit.toNat else none
  match frameOf k.payload with
  | some f =>
    let a := fld k.aux 0 8
    if a = 0xFF then (s.collFrame d.val (fld k.aux 8 8) f).returnCredit (.die d) (0xF8, d.val) holder f.cls
    else if a / 2 = d.val then s.toEgress a f holder
    else s
  | none => s

/-- An ABORT packet at a port die: a control frame on its way to an egress port, or a command to abort a collective (R402, R405). -/
def State.dieAbort (s : State) (d : Fin 42) (k : Packet) : State :=
  let a := fld k.aux 0 8
  if a = 0xFF then (match s.collAt d.val k.addr.toNat with
    | some c => s.collAbort c (fld k.aux 8 8) 0xFF
    | none => s)
  else match frameOf k.payload with
    | some f => if a / 2 = d.val then s.toEgress a f none else s
    | none => s

/-- An ACK or NACK at a port die (R407, R413): of a bulk write it is consumed, a NACK being counted; of a result write it advances the delivery. -/
def State.dieAnswer (s : State) (d : Fin 42) (k : Packet) (isNack : Bool) : State :=
  match (s.dieSt d.val).bulk.find? fun b => b.1 == k.seq with
  | some b =>
    let s := s.updDie d.val fun x => { x with bulk := x.bulk.filter fun y => y.1 != k.seq }
    if isNack then s.portCount b.2 0x11A0 else s
  | none =>
    if isNack then s
    else match s.colls.findSome? fun c => if c.die = d.val then (c.awaiting k.seq).map fun v => (c, v) else none with
      | some (c, v) => s.collAcked c v k.seq
      | none => s

end Sys2Proof.Machine
end

