-- ==== Sys2Proof/Machine/Tab.lean ====
section
/-! DEFINITION. Tablature images (R313-R323) and the checks at load (R324): each check answers the first offending field as (section, offset), and
the refusal is the first reason of the table that applies. -/

namespace Sys2Proof.Machine

/-! ## Header and directory (R313, R315) -/

/-- A refusal at load or binding (R324): reason, section, offset, and for BAD_DESCRIPTOR the engine's fault reason. -/
structure TabRefusal where
  code : Nat
  sec : Nat
  off : Nat
  why : Nat
  deriving DecidableEq, Repr

/-- The section and offset that name no field. -/
def noField : Nat × Nat := (0xFFFF, 0xFFFFFFFFFFFFFFFF)

/-- The first failing check of a list of (failed, offset). -/
def firstBad (l : List (Bool × Nat)) : Option Nat := (l.find? (·.1)).map Prod.snd

/-- A section: its directory index, TYPE, INDEX, OFFSET and LENGTH. -/
structure Sec where
  idx : Nat
  typ : Nat
  index : Nat
  off : Nat
  len : Nat
  deriving DecidableEq, Repr

/-- TABLATURE_ID. -/
def tabId (img : List Byte) : BitVec 128 := BitVec.ofNat 128 (bytesAt img 16 16)
/-- ROWS. -/
def tabRows (img : List Byte) : Nat := bytesAt img 48 1
/-- COLS. -/
def tabCols (img : List Byte) : Nat := bytesAt img 49 1
/-- ORIGIN_ROW. -/
def tabOrigin (img : List Byte) : Nat := bytesAt img 50 1
/-- FRAME_LEN. -/
def tabF (img : List Byte) : Nat := bytesAt img 52 2
/-- FRAMES, K. -/
def tabK (img : List Byte) : Nat := bytesAt img 54 2
/-- MAX_SHIFT. -/
def tabShift (img : List Byte) : Nat := bytesAt img 56 2
/-- SPANp. -/
def tabSpan (img : List Byte) (p : Nat) : Nat := bytesAt img (58 + 2 * p) 2
/-- LB. -/
def tabLb (img : List Byte) : Nat := bytesAt img 64 8
/-- DIR_OFFSET. -/
def tabDir (img : List Byte) : Nat := bytesAt img 72 8
/-- CLASSES. -/
def tabClasses (img : List Byte) : Nat := bytesAt img 80 8
/-- HOP. -/
def tabHop (img : List Byte) : Nat := bytesAt img 88 1
/-- The number of cores. -/
def tabCores (img : List Byte) : Nat := tabRows img * tabCols img
/-- FLAGS.SIGNED. -/
def tabSigned (img : List Byte) : Bool := bytesAt img 36 4 % 2 == 1
/-- FLAGS.MEASURED. -/
def tabMeasured (img : List Byte) : Bool := bytesAt img 36 4 / 2 % 2 == 1

/-- The sections by the directory. -/
def tabSecs (img : List Byte) : List Sec :=
  (List.range (bytesAt img 34 2)).map fun k =>
    let e := tabDir img + 24 * k
    ⟨k, bytesAt img e 2, bytesAt img (e + 2) 2, bytesAt img (e + 8) 8, bytesAt img (e + 16) 8⟩

/-- The section of a type and index. -/
def tabSec (img : List Byte) (typ index : Nat) : Option Sec := (tabSecs img).find? fun x => x.typ == typ && x.index == index

/-- The bytes of a section. -/
def Sec.bytes (x : Sec) (img : List Byte) : List Byte := (img.drop x.off).take x.len

/-- BAD_HEADER (R313). -/
def badHeader (img : List Byte) : Option Nat :=
  if img.length < 256 then some 0
  else
    let h (o n : Nat) := bytesAt img o n
    firstBad ([
      (h 0 4 != 0x42544750, 0), (h 4 2 != 1, 4), (h 6 2 != 256, 6), (h 8 8 != img.length, 8),
      (decide (h 34 2 < 1) || decide (4096 < h 34 2), 34), (h 36 4 / 4 != 0, 36),
      (h 48 1 == 0 || decide (12 < h 48 1), 48), (h 49 1 == 0 || decide (12 < h 49 1), 49),
      (decide (11 < h 50 1) && h 50 1 != 0xFF, 50), (decide (15 < h 51 1), 51),
      (decide (h 52 2 < 64) || decide (8192 < h 52 2), 52), (h 54 2 == 0, 54), (h 72 8 % 64 != 0, 72),
      (decide (h 88 1 < 8) || decide (11 < h 88 1), 88)] ++
      (List.range 167).map fun i => (h (89 + i) 1 != 0, 89 + i))

/-- Whether a section type is listed, and whether its INDEX is a core (R315). -/
def secKind (t : Nat) : Option Bool :=
  if t = 1 || t = 2 || t = 3 then some true
  else if (4 ≤ t && t ≤ 9) || t = 0xF then some false
  else none

/-- BAD_DIRECTORY (R315): section and offset of the first offending field. -/
def badDirectory (img : List Byte) : Option (Nat × Nat) :=
  let d := tabDir img
  let secs := tabSecs img
  let dend := d + 24 * secs.length
  if d < 256 || img.length < dend then some (0xFFFF, 72)
  else
    let entry (x : Sec) : Option (Nat × Nat) :=
      let e := d + 24 * x.idx
      let before := secs.take x.idx
      (firstBad [
        ((secKind x.typ).isNone || before.any (fun y => y.typ == x.typ && y.index == x.index) ||
          (x.typ == 0xF && x.idx + 1 != secs.length), e),
        (match secKind x.typ with
          | some true => decide (tabCores img ≤ x.index)
          | _ => x.index != 0xFFFF, e + 2),
        (bytesAt img (e + 4) 4 != 0, e + 4),
        (x.off % 64 != 0 || before.any (fun y => decide (x.off < y.off)) ||
          (x.len != 0 && (decide (x.off < 256) || before.any (fun y => decide (x.off < y.off + y.len)) ||
            (decide (x.off < dend) && decide (d < x.off + x.len)))), e + 8),
        (decide (img.length < x.off + x.len) || (x.typ == 4 && x.len != tabCores img), e + 16)]).map fun o => (x.idx, o)
    match secs.findSome? entry with
    | some r => some r
    | none =>
      let missing := (List.range (tabCores img)).any (fun r => (tabSec img 1 r).isNone || (tabSec img 3 r).isNone) ||
        (tabSec img 4 0xFFFF).isNone || (tabSec img 8 0xFFFF).isNone || (tabSigned img && (tabSec img 0xF 0xFFFF).isNone)
      if missing then some (0xFFFF, 34) else none

/-- BAD_CODE: the LENGTH field of a CORE_CODE section's entry. -/
def badCode (img : List Byte) : Option (Nat × Nat) :=
  (tabSecs img).findSome? fun x =>
    if x.typ = 1 && (x.len % 4 ≠ 0 || 65536 < x.len) then some (x.idx, tabDir img + 24 * x.idx + 16) else none

/-! ## Layout, images and descriptors (R175, R239, R286, R316, R324) -/

/-- The segment mask of a core's layout. -/
def layMask (img : List Byte) (core : Nat) : Nat := match tabSec img 3 core with
  | some x => bytesAt img x.off 8
  | none => 0

/-- REGn_CFG of a core's layout. -/
def layReg (img : List Byte) (core n : Nat) : W64 := match tabSec img 3 core with
  | some x => w64 (bytesAt img (x.off + 8 + 8 * n) 8)
  | none => 0

/-- SBn_CFG of a core's layout. -/
def laySb (img : List Byte) (core n : Nat) : W64 := match tabSec img 3 core with
  | some x => w64 (bytesAt img (x.off + 520 + 8 * n) 8)
  | none => 0

/-- Whether a span lies in declared segments (R172). -/
def declared (mask off len : Nat) : Bool :=
  len == 0 || (decide (off + len ≤ 0x18000000) &&
    (List.range 48).all fun g => decide (g < off / 0x800000) || decide ((off + len - 1) / 0x800000 < g) || mask / 2 ^ g % 2 == 1)

/-- Base and size of a region's span. -/
def regSpan (v : W64) : Nat × Nat := (fld v 12 17 * 4096, 2 ^ fld v 32 5)

/-- The fault in a CORE_LAYOUT section (R175, R239). -/
def badLayout (img : List Byte) (x : Sec) : Option Nat :=
  let mask := bytesAt img x.off 8
  let reg (n : Nat) : W64 := w64 (bytesAt img (x.off + 8 + 8 * n) 8)
  let on (v : W64) : Bool := fld v 1 2 != 0
  if x.len ≠ 1032 then some (tabDir img + 24 * x.idx + 16)
  else firstBad ((decide (2 ^ 48 ≤ mask), x.off) ::
    (List.range 64).map (fun n =>
      let v := reg n
      let sp := regSpan v
      (fld v 0 1 != 0 || fld v 4 8 != 0 || fld v 29 3 != 0 || fld v 37 3 != 0 || fld v 48 16 != 0 ||
        decide (5 < fld v 44 4) || decide (5 < fld v 40 4) ||
        (on v && (decide (fld v 32 5 < 12) || decide (27 < fld v 32 5) || sp.1 % sp.2 != 0 || decide (0x18000000 < sp.1 + sp.2) ||
          (List.range n).any fun m => on (reg m) && decide ((regSpan (reg m)).1 < sp.1 + sp.2) &&
            decide (sp.1 < (regSpan (reg m)).1 + (regSpan (reg m)).2))), x.off + 8 + 8 * n)) ++
    (List.range 64).map (fun n =>
      let v : W64 := w64 (bytesAt img (x.off + 520 + 8 * n) 8)
      let mode := fld v 8 2
      let g := reg (fld v 10 6)
      (fld v 0 8 != 0 || fld v 16 48 != 0 || (mode == 2 && fld g 40 4 != 5) || (mode == 3 && fld g 44 4 != 5) ||
        (decide (2 ≤ mode) && (decide (fld g 1 2 < 2) || !declared mask (regSpan g).1 (regSpan g).2)), x.off + 520 + 8 * n)))

/-- An image of a CORE_IMAGES section: where its header stands in the tablature, OFFSET, LENGTH and KIND (R316). -/
structure Img where
  at_ : Nat
  off : Nat
  len : Nat
  kind : Nat
  deriving DecidableEq, Repr

/-- The images from a position to the end of a section, at most `fuel` of them, and whether the section ends where its last image does. -/
def imagesFrom (img : List Byte) (stop : Nat) : Nat → Nat → List Img
  | 0, _ => []
  | n + 1, p =>
    if stop ≤ p then []
    else
      let x : Img := ⟨p, bytesAt img p 4, bytesAt img (p + 4) 4, bytesAt img (p + 8) 1⟩
      x :: imagesFrom img stop n (p + 16 + (x.len + 15) / 16 * 16)

/-- The images of a section. -/
def Sec.images (x : Sec) (img : List Byte) : List Img := imagesFrom img (x.off + x.len) (x.len / 16 + 1) x.off

/-- The alignment and size of an image's pieces (R146, R316). -/
def imgUnit (kind : Nat) : Nat := if kind = 2 then 128 else 64

/-- The fault in a CORE_IMAGES section (R316). -/
def badImages (img : List Byte) (x : Sec) : Option Nat :=
  let mask := layMask img x.index
  firstBad ((x.images img).flatMap fun i => [
    (decide (x.off + x.len < i.at_ + 16), i.at_), (i.off % imgUnit i.kind != 0 || !declared mask i.off i.len, i.at_),
    ((i.kind != 0 && i.len % imgUnit i.kind != 0) || decide (x.off + x.len < i.at_ + 16 + (i.len + 15) / 16 * 16), i.at_ + 4),
    (decide (3 < i.kind), i.at_ + 8), (bytesAt img (i.at_ + 9) 7 != 0, i.at_ + 9)])

/-- A set-up record's fields. -/
structure Setup where
  at_ : Nat
  kind : Nat
  core : Nat
  num : Nat
  mode : Nat
  val : Nat
  ext : Nat
  deriving DecidableEq, Repr

/-- The set-up records (R320). -/
def tabSetup (img : List Byte) : List Setup := match tabSec img 6 0xFFFF with
  | some x => (List.range (x.len / 16)).map fun i =>
    let p := x.off + 16 * i
    ⟨p, bytesAt img p 1, bytesAt img (p + 1) 1, bytesAt img (p + 2) 1, bytesAt img (p + 3) 1, bytesAt img (p + 4) 4, bytesAt img (p + 8) 4⟩
  | none => []

/-- Whether two spans of bytes meet. -/
def meets (a b : Nat × Nat) : Bool := decide (a.1 < b.1 + b.2) && decide (b.1 < a.1 + a.2)

/-- A queue of the set-up list that breaks R286. -/
def badQueues (img : List Byte) : Option (Nat × Nat) :=
  match tabSec img 6 0xFFFF with
  | none => none
  | some x =>
    let rs := tabSetup img
    (rs.findSome? fun r =>
      if r.kind ≠ 1 || tabCores img ≤ r.core then none
      else
        let sp := (r.val, 2 ^ r.mode)
        firstBad [
          (decide (r.mode < 12) || decide (26 < r.mode), r.at_ + 3),
          (r.val % 512 != 0 || !declared (layMask img r.core) r.val (2 ^ r.mode) ||
            ((List.range 64).any fun n => let v := layReg img r.core n; decide (2 ≤ fld v 1 2) && meets (regSpan v) sp) ||
            (rs.any fun y => y.kind == 1 && y.core == r.core && decide (y.at_ < r.at_) && meets (y.val, 2 ^ y.mode) sp), r.at_ + 4)]).map
      fun o => (x.idx, o)

/-- BAD_LAYOUT, in the order of the directory. -/
def badLayouts (img : List Byte) : Option (Nat × Nat) :=
  match (tabSecs img).findSome? fun x =>
      (if x.typ = 3 then badLayout img x else if x.typ = 2 then badImages img x else none).map fun o => (x.idx, o) with
  | some r => some r
  | none => badQueues img

/-- A machine whose site 0 has a core's declared segments powered, for the checks that depend on a descriptor's bytes and the layout alone. -/
def layoutState (mask : Nat) : State := State.reset.setReg (.site 0) 0x18500010 (w64 mask)

/-- BAD_TARGET as far as a mover descriptor's bytes decide it (R186). -/
def mvBytesTarget (d : Desc) : Bool :=
  (mvOp d == 1 || mvOp d == 2) &&
    ((mvOp d == 1 && mvWin d && (mvReduce d || decide (64 ≤ mvWindow d))) ||
      (if mvRemote d / 2 ^ 43 = 0xF8 then mvOp d == 2 || mvWin d else State.reset.mvBadTarget 0 d))

/-- The reason that the static checks of its engine give a descriptor (R324). -/
def staticReason (mask kind : Nat) (bytes : List Byte) : Option Nat :=
  let d : Desc := ⟨0, 0, bytes, false, 0⟩
  let s := layoutState mask
  lowestFault (if kind = 1 then s.meStatic 0 d else if kind = 2 then s.veStatic 0 d
    else s.mvStatic 0 d ++ [(0x20, mvBytesTarget d)])

/-- BAD_DESCRIPTOR: section, offset of the descriptor and the engine's reason. -/
def badDescriptor (img : List Byte) : Option (Nat × Nat × Nat) :=
  (tabSecs img).findSome? fun x =>
    if x.typ ≠ 2 then none
    else (x.images img).findSome? fun i =>
      if i.kind = 0 then none
      else (List.range (i.len / imgUnit i.kind)).findSome? fun j =>
        let p := i.at_ + 16 + imgUnit i.kind * j
        (staticReason (layMask img x.index) i.kind ((img.drop p).take (imgUnit i.kind))).map fun r => (x.idx, p, r)

/-! ## The slot program (R317-R319, R254) -/

/-- A slot program record. -/
structure SlotRec where
  at_ : Nat
  kind : Nat
  pairs : Nat
  src : Nat
  dst : Nat
  srcSb : Nat
  dstSb : Nat
  ctrl : Nat
  r : Nat
  rc : Nat
  mask : Nat
  deriving DecidableEq, Repr

/-- The row pair of a record. -/
def SlotRec.rowPair (x : SlotRec) : Nat := x.pairs % 4
/-- The column pair of a record. -/
def SlotRec.colPair (x : SlotRec) : Nat := x.pairs / 4 % 4
/-- MODE of a record. -/
def SlotRec.mode (x : SlotRec) : Nat := x.ctrl % 4
/-- The frame class of a record. -/
def SlotRec.cls (x : SlotRec) : Nat := x.ctrl / 16 % 4
/-- The bits of MASK. -/
def SlotRec.bits (x : SlotRec) : List Nat := (List.range 12).filter fun i => x.mask / 2 ^ i % 2 == 1

/-- The records of a tablature's slot program. -/
def tabSlots (img : List Byte) : List SlotRec := match tabSec img 5 0xFFFF with
  | some x => (List.range (x.len / 16)).map fun i =>
    let p := x.off + 16 * i
    let b (o n : Nat) := bytesAt img (p + o) n
    ⟨p, b 0 1, b 1 1, b 2 1, b 3 1, b 4 1, b 5 1, b 6 1, b 8 2, b 10 2, b 12 2⟩
  | none => []

/-- Whether a UNICAST record goes to another row. -/
def SlotRec.cross (x : SlotRec) (cols : Nat) : Bool := x.kind == 1 && x.src / cols != x.dst / cols

/-- Whether a record has a column leg. -/
def SlotRec.hasCol (x : SlotRec) (cols : Nat) : Bool := x.kind == 3 || x.cross cols

/-- The row course slots a record uses, as (relative row, row pair, slot) (R319). -/
def SlotRec.rowSlots (x : SlotRec) (cols : Nat) : List (Nat × Nat × Nat) :=
  match x.kind with
  | 3 => x.bits.map fun rr => (rr, x.rowPair, x.r)
  | 4 => [(x.dst / cols, x.rowPair, x.r), (x.dst / cols, x.rowPair, x.r + 1)]
  | _ => [(x.src / cols, x.rowPair, x.r)]

/-- The local slot at which a column course slot meets a row, toward greater positions or smaller (R253). -/
def colSlot (hop rc row : Nat) (down : Bool) : Nat := rc + hop * (if down then row + 1 else 12 - row)

/-- Whether a record's legs break R254: a turn too early, or a transfer of F slots or more, as computed for the origin row. -/
def SlotRec.badTiming (x : SlotRec) (img : List Byte) : Bool :=
  let f := tabF img
  let h := tabHop img
  let cols := tabCols img
  let row (rr : Nat) : Nat := tabOrigin img + rr
  if f ≤ 13 * h then true
  else if x.kind = 3 then
    x.bits.any fun rr =>
      let a := row (x.src / cols)
      let b := row rr
      let start := colSlot h x.rc a (decide (a ≤ b))
      decide (f ≤ (x.r + f * 4 - start % f) % f + 13 * h)
  else if x.cross cols then
    let a := row (x.src / cols)
    let b := row (x.dst / cols)
    let down := decide (a < b)
    let turn := colSlot h x.rc a down
    let arrive := colSlot h x.rc b down
    let dt := (turn + f * 4 - x.r % f) % f
    decide (dt < 13 * h + 2) || decide (f ≤ dt + (arrive - turn))
  else false

/-- The offset within the first field of a record that breaks R317-R319 or R254, given the records before it. -/
def SlotRec.bad (x : SlotRec) (img : List Byte) (before : List SlotRec) : Option Nat :=
  let n := tabCores img
  let cols := tabCols img
  let rows := tabRows img
  let col := x.hasCol cols
  let limit (v : Nat) : Bool := decide (tabF img ≤ v + tabShift img)
  firstBad [
    (x.kind == 0 || decide (4 < x.kind), 0),
    (decide (16 ≤ x.pairs) || x.rowPair == 3 || (col && x.colPair == 3), 1),
    (decide (n ≤ x.src) || (x.kind == 4 && x.src != 0), 2),
    ((match x.kind with
      | 2 => x.dst != 0
      | 3 => decide (cols ≤ x.dst)
      | _ => decide (n ≤ x.dst)), 3),
    (decide (63 < x.srcSb), 4), (decide (63 < x.dstSb), 5),
    (decide (64 ≤ x.ctrl) || x.ctrl / 4 % 4 != 0 || x.mode == 3 || ((x.mode != 0) != (x.kind == 4)), 6),
    (bytesAt img (x.at_ + 7) 1 != 0, 7),
    (limit (if x.kind = 4 then x.r + 1 else x.r) ||
      (x.rowSlots cols).any fun k => before.any fun y => (y.rowSlots cols).contains k, 8),
    ((if col then x.rc == 0xFFFF || limit x.rc || tabOrigin img == 0xFF ||
        (before.any fun y => y.hasCol cols && y.colPair == x.colPair && y.rc == x.rc) || x.badTiming img
      else x.rc != 0xFFFF || x.badTiming img), 10),
    (decide (2 ^ 12 ≤ x.mask) || (match x.kind with
      | 2 => x.bits.any fun c => decide (cols ≤ c)
      | 3 => x.bits.any fun rr => decide (rows ≤ rr)
      | 4 => x.bits.any (fun c => decide (cols ≤ c) || c == x.dst % cols) ||
        (if x.mode = 1 then decide (x.bits.length < 2) || decide (11 < x.bits.length) else x.bits.length != 2)
      | _ => false), 12),
    (bytesAt img (x.at_ + 14) 2 != 0, 14)]

/-- The first record of a list that breaks a rule, given those before it. -/
def badRecords (img : List Byte) : List SlotRec → List SlotRec → Option Nat
  | _, [] => none
  | before, x :: t => match x.bad img before with
    | some o => some (x.at_ + o)
    | none => badRecords img (before ++ [x]) t

/-- BAD_SLOT_PROGRAM. -/
def badSlots (img : List Byte) : Option (Nat × Nat) := match tabSec img 5 0xFFFF with
  | some x => if x.len % 16 ≠ 0 then some (x.idx, tabDir img + 24 * x.idx + 16)
    else (badRecords img [] (tabSlots img)).map fun o => (x.idx, o)
  | none => none

/-! ## Set-up, spill, replay and phases (R320-R323) -/

/-- The bytes that a kind of set-up record leaves unused. -/
def setupUnused (kind : Nat) : List Nat :=
  match kind with
  | 1 => [12, 13, 14, 15]
  | 2 => [3, 8, 9, 10, 11, 12, 13, 14, 15]
  | 3 => [12, 13, 14, 15]
  | _ => [1, 3, 8, 9, 10, 11, 12, 13, 14, 15]

/-- The first field of a set-up record that breaks R320, or that names what another record names. -/
def Setup.bad (r : Setup) (img : List Byte) (rs : List Setup) : Option Nat :=
  let n := tabCores img
  let twice := rs.any fun y => decide (y.at_ < r.at_) && y.kind == r.kind && y.core == r.core && y.num == r.num
  firstBad ([(r.kind == 0 || decide (4 < r.kind), r.at_)] ++
    (match r.kind with
      | 1 => [(decide (n ≤ r.core), r.at_ + 1), (decide (127 < r.num) || twice, r.at_ + 2)]
      | 2 => [(decide (n ≤ r.core) && r.core != 0xF0, r.at_ + 1), (if r.core = 0xF0 then r.num != 0 else twice, r.at_ + 2),
          (decide (n ≤ r.val % 256) || decide (2 ^ 15 ≤ r.val) ||
            !(rs.any fun y => y.kind == 1 && y.core == r.val % 256 && y.num == r.val / 256 % 128), r.at_ + 4)]
      | 3 => [(decide (n ≤ r.core), r.at_ + 1), (decide (63 < r.num) || twice, r.at_ + 2), (decide (1 < r.mode), r.at_ + 3),
          (r.val % 512 != 0 || !declared (layMask img r.core) r.val r.ext, r.at_ + 4), (r.ext == 0 || r.ext % 512 != 0, r.at_ + 8)]
      | _ => [(decide (31 < r.num) || twice, r.at_ + 2),
          (r.val / 2 ^ 16 % 256 == 0 || r.val / 2 ^ 24 == 0 || decide (tabRows img < r.val % 256 + r.val / 2 ^ 16 % 256) ||
            decide (tabCols img < r.val / 256 % 256 + r.val / 2 ^ 24), r.at_ + 4)]) ++
    (setupUnused r.kind).map fun b => (bytesAt img (r.at_ + b) 1 != 0, r.at_ + b))

/-- BAD_SETUP. -/
def badSetup (img : List Byte) : Option (Nat × Nat) := match tabSec img 6 0xFFFF with
  | some x => if x.len % 16 ≠ 0 then some (x.idx, tabDir img + 24 * x.idx + 16)
    else ((tabSetup img).findSome? fun r => r.bad img (tabSetup img)).map fun o => (x.idx, o)
  | none => none

/-- A spill extent: its place, STACK, USE, OFFSET and LENGTH (R321). -/
structure Extent where
  at_ : Nat
  stack : Nat
  use : Nat
  off : Nat
  len : Nat
  deriving DecidableEq, Repr

/-- The extents of the SPILL_LAYOUT section. -/
def tabExtents (img : List Byte) : List Extent := match tabSec img 7 0xFFFF with
  | some x => (List.range (x.len / 24)).map fun i =>
    let p := x.off + 24 * i
    ⟨p, bytesAt img p 1, bytesAt img (p + 1) 1, bytesAt img (p + 8) 8, bytesAt img (p + 16) 8⟩
  | none => []

/-- A replay object (R323). -/
structure RepObj where
  at_ : Nat
  core : Nat
  home : Nat
  len : Nat
  copy0 : Nat
  copy1 : Nat
  deriving DecidableEq, Repr

/-- The objects of the REPLAY section. -/
def tabReplay (img : List Byte) : List RepObj := match tabSec img 9 0xFFFF with
  | some x => (List.range (x.len / 32)).map fun i =>
    let p := x.off + 32 * i
    ⟨p, bytesAt img p 1, bytesAt img (p + 1) 1, bytesAt img (p + 4) 4, bytesAt img (p + 8) 8, bytesAt img (p + 16) 8⟩
  | none => []

/-- The data bytes of a stack (R367). -/
def stackBytes : Nat := 64000000000

/-- A spill extent that breaks R321. -/
def badExtents (img : List Byte) : Option (Nat × Nat) := match tabSec img 7 0xFFFF with
  | some x =>
    let es := tabExtents img
    if x.len % 24 ≠ 0 then some (x.idx, tabDir img + 24 * x.idx + 16)
    else (es.findSome? fun e => firstBad [
      (decide (27 < e.stack), e.at_), (decide (2 < e.use), e.at_ + 1), (bytesAt img (e.at_ + 2) 6 != 0, e.at_ + 2),
      (e.off % 4096 != 0 || (es.any fun y => decide (y.at_ < e.at_) && y.stack == e.stack && meets (y.off, y.len) (e.off, e.len)), e.at_ + 8),
      (e.len % 4096 != 0 || decide (stackBytes < e.off + e.len), e.at_ + 16)]).map fun o => (x.idx, o)
  | none => none

/-- The copies of a replay object as (home key, offset, length): a core's scratchpad or an extent. -/
def RepObj.copies (o : RepObj) : List (Nat × Nat × Nat) :=
  [o.copy0, o.copy1].map fun c => if o.home = 1 then (1000 + c / 2 ^ 40, c % 2 ^ 40, o.len) else (o.core, c, o.len)

/-- Whether a copy lies where R323 has it. -/
def RepObj.copyOk (o : RepObj) (img : List Byte) (c : Nat) : Bool :=
  if o.home = 1 then
    match (tabExtents img)[c / 2 ^ 40]? with
    | some e => e.use == 1 && decide (c % 2 ^ 40 + o.len ≤ e.len)
    | none => false
  else (List.range ((o.len + 511) / 512)).all fun i =>
    (List.range 64).any fun n =>
      let v := layReg img o.core n
      fld v 1 2 == 1 && bit v 3 && decide ((regSpan v).1 ≤ c + 512 * i) && decide (c + 512 * i + 512 ≤ (regSpan v).1 + (regSpan v).2)

/-- A replay object that breaks R323. -/
def badReplay (img : List Byte) : Option (Nat × Nat) := match tabSec img 9 0xFFFF with
  | some x =>
    let os := tabReplay img
    let clash (o : RepObj) (k : Nat) : Bool :=
      let me := o.copies.getD k (0, 0, 0)
      let others := (os.filter fun y => decide (y.at_ < o.at_)).flatMap RepObj.copies ++ o.copies.take k
      o.len != 0 && others.any fun y => y.1 == me.1 && meets y.2 me.2
    if x.len % 32 ≠ 0 then some (x.idx, tabDir img + 24 * x.idx + 16)
    else (os.findSome? fun o => firstBad [
      (decide (tabCores img ≤ o.core), o.at_), (decide (1 < o.home), o.at_ + 1), (bytesAt img (o.at_ + 2) 2 != 0, o.at_ + 2),
      (o.len % 512 != 0, o.at_ + 4), (!o.copyOk img o.copy0 || clash o 0, o.at_ + 8), (!o.copyOk img o.copy1 || clash o 1, o.at_ + 16),
      (bytesAt img (o.at_ + 24) 8 != 0, o.at_ + 24)]).map fun f => (x.idx, f)
  | none => none

/-- A phase of PHASE_POWER (R322): its place, frames, POWER in mW, PEAK_CORE in units of 0.1 W, and ACTIVITY. -/
structure Phase where
  at_ : Nat
  first : Nat
  last : Nat
  power : Nat
  peak : Nat
  act : Nat
  deriving DecidableEq, Repr

/-- The phases of a tablature. -/
def tabPhases (img : List Byte) : List Phase := match tabSec img 8 0xFFFF with
  | some x => (List.range (x.len / 16)).map fun i =>
    let p := x.off + 16 * i
    ⟨p, bytesAt img p 2, bytesAt img (p + 2) 2, bytesAt img (p + 4) 4, bytesAt img (p + 8) 2, bytesAt img (p + 10) 1⟩
  | none => []

/-- BAD_PHASES (R322). -/
def badPhases (img : List Byte) : Option (Nat × Nat) := match tabSec img 8 0xFFFF with
  | some x =>
    let ps := tabPhases img
    if x.len % 16 ≠ 0 || x.len = 0 || 4096 < x.len then some (x.idx, tabDir img + 24 * x.idx + 16)
    else match ((ps.zip (none :: ps.map some)).findSome? fun y =>
        let due := match y.2 with
          | some q => q.last + 1
          | none => 0
        firstBad [(y.1.first != due, y.1.at_), (decide (y.1.last < y.1.first) || decide (tabK img ≤ y.1.last), y.1.at_ + 2),
          (decide (16 ≤ y.1.act), y.1.at_ + 10), (bytesAt img (y.1.at_ + 11) 5 != 0, y.1.at_ + 11)]) with
      | some o => some (x.idx, o)
      | none => match ps.getLast? with
        | some p => if p.last + 1 ≠ tabK img then some (x.idx, p.at_ + 2) else none
        | none => none
  | none => none

/-- The contract fret of a relative core. -/
def tabFret (img : List Byte) (rel : Nat) : Nat := match tabSec img 4 0xFFFF with
  | some x => bytesAt img (x.off + rel) 1
  | none => 0

/-- FRET_TOO_HIGH. -/
def badFrets (img : List Byte) : Option (Nat × Nat) := match tabSec img 4 0xFFFF with
  | some x => (lowest (tabCores img) fun r => decide (fuseMax < tabFret img r)).map fun r => (x.idx, x.off + r)
  | none => none

/-! ## Loading (R324, R504, R567) -/

/-- The highest phase POWER, in mW, with the offset of its field. -/
def tabPower (img : List Byte) : Nat × Nat :=
  (tabPhases img).foldl (fun a p => if a.1 < p.power then (p.power, p.at_ + 4) else a) (0, 0)

/-- A refusal with a reason. -/
def refuseAt (code : Nat) (x : Option (Nat × Nat)) : Option TabRefusal := x.map fun y => ⟨code, y.1, y.2, 0⟩

/-- BAD_SIGNATURE and UNSIGNED (R315, R567): with no enrolment in force every signed tablature is refused with UNSIGNED; `keys` are the installed
tablature keys as (KEY_ID, key bytes). -/
def badSignature (img : List Byte) (enrolled required : Bool) (keys : List (Nat × List Byte)) : Option TabRefusal :=
  match tabSec img 0xF 0xFFFF with
  | some x =>
    if !tabSigned img then (if required then some ⟨0x04, 0xFFFF, 36, 0⟩ else none)
    else if !enrolled then some ⟨0x04, x.idx, x.off, 0⟩
    else if x.len = 104 && keys.any fun k => k.1 == bytesAt img x.off 8 && ecdsaOk k.2 (img.take x.off) ((img.drop (x.off + 8)).take 96) then none
    else some ⟨0x03, x.idx, x.off, 0⟩
  | none => if required then some ⟨0x04, 0xFFFF, 36, 0⟩ else none

/-- The first of two refusals. -/
def TabRefusal.first (a b : Option TabRefusal) : Option TabRefusal := match a with
  | some x => some x
  | none => b

/-- The refusal of a tablature at load, none when every check passes (R324). -/
def tabLoadRefusal (img : List Byte) (feature : Nat) (enrolled required : Bool) (keys : List (Nat × List Byte)) : Option TabRefusal :=
  [ (badHeader img).map fun o => ⟨0x01, 0xFFFF, o, 0⟩,
    refuseAt 0x02 (badDirectory img),
    badSignature img enrolled required keys,
    (if feature < bytesAt img 32 2 then some ⟨0x05, 0xFFFF, 32, 0⟩ else none),
    refuseAt 0x06 (badCode img),
    refuseAt 0x07 (badLayouts img),
    (badDescriptor img).map fun y => ⟨0x08, y.1, y.2.1, y.2.2⟩,
    refuseAt 0x09 (badSlots img),
    refuseAt 0x0A (badSetup img),
    refuseAt 0x0B (badExtents img),
    refuseAt 0x0B (badReplay img),
    (if tabLb img * 20 < tabK img * tabF img + 6000 then some ⟨0x0C, 0xFFFF, 64, 0⟩ else none),
    refuseAt 0x0D (badPhases img),
    refuseAt 0x0E (badFrets img) ].foldl TabRefusal.first none

/-- TABLATURE_REFUSED (R342): the id in two words, low first, reason, section and offset. -/
def State.tabRefused (s : State) (id : BitVec 128) (r : TabRefusal) : State :=
  s.event 0x7006 7 0xF0 0xFF 0xFF [fld id 0 64, fld id 64 64, r.code, r.sec, r.off]

end Sys2Proof.Machine
end

