-- ==== Sys2Proof/Machine/Expand.lean ====
section
/-! DEFINITION. The expansion of a slot program for a placement (R252, R253, R318), leases (R245, R246, R326), and writing both into the idle
banks (R233). -/

namespace Sys2Proof.Machine

/-- A slot entry at a stop (R234): the stop, course and local slot, and the entry's fields. -/
structure SlotPut where
  site : Fin 168
  course : Nat
  slot : Nat
  action : Nat
  opt : Bool
  index : Nat
  cls : Nat
  deriving DecidableEq, Repr

/-- What an expansion has produced so far: entries, the turn queues taken as (site, queue, slot of entering, slots until leaving), and the course
segments crossed as (course, row or column, from, after). -/
structure Expansion where
  puts : List SlotPut
  turns : List (Nat × Nat × Nat × Nat)
  legs : List (Nat × Nat × Nat × Nat)
  deriving DecidableEq, Repr

/-- What an expansion rests on: F, H, the lease base, the partition's columns, the site of each relative core, and the turn queues that other
partitions use as (site, queue). -/
structure ExpandCtx where
  f : Nat
  h : Nat
  base : Nat
  cols : Nat
  site : Nat → Option (Fin 168)
  taken : List (Nat × Nat)

/-- The slot, counted without wrapping, at which a course slot of a course meets position `a` (R232). -/
def ExpandCtx.at_ (x : ExpandCtx) (course r a : Nat) : Nat := r + x.base + x.h * (if courseUp course then a else 13 - a)

/-- One entry added. -/
def ExpandCtx.put (x : ExpandCtx) (e : Expansion) (p : Fin 168) (course r action : Nat) (opt : Bool) (index cls : Nat) : Expansion :=
  { e with puts := e.puts ++ [⟨p, course, x.at_ course r (coursePos p course) % x.f, action, opt, index, cls⟩] }

/-- A course segment added. -/
def Expansion.leg (e : Expansion) (course : Nat) (src dst : Fin 168) : Expansion :=
  { e with legs := e.legs ++ [(course, (if course < 6 then siteRow src else siteCol src), coursePos src course, coursePos dst course)] }

/-- The member of a row pair that runs from one column toward another (R220, R252). -/
def rowCourse (pair a b : Nat) : Nat := if a < b then pair else pair + 3

/-- The member of a column pair that runs from one row toward another. -/
def colCourse (pair a b : Nat) : Nat := 6 + (if a < b then pair else pair + 3)

/-- Whether two transfers through one turn queue keep their order: entering slot and slots until leaving, modulo F. -/
def turnsAgree (f : Nat) (a b : Nat × Nat) : Bool :=
  let d := (b.1 + f - a.1 % f) % f
  d != 0 && decide (a.2 < d + b.2) && decide (d + b.2 < a.2 + f)

/-- The turn queue for a transfer at a stop: the lowest that no other partition uses there and whose transfers keep their order with this one,
else one by count (log entry 19). -/
def ExpandCtx.queueFor (x : ExpandCtx) (e : Expansion) (p : Fin 168) (enter wait : Nat) : Nat :=
  let here (q : Nat) := e.turns.filter fun t => t.1 == p.val && t.2.1 == q
  match lowest 16 fun q => !x.taken.contains (p.val, q) && (here q).all fun t => turnsAgree x.f t.2.2 (enter, wait) with
  | some q => q
  | none => (e.turns.filter fun t => t.1 == p.val).length % 16

/-- A turn from one course to another at a stop: into a queue with `action` 5 TURN or 3 DROP_CONTINUE, and out by TURN_IN (R236, R252). -/
def ExpandCtx.turn (x : ExpandCtx) (e : Expansion) (p : Fin 168) (action courseIn rIn courseOut rOut cls : Nat) : Expansion :=
  let enter := x.at_ courseIn rIn (coursePos p courseIn)
  let leave := x.at_ courseOut rOut (coursePos p courseOut)
  let wait := (leave + 4 * x.f - enter % x.f) % x.f
  let q := x.queueFor e p (enter % x.f) wait
  let e := { e with turns := e.turns ++ [(p.val, q, enter % x.f, wait)] }
  x.put (x.put e p courseIn rIn action (action == 3) q cls) p courseOut rOut 6 false q cls

/-- UNICAST (R252). -/
def ExpandCtx.unicast (x : ExpandCtx) (e : Expansion) (k : SlotRec) (src dst : Fin 168) : Expansion :=
  let n := rowCourse k.rowPair (siteCol src) (siteCol dst)
  if siteRow src = siteRow dst then
    (if src = dst then e
     else (x.put (x.put e src n k.r 1 false k.srcSb k.cls) dst n k.r 2 false k.dstSb k.cls).leg n src dst)
  else
    let m := colCourse k.colPair (siteRow src) (siteRow dst)
    if siteCol src = siteCol dst then
      (x.put (x.put e src m k.rc 1 false k.srcSb k.cls) dst m k.rc 2 false k.dstSb k.cls).leg m src dst
    else
      let t := siteAt (siteRow src) (siteCol dst)
      let e := x.turn (x.put e src n k.r 1 false k.srcSb k.cls) t 5 n k.r m k.rc k.cls
      ((x.put e dst m k.rc 2 false k.dstSb k.cls).leg n src t).leg m t dst

/-- INJECT entries of one flit on several courses in the order of their slots, each but the last with KEEP (R252). -/
def ExpandCtx.injects (x : ExpandCtx) (e : Expansion) (p : Fin 168) (sb cls : Nat) : List (Nat × Nat) → Expansion
  | [] => e
  | [a] => x.put e p a.1 a.2 1 false sb cls
  | a :: t => ExpandCtx.injects x (x.put e p a.1 a.2 1 true sb cls) p sb cls t

/-- ROW_MCAST (R252). -/
def ExpandCtx.rowMcast (x : ExpandCtx) (e : Expansion) (k : SlotRec) (src : Fin 168) (dsts : List (Fin 168)) : Expansion :=
  let a := siteCol src
  let east := if dsts.any fun d => decide (a < siteCol d) then [(k.rowPair, k.r)] else []
  let west := if dsts.any fun d => decide (siteCol d < a) then [(k.rowPair + 3, k.r)] else []
  let e := x.injects e src k.srcSb k.cls (if 2 * a < 13 then east ++ west else west ++ east)
  (dsts.filter fun d => d != src).foldl (fun e d =>
    let n := rowCourse k.rowPair a (siteCol d)
    (x.put e d n k.r 3 false k.dstSb k.cls).leg n src d) e

/-- COL_MCAST (R252): a destination in the source's own row is reached by an INJECT on the row course, after those on the column course. -/
def ExpandCtx.colMcast (x : ExpandCtx) (e : Expansion) (k : SlotRec) (src : Fin 168) (dsts : List (Fin 168)) : Expansion :=
  let a := siteRow src
  let down := if dsts.any fun d => decide (a < siteRow d) then [(6 + k.colPair, k.rc)] else []
  let up := if dsts.any fun d => decide (siteRow d < a) then [(9 + k.colPair, k.rc)] else []
  let own := (dsts.filter fun d => siteRow d == a && d != src).map fun d => (rowCourse k.rowPair (siteCol src) (siteCol d), k.r)
  let e := x.injects e src k.srcSb k.cls ((if 2 * (a + 1) < 13 then down ++ up else up ++ down) ++ own)
  (dsts.filter fun d => d != src).foldl (fun e d =>
    let n := rowCourse k.rowPair (siteCol src) (siteCol d)
    if siteRow d = a then (x.put e d n k.r 2 false k.dstSb k.cls).leg n src d
    else
      let m := colCourse k.colPair a (siteRow d)
      let t := siteAt (siteRow d) (siteCol src)
      if t = d then (x.put e d m k.rc 3 false k.dstSb k.cls).leg m src d
      else
        let e := x.turn e t 3 m k.rc n k.r k.cls
        ((x.put e d n k.r 2 false k.dstSb k.cls).leg m src t).leg n t d) e

/-- One flit of a ROW_REDUCE in a course slot: the contributors from the farthest inward, the first injecting, and the extraction (R318). -/
def ExpandCtx.reduceLeg (x : ExpandCtx) (e : Expansion) (k : SlotRec) (r : Nat) (dst : Fin 168) : List (Fin 168) → Expansion
  | [] => e
  | far :: rest =>
    let n := rowCourse k.rowPair (siteCol far) (siteCol dst)
    let e := x.put e far n r 1 false k.srcSb k.cls
    let e := rest.foldl (fun e c => x.put e c n r 4 (k.mode == 1) k.srcSb k.cls) e
    (x.put e dst n r 2 false k.dstSb k.cls).leg n far dst

/-- ROW_REDUCE (R318). `from_` are the contributors' sites in ascending column. -/
def ExpandCtx.rowReduce (x : ExpandCtx) (e : Expansion) (k : SlotRec) (dst : Fin 168) (from_ : List (Fin 168)) : Expansion :=
  let west := from_.filter fun c => decide (siteCol c < siteCol dst)
  let east := (from_.filter fun c => decide (siteCol dst < siteCol c)).reverse
  if west.isEmpty || east.isEmpty then
    let side := west ++ east
    x.reduceLeg (x.reduceLeg e k k.r dst side.dropLast) k (k.r + 1) dst (side.drop (side.length - 1))
  else x.reduceLeg (x.reduceLeg e k k.r dst west) k k.r dst east

/-- Sites of a list in ascending physical column. -/
def byColumn (l : List (Fin 168)) : List (Fin 168) := (List.range 14).flatMap fun c => l.filter fun p => siteCol p == c

/-- The expansion of one record. -/
def ExpandCtx.record (x : ExpandCtx) (e : Expansion) (k : SlotRec) : Expansion :=
  let sites (f : Nat → Nat) : List (Fin 168) := k.bits.filterMap fun i => x.site (f i)
  if k.kind = 4 then
    match x.site k.dst with
    | some d => x.rowReduce e k d (byColumn (sites fun c => k.dst / x.cols * x.cols + c))
    | none => e
  else match x.site k.src with
    | none => e
    | some p =>
      if k.kind = 1 then (match x.site k.dst with
        | some d => x.unicast e k p d
        | none => e)
      else if k.kind = 2 then x.rowMcast e k p (sites fun c => k.src / x.cols * x.cols + c)
      else x.colMcast e k p (sites fun rr => rr * x.cols + k.dst)

/-! ## Leases (R245, R246, R326) -/

/-- Whether a partition's leases stand on a bundle of a stop: bundle 0 its row, 1 its column. -/
def Partition.leasesAt (x : Partition) (p : Fin 168) (bundle : Nat) : Bool :=
  if bundle = 0 then decide (x.row0 ≤ siteRow p) && decide (siteRow p < x.row0 + x.rows) else decide (1 < x.rows)

/-- A partition's lease on a pair. -/
def Partition.leaseLen (x : Partition) (pair : Nat) : Nat := x.lease.getD pair 0

/-- The existing partitions with their tags, in tag order. -/
def State.partList (s : State) : List (Nat × Partition) := s.parts.filterMap fun e => e.2.map fun x => (e.1, x)

/-- The lease ranges of a stop's bundle and pair as LEASEk_n images, in tag order. -/
def State.leaseRanges (s : State) (p : Fin 168) (bundle pair : Nat) : List Nat :=
  (s.partList.filter fun y => y.2.leasesAt p bundle && y.2.leaseLen pair != 0).map fun y =>
    2 ^ 63 + y.1 * 2 ^ 32 + (y.2.base + y.2.leaseLen pair - 1) * 2 ^ 16 + y.2.base

/-- The tag whose lease holds a course slot of a course at a stop. -/
def State.leaseHolder (s : State) (p : Fin 168) (c r : Nat) : Option Nat :=
  (s.partList.find? fun y => y.2.leasesAt p (c / 6) && decide (y.2.base ≤ r) && decide (r < y.2.base + y.2.leaseLen (c % 3))).map Prod.fst

/-! ## Writing the idle banks (R233, R327 step 4) -/

/-- F as FRAME_LEN has it: the length in force, or that from the next frame mark. -/
def State.panelF (s : State) : Nat := s.rf (.site 0) 0x18700008 0 14

/-- The panel's hop length (R229). -/
def State.panelHop (s : State) : Nat := s.hopLen 0

/-- Whether a bank switch is pending at a stop. -/
def State.switchPending (s : State) (p : Fin 168) : Bool := s.reg (.site p) 0x18700018 != BitVec.allOnes 64

/-- The offset within the banks of a register of a slot or lease bank: bank, and the offset in bank 0. -/
def bankOf (off : Nat) : Option (Nat × Nat) :=
  if 0x18740000 ≤ off ∧ off < 0x187A0000 then some ((off - 0x18740000) / 0x30000, 0x18740000 + (off - 0x18740000) % 0x30000)
  else if 0x18701000 ≤ off ∧ off < 0x18701800 then some ((off - 0x18701000) / 0x400, 0x18701000 + (off - 0x18701000) % 0x400)
  else none

/-- The offset of a bank register in a bank. -/
def inBank (bank off0 : Nat) : Nat := off0 + bank * (if off0 < 0x18740000 then 0x400 else 0x30000)

/-- A stop's idle bank made equal to its active one, where no switch is pending. -/
def State.copyBank (s : State) (p : Fin 168) : State :=
  if s.switchPending p then s
  else
    let act := s.slotBank p
    let mine := s.regs.filter fun e => e.1 / 2 ^ 29 == p.val && (bankOf (e.1 % 2 ^ 29)).isSome
    let s := { s with regs := s.regs.filter fun e => !(e.1 / 2 ^ 29 == p.val && (bankOf (e.1 % 2 ^ 29)).any fun b => b.1 != act) }
    mine.foldl (fun st e => match bankOf (e.1 % 2 ^ 29) with
      | some b => if b.1 = act then st.setReg (.site p) (inBank (1 - act) b.2) e.2 else st
      | none => st) s

/-- A stop's idle lease bank written from the partitions. -/
def State.writeLeases (s : State) (p : Fin 168) : State :=
  let bank := 1 - s.slotBank p
  (List.range 6).foldl (fun st bp =>
    let ranges := st.leaseRanges p (bp / 3) (bp % 3)
    (List.range 16).foldl (fun st i =>
      st.setReg (.site p) (0x18701000 + 0x400 * bank + 8 * (bp / 3 * 48 + bp % 3 * 16 + i)) (w64 (ranges.getD i 0))) st) s

/-- The entries of a slot register that stay: those of other bound partitions. -/
def State.keptEntries (s : State) (p : Fin 168) (tag c j : Nat) (v : W64) : W64 :=
  let f := s.panelF
  (List.range 4).foldl (fun v i =>
    let a := coursePos p c
    let d := s.panelHop * (if courseUp c then a else 13 - a)
    let r := (4 * j + i + 13 * f - d % f) % f
    let keep : Bool := match s.leaseHolder p c r with
      | some t => t != tag && (s.part t).any fun x => x.tab.isSome
      | none => false
    if keep then v else setFld v (16 * i) 16 0) v

/-- A stop's idle slot tables without the entries of a partition or of any that is not bound. -/
def State.clearEntries (s : State) (p : Fin 168) (tag : Nat) : State :=
  let idle := 1 - s.slotBank p
  (s.regs.filter fun e => e.1 / 2 ^ 29 == p.val && decide (0x18740000 ≤ e.1 % 2 ^ 29) && decide (e.1 % 2 ^ 29 < 0x187A0000)).foldl
    (fun st e =>
      let o := e.1 % 2 ^ 29 - 0x18740000
      if o / 0x30000 = idle then
        st.setReg (.site p) (0x18740000 + o) (st.keptEntries p tag (o % 0x30000 / 0x4000) (o % 0x4000 / 8) e.2)
      else st) s

/-- One entry written into its stop's idle bank. -/
def State.putEntry (s : State) (x : SlotPut) : State :=
  s.setRf (.site x.site) (0x18740000 + 0x30000 * (1 - s.slotBank x.site) + 0x4000 * x.course + 8 * (x.slot / 4)) (16 * (x.slot % 4)) 16
    (x.action * 2 ^ 13 + b01 x.opt * 2 ^ 12 + x.index * 2 ^ 6 + x.cls * 2 ^ 4)

/-- The turn queues that the entries of a stop's idle bank use, as (site, queue). -/
def State.usedQueues (s : State) : List (Nat × Nat) :=
  s.regs.flatMap fun e =>
    let o := e.1 % 2 ^ 29
    if e.1 / 2 ^ 29 < 168 && decide (0x18740000 ≤ o) && decide (o < 0x187A0000) &&
        (o - 0x18740000) / 0x30000 != s.slotBank (Fin.ofNat 168 (e.1 / 2 ^ 29)) then
      ((List.range 4).filter fun i => fld e.2 (16 * i + 13) 3 == 5 || (fld e.2 (16 * i + 13) 3 == 3 && bit e.2 (16 * i + 12))).map
        fun i => (e.1 / 2 ^ 29, fld e.2 (16 * i + 6) 4)
    else []

/-- The switch of the banks at every stop with the next frame mark (R233). -/
def State.armSwitch (s : State) : State :=
  (List.finRange 168).foldl (fun st p => st.setReg (.site p) 0x18700018 (st.frameCount + 1)) s

/-- What the expansion of a partition's slot program rests on. -/
def State.expandCtx (s : State) (x : Partition) (f : Nat) : ExpandCtx :=
  { f := f, h := s.panelHop, base := x.base, cols := x.cols, taken := s.usedQueues,
    site := fun rel => match x.lcids[rel]? with
      | some l => s.siteOf l
      | none => none }

/-- The expansion of a tablature's slot program for a partition (R252). -/
def State.expansion (s : State) (x : Partition) (img : List Byte) (f : Nat) : Expansion :=
  (tabSlots img).foldl (fun e k => (s.expandCtx x f).record e k) ⟨[], [], []⟩

/-- Whether every scheduled course that an expansion crosses is usable where it is crossed (R223, R324 DERATED). -/
def State.legsUp (s : State) (e : Expansion) : Bool :=
  e.legs.all fun l => (List.range 14).all fun pos =>
    let crossed := if courseUp l.1 then decide (l.2.2.1 < pos) && decide (pos ≤ l.2.2.2) else decide (pos < l.2.2.1) && decide (l.2.2.2 ≤ pos)
    !crossed || s.rf (.site (if l.1 < 6 then siteAt l.2.1 pos else siteAt (pos - 1) l.2.1)) 0x18700000 (2 + l.1) 1 == 1

/-- The idle banks written after a partition's leases, binding or placement has changed: its entries anew where it is bound, everyone's leases,
and the switch (R233, R246, R252). -/
def State.writeBanks (s : State) (tag : Nat) : State :=
  let s := (List.finRange 168).foldl (fun st p => ((st.copyBank p).clearEntries p tag).writeLeases p) s
  let s := match s.part tag with
    | some x => (match s.tabOf x with
        | some t => (s.expansion x t.image s.panelF).puts.foldl State.putEntry s
        | none => s)
    | none => s
  s.armSwitch

end Sys2Proof.Machine
end

