-- ==== Sys2Proof/Machine/Clocks.lean ====
section
/-! DEFINITION. Clocks and frets (R422-R438), the ceilings and targets that move them (R464, R465), and the damper with its hold and ceiling
(R434, R435, R471, R472). A fret change's hold boundary and stop are one row, FRET_SWITCH, so STOPPED is never seen set. -/

namespace Sys2Proof.Machine

/-! ## Regions (R23) -/

/-- The power region of a site. -/
def powerRegion (p : Fin 168) : Fin 42 := Fin.ofNat 42 (siteRow p / 2 * 7 + siteCol p / 2)

/-- The sites of a region: north-west, north-east, south-west, south-east. -/
def regionSites (g : Fin 42) : List (Fin 168) :=
  let r := g.val / 7 * 2
  let c := g.val % 7 * 2
  [siteAt r c, siteAt r (c + 1), siteAt (r + 1) c, siteAt (r + 1) (c + 1)]

/-- A region's regulator and governor state. -/
def State.region (s : State) (g : Fin 42) : RegionSt := Sparse.get RegionSt.init s.regions g.val

/-- The state with a region's changed. -/
def State.updRegion (s : State) (g : Fin 42) (f : RegionSt → RegionSt) : State :=
  { s with regions := Sparse.put RegionSt.init s.regions g.val (f (s.region g)) }

/-- The state with the cap controller's changed. -/
def State.updPower (s : State) (f : PowerSt → PowerSt) : State := { s with power := f s.power }

/-- REGION_CEILg. -/
def ceilOff (g : Fin 42) : Nat := 0x00111000 + 8 * g.val

/-- The core rail of a region is on (R461). -/
def State.railOn (s : State) (g : Fin 42) : Bool := s.rf (.gov g) 0 0 2 == 1

/-! ## Clock control of a core (R428-R433) -/

/-- Clock control of a site. -/
def State.clk (s : State) (p : Fin 168) : ClkSt := (s.site p).clk

/-- The state with a site's clock control changed. -/
def State.updClk (s : State) (p : Fin 168) (f : ClkSt → ClkSt) : State := s.updSite p fun x => { x with clk := f x.clk }

/-- A bit or field of CLK_STATUS. -/
def State.clkBit (s : State) (p : Fin 168) (b : Nat) : Bool := s.rf (.site p) 0x18600000 b 1 == 1

/-- CLK_STATUS with a bit set to a value. -/
def State.setClk (s : State) (p : Fin 168) (b : Nat) (v : Bool) : State := s.setRf (.site p) 0x18600000 b 1 (b01 v)

/-- FRET_NOW. -/
def State.fretNow (s : State) (p : Fin 168) : Nat := s.rf (.site p) 0x18600000 12 4

/-- The effective fret of a core (R428). -/
def State.effFret (s : State) (p : Fin 168) : Nat :=
  min (min (s.rf (.site p) 0x18600008 0 4) (s.rf (.site p) 0x18600010 0 4)) (min (s.rf (.site p) 0x18600010 8 4) (s.rf (.site p) 0x18600010 16 4))

/-- Whether a core's clock runs: its region's rail is on and the core is not OFF. -/
def State.clocked (s : State) (p : Fin 168) : Bool := s.railOn (powerRegion p) && s.coreState p != 0

/-- Rail voltage by fret in mV (R430). -/
def fretMV (f : Nat) : Nat :=
  ([600, 620, 640, 660, 680, 700, 720, 740, 760, 780, 800, 810, 820, 830, 840, 850] : List Nat).getD f 850

/-- The frequency of a fret in MHz, by a site's fret table (R427). -/
def State.fretFreq (s : State) (p : Fin 168) (f : Nat) : Nat := s.rf (.site p) (0x18600100 + 8 * f) 0 11

/-- The set point a region's core rail is to have (R430). -/
def State.railGoal (s : State) (g : Fin 42) : Nat :=
  let fret (p : Fin 168) : Nat := if s.clocked p then max (max (s.fretNow p) ((s.clk p).target.getD 0)) (s.clk p).before else 0
  min 900 (max 600 (fretMV (maxOf ((regionSites g).map fret)) - s.rf .mgmt (0x00133000 + 8 * g.val) 0 6))

/-- Whether a region's damper holds its cores: DROOP is asserted or the hold runs (R471). -/
def State.damperHolds (s : State) (g : Fin 42) : Bool := s.rf (.gov g) 0 3 1 == 1 || (s.region g).holdFrom.isSome

/-- The fret that a site's PLL is locked at. -/
def ClkSt.pllFret (x : ClkSt) (pllB : Bool) : Option Nat := if pllB then x.fretB else x.fretA

/-- Clock control with a PLL locked at a fret, or unlocked. -/
def ClkSt.setPll (x : ClkSt) (pllB : Bool) (f : Option Nat) : ClkSt := if pllB then { x with fretB := f } else { x with fretA := f }

/-- The state with a PLL of a site locked at a fret, or unlocked. -/
def State.setPll (s : State) (p : Fin 168) (pllB : Bool) (f : Option Nat) : State :=
  (s.updClk p fun x => x.setPll pllB f).setClk p (if pllB then 7 else 6) f.isSome

/-- Whether PLL B is the live one. -/
def State.livePll (s : State) (p : Fin 168) : Bool := s.clkBit p 5

/-- The PLL that a change to a fret is to use: from the damper source one already locked there, else the idle one (R432). -/
def State.pllFor (s : State) (p : Fin 168) (f : Nat) : Bool :=
  if s.clkBit p 4 && (s.clk p).pllFret (s.livePll p) == some f then s.livePll p else !s.livePll p

/-- A core starts or retargets a change of fret (R431-R433). -/
def State.startChange (s : State) (p : Fin 168) (f : Nat) : State :=
  let s := (s.updClk p fun x => { x with target := some f }).setClk p 0 true
  if f = 0 then (s.setClk p 2 false).setClk p 3 false
  else
    let s := if (s.clk p).pllFret (s.pllFor p f) = some f then s.setClk p 2 false
      else (s.setPll p (s.pllFor p f) none).setClk p 2 true
    s.setClk p 3 (decide ((s.region (powerRegion p)).setPoint < s.railGoal (powerRegion p)))

/-- The clock control moves a core toward its effective fret whenever that changes (R428), but not while the damper holds (R471). -/
def State.clockEval (s : State) (p : Fin 168) : State :=
  let e := s.effFret p
  if !s.clocked p || s.damperHolds (powerRegion p) then s
  else match (s.clk p).target with
    | some f => if f = e then s else s.startChange p e
    | none => if e = s.fretNow p && (e == 0 || !s.clkBit p 4) then s else s.startChange p e

/-- DAMPER_TICKS takes the time since the core came onto the damper source. -/
def State.leaveDamper (s : State) (p : Fin 168) : State :=
  match (s.clk p).damperSince with
  | some t => (s.count64 (.site p) 0x18600028 (s.time - t)).updClk p fun x => { x with damperSince := none }
  | none => s

/-- A core switches to the region's damper source at once (R434-R436): a change in progress is cancelled and, where `preempt`, reported. -/
def State.toDamper (s : State) (p : Fin 168) (preempt : Bool) : State :=
  let cancelled := (s.clk p).target.isSome
  let s := if cancelled && preempt then (s.count32 (.site p) 0x18600038).count32 .mgmt 0x00110188 else s
  let on := s.clkBit p 4
  let s := if on then s else (s.count32 (.site p) 0x18600030).updClk p fun x => { x with before := s.fretNow p, damperSince := some s.time }
  let s := (s.updClk p fun x => { x with target := none }).setRf (.site p) 0x18600000 0 5 0x10
  s.setRf (.site p) 0x18600000 12 4 0

/-! ## Ceilings and targets (R464, R465) -/

/-- The contract fret of the core on a site, none where no bound partition holds it. -/
def State.contractFret (s : State) (p : Fin 168) : Option Nat :=
  match s.part (s.partOf p) with
  | some x => (match s.tabOf x with
      | some t => some (tabFret t.image (x.rel (s.lcidOf p)))
      | none => none)
  | none => none

/-- The ceiling of a core: the lowest of its sources (R464). -/
def State.ceiling (s : State) (p : Fin 168) : Nat :=
  let v := s.reg .mgmt (ceilOff (powerRegion p))
  if s.power.inputF0 || s.power.coolF0 then 0
  else min (min (s.clk p).capCeil (fld v 16 4)) (min (fld v 12 4) (fld v 8 4))

/-- The governor writes the combined ceiling of each of a list of cores (R428, R464). -/
def State.setCeilings (s : State) (ps : List (Fin 168)) : State :=
  ps.foldl (fun st p => (st.setRf (.site p) 0x18600010 8 4 (st.ceiling p)).clockEval p) s

/-- Every core's ceiling is written. -/
def State.allCeilings (s : State) : State := s.setCeilings (List.finRange 168)

/-- A region's cores' ceilings are written; a rise is noted for the rise condition (R480). -/
def State.regionCeilings (s : State) (g : Fin 42) (field v : Nat) : State :=
  let rose := decide (s.rf .mgmt (ceilOff g) field 4 < v)
  let s := s.setRf .mgmt (ceilOff g) field 4 v
  let s := if rose then s.updRegion g fun x => { x with roseAt := some s.time } else s
  s.setCeilings (regionSites g)

/-- The fret the governor asks for at a site (R465). -/
def State.targetOf (s : State) (p : Fin 168) : Nat :=
  let own (q : Fin 168) : Nat := match s.contractFret q, s.part (s.partOf q) with
    | some c, some x =>
      if x.armed then (let h := (s.cc q).fretHint.toNat; if h < 16 && c < h then h else c)
      else if x.warmAt.isSome then c else 0
    | _, _ => 0
  match (s.site p).symp with
  | some y => min (s.rf (.site p) 0x18600010 0 4) (own (Fin.ofNat 168 y.work))
  | none => own p

/-- The governor writes TARGET at each of a list of cores. -/
def State.setTargets (s : State) (ps : List (Fin 168)) : State :=
  ps.foldl (fun st p => (st.setRf (.site p) 0x18600008 0 4 (st.targetOf p)).clockEval p) s

/-! ## The rows of the clock control -/

/-- CLK_TARGET_WRITE (R428). -/
def execClkTargetWrite (p : Site) (fret : BitVec 4) (s : State) : Host.Outcome State Fault Refusal :=
  .next ((s.setRf (.site p) 0x18600008 0 4 fret.toNat).clockEval p)

/-- CLK_LIMITS_WRITE (R428). -/
def execClkLimitsWrite (p : Site) (capo ceiling : BitVec 4) (s : State) : Host.Outcome State Fault Refusal :=
  .next (((s.setRf (.site p) 0x18600010 0 4 capo.toNat).setRf (.site p) 0x18600010 8 4 ceiling.toNat).clockEval p)

/-- RAIL_SET_POINT_REACHED (R430, R431 steps 2 and 6). -/
def execRailSetPointReached (g : Fin 42) (s : State) : Host.Outcome State Fault Refusal :=
  .next (if s.railOn g then
    let s := s.updRegion g fun x => { x with setPoint := s.railGoal g }
    (regionSites g).foldl (fun st p => st.setClk p 3 false) s
  else s)

/-- IDLE_PLL_LOCKED (R431 step 3). -/
def execIdlePllLocked (p : Site) (s : State) : Host.Outcome State Fault Refusal :=
  .next (match (s.clk p).target with
    | some f => if s.clkBit p 2 then (s.setPll p (s.pllFor p f) (some f)).setClk p 2 false else s
    | none => s)

/-- FRET_SWITCH (R431 steps 4 and 5, R433): with the rail up and the PLL locked the clock moves to the target of the change; an effective fret
that has arisen since starts a new one. -/
def execFretSwitch (p : Site) (s : State) : Host.Outcome State Fault Refusal :=
  .next (match (s.clk p).target with
    | some f =>
      if s.clkBit p 2 || s.clkBit p 3 || !s.clocked p then s
      else
        let pll := s.pllFor p f
        let s := if f = 0 then (if s.clkBit p 4 then s else s.updClk p fun x => { x with damperSince := some s.time })
          else (s.leaveDamper p).setClk p 5 pll
        let s := (s.setClk p 4 (f = 0)).setClk p 0 false
        let s := (s.updClk p fun x => { x with target := none, before := 0 }).setRf (.site p) 0x18600000 12 4 f
        (s.count64 (.site p) 0x18600020 1).clockEval p
    | none => s)

/-- The contract fret below which a region's damper ceiling does not fall (R472). -/
def State.damperFloor (s : State) (g : Fin 42) : Nat := maxOf ((regionSites g).map fun p => (s.contractFret p).getD 0)

/-- A DROOP assertion counted in the window of 1 s, and the rule of R472 above DAMPER_LIMIT. -/
def State.countDroop (s : State) (g : Fin 42) : State :=
  let times := s.time :: (s.region g).droops.filter fun t => decide (s.time < t + 10 ^ 8)
  let n := times.length
  let s := s.updRegion g fun x => { x with droops := times, droopAt := s.time }
  let s := s.setRf .mgmt (ceilOff g) 0 4 (min 15 n)
  if n ≤ s.rf .mgmt 0x00110010 8 4 then s
  else
    let floor := s.damperFloor g
    let s := s.count32 .mgmt 0x00110190
    if s.rf .mgmt (ceilOff g) 12 4 ≤ floor then s.event 0x4022 3 g.val 0xFF 0xFF [g.val, floor, n]
    else
      let c := max floor (maxOf ((regionSites g).map s.effFret) - 1)
      (s.regionCeilings g 12 c).event 0x4021 3 g.val 0xFF 0xFF [g.val, c, n]

/-- DROOP_ASSERT (R434, R435, R454, R472). -/
def execDroopAssert (g : Fin 42) (s : State) : Host.Outcome State Fault Refusal :=
  .next (if s.railOn g && s.rf (.gov g) 0 3 1 == 0 then
    let s := (s.setRf (.gov g) 0 3 1 1).count32 (.gov g) 0x0100
    let s := (regionSites g).foldl (fun st p => if st.clocked p then st.toDamper p true else st) s
    (s.updRegion g fun x => { x with holdFrom := none }).countDroop g
  else s)

/-- DROOP_DEASSERT (R454, R471): the hold runs from now. -/
def execDroopDeassert (g : Fin 42) (s : State) : Host.Outcome State Fault Refusal :=
  .next (if s.rf (.gov g) 0 3 1 == 1 then
    (s.setRf (.gov g) 0 3 1 0).updRegion g fun x => { x with holdFrom := some s.time }
  else s)

/-- DAMPER_HOLD_EXPIRY (R471): each core starts a change to its effective fret. -/
def execDamperHoldExpiry (g : Fin 42) (s : State) : Host.Outcome State Fault Refusal :=
  .next (match (s.region g).holdFrom with
    | some t =>
      if t + 100 * s.rf .mgmt 0x00110010 16 10 ≤ s.time then
        (regionSites g).foldl (fun st p => st.clockEval p) (s.updRegion g fun x => { x with holdFrom := none })
      else s
    | none => s)

/-- DAMPER_RECOVER_EXPIRY (R472): the damper ceiling rises by one fret. -/
def execDamperRecoverExpiry (g : Fin 42) (s : State) : Host.Outcome State Fault Refusal :=
  let c := s.rf .mgmt (ceilOff g) 12 4
  .next (if c < 15 && decide ((s.region g).droopAt + s.rf .mgmt 0x00110010 0 8 * 10 ^ 8 ≤ s.time) then
    (s.regionCeilings g 12 (c + 1)).updRegion g fun x => { x with droopAt := s.time }
  else s)

/-- PLL_UNLOCK (R436): a live PLL that loses lock puts the core on the damper source, and the core changes to its effective fret on the other; a
site that has lost both within one hour is retired. -/
def execPllUnlock (p : Site) (pllB : Bool) (s : State) : Host.Outcome State Fault Refusal :=
  let live := s.livePll p == pllB && !s.clkBit p 4
  let fret := s.fretNow p
  let other := if pllB then (s.clk p).unlockA else (s.clk p).unlockB
  let s1 := ((s.count32 (.site p) 0x18600040).setPll p pllB none).updClk p fun x =>
    if pllB then { x with unlockB := some s.time } else { x with unlockA := some s.time }
  .next (if live && s.clocked p then
    let s := (s1.toDamper p false).siteEvent p 0x4001 [p.val, b01 pllB, fret]
    match other with
    | some t => if s.time < t + 3600 * 10 ^ 8 then s.retireSite p 7 else s.clockEval p
    | none => s.clockEval p
  else s1)

/-- A row and a column are marked DERATED (R436, R457, R496). -/
def State.derate (s : State) (rows cols : List Nat) : State :=
  let s := rows.foldl (fun st r => st.setRf .mgmt 0x00130010 r 1 1) s
  cols.foldl (fun st c => st.setRf .mgmt 0x00130010 (32 + c) 1 1) s

/-- The edges of a site's stop, as (edge, neighbour, the edge through which the neighbour sees this stop) (R511, R251): west, east, north, south. -/
def stopEdges (p : Fin 168) : List (Nat × Option (Fin 168) × Nat) :=
  let r := siteRow p
  let c := siteCol p
  (if 0 < c then [(13 * r + c - 1, some (siteAt r (c - 1)), 1)] else []) ++
  (if c < 13 then [(13 * r + c, some (siteAt r (c + 1)), 0)] else []) ++
  [(156 + 13 * c + r, if 0 < r then some (siteAt (r - 1) c) else none, 3),
   (156 + 13 * c + r + 1, if r < 11 then some (siteAt (r + 1) c) else none, 2)]

/-- A stop stops sending: its edges are DOWN, and its neighbours lose the courses and tracks that come from it (R436, R457). -/
def State.stopDown (s : State) (p : Fin 168) : State :=
  let s := s.updSite p fun x => { x with fabricDown := true }
  (stopEdges p).foldl (fun st e =>
    let st := st.setRf .mgmt (0x00132000 + 8 * e.1) 61 3 4
    match e.2.1 with
    | some q => (List.range 12).foldl (fun st c =>
        if courseEdge c = e.2.2 then st.setRf (.site q) 0x18700000 (2 + c) 1 0 else st)
        ((List.range 8).foldl (fun st t => if trackIn t = e.2.2 then st.setRf (.site q) 0x18710000 (4 + t) 1 0 else st) st)
    | none => st) s

/-- FABRIC_PLL_UNLOCK (R436). -/
def execFabricPllUnlock (p : Site) (s : State) : Host.Outcome State Fault Refusal :=
  .next (((s.stopDown p).derate [siteRow p] [siteCol p]).siteEvent p 0x4002 [p.val])

/-- Ticks of 30 days. -/
def days30 : Nat := 30 * 86400 * 10 ^ 8

/-- CAPO_MEASURE (R429): `capo` is the highest fret at which every pass succeeded. A site that is not due is left alone; one whose core has a bound
partition sets CAPO_DUE; any other takes the value less the guard band. -/
def execCapoMeasure (p : Site) (capo : BitVec 4) (s : State) : Host.Outcome State Fault Refusal :=
  let due := match (s.clk p).measuredAt with
    | some t => decide (t + days30 ≤ s.time)
    | none => true
  let days := (s.time - (s.clk p).measuredAt.getD 0) / (86400 * 10 ^ 8)
  .next (if !due then s
  else if (s.contractFret p).isSome then
    (if s.clkBit p 8 then s else (s.setClk p 8 true).siteEvent p 0x4005 [p.val, days])
  else
    let new := min fuseMax (capo.toNat - 1)
    let old := s.rf .mgmt (siteStateOff p) 32 4
    let s := (s.setRf .mgmt (siteStateOff p) 32 4 new).setClk p 8 false
    let s := { s with flash.capos := Sparse.put 0 s.flash.capos p.val new }
    let s := (s.updClk p fun x => { x with measuredAt := some s.time }).setRf (.site p) 0x18600010 0 4 new
    let s := s.clockEval p
    if old = new then s else s.siteEvent p 0x4004 [p.val, old, new])

end Sys2Proof.Machine
end

