-- ==== Sys2Proof/Machine/Responses.lean ====
section
/-! DEFINITION. Service requests as data (R347), their responses (R360-R362), the counters of a partition (R364), and the failure of a partition's
requests (R359). -/

namespace Sys2Proof.Machine

/-! ## Request entries (R347) -/

/-- FLAGS of a request entry. -/
def reqFlags (e : List Byte) : Nat := bytesAt e 1 1
/-- DL_VALID. -/
def reqTimed (e : List Byte) : Bool := reqFlags e % 2 == 1
/-- DROP_LATE. -/
def reqDropLate (e : List Byte) : Bool := reqFlags e / 2 % 2 == 1
/-- PRIORITY. -/
def reqPriority (e : List Byte) : Nat := reqFlags e / 4 % 4
/-- STEPS. -/
def reqSteps (e : List Byte) : Nat := bytesAt e 2 2
/-- REQ_TAG. -/
def reqTag (e : List Byte) : Nat := bytesAt e 4 4
/-- TABLATURE_ID. -/
def reqTab (e : List Byte) : BitVec 128 := BitVec.ofNat 128 (bytesAt e 8 16)
/-- DEADLINE. -/
def reqDeadline (e : List Byte) : Nat := bytesAt e 24 8
/-- OUT_ADDR. -/
def reqOutAddr (e : List Byte) : Nat := bytesAt e 32 8
/-- IN_LENGTH. -/
def reqInLen (e : List Byte) : Nat := bytesAt e 40 2
/-- IN_KIND. -/
def reqInKind (e : List Byte) : Nat := bytesAt e 42 1
/-- OUT_KIND. -/
def reqOutKind (e : List Byte) : Nat := bytesAt e 43 1
/-- OUT_LIMIT. -/
def reqOutLimit (e : List Byte) : Nat := bytesAt e 44 4
/-- The location in IN_DATA [55:48]. -/
def reqInAddr (e : List Byte) : Nat := bytesAt e 48 8

/-! ## Energy and counters (R17, R362, R364) -/

/-- The sum of the feed counters. -/
def State.energy (s : State) : W64 := s.reg .mgmt 0x00100010 + s.reg .mgmt 0x00100018

/-- A saturating counter of a partition that has reached all ones raises COUNTER_SATURATED, named by its offset in the PART_STATUS response (R540). -/
def State.partSaturated (s : State) (tag v off : Nat) : State :=
  if v + 1 = 0xFFFFFFFF then s.event 0x7FFF 8 tag tag 0xFF [0, 2, off] else s

/-- A rejection by a reason is counted at a partition. -/
def State.countRejected (s : State) (tag reason : Nat) : State :=
  match s.part tag with
  | some x =>
    let v := Sparse.get 0 x.rejected reason
    (s.setPart tag (some { x with rejected := Sparse.put 0 x.rejected reason (sat32 v) })).partSaturated tag v (56 + 4 * (reason - 1))
  | none => s

/-- A late completion is counted. -/
def State.countLate (s : State) (tag : Nat) : State :=
  match s.part tag with
  | some x => (s.setPart tag (some { x with lateCount := sat32 x.lateCount })).partSaturated tag x.lateCount 76
  | none => s

/-- A failure is counted. -/
def State.countFailed (s : State) (tag : Nat) : State :=
  match s.part tag with
  | some x => (s.setPart tag (some { x with failCount := sat32 x.failCount })).partSaturated tag x.failCount 80
  | none => s

/-! ## Responses (R360-R362) -/

/-- The response entry of a request with a status, a cause and a partition; PHASE is set when it is written to a ring. -/
def SvcReq.response (r : SvcReq) (part status cause : Nat) : List Byte :=
  let flags := b01 r.poisoned + b01 r.late * 2 + b01 (r.replays != 0) * 4 + b01 r.notRun * 8 + b01 r.clipped * 16
  let energy (e : W64) : Nat := if r.begun then e.toNat else 0
  toBytes 1 0x81 ++ toBytes 1 flags ++ toBytes 1 status ++ toBytes 1 cause ++ toBytes 4 (reqTag r.entry) ++ toBytes 2 r.stepsRun ++
    toBytes 1 part ++ toBytes 1 (min 255 r.replays) ++ toBytes 4 r.outLen ++ toBytes 8 r.admitAt ++ toBytes 8 r.completeAt ++
    toBytes 8 (energy r.eStart) ++ toBytes 8 (energy r.eEnd) ++ toBytes 2 r.others.length ++ toBytes 2 0 ++
    (r.inline ++ List.replicate 12 0).take 12

/-- A service ring. -/
def State.svcRing (s : State) (n : Nat) : SvcRing := Sparse.get SvcRing.init s.svcRings n

/-- The state with a service ring changed. -/
def State.updSvcRing (s : State) (n : Nat) (f : SvcRing → SvcRing) : State :=
  { s with svcRings := Sparse.put SvcRing.init s.svcRings n (f (s.svcRing n)) }

/-- A response goes to its ring, where it waits for SERVICE_RESPONSE_POST, or back to its panel as a service message (R361, R406). -/
def State.respond (s : State) (r : SvcReq) (bytes : List Byte) : State :=
  match r.ring, r.peer with
  | some n, _ => if (s.svcRing n).on then s.updSvcRing n fun x => { x with waiting := x.waiting ++ [bytes] } else s
  | none, some (die, panel, msg) => s.originateTo (Fin.ofNat 42 die) (mkFrame 0x81 0 panel msg.toNat [⟨granOf bytes, false⟩])
  | none, none => s

/-- The source of a request in events: its ring or its panel id. -/
def SvcReq.source (r : SvcReq) : Nat := match r.ring, r.peer with
  | some n, _ => n
  | none, some x => x.2.1
  | none, none => 0

/-- A request of a partition fails with a cause (R359): counted, REQUEST_FAILED, and its response. Its COMPLETE_TIME is a free value: R358 defines it
by the last write of an output that such a request does not finish (log entry 2). -/
def State.failRequest (s : State) (tag cause : Nat) (r : SvcReq) : State :=
  let r := { r with completeAt := (Config.free64 s.free).toNat, eEnd := s.energy }
  let s := (s.draw.countFailed tag).event 0x7012 8 tag tag 0xFF [tag, reqTag r.entry, cause]
  s.respond r (r.response tag 3 cause)

/-- The running request and every queued one of a partition fail with a cause (R359). -/
def State.failRequests (s : State) (tag cause : Nat) : State :=
  match s.part tag with
  | some x =>
    let all := x.running.toList ++ x.queue
    all.foldl (fun st r => st.failRequest tag cause r) (s.setPart tag (some { x with running := none, queue := [] }))
  | none => s

end Sys2Proof.Machine
end

