-- ==== Sys2Proof/Machine/Spill.lean ====
section
/-! DEFINITION. Spill memory (R365-R386): the stored units and their check fields, extent entries and admission, remapped blocks, the watch and
write-back, the packets a stack port answers, refresh, heat and closing, clearing. A stack port answers a packet when it arrives
(log entry 13). -/

namespace Sys2Proof.Machine

/-! ## Units and blocks (R367, R374) -/

/-- The spill bytes of a stack (R367). -/
def spillBytes : Nat := 64000000000

/-- The blocks of 4 KiB that have addresses. -/
def spillBlocks : Nat := 15625000

/-- The ten-bit columns of one weight, ascending (R374). -/
def columns10 (w : Nat) : List Nat :=
  (List.range 1024).filter fun x => ((List.range 10).map fun i => x / 2 ^ i % 2).foldl (· + ·) 0 = w

/-- The columns of the 256 data bits of a unit (R374). -/
def spillCols : List Nat := columns10 3 ++ (columns10 5).take 136

/-- The check field of a unit (R374). -/
def spillCheck (d : Nat) (poison : Bool) : Nat := (if poison then 7 * 2 ^ 13 else 0) + secdedSum spillCols d

/-- The registers of a stack's remap entry. -/
def State.spillRemap (s : State) (k : Fin 28) (n : Nat) : W64 := s.reg (.stack k) (0x2000 + 8 * n)

/-- The block that accesses to a block go to (R377). -/
def State.spillBlock (s : State) (k : Fin 28) (block : Nat) : Nat :=
  match lowest 32 fun n => bit (s.spillRemap k n) 63 && fld (s.spillRemap k n) 0 24 == block with
  | some n => spillBlocks + fld (s.spillRemap k n) 24 5
  | none => block

/-- The key of byte `b` of a stored unit: 34 bytes a unit, 128 units a block, data and spare blocks of a stack. -/
def spillKey (k block unit b : Nat) : Nat := ((k * (spillBlocks + 32) + block) * 128 + unit) * 34 + b

/-- The key of byte `b` of the unit that holds a spill offset. -/
def State.spillCell (s : State) (k : Fin 28) (off b : Nat) : Nat :=
  spillKey k.val (s.spillBlock k (off / 4096)) (off / 32 % 128) b

/-- A unit as a read finds it: data, mark, outcome (R375). -/
structure UnitRead where
  data : Nat
  poison : Bool
  outcome : Outcome3
  deriving DecidableEq, Repr

/-- Decoding of a stored unit's 32 data bytes and check field (R374, R375). -/
def decodeUnit (d c : Nat) : UnitRead :=
  let p := majority c 13
  let x := secdedDecode spillCols 10 d (c % 1024)
  ⟨x.1, p.1 || x.2 = .uncorrectable, x.2.orFixed p.2⟩

/-- The unit at the cells of a key. -/
def State.unitAtKey (s : State) (key : Nat) : UnitRead :=
  decodeUnit (ofBytes (s.spill.readBytes key 32)) (ofBytes (s.spill.readBytes (key + 32) 2))

/-- The unit that holds a spill offset. -/
def State.unitAt (s : State) (k : Fin 28) (off : Nat) : UnitRead := s.unitAtKey (s.spillCell k off 0)

/-- The cells of a key hold a unit. -/
def State.putUnitKey (s : State) (key d check : Nat) : State :=
  { s with spill := s.spill.writeBytes key (toBytes 32 d ++ toBytes 2 check) }

/-- A unit is written clean or poisoned (R376). -/
def State.putUnit (s : State) (k : Fin 28) (off d : Nat) (poison : Bool) : State :=
  s.putUnitKey (s.spillCell k off 0) (d % 2 ^ 256) (spillCheck (d % 2 ^ 256) poison)

/-! ## What a stack port holds -/

/-- A stack port's own structures. -/
def State.stackSt (s : State) (k : Fin 28) : StackSt := Sparse.get StackSt.init s.stackSts k.val

/-- The state with a stack port's structures changed. -/
def State.updStack (s : State) (k : Fin 28) (f : StackSt → StackSt) : State :=
  { s with stackSts := Sparse.put StackSt.init s.stackSts k.val (f (s.stackSt k)) }

/-- SPX_STATUS.STATE: 0 DOWN, 1 TRAINING, 2 READY, 3 CLOSED, 4 OFFLINE. -/
def State.stackState (s : State) (k : Fin 28) : Nat := s.rf (.stack k) 0 0 3

/-- The state with SPX_STATUS.STATE set. -/
def State.setStackState (s : State) (k : Fin 28) (v : Nat) : State := s.setRf (.stack k) 0 0 3 v

/-- An event of a stack port: SOURCE_KIND 4. -/
def State.stackEvent (s : State) (k : Fin 28) (code : Nat) (detail : List Nat) : State := s.event code 4 k.val 0xFF 0xFF detail

/-- A block's count reaches three (R377): the sequencer takes a free entry and spare block and starts the copy, or REMAP_FULL is set. -/
def State.spillRemapStart (s : State) (k : Fin 28) (block : Nat) : State :=
  let busy (n : Nat) : Bool := s.spillRemap k n != 0 || (s.stackSt k).copying.any fun c => c.1 == n
  let used (b : Nat) : Bool :=
    ((List.range 32).any fun n => s.spillRemap k n != 0 && fld (s.spillRemap k n) 24 5 == b) || (s.stackSt k).copying.any fun c => c.2.2 == b
  match lowest 32 (fun n => !busy n), lowest 32 (fun b => !used b) with
  | some n, some b => s.updStack k fun x => { x with copying := x.copying ++ [(n, block, b)] }
  | _, _ => (s.setRf (.stack k) 0 9 1 1).stackEvent k 0x1012 [k.val, block]

/-- The watch list without the entries whose hour has passed (R201). -/
def watchLive (now : Nat) (l : List (Nat × Nat × Nat)) : List (Nat × Nat × Nat) :=
  l.filter fun e => decide (3 ≤ e.2.1) || decide (now < e.2.2 + hourTicks)

/-- The watch list with an entry for a block: its own, or a new one, in place of the oldest when 32 are held (R201). -/
def watchEnter (now block : Nat) (l : List (Nat × Nat × Nat)) : List (Nat × Nat × Nat) :=
  if l.any fun e => e.1 == block then l
  else if l.length < 32 then l ++ [(block, 0, now)]
  else
    let first := l.foldl (fun m e => min m e.2.2) now
    dropFirst (fun e => e.2.2 == first) l ++ [(block, 0, now)]

/-- A read raises a block's count (R201, R377). -/
def State.spillWatch (s : State) (k : Fin 28) (block weight : Nat) : State :=
  let l := watchEnter s.time block (watchLive s.time (s.stackSt k).watch)
  let old := match l.find? fun e => e.1 == block with
    | some e => e.2.1
    | none => 0
  let new := min 3 (old + weight)
  let s := s.updStack k fun x => { x with watch := mapWhere (fun e => e.1 == block) (fun e => (e.1, new, e.2.2)) l }
  if old < 3 && new = 3 then s.spillRemapStart k block else s

/-- What a read of a unit leaves behind (R375): counters, watch, write-back and SPILL_POISON_CREATED. -/
def State.noteUnit (s : State) (k : Fin 28) (off src : Nat) (r : UnitRead) : State :=
  match r.outcome with
  | .clean => s
  | o =>
    let bad := o == .uncorrectable
    let s := s.count32 (.stack k) (if bad then 0x188 else 0x180)
    let queued := (s.stackSt k).writeBacks.contains (off / 32)
    let s := if queued then s else s.spillWatch k (off / 4096) (if bad then 3 else 1)
    let s := if queued then s
      else if (s.stackSt k).writeBacks.length < 32 then s.updStack k fun x => { x with writeBacks := x.writeBacks ++ [off / 32] }
      else s.count32 (.stack k) 0x190
    if bad then s.stackEvent k 0x1010 [k.val, off / 32 * 32, src] else s

/-- A granule is read (R375): its data, and whether either unit is poisoned. -/
def State.readSpillGran (s : State) (k : Fin 28) (off src : Nat) : State × Flit :=
  let a := s.unitAt k off
  let b := s.unitAt k (off + 32)
  ((s.noteUnit k off src a).noteUnit k (off + 32) src b, ⟨BitVec.ofNat 512 (a.data + 2 ^ 256 * b.data), a.poison || b.poison⟩)

/-- `n` granules from a spill offset. -/
def State.readSpill (s : State) (k : Fin 28) (off src : Nat) : Nat → State × List Flit
  | 0 => (s, [])
  | n + 1 =>
    let x := s.readSpillGran k off src
    let y := State.readSpill x.1 k (off + 64) src n
    (y.1, x.2 :: y.2)

/-- A newer write to a unit removes its queued write-back (R375). -/
def State.dropUnitWb (s : State) (k : Fin 28) (off : Nat) : State :=
  if (s.stackSt k).writeBacks.contains (off / 32) then
    s.updStack k fun x => { x with writeBacks := x.writeBacks.filter fun u => u != off / 32 }
  else s

/-- Granules are written from a spill offset (R376). -/
def State.writeSpill (s : State) (k : Fin 28) (off : Nat) : List Flit → State
  | [] => s
  | f :: t =>
    let s := ((s.putUnit k off f.data.toNat f.poison).putUnit k (off + 32) (f.data.toNat / 2 ^ 256) f.poison)
    State.writeSpill ((s.dropUnitWb k off).dropUnitWb k (off + 32)) k (off + 64) t

/-! ## Extents (R370, R382, R383) -/

/-- EXTn_CFG. -/
def State.extCfg (s : State) (k : Fin 28) (n : Nat) : W64 := s.reg (.stack k) (0x1000 + 16 * n)

/-- EXTn_LEN. -/
def State.extLen (s : State) (k : Fin 28) (n : Nat) : Nat := s.rf (.stack k) (0x1008 + 16 * n) 0 36

/-- The base of an extent entry. -/
def State.extBase (s : State) (k : Fin 28) (n : Nat) : Nat := fld (s.extCfg k n) 12 24 * 4096

/-- Whether a span reaches into an entry whose CLEARING is set. -/
def State.extClearing (s : State) (k : Fin 28) (off len : Nat) : Bool :=
  (List.range 256).any fun n =>
    bit (s.extCfg k n) 63 && bit (s.extCfg k n) 61 && decide (off < s.extBase k n + s.extLen k n) && decide (s.extBase k n < off + len)

/-- What R370 and R382 say of a span for a tag: admitted, refused as an access violation, or for 0xFE refused without one. -/
inductive SpillCheck | ok | violation | refused
  deriving DecidableEq, Repr

/-- Admission of a span (R370, R382, R383). -/
def State.spillCheckSpan (s : State) (k : Fin 28) (tag off len : Nat) : SpillCheck :=
  if tag = 0xFE then
    (if spillBytes < off + len then .violation else if s.extClearing k off len then .refused else .ok)
  else if (List.range 256).any fun n =>
      let c := s.extCfg k n
      bit c 63 && !bit c 62 && !bit c 61 && fld c 40 8 == tag && decide (s.extBase k n ≤ off) &&
        decide (off + len ≤ s.extBase k n + s.extLen k n) && decide (off + len ≤ spillBytes) then .ok
  else .violation

/-- Whether a span meets a block that is being copied (R377): such an access waits. -/
def State.spillWaits (s : State) (k : Fin 28) (off len : Nat) : Bool :=
  (s.stackSt k).copying.any fun c => decide (c.2.1 * 4096 < off + len) && decide (off < (c.2.1 + 1) * 4096)

/-- A free extent entry. -/
def State.extFree (s : State) (k : Fin 28) : Option Nat := lowest 256 fun n => !bit (s.extCfg k n) 63

/-- An extent entry is written (R370). -/
def State.extGrant (s : State) (k : Fin 28) (n tag base len : Nat) : State :=
  (s.setReg (.stack k) (0x1000 + 16 * n) (w64 (2 ^ 63 + tag * 2 ^ 40 + base))).setReg (.stack k) (0x1008 + 16 * n) (w64 len)

/-- The entries of a tag on every stack change a bit (R382 CLEARING 61, R383 HELD 62). -/
def State.extMark (s : State) (tag bitNo : Nat) : State :=
  (List.finRange 28).foldl (fun st k => (List.range 256).foldl (fun st n =>
    let c := st.extCfg k n
    if bit c 63 && fld c 40 8 == tag then st.setReg (.stack k) (0x1000 + 16 * n) (setBit (if bitNo = 61 then setBit c 62 false else c) bitNo true) else st) st) s

/-- Whether a tag has an extent entry left on any stack (R382). -/
def State.extLeft (s : State) (tag : Nat) : Bool :=
  (List.finRange 28).any fun k => (List.range 256).any fun n => bit (s.extCfg k n) 63 && fld (s.extCfg k n) 40 8 == tag

/-- SPX_STATUS with its computed fields (R386). -/
def State.spxStatus (s : State) (k : Fin 28) : W64 :=
  let ext := ((List.range 256).filter fun n => bit (s.extCfg k n) 63).length
  let rem := ((List.range 32).filter fun n => bit (s.spillRemap k n) 63).length
  s.reg (.stack k) 0 ||| w64 (ext * 2 ^ 16 + rem * 2 ^ 10)

/-! ## Packets (R369-R372, R379) -/

/-- A packet is sunk at a stack port and counted. -/
def State.stackNack (s : State) (k : Fin 28) (pkt : Packet) (reason : Nat) (violation : Bool) : State :=
  (s.count32 (.stack k) 0x198).nack (.stack k) pkt reason violation

/-- The checks of a stack port on a VC1 packet that accesses `len` bytes, then what it does (R369, R370, R377, R379). -/
def State.stackAccess (s : State) (k : Fin 28) (pkt : Packet) (len : Nat) (go : State → State) : State :=
  let off := pkt.addr.toNat
  if s.spillWaits k off len && s.stackState k = 2 then s
  else
    let s := s.landed (.stack k) pkt
    if s.stackState k ≠ 2 then s.stackNack k pkt 0x04 false
    else if pkt.trunc then s.stackNack k pkt 0x08 false
    else if off % 64 ≠ 0 || len % 64 ≠ 0 || 2048 < len then s.stackNack k pkt 0x06 true
    else match s.spillCheckSpan k pkt.tag.toNat off len with
      | .violation => s.stackNack k pkt 0x06 true
      | .refused => s.stackNack k pkt 0x06 false
      | .ok => go s

/-- A WRITE at a stack port. -/
def State.stackWrite (s : State) (k : Fin 28) (pkt : Packet) : State :=
  s.stackAccess k pkt (64 * pkt.payload.length) fun s =>
    let s := s.writeSpill k pkt.addr.toNat pkt.payload
    ((s.count64 (.stack k) 0x108 1).count64 (.stack k) 0x118 (64 * pkt.payload.length)).ack (.stack k) pkt

/-- A READ_REQ at a stack port. -/
def State.stackRead (s : State) (k : Fin 28) (pkt : Packet) : State :=
  let len := pkt.aux.toNat
  s.stackAccess k pkt len fun s =>
    let x := s.readSpill k pkt.addr.toNat (pkt.src.toNat * 256 + pkt.srcUnit.toNat) (len / 64)
    let s := (x.1.count64 (.stack k) 0x100 1).count64 (.stack k) 0x110 len
    s.inject (.stack k) (withPayload (s.answer (.stack k) pkt 0x10) x.2)

/-- Any other packet type at a stack port (R369). -/
def State.stackOther (s : State) (k : Fin 28) (pkt : Packet) : State :=
  let s := s.landed (.stack k) pkt
  if s.stackState k ≠ 2 then s.stackNack k pkt 0x04 false else s.stackNack k pkt 0x06 true

/-! ## The rows -/

/-- A stack closes (R379): cause 0 heat, 1 recalibration. -/
def State.stackClose (s : State) (k : Fin 28) (cause : Nat) : State :=
  let s := (s.setStackState k (if cause = 0 then 3 else 4)).updStack k fun x => { x with coolSince := none }
  s.stackEvent k 0x1013 [k.val, cause, s.rf (.stack k) 0x10 0 8]

/-- STACK_TEMP_READOUT (R378, R379, R475, R476): the readout is shown in SPX_TEMP; at or above 85 °C refresh doubles and THERMAL_WARNING is raised
once until it falls 5 °C below; at or above 95 °C the stack closes; at or below 80 °C for 1 s a stack closed for heat reopens. -/
def execStackTempReadout (k : Fin 28) (temp : BitVec 8) (s : State) : Host.Outcome State Fault Refusal :=
  let t := temp.toInt
  let s := (s.setReg (.stack k) 0x10 (temp.zeroExtend 64)).setRf (.stack k) 0 8 1 (b01 (decide (85 ≤ t)))
  let st := s.stackSt k
  let s := if 85 ≤ t && !st.warned then
      ((s.updStack k fun x => { x with warned := true }).event 0x5001 4 k.val 0xFF 0xFF [k.val, 3, temp.toNat]).count32 .mgmt 0x00120180
    else if t ≤ 80 && st.warned then s.updStack k fun x => { x with warned := false } else s
  .next (if 95 ≤ t && s.stackState k == 2 then s.stackClose k 0
    else if s.stackState k = 3 && s.rf .mgmt 0x00120000 0 3 != 2 then
      (if t ≤ 80 then
        match st.coolSince with
        | some t0 =>
          if t0 + 10 ^ 8 ≤ s.time then
            ((s.setStackState k 2).updStack k fun x => { x with coolSince := none }).stackEvent k 0x1014 [k.val, temp.toNat]
          else s
        | none => s.updStack k fun x => { x with coolSince := some s.time }
       else s.updStack k fun x => { x with coolSince := none })
    else s)

/-- STACK_RECAL_FAILURE (R379): recalibration has failed twice in succession; the stack is OFFLINE and its contents are lost. -/
def execStackRecalFailure (k : Fin 28) (s : State) : Host.Outcome State Fault Refusal :=
  .next (if s.stackState k = 2 then
    let s := s.stackClose k 1
    let lo := spillKey k.val 0 0 0
    let hi := spillKey (k.val + 1) 0 0 0
    { s.updStack k fun _ => StackSt.init with spill := s.spill.filter fun c => !(decide (lo ≤ c.1) && decide (c.1 < hi)) }
  else s)

/-- STACK_REFRESH (R365, R378): a refresh with its recalibration keeps contents, registers and tables as they are. -/
def execStackRefresh (_k : Fin 28) (s : State) : Host.Outcome State Fault Refusal := .next s

/-- The copy of a block for a remap entry: each unit corrected where its code can, its mark as it stands (R377). -/
def State.copyBlock (s : State) (k : Fin 28) (src dst : Nat) : State :=
  (List.range 128).foldl (fun st u =>
    let r := st.unitAtKey (spillKey k.val src u 0)
    st.putUnitKey (spillKey k.val dst u 0) r.data (spillCheck r.data r.poison)) s

/-- SPILL_REMAP_COMPLETE (R377): the copy for an entry ends, the entry becomes VALID, in place of an older one of its block (log entry 13), and the
flash map records it. -/
def execSpillRemapComplete (k : Fin 28) (n : BitVec 5) (s : State) : Host.Outcome State Fault Refusal :=
  .next (match (s.stackSt k).copying.find? fun c => c.1 == n.toNat with
    | some (_, block, spare) =>
      let image := w64 (2 ^ 63 + spare * 2 ^ 24 + block)
      let s := s.copyBlock k (s.spillBlock k block) (spillBlocks + spare)
      let s := (List.range 32).foldl (fun st i =>
        let v := st.spillRemap k i
        if bit v 63 && fld v 0 24 == block then st.setReg (.stack k) (0x2000 + 8 * i) (setBit v 63 false) else st) s
      let s := s.setReg (.stack k) (0x2000 + 8 * n.toNat) image
      let s := s.updStack k fun x => { x with
        copying := x.copying.filter fun c => c.1 != n.toNat, watch := x.watch.filter fun e => e.1 != block }
      let s := s.stackEvent k 0x1011 [k.val, block, spare]
      { s with flash.spillRemaps := s.flash.spillRemaps ++ [(1000 + k.val, image)] }
    | none => s)

/-- SPILL_WRITE_BACK (R375): the oldest queued unit is written back, corrected or with POISON set. -/
def execSpillWriteBack (k : Fin 28) (s : State) : Host.Outcome State Fault Refusal :=
  .next (match (s.stackSt k).writeBacks with
    | u :: t =>
      let r := s.unitAt k (32 * u)
      (s.putUnit k (32 * u) r.data r.poison).updStack k fun x => { x with writeBacks := t }
    | [] => s)

/-- The unit cells of a span of a stack hold zeros with clean check fields: every cell of its units goes. -/
def State.zeroSpill (s : State) (k : Fin 28) (base len : Nat) : State :=
  let spares := (List.range 32).filterMap fun n =>
    let v := s.spillRemap k n
    if bit v 63 && decide (base ≤ fld v 0 24 * 4096) && decide (fld v 0 24 * 4096 < base + len) then some (fld v 24 5) else none
  { s with spill := s.spill.filter fun c =>
      let unit := c.1 / 34
      let block := unit / 128 % (spillBlocks + 32)
      !(unit / 128 / (spillBlocks + 32) == k.val &&
        ((decide (block < spillBlocks) && decide (base ≤ block * 4096) && decide (block * 4096 < base + len)) ||
         spares.any fun b => spillBlocks + b == block)) }

/-- An entry's zero-fill ends and hardware clears VALID and CLEARING (R382). -/
def State.extCleared (s : State) (k : Fin 28) (n : Nat) : State :=
  let c := s.extCfg k n
  if bit c 63 && bit c 61 then
    let s := s.zeroSpill k (s.extBase k n) (s.extLen k n)
    let s := s.updStack k fun x => { x with writeBacks := x.writeBacks.filter fun u =>
      !(decide (s.extBase k n ≤ 32 * u) && decide (32 * u < s.extBase k n + s.extLen k n)) }
    (s.setReg (.stack k) (0x1000 + 16 * n) 0).setReg (.stack k) (0x1008 + 16 * n) 0
  else s

end Sys2Proof.Machine
end

