-- ==== Sys2Proof/Machine/Parts.lean ====
section
/-! DEFINITION. What ends a partition's work: the partition reset (R515), unbinding (R328), kills with their clears (R191-R193, R382, R383, R536,
R537), aborts and the questions to the fault manager (R535); and the budget and the granted current that bindings share (R449, R466). -/

namespace Sys2Proof.Machine

/-- The sites of the partition with a tag, in ascending relative core. -/
def State.sitesOf (s : State) (tag : Nat) : List (Fin 168) := match s.part tag with
  | some x => s.partSites x
  | none => []

/-- A change made at every stop. -/
def State.atStops (s : State) (f : State → Fin 168 → State) : State := (List.finRange 168).foldl f s

/-- PCTXn_CTL of a tag. -/
def pctxOff (tag : Nat) : Nat := 0x18702000 + 32 * (tag % 64)

/-- The current step of a partition fails with a cause and the code of an event (R335), where LB is that of its tablature. -/
def State.fail (s : State) (tag cause code where_ : Nat) : State := match s.part tag with
  | some x => s.failStep tag cause code where_ (s.lbOf x)
  | none => s

/-! ## Budget and granted current (R440, R441, R449, R462, R466) -/

/-- Vin in mV: the higher of the connected feeds' voltages (R440). -/
def State.vin (s : State) : Nat :=
  max (if s.rf .mgmt 0x00100000 2 1 = 1 then s.rf .mgmt 0x00100020 0 17 else 0)
    (if s.rf .mgmt 0x00100000 3 1 = 1 then s.rf .mgmt 0x00100028 0 17 else 0)

/-- A cap in force in mW: its setting, with one feed no more than 500 A times Vin (R441, R462). -/
def State.capOf (s : State) (setting : Nat) : Nat :=
  if s.rf .mgmt 0x00100000 4 1 = 1 then min (setting * 10 ^ 4) (500 * s.vin) else setting * 10 ^ 4

/-- CAP_SUST in force, in mW. -/
def State.capSust (s : State) : Nat := s.capOf (s.rf .mgmt 0x00110008 0 16)

/-- CAP_PEAK in force, in mW. -/
def State.capPeak (s : State) : Nat := s.capOf (s.rf .mgmt 0x00110008 32 16)

/-- The budget in mW (R466). -/
def State.budget (s : State) : Nat := 92 * s.capSust / 100 - s.power.baseline

/-- The input current for delivered power in mW, in 0.1 A, rounded up (R355). -/
def State.tenths (s : State) (mW : Nat) : Nat := if s.vin = 0 then 0 else (1000 * mW + 92 * s.vin - 1) / (92 * s.vin)

/-- GRANTED of CAP_STATUS, in 0.1 A. -/
def State.grantedNow (s : State) : Nat := s.rf .mgmt 0x00110000 16 16

/-- A demand falls and the granted current with it (R449, log entry 22). -/
def State.lowerGrant (s : State) (tag : Nat) : State := match s.part tag with
  | some x =>
    let s := s.setRf .mgmt 0x00110000 16 16 (s.grantedNow - x.granted.getD 0)
    let s := s.updPower fun y => { y with waits := y.waits.filter fun w => w.1 != .step tag }
    s.setPart tag (some { x with granted := none })
  | none => s

/-! ## Partition reset (R515) -/

/-- The attempts that shadow a core become inconclusive (R528). -/
def State.spoilSymps (s : State) (p : Fin 168) : State :=
  (s.shadowing p).foldl (fun st q => st.updSite q fun x => { x with symp := x.symp.map fun y => { y with spoiled := true } }) s

/-- ACTIVE of a tag's context is cleared at every stop. -/
def State.stopStep (s : State) (tag : Nat) : State := s.atStops fun st p => st.setRf (.site p) (pctxOff tag) 63 1 0

/-- The turn queues of every stop without a tag's flits. -/
def State.dropTurns (s : State) (tag : Nat) : State :=
  s.atStops fun st p => (List.range 16).foldl (fun st q =>
    st.setTurnQ p q ((st.turnQ p q).filter fun t => t.flit.tag.toNat != tag)) st

/-- The barrier instances that a home stop holds for a tag. -/
def State.barsOf (s : State) (p : Fin 168) (tag : Nat) : List Nat :=
  (List.range 32).filter fun i =>
    bit (s.reg (.site p) (0x18730000 + 64 * i)) 63 && s.rf (.site p) (0x18730000 + 64 * i) 8 8 == tag

/-- The episode state of a tag's instances is cleared, their configuration kept (R284). -/
def State.resetBars (s : State) (p : Fin 168) (tag : Nat) : State :=
  (s.barsOf p tag).foldl (fun st i => (st.setBar p i Barrier.init).setReg (.site p) (0x18730020 + 64 * i) 0xFF) s

/-- A tag's instances are removed (R284). -/
def State.removeBars (s : State) (p : Fin 168) (tag : Nat) : State :=
  (s.barsOf p tag).foldl (fun st i =>
    let st := (st.setBar p i Barrier.init).setReg (.site p) (0x18730020 + 64 * i) 0xFF
    (((st.setReg (.site p) (0x18730000 + 64 * i) 0xFF00).setReg (.site p) (0x18730008 + 64 * i) 0).setReg
      (.site p) (0x18730010 + 64 * i) 0).setReg (.site p) (0x18730018 + 64 * i) 0) s

/-- The cores' BAR_DONEi return to zero (R284). -/
def State.clearDone (s : State) (p : Fin 168) : State :=
  (List.range 32).foldl (fun st i => st.setReg (.site p) (0x18731000 + 8 * i) 0) s

/-- MIGRATION_ENDED and the answer of its command (R531, R517): status 0 done, 1 cancelled. -/
def State.migrationEnded (s : State) (m : Migration) (status : Nat) : State :=
  (s.event 0x8024 1 m.old 0xFF m.lcid [m.lcid, m.old, m.new, status, s.time - m.since]).mciReply m.reply 0x0604 0 0 []

/-- A migration whose tables have not flipped yet is cancelled (R517). -/
def State.cancelMigration (s : State) (tag : Nat) : State := match s.part tag with
  | some x => (match x.migrate with
      | some m => (s.setPart tag (some { x with migrate := none })).migrationEnded m 1
      | none => s)
  | none => s

/-- A partition reset (R515): its cores, contexts, turn queues and barrier instances. The caller has failed the step, which aborts the collective
invocations in progress. -/
def State.partReset (s : State) (tag : Nat) : State := match s.part tag with
  | some x =>
    let s := (s.partSites x).foldl (fun st p => ((st.spoilSymps p).resetCore p).clearDone p) s
    let s := (s.stopStep tag).dropTurns tag
    let s := s.atStops fun st p => st.setRf (.site p) (pctxOff tag) 24 8 (st.rf (.site p) (pctxOff tag) 24 8 + 1)
    (s.resetBars (Fin.ofNat 168 x.home) tag).cancelMigration tag
  | none => s

/-! ## Unbinding (R328, R382, R482) -/

/-- The record of a partition's job at its end (R482). -/
def State.endJob (s : State) (tag : Nat) (killed : Bool) : State := match s.part tag with
  | some x => (match x.tab with
      | some id => { s with jobs := (⟨id, tag, killed, x.others.length, x.jobAt, s.time, x.jobEnergy, s.energy, x.stepIndex⟩ :: s.jobs).take 256 }
      | none => s)
  | none => s

/-- A partition with nothing bound. -/
def Partition.unbound (x : Partition) : Partition :=
  { x with
    tab := none, winTag := 0xFF, stepHash := false, armed := false, mark0 := none, markEnd := none, done := [], failed := none, replays := 0,
    stage := 0, svc := none, svcSeq := 0, running := none, queue := [], warmAt := none, lastMark := none, reserved := 0, query := none,
    migrate := none }

/-- A partition is unbound: its step fails, its requests fail with a cause, its cores stay in reset, its spill is cleared, its barriers and
collectives go, and its entries leave the slot tables; the leases stay (R284, R328, R359, R382, R405). -/
def State.unbind (s : State) (tag cause : Nat) : State := match s.part tag with
  | some x =>
    if x.tab.isNone then s
    else
      let s := ((s.fail tag 0x04 0 0).failRequests tag cause).partReset tag
      let s := ((s.removeBars (Fin.ofNat 168 x.home) tag).collsGone tag).extMark tag 61
      let s := (s.endJob tag false).lowerGrant tag
      (s.updPart tag Partition.unbound).writeBanks tag
  | none => s

/-- The partition is aborted: its step fails with ABORT and an event's code, its requests fail with a cause, and it is unbound (R335, R359, R559). -/
def State.abortPart (s : State) (tag cause code : Nat) : State := ((s.fail tag 0x04 code 0).failRequests tag cause).unbind tag cause

/-- PLACEMENT_QUERY with a cause: 0 ABSENT, 1 CAPO_LOW, 2 REPLAY_EXHAUSTED, 3 STATE_LOST, 4 a collective abort, 5 the cap cannot be granted (R535; the
numbers are the model's, log entry 10). -/
def State.raiseQuery (s : State) (tag cause : Nat) : State :=
  let id := s.mgmt.nextQuery
  let s := { s with mgmt.nextQuery := id + 1 }
  (s.updPart tag fun x => { x with query := some (id, cause, s.time) }).event 0x8026 8 tag tag 0xFF [tag, cause, id]

/-- The partition is aborted and the fault manager asked where its work is to run (R535): its requests fail with a cause; cores, spill and binding stay
until the decision (log entry 23). -/
def State.abortQuery (s : State) (tag cause query : Nat) : State := (s.failRequests tag cause).raiseQuery tag query

/-! ## Kills (R192, R193, R382, R383, R536, R537) -/

/-- A partition is deleted: its tag, its leases and its apertures are released (R246, R247, R536 step 5). -/
def State.deletePart (s : State) (tag : Nat) : State :=
  let s := s.setPart tag none
  let s := s.atStops fun st p => st.setReg (.site p) (pctxOff tag) 0xFF0000
  let s := { s with apertures := s.apertures.filter fun a => a.1 / 16 != tag }
  s.writeBanks tag

/-- A partition whose clear is complete is deleted (R192, R382, R536 step 5). -/
def State.finishClear (s : State) (tag : Nat) : State := match s.part tag with
  | some x =>
    if x.state = 4 && !((s.partSites x).any fun p => s.coreState p == 6) && !s.extLeft tag then s.deletePart tag else s
  | none => s

/-- The clear of a partition's cores and extents begins (R192, R382). A core without powered segments has nothing to clear. -/
def State.beginClear (s : State) (tag : Nat) : State :=
  let s := (s.sitesOf tag).foldl (fun st p =>
    if st.coreState p = 0 then st
    else ((st.setRf (.site p) 0x18500000 2 1 0).setRf (.site p) 0x18500000 1 1 1).setCoreState p 6) s
  ((s.extMark tag 61).updPart tag fun x => { x with state := 4, ownerToken := none }).finishClear tag

/-- A kill (R536): with clear, or with hold under an owner token (R537); a hold that the fault manager's default makes has none. -/
def State.kill (s : State) (tag cause : Nat) (hold : Bool) (token : Option W64) : State := match s.part tag with
  | some x =>
    if x.state = 4 then s
    else if x.state = 3 then (if hold then s else s.beginClear tag)
    else
      let s := ((s.fail tag 0x04 0 0).failRequests tag cause).partReset tag
      let s := (s.partSites x).foldl (fun st p =>
        (st.setRf (.site p) 0x18700028 0 8 0xFF).setRf (.site p) 0x18000000 48 8 0xFF) s
      let s := ((s.removeBars (Fin.ofNat 168 x.home) tag).collsGone tag).endJob tag true
      let s := (s.lowerGrant tag).updPart tag Partition.unbound
      let s := s.writeBanks tag
      if hold then
        let s := (s.sitesOf tag).foldl (fun st p =>
          if st.coreState p = 0 then st else (st.setRf (.site p) 0x18500000 2 1 1).setCoreState p 7) s
        (s.extMark tag 62).updPart tag fun x => { x with state := 3, ownerToken := token }
      else s.beginClear tag
  | none => s

/-- KILL_CLEAR_COMPLETE (R192, R517, R536): a core's zero-fill ends; its segments switch off and the core returns to the pool, with its partition's
other cores once every extent is clear. -/
def execKillClearComplete (p : Site) (s : State) : Host.Outcome State Fault Refusal :=
  .next (if s.coreState p = 6 then
    let lcid := s.lcidOf p
    let s := (s.setSegOn p 0).setRf (.site p) 0x18500000 1 1 0
    let s := s.setCoreState p 0
    match s.partList.find? fun y => y.2.state == 4 && y.2.lcids.contains lcid with
    | some y => s.finishClear y.1
    | none => s
  else s)

/-- SPILL_CLEAR_COMPLETE (R382): an entry's zero-fill ends and the entry becomes invalid. -/
def execSpillClearComplete (k : Fin 28) (n : BitVec 8) (s : State) : Host.Outcome State Fault Refusal :=
  .next ((s.extCleared k n.toNat).finishClear (fld (s.extCfg k n.toNat) 40 8))

end Sys2Proof.Machine
end

