-- ==== Sys2Proof/Machine/Bind.lean ====
section
/-! DEFINITION. Binding a tablature to a partition (R174, R320, R324, R327, R370, R466): its refusals, and what the cores, stops and stacks then
hold. -/

namespace Sys2Proof.Machine

/-- The capo that SITEn_STATE gives a site. -/
def State.capoAt (s : State) (p : Fin 168) : Nat := s.rf .mgmt (siteStateOff p) 32 4

/-- STATE of SITEn_STATE: 0 UNTESTED, 1 MAPPED, 2 SPARE, 3 FAILED, 4 RETIRED. -/
def State.siteMode (s : State) (p : Fin 168) : Nat := s.rf .mgmt (siteStateOff p) 0 3

/-- Whether a partition other than one of a tag is bound. -/
def State.otherBound (s : State) (tag : Nat) : Bool := s.partList.any fun y => y.1 != tag && y.2.tab.isSome

/-! ## Extents (R321, R370) -/

/-- Extents as (stack, offset, length), in ascending order, adjacent ones merged. -/
def mergeSpans : List (Nat × Nat × Nat) → List (Nat × Nat × Nat)
  | [] => []
  | a :: t => match mergeSpans t with
    | b :: r => if a.1 = b.1 && a.2.1 + a.2.2 == b.2.1 then (a.1, a.2.1, a.2.2 + b.2.2) :: r else a :: b :: r
    | [] => [a]

/-- The extent entries that a tablature's SPILL_LAYOUT asks for. -/
def tabSpans (img : List Byte) : List (Nat × Nat × Nat) :=
  mergeSpans ((((tabExtents img).filter fun e => e.len != 0).map fun e => (e.stack, e.off, e.len)).mergeSort
    fun a b => decide (a.1 < b.1) || (a.1 == b.1 && decide (a.2.1 ≤ b.2.1)))

/-- Whether a span of a stack meets a valid extent entry. -/
def State.extMeets (s : State) (k off len : Nat) : Bool :=
  (List.range 256).any fun n =>
    bit (s.extCfg (Fin.ofNat 28 k) n) 63 && meets (s.extBase (Fin.ofNat 28 k) n, s.extLen (Fin.ofNat 28 k) n) (off, len)

/-- Whether every stack has entries free for a tablature's spans. -/
def State.extRoom (s : State) (img : List Byte) : Bool :=
  (List.finRange 28).all fun k =>
    decide (((tabSpans img).filter fun e => e.1 == k.val).length ≤ ((List.range 256).filter fun n => !bit (s.extCfg k n) 63).length)

/-- The entries are written (R370). -/
def State.grantExtents (s : State) (tag : Nat) (img : List Byte) : State :=
  (tabSpans img).foldl (fun st e =>
    let k : Fin 28 := Fin.ofNat 28 e.1
    match st.extFree k with
    | some n => st.extGrant k n tag e.2.1 e.2.2
    | none => st) s

/-! ## Refusals (R324) -/

/-- A refusal that names a field of the section of a type. -/
def secField (img : List Byte) (code typ off : Nat) : TabRefusal := match tabSec img typ 0xFFFF with
  | some x => ⟨code, x.idx, off, 0⟩
  | none => ⟨code, noField.1, noField.2, 0⟩

/-- SHAPE_MISMATCH. -/
def Partition.badShape (x : Partition) (img : List Byte) : Option TabRefusal :=
  (firstBad [(tabRows img != x.rows, 48), (tabCols img != x.cols, 49), (tabOrigin img != 0xFF && tabOrigin img != x.row0, 50)]).map
    fun o => ⟨0x10, 0xFFFF, o, 0⟩

/-- Whether the core of an LCID has no usable site. -/
def State.coreGone (s : State) (lcid : Nat) : Bool := match s.siteOf lcid with
  | some p => s.siteMode p != 1
  | none => true

/-- CAPO_LOW. -/
def State.badCapo (s : State) (x : Partition) (img : List Byte) : Option TabRefusal :=
  let sec := tabSec img 4 0xFFFF
  (lowest x.lcids.length fun r => match s.siteOf (x.lcids.getD r 0xFF) with
    | some p => decide (s.capoAt p < tabFret img r)
    | none => false).map fun r => secField img 0x12 4 ((sec.map (·.off)).getD 0 + r)

/-- LEASE_SHORT. -/
def Partition.badLease (x : Partition) (img : List Byte) : Option TabRefusal :=
  (firstBad (((List.range 3).map fun p => (decide (x.leaseLen p < tabSpan img p), 58 + 2 * p)) ++
    [(decide (tabShift img < x.base), 56)])).map fun o => ⟨0x13, 0xFFFF, o, 0⟩

/-- SPILL_CONFLICT: an extent meets one that is held, or the entries do not suffice. -/
def State.badSpill (s : State) (img : List Byte) : Option TabRefusal :=
  match (tabExtents img).find? fun e => e.len != 0 && s.extMeets e.stack e.off e.len with
  | some e => some (secField img 0x15 7 (e.at_ + 8))
  | none => if s.extRoom img then none else some ⟨0x15, noField.1, noField.2, 0⟩

/-- The sum of the highest phase POWERs of the partitions bound, but for one of a tag, in mW. -/
def State.boundPower (s : State) (tag : Nat) : Nat :=
  s.partList.foldl (fun a y => if y.1 = tag then a else match s.tabOf y.2 with
    | some t => a + (tabPower t.image).1
    | none => a) 0

/-- DERATED: the first record that crosses a course that is not usable there. -/
def State.badCourses (s : State) (x : Partition) (img : List Byte) (f : Nat) : Option TabRefusal :=
  ((tabSlots img).find? fun k => !s.legsUp ((s.expandCtx x f).record ⟨[], [], []⟩ k)).map fun k => secField img 0x17 5 k.at_

/-- The first reason in the table's order that refuses a binding; `fresh` is the image as read again (R324). -/
def State.bindRefusal (s : State) (tag : Nat) (x : Partition) (t : Tablature) (fresh : List Byte) : Option TabRefusal :=
  let img := t.image
  let free (code : Nat) (b : Bool) : Option TabRefusal := if b then some ⟨code, noField.1, noField.2, 0⟩ else none
  [ x.badShape img,
    free 0x11 (x.lcids.any s.coreGone),
    s.badCapo x img,
    x.badLease img,
    (if s.otherBound tag && tabF img != s.panelF then some ⟨0x14, 0xFFFF, 52, 0⟩ else none),
    s.badSpill img,
    (if s.budget < s.boundPower tag + (tabPower img).1 then some (secField img 0x16 8 (tabPower img).2) else none),
    s.badCourses x img (tabF img),
    free 0x18 x.tab.isSome,
    free 0x19 (BitVec.ofNat 384 (ofBytes (sha384 fresh)) != t.digest),
    (if tabHop img != s.panelHop then some ⟨0x1A, 0xFFFF, 88, 0⟩ else none) ].foldl TabRefusal.first none

/-! ## What the cores find (R174, R316, R320, R327 steps 2, 3 and 5) -/

/-- Instruction words as instruction memory. -/
def imemOf (words : List Byte) : Sparse W32 :=
  ((List.range (words.length / 4)).zip (chunks 4 (words.length / 4) words)).filterMap fun e =>
    let w : W32 := BitVec.ofNat 32 (ofBytes e.2)
    if w = 0 then none else some (e.1, w)

/-- The queue configuration of a core is replaced by the set-up list's. -/
def State.setQueues (s : State) (p : Fin 168) (img : List Byte) (rel : Nat) : State :=
  let s := (List.range 128).foldl (fun st q =>
    (st.setReg (.site p) (0x18300000 + 256 * q) 0).setReg (.site p) (0x18300008 + 256 * q) 0) s
  ((tabSetup img).filter fun r => r.kind == 1 && r.core == rel).foldl (fun st r =>
    (st.setReg (.site p) (0x18300000 + 256 * r.num) (w64 (2 ^ 62 + r.mode * 2 ^ 32 + r.val))).setReg
      (.site p) (0x18300008 + 256 * r.num) (w64 r.ext)) s

/-- A site's core belongs to a partition, or with 0xFF to none: SITE_TAG and CORE_STATUS.PARTITION. The cap source leaves it free (R464). -/
def State.giveTag (s : State) (p : Fin 168) (tag : Nat) : State :=
  let s := s.updClk p fun x => { x with capCeil := 15 }
  (s.setRf (.site p) 0x18700028 0 8 tag).setRf (.site p) 0x18000000 48 8 tag

/-- A core's layout, code and images are put in place and its declared segments zero-filled; the core is in reset (R174, R327 step 3). -/
def State.setUpCore (s : State) (img : List Byte) (p : Fin 168) (rel : Nat) : State :=
  let s := (s.setCoreState p 1).resetCore p
  let s := (List.range 64).foldl (fun st n =>
    (st.setReg (.site p) (0x18501000 + 32 * n) (layReg img rel n)).setReg (.site p) (0x18703000 + 16 * n) (laySb img rel n)) s
  let s := (s.setQueues p img rel).setSegOn p (layMask img rel)
  let s := ((List.range 48).filter fun g => layMask img rel / 2 ^ g % 2 == 1).foldl (fun st g => st.zeroSeg p g) s
  let s := match tabSec img 1 rel with
    | some x => s.updSite p fun y => { y with imem := imemOf (x.bytes img) }
    | none => s
  match tabSec img 2 rel with
  | some x => (x.images img).foldl (fun st i => st.writeBytesWide p i.off ((img.drop (i.at_ + 16)).take i.len)) s
  | none => s

/-- The LCIDs of a barrier record's rectangle. -/
def Setup.members (r : Setup) (x : Partition) : List Nat :=
  (List.range (r.val / 2 ^ 16 % 256 * (r.val / 2 ^ 24))).map fun i =>
    (x.row0 + r.val % 256 + i / (r.val / 2 ^ 24)) * 12 + x.col0 + r.val / 256 % 256 + i % (r.val / 2 ^ 24)

/-- The barrier instances of the set-up list at the home stop (R280, R320). -/
def State.setBars (s : State) (tag : Nat) (x : Partition) (img : List Byte) : State :=
  let p : Fin 168 := Fin.ofNat 168 x.home
  ((tabSetup img).filter fun r => r.kind == 4).foldl (fun st r =>
    let ms := r.members x
    let word (k : Nat) : W64 := ms.foldl (fun v l => if l / 64 = k then setBit v (l % 64) true else v) 0
    let st := st.setReg (.site p) (0x18730000 + 64 * r.num) (w64 (2 ^ 63 + tag * 2 ^ 8))
    ((st.setReg (.site p) (0x18730008 + 64 * r.num) (word 0)).setReg (.site p) (0x18730010 + 64 * r.num) (word 1)).setReg
      (.site p) (0x18730018 + 64 * r.num) (word 2)) s

/-- The site of a relative core. -/
def State.relSite (s : State) (x : Partition) (rel : Nat) : Option (Fin 168) := (x.lcids[rel]?).bind s.siteOf

/-- A static channel between two cores, or from the active management die (0xF0), is open at both ends (R296, R327 step 5). -/
def State.openStatic (s : State) (x : Partition) (r : Setup) : State :=
  match s.relSite x (r.val % 256) with
  | some q =>
    let n := r.val / 256 % 128
    let c := (s.freeRecv q).getD 0
    if r.core = 0xF0 then s.register q c n 0xF0 0
    else match s.relSite x r.core with
      | some p =>
        let s := s.register q c n (BitVec.ofNat 8 (s.lcidOf p)) 0
        s.updCtx p r.num fun _ => { SendCtx.init with state := 2, dest := BitVec.ofNat 8 (s.lcidOf q), queue := n, channel := c }
      | none => s
  | none => s

/-- The set-up windows and static channels are opened in the set-up list's order (R310, R327 step 5, R336 step 3). -/
def State.openSetup (s : State) (x : Partition) (img : List Byte) : State :=
  (tabSetup img).foldl (fun st r =>
    if r.kind = 3 then (match st.relSite x r.core with
      | some p => st.winOpen p r.num r.val r.ext (if r.mode = 0 then 0xFF else x.winTag.toNat)
      | none => st)
    else if r.kind = 2 then st.openStatic x r else st) s

/-- The cores start at PC 0x0000, each with its site's capo in CAPO (R327 step 6, R336 step 4, R516). -/
def State.startCores (s : State) (x : Partition) : State :=
  (s.partSites x).foldl (fun st p => ((st.setRf (.site p) 0x18600010 0 4 (st.capoAt p)).restartCore p).clockEval p) s

/-- The partition context at every stop: FRAMES, TAG and CLASSES, with ACTIVE clear (R327 step 2). -/
def State.setContexts (s : State) (tag : Nat) (img : List Byte) : State :=
  s.atStops fun st p =>
    let v := st.reg (.site p) (pctxOff tag)
    (st.setReg (.site p) (pctxOff tag) (setFld (setFld (setBit v 63 false) 0 16 (tabK img)) 16 8 tag)).setReg
      (.site p) (pctxOff tag + 0x10) (w64 (tabClasses img))

/-- A tablature is bound to a partition (R327). -/
def State.bindPart (s : State) (tag : Nat) (x : Partition) (t : Tablature) (winTag : Byte) (hash : Bool) : State :=
  let img := t.image
  let s := if s.otherBound tag then s else s.atStops fun st p => st.setReg (.site p) 0x18700008 (w64 (tabF img))
  let s := s.setContexts tag img
  let s := ((List.range x.lcids.length).zip (s.partSites x)).foldl (fun st e => (st.giveTag e.2 tag).setUpCore img e.2 e.1) s
  let x := { x with
    tab := some t.id, winTag := winTag, stepHash := hash, stepIndex := 0, reserved := (tabPower img).1, jobAt := s.time,
    jobEnergy := s.energy, others := [] }
  let s := ((s.setPart tag (some x)).grantExtents tag img).writeBanks tag
  let s := ((s.setBars tag x img).openSetup x img).startCores x
  s.setTargets (s.partSites x)

end Sys2Proof.Machine
end

