-- ==== Sys2Proof/Machine/Steps.lean ====
section
/-! DEFINITION. Steps and the commit point (R329-R339, R351, R352, R470, R530), replay with substitution of spares (R336, R337, R522-R524), migration (R531),
the epoch's end (R274, R276), and the fault manager's deadline (R535). -/

namespace Sys2Proof.Machine

/-! ## Epochs (R274-R276) -/

/-- EPOCH_FRAME or DRAINING shows a change in progress (R275). -/
def State.epochBusy (s : State) : Bool :=
  s.rf (.site 0) 0x18710000 1 1 == 1 || s.reg (.site 0) 0x18710008 != BitVec.allOnes 64

/-- The version of the routing tables that injection does not name. -/
def State.idleVersion (s : State) : Nat := 1 - s.injectEpoch 0

/-- The flip is set for the next frame mark at every stop (R274 step 2). -/
def State.armFlip (s : State) : State := s.atStops fun st p => st.setReg (.site p) 0x18710008 (st.frameCount + 1)

/-- An LCID's column, or ABSENT, in the idle version at every stop (R274 step 1). -/
def State.mapIdle (s : State) (lcid : Nat) (col : Option Nat) : State :=
  let v := s.idleVersion
  s.atStops fun st p => st.setReg (.site p) (0x18720000 + 0x800 * v + 8 * lcid) (w64 (col.getD 0x10))

/-- Whether an offset lies in a version of the routing tables. -/
def inVersion (v off : Nat) : Bool := decide (0x18720000 + 0x800 * v ≤ off) && decide (off ≤ 0x18720480 + 0x800 * v)

/-- A stop's idle version becomes equal to its active one (R561). -/
def State.copyVersion (s : State) (p : Fin 168) : State :=
  let act := s.injectEpoch p
  let mine := s.regs.filter fun e => e.1 / 2 ^ 29 == p.val && inVersion act (e.1 % 2 ^ 29)
  let s := { s with regs := s.regs.filter fun e => !(e.1 / 2 ^ 29 == p.val && inVersion (1 - act) (e.1 % 2 ^ 29)) }
  mine.foldl (fun st e => st.setReg (.site p) (e.1 % 2 ^ 29 - 0x800 * act + 0x800 * (1 - act))
    (e.2 ^^^ resetOf (.site p) (e.1 % 2 ^ 29))) s

/-! ## Sites (R500, R501, R521-R524) -/

/-- SITEn_STATE of a site: its STATE and the LCID it holds, 0xFF for none; the stored map keeps the assignment (R487, R500). -/
def State.assign (s : State) (p : Fin 168) (mode lcid : Nat) : State :=
  let v := s.reg .mgmt (siteStateOff p)
  let s := s.setReg .mgmt (siteStateOff p) (setFld (setFld v 0 3 mode) 24 8 lcid)
  let s := s.setRf (.site p) 0x18000000 40 8 lcid
  { s with flash.lcids := Sparse.put 0 s.flash.lcids p.val (if lcid = 0xFF then 0 else lcid + 1) }

/-- SPARES and ABSENT of BRING_STATUS follow the sites (R510). -/
def State.countSites (s : State) : State :=
  let n (m : Nat) := ((List.finRange 168).filter fun p => s.siteMode p == m && (m != 1 || s.lcidOf p != 0xFF)).length
  (s.setRf .mgmt 0x00130000 24 8 (n 2)).setRf .mgmt 0x00130000 32 8 (144 - n 1)

/-- The sites of a row, by column. -/
def rowSites (r : Nat) : List (Fin 168) := (List.range 14).map (siteAt r)

/-- The first of a list of sites with the highest capo. -/
def State.bestCapo (s : State) (l : List (Fin 168)) : Option (Fin 168) :=
  l.foldl (fun a p => match a with
    | some q => if s.capoAt q < s.capoAt p then some p else some q
    | none => some p) none

/-- Whether a spare is qualified (R525). -/
def State.qualified (s : State) (p : Fin 168) : Bool := s.rf (.site p) 0x18000000 14 1 == 1

/-- The spare for a row (R523): the site and whether it is qualified. -/
def State.spareFor (s : State) (r : Nat) : Option (Fin 168 × Bool) :=
  let l := (rowSites r).filter fun p => s.siteMode p == 2
  match s.bestCapo (l.filter s.qualified) with
  | some p => some (p, true)
  | none => (s.bestCapo l).map fun p => (p, false)

/-- A sympathetic attempt at a spare ends: its core and memory dies are powered off again (R27, R528). -/
def State.endAttempt (s : State) (p : Fin 168) : State :=
  if (s.site p).symp.isSome then
    let s := (s.updSite p fun x => { x with symp := none }).resetCore p
    ((s.setSegOn p 0).setRf (.site p) 0x18000000 13 1 0).setCoreState p 0
  else s

/-- The logical row of a raw row of a site, none where nothing stands for it (R211). -/
def State.logicalRow (s : State) (p : Fin 168) (die bank row : Nat) : Option Nat :=
  if row < 12288 then (if s.remapRow p die bank row = row then some row else none)
  else (List.range 8).findSome? fun e =>
    let v := s.reg (.site p) (0x18508100 + 64 * die + 8 * e)
    if bit v 63 && fld v 14 5 == bank && fld v 19 2 + 12288 == row then some (fld v 0 14) else none

/-- The raw rows of the declared segments are copied from one site to another, check bytes, tags and poison as they stand (R169, R522 step 2). -/
def State.copySegs (s : State) (src dst : Fin 168) (mask : Nat) : State :=
  let s := ((List.range 48).filter fun g => mask / 2 ^ g % 2 == 1).foldl (fun st g => st.wipeSeg dst g) s
  let moved := s.scratch.filterMap fun c =>
    let k := c.1 / 576
    let row := k % 12292
    let bank := k / 12292 % 32
    let die := k / 12292 / 32 % 2
    if k / 12292 / 64 = src.val then
      (s.logicalRow src die bank row).bind fun r =>
        if mask / 2 ^ (r / 256) % 2 = 1 then some (cellKey dst.val die bank (s.remapRow dst die bank r) (c.1 % 576), c.2) else none
    else none
  { s with scratch := moved.foldl (fun m c => Memory.write m c.1 c.2) s.scratch }

/-- Whether the memory dies of a site can be read in row view (R337): its region's core rail and its stop work. -/
def State.rowsReadable (s : State) (p : Fin 168) : Bool := s.railOn (powerRegion p) && !(s.site p).fabricDown

/-! ## The start of a step (R329, R351, R352, R470) -/

/-- The planning figure of a phase in mW (R466). -/
def State.planning (s : State) (id : BitVec 128) (j power : Nat) : Nat :=
  match s.power.learned.find? fun e => e.1 == id && e.2.1 == j with
  | some (_, _, fit, steps) => if 64 ≤ steps then min (2 * power) (max (power / 2) (105 * fit / 100)) else power
  | none => power

/-- A binding's reservation in mW: its largest planning figure (R466). -/
def State.reservation (s : State) (t : Tablature) : Nat :=
  let ps := tabPhases t.image
  maxOf ((ps.zip (List.range ps.length)).map fun e => s.planning t.id e.2 e.1.power)

/-- The step period of a tablature in frames (R351). -/
def tabPeriod (img : List Byte) : Nat := 20 * tabLb img / tabF img + 1

/-- The first frame mark that lies 2 µs ahead for certain (R329; log entry 18). -/
def State.earliest (s : State) : Nat :=
  let e := s.frameCount.toNat + 1 + (4000 + s.panelF - 1) / s.panelF
  if s.switchPending 0 then max e (s.rn (.site 0) 0x18700018) else e

/-- START of a partition's next step (R329, R351, R352). -/
def State.nextStart (s : State) (x : Partition) (img : List Byte) : Nat :=
  match x.running, x.lastMark with
  | some _, some m => if x.stage = 2 then s.earliest else max s.earliest (m.toNat + tabPeriod img)
  | _, _ => s.earliest

/-- Whether the management die may arm the partition's step (R329, R348, R349): it is bound and no step is in progress, and where it serves, a
request's input has landed and every committed output has been read. -/
def State.armable (s : State) (x : Partition) : Bool :=
  x.state == 0 && (s.tabOf x).isSome && !x.armed && x.failed.isNone && (x.stage == 0 || x.stage == 2) && x.query.isNone && x.migrate.isNone &&
    !x.lcids.any s.coreGone &&
    (x.svc.isNone || x.running.any fun r => r.landAt.isSome && r.outDue.isEmpty)

/-- A demand joins those that wait for their share of the granted current (R449). -/
def State.waitGrant (s : State) (what : GrantFor) (rise : Nat) : State :=
  if s.power.waits.any fun w => w.1 == what then s
  else s.updPower fun y => { y with waits := y.waits ++ [(what, rise, s.time)] }

/-- The sustained average projected over the next second, in mW, is a free value: R470 gives no formula for it (log entry 2). -/
def State.projected (s : State) : Nat := Config.freeNat s.free

/-- A migration moves its core (R531 steps 2 to 5): the new site takes the declared segments, the instruction memory and the core's state, both sites
are QUIESCE, and the tables flip at the next frame mark (log entry 24). -/
def State.moveCore (s : State) (m : Migration) : State :=
  let old : Fin 168 := Fin.ofNat 168 m.old
  let new : Fin 168 := Fin.ofNat 168 m.new
  let tag := s.partOf old
  let s := s.endAttempt new
  let mask := s.rn (.site old) 0x18500010
  let s := ((s.setCoreState new 1).resetCore new).setSegOn new mask
  let s := s.copySegs old new mask
  let moves (off : Nat) : Bool := (decide (0x18100000 ≤ off) && decide (off < 0x18500000)) ||
    (decide (0x18501000 ≤ off) && decide (off < 0x18508000)) || (decide (0x18703000 ≤ off) && decide (off < 0x18703400))
  let mine := s.regs.filter fun e => e.1 / 2 ^ 29 == old.val && moves (e.1 % 2 ^ 29)
  let s := { s with regs := s.regs.filter fun e => !(e.1 / 2 ^ 29 == new.val && moves (e.1 % 2 ^ 29)) }
  let s := mine.foldl (fun st e => st.setReg (.site new) (e.1 % 2 ^ 29) (e.2 ^^^ resetOf (.site old) (e.1 % 2 ^ 29))) s
  let o := s.site old
  let s := s.updSite new fun x => { x with
    cc := o.cc, imem := o.imem, me := o.me, ve := o.ve, rings := o.rings, slotBufs := o.slotBufs, feedPos := o.feedPos, queues := o.queues,
    ctxs := o.ctxs, recv := o.recv, winSec := o.winSec, stepRun := o.stepRun, lateWin := [] }
  let s := (s.giveTag new tag).assign new 1 m.lcid
  let s := (s.setRf (.site old) 0x18000000 40 8 0xFF).mapIdle m.lcid (some (siteCol new))
  let s := ((s.setCoreState old 5).setCoreState new 5).setRf (.site new) 0x18600010 0 4 (s.capoAt new)
  let s := { s with mgmt.moving := some m }
  (s.writeBanks tag).armFlip

/-- A pending migration begins when no step is in progress and no epoch change either (R531 step 1). -/
def State.tryMigrate (s : State) (tag : Nat) : State := match s.part tag with
  | some x => (match x.migrate with
      | some m =>
        if x.armed || x.failed.isSome || s.epochBusy then s
        else if s.siteMode (Fin.ofNat 168 m.new) != 2 then s.cancelMigration tag
        else (s.setPart tag (some { x with migrate := none, stage := 4 })).moveCore m
      | none => s)
  | none => s

/-- A step is armed (R329): START and ACTIVE at every stop, and STEP_REPLAYED for a replay (R336 step 5); its cores' cap ceilings are their contract
frets until the controller gives headroom (R464, R469). -/
def State.armStep (s : State) (tag : Nat) (x : Partition) (img : List Byte) : State :=
  let start := s.nextStart x img
  let s := s.atStops fun st p =>
    (st.setReg (.site p) (pctxOff tag + 8) (w64 start)).setRf (.site p) (pctxOff tag) 63 1 1
  let s := s.updPart tag fun x => { x with armed := true, start := w64 start, mark0 := none, markEnd := none, done := [], stage := 0 }
  let s := if x.stage = 2 then s.event 0x7003 8 tag tag 0xFF [tag, x.stepIndex.toNat, x.replays] else s
  let s := (s.partSites x).foldl (fun st p => st.updClk p fun c => { c with capCeil := (s.contractFret p).getD 15 }) s
  (s.setCeilings (s.partSites x)).setTargets (s.partSites x)

/-- ARM_WAIT of CAP_STATUS follows the waiting steps. -/
def State.armWaits (s : State) : State :=
  s.setRf .mgmt 0x00110000 0 1 (b01 (s.power.waits.any fun w => match w.1 with
    | .step _ => true
    | _ => false))

/-- STEP_ARM (R329, R351, R352, R470): the management die arms a partition's step, or has it wait for the cap controller's grant; a migration that waits
for this moment begins instead. -/
def execStepArm (part : BitVec 6) (s : State) : Host.Outcome State Fault Refusal :=
  let tag := part.toNat
  .next (match s.part tag with
    | some x =>
      if x.migrate.isSome then s.tryMigrate tag
      else match s.armable x, s.tabOf x with
        | true, some t =>
          if s.budget < s.reservation t then s.raiseQuery tag 5
          else
            let rise := if x.granted.isSome then 0 else s.tenths (s.reservation t)
            let fits := decide (s.projected ≤ 98 * s.capSust / 100)
            let s := s.draw
            if rise = 0 && x.granted.isSome && fits then (s.armStep tag x t.image).armWaits
            else (s.waitGrant (.step tag) rise).armWaits
        | _, _ => s
    | none => s)

/-! ## The commit point (R332, R530) -/

/-- The offset of output buffer i mod 2 of a service binding (R349). -/
def SvcBinding.buffer (b : SvcBinding) (i : Nat) : Nat := b.outOffset + i % 2 * (64 + b.outMax)

/-- `n` bytes of a core's scratchpad as delivered, from a granule-aligned offset. -/
def State.peek (s : State) (p : Fin 168) (off n : Nat) : List Byte :=
  ((List.range ((n + 63) / 64)).flatMap fun i => granBytes (s.granAt p (off + 64 * i)).data).take n

/-- The output header and the output bytes of a step on its output core (R349). -/
def State.outputBytes (s : State) (x : Partition) (b : SvcBinding) (i : Nat) : List Byte := match s.relSite x b.outCore with
  | some p =>
    let len := bytesAt (s.peek p (b.buffer i) 64) 0 4
    s.peek p (b.buffer i) (64 + min len b.outMax)
  | none => []

/-- The hash of a committed step (R530). -/
def State.hashOf (s : State) (x : Partition) : W64 :=
  let cores := (s.partSites x).flatMap fun p => toBytes 8 (~~~ w64 (s.site p).stepRun).toNat
  let out := match x.svc with
    | some b => s.outputBytes x b x.stepIndex.toNat
    | none => []
  crc64 (cores ++ out)

/-- The request payloads of a core's present frame join its step's CRC and the CRCs of the attempts that shadow it, after its flits (R527, R530). -/
def State.foldLoads (s : State) (p : Fin 168) : State :=
  let loads := (s.site p).frameLoads
  if loads.isEmpty then s
  else
    let hash := (s.part (s.partOf p)).any (·.stepHash)
    let s := s.updSite p fun x => { x with
      frameLoads := [], stepRun := if hash then loads.foldl crc64Run x.stepRun else x.stepRun }
    (s.shadowing p).foldl (fun st q => State.sympSettle q 512 (st.updSite q fun x => { x with symp := x.symp.map fun y =>
      { y with workRun := loads.foldl crc64Run y.workRun, owed := y.owed ++ loads.map fun _ => some 64 } })) s

/-- A spare that still owes CRCs at the end of the working core's step is late (R528). -/
def State.lateSpares (s : State) (p : Fin 168) : State :=
  (s.shadowing p).foldl (fun st q => st.updSite q fun x => { x with symp := x.symp.map fun y =>
    if y.owed.isEmpty || y.differ.isSome then y
    else { y with differ := some (st.frameCount.toNat, y.waiting.headD 0, ~~~ w64 y.spareRun) } }) s

/-- The phases of a tablature have run to completion once more (R466). -/
def State.learnSteps (s : State) (t : Tablature) : State :=
  let ps := tabPhases t.image
  (ps.zip (List.range ps.length)).foldl (fun st e => st.updPower fun y =>
    if y.learned.any fun l => l.1 == t.id && l.2.1 == e.2 then
      { y with learned := mapFirst (fun l => l.1 == t.id && l.2.1 == e.2) (fun l => (l.1, l.2.1, l.2.2.1, l.2.2.2 + 1)) y.learned }
    else { y with learned := y.learned ++ [(t.id, e.2, e.1.power, 1)] }) s

/-- COMMIT_POINT (R332): every core has reported and 2 µs have passed since the mark that ended the last frame; the step index advances. -/
def execCommitPoint (part : BitVec 6) (s : State) : Host.Outcome State Fault Refusal :=
  let tag := part.toNat
  .next (match s.part tag with
    | some x =>
      if x.armed && x.failed.isNone && (List.range (x.rows * x.cols)).all (fun r => x.done.contains r) &&
          x.markEnd.any (fun t => decide (t + 200 ≤ s.time)) then
        let sites := s.partSites x
        let s := sites.foldl State.foldLoads s
        let hashes := if x.stepHash then ((x.stepIndex, s.hashOf x) :: x.hashes).take 1024 else x.hashes
        let s := sites.foldl (fun st p => (st.lateSpares p).updSite p fun y => { y with stepRun := 0xFFFFFFFFFFFFFFFF }) s
        let s := match s.tabOf x with
          | some t => s.learnSteps t
          | none => s
        let e := s.energy
        let s := s.updPart tag fun x => { x with
          stepIndex := x.stepIndex + 1, stepsRun := x.stepsRun + 1, armed := false, replays := 0, hashes := hashes,
          running := x.running.map fun r => { r with stepsRun := r.stepsRun + 1, eEnd := e, outDue := r.outDue ++ [x.stepIndex.toNat] } }
        let s := if x.warmAt.isNone && x.running.isNone then s.lowerGrant tag else s
        (s.setTargets sites).tryMigrate tag
      else s
    | none => s)

/-- LB_TIMER_EXPIRY (R339): the deadline timer reaches LB before the commit point. -/
def execLbTimerExpiry (part : BitVec 6) (s : State) : Host.Outcome State Fault Refusal :=
  let tag := part.toNat
  .next (match s.part tag with
    | some x => if x.armed && x.failed.isNone && x.mark0.any (fun t => decide (t + s.lbOf x ≤ s.time)) then s.fail tag 0x06 0x7002 0 else s
    | none => s)

/-! ## Replay (R336, R337, R522-R524) -/

/-- A site takes the LCID of a core whose site has failed (R522 steps 1 to 3, R524); the answer says whether its state was copied. -/
def State.substitute (s : State) (tag lcid rel : Nat) (img : List Byte) (old new : Fin 168) : State × Bool :=
  let copied := s.rowsReadable old
  let epoch := s.idleVersion
  let s := s.endAttempt new
  let s := ((s.giveTag old 0xFF).assign old (s.siteMode old) 0xFF).mapIdle lcid (some (siteCol new))
  let s := (s.assign new 1 lcid).giveTag new tag
  let s := s.setUpCore img new rel
  let s := if copied then s.copySegs old new (layMask img rel) else s
  let s := (s.updSite new fun x => { x with lateWin := [] }).countSites
  let s := s.siteEvent new 0x8021 [lcid, old.val, new.val, epoch, b01 (!copied)]
  let left := (rowSites (siteRow new)).filter fun p => s.siteMode p == 2
  (if left.isEmpty then s.event 0x8009 0 0 0xFF 0xFF
      [siteRow new, ((rowSites (siteRow new)).filter fun p => s.siteMode p == 1).length] else s, copied)

/-- An LCID of no bound partition moves from a lost site to a qualified spare of its row, or becomes ABSENT where the row has none (R477, R522, R523). -/
def State.remap (s : State) (lcid : Nat) (old : Fin 168) : State × Bool := match s.spareFor (siteRow old) with
  | some (new, true) =>
    let tag := s.partOf old
    let epoch := s.idleVersion
    let s := s.endAttempt new
    let s := ((s.giveTag old 0xFF).assign old (s.siteMode old) 0xFF).mapIdle lcid (some (siteCol new))
    let s := ((s.assign new 1 lcid).giveTag new tag).countSites
    (s.siteEvent new 0x8021 [lcid, old.val, new.val, epoch, 1], true)
  | some (_, false) => (s, false)
  | none => ((((s.giveTag old 0xFF).assign old (s.siteMode old) 0xFF).mapIdle lcid none).countSites, true)

/-- The sites that are lost to cores of no bound partition (R477, R521). -/
def State.lostSites (s : State) : List (Fin 168) :=
  (List.finRange 168).filter fun p =>
    decide (3 ≤ s.siteMode p) && s.lcidOf p != 0xFF && !((s.part (s.partOf p)).any fun x => x.tab.isSome)

/-- Spares take the LCIDs of such sites as soon as no epoch change is in progress. -/
def State.remapLost (s : State) : State :=
  if s.epochBusy then s
  else
    let x := s.lostSites.foldl (fun (a : State × Bool) p =>
      let y := a.1.remap (a.1.lcidOf p) p
      (y.1, a.2 || y.2)) (s, false)
    if x.2 then x.1.armFlip else x.1

/-- What a replay's substitutions have come to: the state, the relative cores whose contents were lost, those left without a site, whether a spare's
capo is too low, and whether a spare must self-qualify first. -/
structure Substitution where
  s : State
  lost : List Nat
  absent : List Nat
  low : Bool
  waits : Bool

/-- One core's substitution (R523). -/
def Substitution.core (a : Substitution) (tag : Nat) (x : Partition) (img : List Byte) (rel : Nat) : Substitution :=
  let lcid := x.lcids.getD rel 0xFF
  if a.waits then a
  else match a.s.siteOf lcid with
    | none => { a with absent := a.absent ++ [rel] }
    | some old =>
      if a.s.siteMode old = 1 then a
      else match a.s.spareFor (siteRow old) with
        | some (new, true) =>
          let y := a.s.substitute tag lcid rel img old new
          { a with s := y.1, lost := if y.2 then a.lost else a.lost ++ [rel], low := a.low || decide (a.s.capoAt new < tabFret img rel) }
        | some (_, false) => { a with waits := true }
        | none =>
          let s := (((a.s.giveTag old 0xFF).assign old (a.s.siteMode old) 0xFF).mapIdle lcid none).countSites
          { a with s := s, absent := a.absent ++ [rel] }

/-- A replay's last steps (R310, R336 steps 3 and 4, R416): windows and static channels are reopened, cores restarted, and the step waits to be armed. -/
def State.finishReplay (s : State) (tag : Nat) : State := match s.part tag with
  | some x => (match s.tabOf x with
      | some t =>
        let n := if x.armed then 1 else 0
        let again (r : SvcReq) : SvcReq :=
          let r := { r with replays := r.replays + n }
          if r.stepsRun = 0 then { r with sentAt := none, acks := [], landAt := none } else r
        let s := ((s.openSetup x t.image).collsRestart tag).startCores x
        let s := s.updPart tag fun x => { x with
          failed := none, armed := false, done := [], mark0 := none, markEnd := none, replays := x.replays + n, stage := 2 * n, svcSeq := 0,
          query := none, running := x.running.map again }
        (s.partSites x).foldl (fun st p => st.updSite p fun y => { y with stepRun := 0xFFFFFFFFFFFFFFFF }) s
      | none => s)
  | none => s

/-- The replay objects whose home is the scratchpad of one of a list of relative cores, as (relative core, object) (R337). -/
def lostObjects (img : List Byte) (lost : List Nat) : List (Nat × Nat) :=
  let os := tabReplay img
  ((os.zip (List.range os.length)).filter fun e => e.1.home == 0 && lost.contains e.1.core).map fun e => (e.1.core, e.2)

/-- Steps 1 and 2 of R336: the partition reset, and spares for the cores whose site is lost. -/
def State.replay (s : State) (tag : Nat) (x : Partition) (t : Tablature) : State :=
  let img := t.image
  let rels := List.range (x.rows * x.cols)
  if !(rels.any fun r => s.coreGone (x.lcids.getD r 0xFF)) then
    (if (s.badCapo x img).isSome then (s.partReset tag).abortQuery tag 0x01 1 else (s.partReset tag).finishReplay tag)
  else if s.epochBusy then s
  else
    let a : Substitution := rels.foldl (fun (a : Substitution) (r : Nat) => a.core tag x img r) ⟨s.partReset tag, [], [], false, false⟩
    if a.waits then s
    else
      let s := ((a.s.writeBanks tag).armFlip).updPart tag fun x => { x with stage := 1 }
      let lost := lostObjects img a.lost
      if !a.absent.isEmpty then s.abortQuery tag 0x01 0
      else if a.low then s.abortQuery tag 0x01 1
      else if lost.isEmpty then s
      else (lost.foldl (fun st o => st.event 0x7005 8 tag tag 0xFF [tag, o.1, o.2]) s).abortQuery tag 0x03 3

/-- STEP_REPLAY (R335-R337, R416, R522, R535): the management die replays a failed step, or aborts the partition and asks the fault manager; between
steps it substitutes spares for sites that are lost. -/
def execStepReplay (part : BitVec 6) (s : State) : Host.Outcome State Fault Refusal :=
  let tag := part.toNat
  .next (match s.part tag with
    | some x => (match s.tabOf x with
        | some t =>
          if x.state ≠ 0 || (x.query.isSome && x.stage ≠ 3) then s
          else if x.stage = 1 then (if s.epochBusy then s else s.finishReplay tag)
          else if x.stage = 3 && s.epochBusy then s
          else match x.failed with
            | some w =>
              if x.stage ≠ 3 && w % 256 = 0x05 then s.raiseQuery tag 4
              else if x.stage ≠ 3 && x.armed && decide (bytesAt t.image 51 1 ≤ x.replays) then
                (s.event 0x7004 8 tag tag 0xFF [tag, x.stepIndex.toNat]).abortQuery tag 0x02 2
              else s.replay tag x t
            | none => if !x.armed && x.stage = 0 && x.lcids.any s.coreGone then s.replay tag x t else s
        | none => s.remapLost)
    | none => s)

/-! ## The end of a drain (R274 step 4, R531 step 6, R561) -/

/-- A migrated core goes on at its new site and the old one becomes a spare (R531 step 6). -/
def State.endMove (s : State) (m : Migration) : State :=
  let old : Fin 168 := Fin.ofNat 168 m.old
  let new : Fin 168 := Fin.ofNat 168 m.new
  let tag := s.partOf new
  let s := ((s.resetCore old).setSegOn old 0).setCoreState old 0
  let s := ((s.giveTag old 0xFF).assign old (if s.siteMode old = 1 then 2 else s.siteMode old) 0xFF).countSites
  let s := if tag = 0xFF then s.setCoreState new 0
    else if (s.part tag).any fun x => x.tab.isSome then s.unquiesceCore new
    else s.setCoreState new 1
  let s := s.updPart tag fun x => { x with stage := 0 }
  ({ s with mgmt.moving := none }.setTargets [old, new]).migrationEnded m 0

/-- The drain is complete for a frame: DRAINING clears at every stop, the old version is rewritten, and what waited for it goes on. -/
def State.drained (s : State) (frame : Nat) : State :=
  let s := s.atStops fun st p => (st.setRf (.site p) 0x18710000 1 1 0).copyVersion p
  let flips := s.mgmt.flips
  let s := { s with epoch := EpochSt.init, mgmt.flips := [] }
  let s := s.event 0x2013 7 0xF0 0xFF 0xFF [frame]
  let s := flips.foldl (fun st f => st.mciReply f.1 0x0702 0 0 (toBytes 8 f.2)) s
  let s := match s.mgmt.moving with
    | some m => s.endMove m
    | none => s
  s.remapLost

/-- EPOCH_DRAIN_SLOW (R276): a drain not complete 100 µs after the flip; the stops whose last snapshot is not zero, eight PSIDs in a word. -/
def execEpochDrainSlow (s : State) : Host.Outcome State Fault Refusal :=
  .next (match s.epoch.flippedAt with
    | some t =>
      if !s.epoch.slow && decide (t + 10000 ≤ s.time) then
        let late := (List.finRange 168).filter fun p => s.rf (.site p) 0x18710018 48 16 != 0
        let word := ofBytes (((late.take 8).map fun p => BitVec.ofNat 8 p.val) ++ List.replicate (8 - late.length) 0xFF)
        { s.event 0x2014 7 0xF0 0xFF 0xFF [word] with epoch.slow := true }
      else s
    | none => s)

/-! ## The fault manager's deadline (R535) -/

/-- FM_WAIT_EXPIRY (R535): no decision has come in time for the oldest due query by tag; FM_DEFAULT applies. -/
def execFmWaitExpiry (s : State) : Host.Outcome State Fault Refusal :=
  let wait := s.rf .mgmt 0x00140000 0 8 * 10 ^ 8
  let due := s.partList.find? fun y => y.2.state == 0 && y.2.query.any fun q => decide (q.2.2 + wait ≤ s.time)
  .next (match due with
    | some (tag, x) =>
      let q := x.query
      let id := (q.map Prod.fst).getD 0
      let cause := if (q.map fun z => z.2.1) = some 4 then 0x0A else 0x01
      let release := s.rf .mgmt 0x00140000 16 1
      let s := s.event 0x8027 8 tag tag 0xFF [id, release]
      if release = 1 then s.kill tag cause false none
      else (s.kill tag cause true none).updPart tag fun y => { y with query := q }
    | none => s)

end Sys2Proof.Machine
end

