-- ==== Sys2Proof/Machine/Qualify.lean ====
section
/-! DEFINITION. Qualifying spares (R525-R529): the sympathetic attempt, its end, self-qualification, and the hour after which a qualification expires. -/

namespace Sys2Proof.Machine

/-- A spare becomes qualified (R525). -/
def State.qualify (s : State) (p : Fin 168) : State :=
  (s.setRf (.site p) 0x18000000 14 1 1).setReg (.site p) 0x18000038 (w64 s.time)

/-- Whether a spare's qualification is older than SYMP_PERIOD, or it has none (R525). -/
def State.qualDue (s : State) (p : Fin 168) : Bool :=
  !s.qualified p || decide (s.rn (.site p) 0x18000038 + s.rf .mgmt 0x00140000 8 8 * 60 * 10 ^ 8 ≤ s.time)

/-- The working core that a spare shadows: the next of its row, in rotation, whose contract fret the spare's capo reaches (R525, R526), as its logical
column and site. -/
def State.shadowNext (s : State) (p : Fin 168) : Option (Nat × Fin 168) :=
  let r := siteRow p
  let first := Sparse.get 0 s.mgmt.sympNext r
  (List.range 12).findSome? fun i =>
    let c := (first + i) % 12
    match s.siteOf (r * 12 + c) with
    | some q => match s.contractFret q with
      | some f => if s.siteMode q = 1 && decide (f ≤ s.capoAt p) then some (c, q) else none
      | none => none
    | none => none

/-- Whether a partition stands at a step boundary with no request accepted and not yet complete (R526). -/
def Partition.atGap (x : Partition) : Bool := !x.armed && x.failed.isNone && x.stage == 0 && x.running.isNone && x.queue.isEmpty

/-- An attempt that has nothing to compare yet. -/
def Symp.start (work since : Nat) : Symp :=
  ⟨work, since, 0xFFFFFFFFFFFFFFFF, [], 0xFFFFFFFFFFFFFFFF, [], [], none, false⟩

/-- SYMP_QUAL_START (R525, R526 steps 1 to 3): the spare gets the working core's layout, code, segments and open contexts, and runs. -/
def execSympQualStart (p : Site) (s : State) : Host.Outcome State Fault Refusal :=
  .next (if s.siteMode p != 2 || (s.site p).symp.isSome || !s.qualDue p then s
  else match s.shadowNext p with
    | some (c, q) => (match s.part (s.partOf q) with
        | some x => (match s.tabOf x with
            | some t =>
              if !x.atGap then s
              else
                let rel := x.rel (s.lcidOf q)
                let s := (s.setUpCore t.image p rel).copySegs q p (layMask t.image rel)
                let o := s.site q
                let s := s.updSite p fun y => { y with
                  ctxs := o.ctxs, symp := some (Symp.start q.val (s.rn (.site p) 0x18000040)) }
                let s := { s with mgmt.sympNext := Sparse.put 0 s.mgmt.sympNext (siteRow p) ((c + 1) % 12) }
                let s := (s.setRf (.site p) 0x18000000 13 1 1).setRf (.site p) 0x18600010 0 4 (s.capoAt p)
                (s.restartCore p).setTargets [p]
            | none => s)
        | none => s)
    | none => s)

/-- SYMP_QUAL_END (R528): at a step boundary an attempt ends as inconclusive, as a mismatch, or after 256 equal frames as passed. -/
def execSympQualEnd (p : Site) (s : State) : Host.Outcome State Fault Refusal :=
  .next (match (s.site p).symp with
    | some y =>
      let q : Fin 168 := Fin.ofNat 168 y.work
      let gone := (s.contractFret q).isNone
      let spoiled := y.spoiled || gone
      let full := decide (256 ≤ s.rn (.site p) 0x18000040 - y.since)
      if (s.part (s.partOf q)).any (·.armed) || !(spoiled || y.differ.isSome || full) then s
      else
        let s := s.endAttempt p
        if spoiled then s
        else match y.differ with
          | some (frame, theirs, mine) =>
            (s.siteEvent p 0x8022 [p.val, s.lcidOf q, frame, theirs.toNat, mine.toNat]).updSite p fun z => { z with accuses := some y.work }
          | none => s.qualify p
    | none => s)

/-- SELF_QUALIFICATION (R528, R529): passing qualifies the spare, and marks a site that a mismatch put in question SUSPECT; failing retires the spare. -/
def execSelfQualification (p : Site) (pass : Bool) (s : State) : Host.Outcome State Fault Refusal :=
  .next (if s.siteMode p != 2 || (s.site p).symp.isSome then s
  else
    let accused := (s.site p).accuses
    let s := s.updSite p fun x => { x with accuses := none }
    if pass then
      let s := (s.qualify p).remapLost
      match accused with
      | some w => s.setRf (.site (Fin.ofNat 168 w)) 0x18000000 15 1 1
      | none => s
    else ((s.setRf (.site p) 0x18000000 14 1 0).retireSite p 1).countSites)

/-- QUALIFICATION_EXPIRY (R525): one hour after it, a qualification is over. -/
def execQualificationExpiry (p : Site) (s : State) : Host.Outcome State Fault Refusal :=
  .next (if s.qualified p && decide (s.rn (.site p) 0x18000038 + hourTicks ≤ s.time) then s.setRf (.site p) 0x18000000 14 1 0 else s)

end Sys2Proof.Machine
end

