-- ==== Sys2Proof/Machine/Frame.lean ====
section
/-! DEFINITION. The frame mark (R231, R233, R247, R248, R251, R274, R329): every stop's counts, banks and epochs, and the steps that end or start
with it. -/

namespace Sys2Proof.Machine

/-- A frame of a step ends for a core: the CRCs of the attempts that shadow it are closed (R527). -/
def State.endFrame (s : State) (p : Fin 168) : State :=
  let s := s.foldLoads p
  (s.shadowing p).foldl (fun st q => State.sympSettle q 512 (st.updSite q fun x => { x with symp := x.symp.map fun y =>
    { y with owed := y.owed ++ [none], waiting := y.waiting ++ [~~~ w64 y.workRun], workRun := 0xFFFFFFFFFFFFFFFF } })) s

/-- The partitions with a step in progress, with their tags. -/
def State.running (s : State) : List (Nat × Partition) := s.partList.filter fun y => y.2.armed && y.2.mark0.isSome

/-- FRAME_LEN takes effect, where it is in range (R231). -/
def State.takeFrameLen (s : State) (p : Fin 168) : State :=
  let f := s.rf (.site p) 0x18700008 0 14
  if f = s.frameLen p || f < 64 || 8192 < f then s else s.updSite p fun x => { x with frameLen := f }

/-- The banks switch at the mark that SWITCH_FRAME names (R233). -/
def State.switchBanks (s : State) (p : Fin 168) : State :=
  if s.reg (.site p) 0x18700018 = s.frameCount && s.switchPending p then
    (s.setRf (.site p) 0x18700000 1 1 (1 - s.slotBank p)).setReg (.site p) 0x18700018 (BitVec.allOnes 64)
  else s

/-- The epoch inverts at the mark that EPOCH_FRAME names (R274 step 2). -/
def State.invertEpoch (s : State) (p : Fin 168) : State :=
  if s.reg (.site p) 0x18710008 = s.frameCount && s.reg (.site p) 0x18710008 != BitVec.allOnes 64 then
    ((s.setRf (.site p) 0x18710000 0 1 (1 - s.injectEpoch p)).setRf (.site p) 0x18710000 1 1 1).setReg (.site p) 0x18710008 (BitVec.allOnes 64)
  else s

/-- A DRAIN_REPORT of a stop or a stack port for the present frame (R274 step 3; its fields are the model's, log entry 10). -/
def State.drainReport (s : State) (src : Place) (target unit : Nat) : State :=
  s.inject src { mkPacket 0x27 0xF0 0 target unit 0xFE s.frameCount.toNat with addr := s.frameCount }

/-- While DRAINING, a stop latches OLD_INFLIGHT and reports a snapshot of zero (R274 step 3). -/
def State.latchOld (s : State) (p : Fin 168) : State :=
  if s.rf (.site p) 0x18710000 1 1 = 0 then s
  else
    let n := s.oldInflight p % 2 ^ 16
    let s := s.setReg (.site p) 0x18710018 (w64 (n * 2 ^ 48 + s.frameCount.toNat % 2 ^ 48))
    if n = 0 then s.drainReport (.stop p) 0xF2 p.val else s

/-- The stack ports report with the stops: a packet of theirs in flight is counted at the stop it entered (R274). -/
def State.stackReports (s : State) : State :=
  if s.rf (.site 0) 0x18710000 1 1 = 0 then s
  else (List.finRange 28).foldl (fun st k => st.drainReport (.stack k) 0xFC k.val) s

/-- The flits of a partition that a stop still holds in ENGINE buffers of its core and in turn queues, as (buffer, flits) (R248). -/
def State.stale (s : State) (p : Fin 168) (tag : Nat) : List (Nat × Nat) :=
  let bufs := if s.siteTag p = tag then
      ((List.range 64).filter fun n => s.slotMode p n == 1).map fun n => (n, (s.slotBuf p n).length)
    else []
  let turns := (List.range 16).map fun q => (0x40 + q, ((s.turnQ p q).filter fun t => t.flit.tag.toNat == tag).length)
  (bufs ++ turns).filter fun e => e.2 != 0

/-- A stop at which a partition's step has run its last frame (R247, R248, R250): ACTIVE clears, stale flits are discarded, counted and reported, and
what FEED fetched and did not send is dropped without advancing TAIL. -/
def State.endStep (s : State) (p : Fin 168) (tag : Nat) : State :=
  let s := s.setRf (.site p) (pctxOff tag) 63 1 0
  let stale := s.stale p tag
  let n := stale.foldl (fun a e => a + e.2) 0
  let s := (List.range 16).foldl (fun st q => st.setTurnQ p q ((st.turnQ p q).filter fun t => t.flit.tag.toNat != tag)) s
  let s := if s.siteTag p = tag then
      (List.range 64).foldl (fun st b =>
        if st.slotMode p b = 1 then st.setSlotBuf p b []
        else if st.slotMode p b = 2 then
          (st.setSlotBuf p b []).updSite p fun x => { x with feedPos := Sparse.put 0 x.feedPos b 0 }
        else st) s
    else s
  match stale with
  | e :: _ =>
    let s := stale.foldl (fun st e => if e.1 < 64 then st.setRf (.site p) (0x18703008 + 16 * e.1) 17 1 1 else st) s
    ((s.count32n (.site p) 0x187001B0 n).frameEvent p 0x2005 tag [p.val, e.1, n] none).stepFailPkt p tag 0x2005
  | [] => s

/-- The steps whose last frame has ended at this mark. -/
def State.endSteps (s : State) : State :=
  let ended (p : Fin 168) (n : Nat) : Bool :=
    bit (s.reg (.site p) (pctxOff n)) 63 &&
      s.frameCount == s.reg (.site p) (pctxOff n + 8) + w64 (s.rf (.site p) (pctxOff n) 0 16)
  let s := (s.running.filter fun y => y.2.failed.isNone && y.2.markEnd.isNone &&
      s.frameCount == y.2.start + w64 (s.rf (.site 0) (pctxOff y.1) 0 16)).foldl
    (fun st y => st.updPart y.1 fun x => { x with markEnd := some s.time }) s
  s.atStops fun st p => ((List.range 64).filter (ended p)).foldl (fun st n => st.endStep p n) st

/-- STEP.WAIT may return in a core and in the spares that shadow it (R154, R329); what the spares issued before the step does not count (R527). -/
def State.goCore (s : State) (p : Fin 168) (index : W64) : State :=
  let go (c : Cc) : Cc := if c.stepWaiting then { c with stepGo := some index } else c
  (s.shadowing p).foldl (fun st q => (st.updCc q go).updSite q fun x => { x with symp := x.symp.map fun y => { y with loads := [] } })
    (s.updCc p go)

/-- The steps whose frame 0 begins at this mark (R329, R351, R362). -/
def State.startSteps (s : State) : State :=
  (s.partList.filter fun y => y.2.armed && y.2.failed.isNone && y.2.mark0.isNone && y.2.start == s.frameCount).foldl (fun st y =>
    let e := st.energy
    let st := st.updPart y.1 fun x => { x with
      mark0 := some s.time, lastMark := some s.frameCount,
      running := x.running.map fun r => if r.begun then r else { r with begun := true, eStart := e } }
    (st.partSites y.2).foldl (fun st p => st.goCore p y.2.stepIndex) st) s

/-- The tags of a list that are neither a tag nor in a list of others join it. -/
def joinTags (tag : Nat) (others now : List Nat) : List Nat := others ++ now.filter fun t => t != tag && !others.contains t

/-- Every job and every begun request notes the other partitions with a step in progress (R362, R482). -/
def State.noteOthers (s : State) : State :=
  let now := s.running.map Prod.fst
  s.partList.foldl (fun st y => st.updPart y.1 fun x =>
    if x.tab.isNone then x
    else { x with
      others := joinTags y.1 x.others now
      running := x.running.map fun r => if r.begun then { r with others := joinTags y.1 r.others now } else r }) s

/-- FRAME_MARK (R231): the events of the frame that ends are raised, CRCs close, FRAME_COUNT advances at every stop, F, banks and epochs change, and steps
end and start. -/
def execFrameMark (s : State) : Host.Outcome State Fault Refusal :=
  let s := s.atStops fun st p => st.flushFrameEvs p
  let s := s.running.foldl (fun st y => (st.partSites y.2).foldl State.endFrame st) s
  let s := s.atStops fun st p => st.updSite p fun x => { x with frameLoads := [] }
  let s := { s with frameCount := s.frameCount + 1 }
  let flips := s.reg (.site 0) 0x18710008 == s.frameCount && s.reg (.site 0) 0x18710008 != BitVec.allOnes 64
  let s := s.atStops fun st p => ((st.takeFrameLen p).switchBanks p).invertEpoch p
  let s := if flips then
      { s.event 0x2012 7 0xF0 0xFF 0xFF [s.injectEpoch 0, s.frameCount.toNat] with epoch := ⟨some s.time, false, []⟩ }
    else s
  let s := (s.atStops State.latchOld).stackReports
  .next (s.endSteps.startSteps).noteOthers

end Sys2Proof.Machine
end

