-- ==== Sys2Proof/Machine/Service.lean ====
section
/-! DEFINITION. Service (R343-R364): rings and doorbells, fetching and admission, input messages, output buffers, deadlines, responses and warmth. -/

namespace Sys2Proof.Machine

/-! ## Prediction (R351, R354, R355) -/

/-- Ts of a tablature in whole drone ticks (R351). -/
def tabTs (img : List Byte) : Nat := (tabPeriod img * tabF img + 19) / 20

/-- SVC_FIXED plus a number of bytes at SVC_HOST_RATE, in whole ticks (R344, R354). -/
def State.svcTicks (s : State) (bytes : Nat) : Nat := (s.svcFixed * s.svcRate + bytes + 10 * s.svcRate - 1) / (10 * s.svcRate)

/-- C(q): the charge of a request entry on a partition with a binding and an image (R354). -/
def State.charge (s : State) (b : SvcBinding) (img : List Byte) (e : List Byte) : Nat :=
  s.svcTicks (if reqInKind e = 1 then reqInLen e else 0) + (4000 + tabF img + 19) / 20 + reqSteps e * tabTs img + s.svcTicks b.outMax

/-- The promises before a request: what is left of the running request, and the charges of the queued ones (R354). -/
def State.backlog (s : State) (x : Partition) (b : SvcBinding) (img : List Byte) : Nat :=
  (match x.running with
    | some r => (reqSteps r.entry - r.stepsRun) * tabTs img + s.svcTicks b.outMax
    | none => 0) + (x.queue.map (·.charge)).foldl (· + ·) 0

/-- Delivered power in mW that the ramps promised to other partitions still bring (R355). -/
def State.promised (s : State) (tag : Nat) : Nat :=
  s.partList.foldl (fun (a : Nat) y =>
    if y.1 != tag && y.2.warmAt.isSome && y.2.granted.isNone then a + (match s.tabOf y.2 with
      | some t => (tabPower t.image).1
      | none => 0)
    else a) 0

/-- The ramp of an idle partition in ticks (R355), its highest phase and the promised ramps at the load-slew limit. -/
def State.ramp (s : State) (tag : Nat) (img : List Byte) : Nat :=
  let d := 92 * s.vin * s.rf .mgmt 0x00100008 0 8
  if d = 0 then 0 else (10 ^ 7 * (s.promised tag + (tabPower img).1) + d - 1) / d

/-- predict of R354: the completion of a request entry on a candidate, from now. -/
def State.predict (s : State) (tag : Nat) (x : Partition) (b : SvcBinding) (img : List Byte) (e : List Byte) : Nat :=
  s.time + (if x.warmAt.isNone then s.ramp tag img else 0) + s.backlog x b img + s.charge b img e

/-! ## Checks of a request entry (R347, R356) -/

/-- Whether a spill location with a length names no bytes of a stack. -/
def badSpillAddr (addr len : Nat) : Bool :=
  decide (2 ^ 45 ≤ addr) || addr / 2 ^ 36 % 16 != 0 || decide (28 ≤ addr / 2 ^ 40) || addr % 64 != 0 ||
    decide (spillBytes < addr % 2 ^ 36 + len)

/-- BAD_REQUEST. -/
def badRequest (e : List Byte) : Bool :=
  bytesAt e 0 1 != 1 || decide (16 ≤ reqFlags e) || reqSteps e == 0 || decide (2 < reqInKind e) || decide (3 < reqOutKind e) ||
    decide ((if reqInKind e = 0 then 4096 else if reqInKind e = 1 then 65472 else 0) < reqInLen e)

/-- BAD_DESTINATION, for a ring's data area or, with none, a peer request. An offset that is not 64-byte aligned counts as outside (log entry 25). -/
def badDestination (area : Option Nat) (e : List Byte) : Bool :=
  let host (addr len : Nat) : Bool := match area with
    | some n => addr % 64 != 0 || decide (n < addr + len)
    | none => true
  (reqOutKind e == 0 && host (reqOutAddr e) (reqOutLimit e)) || (reqOutKind e == 1 && badSpillAddr (reqOutAddr e) (reqOutLimit e)) ||
    (reqOutKind e == 2 && decide (12 < reqOutLimit e)) ||
    (reqInKind e == 1 && host (reqInAddr e) (reqInLen e)) || (reqInKind e == 2 && badSpillAddr (reqInAddr e) 1)

/-! ## Admission (R353, R356, R357) -/

/-- A request at its admission instant. -/
def SvcReq.fresh (id : Nat) (ring : Option Nat) (peer : Option (Nat × Nat × W32)) (entry input : List Byte) (now : Nat) : SvcReq :=
  { id := id, ring := ring, peer := peer, entry := entry, input := input, admitAt := now, predicted := 0, charge := 0, sentAt := none,
    acks := [], landAt := none, begun := false, outDue := [], stepsRun := 0, replays := 0, outLen := 0, late := false, poisoned := false,
    clipped := false, notRun := false, inline := [], eStart := 0, eEnd := 0, completeAt := 0, others := [] }

/-- A candidate for a request: tag, partition, service binding and image. -/
structure Candidate where
  tag : Nat
  part : Partition
  bind : SvcBinding
  img : List Byte

/-- The candidates of a request entry (R356). -/
def State.candidates (s : State) (e : List Byte) : List Candidate :=
  s.partList.filterMap fun y => match y.2.svc, s.tabOf y.2 with
    | some b, some t => if y.2.state = 0 && t.id = reqTab e then some ⟨y.1, y.2, b, t.image⟩ else none
    | _, _ => none

/-- Whether a candidate holds QUEUE_LIMIT accepted requests that are not complete. -/
def Candidate.full (c : Candidate) : Bool := decide (c.bind.queueLimit ≤ c.part.queue.length + c.part.running.toList.length)

/-- The candidate with the earliest predicted completion, the lowest tag among equals (R356). -/
def State.earliestOf (s : State) (e : List Byte) (l : List Candidate) : Option (Nat × Candidate) :=
  l.foldl (fun (a : Option (Nat × Candidate)) c =>
    let p := s.predict c.tag c.part c.bind c.img e
    match a with
    | some (q, _) => if p < q then some (p, c) else a
    | none => some (p, c)) none

/-- A request is rejected with a reason, and EARLIEST where it applies (R356). -/
def State.reject (s : State) (r : SvcReq) (reason earliest : Nat) : State :=
  s.respond r ({ r with completeAt := earliest }.response 0xFF 0x10 reason)

/-- A request is accepted for a partition, which becomes warm or stays so (R353, R356). -/
def State.accept (s : State) (r : SvcReq) (tag : Nat) (x : Partition) : State :=
  let s := s.setPart tag (some { x with queue := x.queue ++ [r], accepted := x.accepted + 1, warmAt := some s.time })
  if x.warmAt.isNone then s.setTargets (s.partSites x) else s

/-- The admission of one request: the first reason that applies rejects it, or the earliest candidate takes it. -/
def State.admitOne (s : State) (ring : Option Nat) (peer : Option (Nat × Nat × W32)) (entry input : List Byte) : State :=
  let r := SvcReq.fresh s.mgmt.nextReq ring peer entry input s.time
  let s := { s with mgmt.nextReq := s.mgmt.nextReq + 1 }
  let cs := s.candidates entry
  if badRequest entry then s.reject r 1 0
  else if badDestination (ring.map fun n => (s.svcRing n).dataLen) entry then s.reject r 2 0
  else if cs.isEmpty then s.reject r 3 0
  else match s.earliestOf entry (cs.filter fun c => !c.full) with
    | none => (cs.foldl (fun st c => st.countRejected c.tag 4) s).reject r 4 0
    | some (p, c) =>
      if reqTimed entry && decide (reqDeadline entry < p) then (s.countRejected c.tag 5).reject r 5 p
      else s.accept { r with predicted := p, charge := s.charge c.bind c.img entry } c.tag c.part

/-! ## Rings (R345-R347, R361) -/

/-- Whether the response ring has no room (R361). -/
def SvcRing.full (x : SvcRing) : Bool := decide (x.respEntries ≤ (BitVec.ofNat 32 x.posted - x.consumer).toNat)

/-- SERVICE_DOORBELL (R346): the counts are taken; a producer too far ahead disables the ring. -/
def execServiceDoorbell (ring : BitVec 6) (prod cons : BitVec 32) (s : State) : Host.Outcome State Fault Refusal :=
  let x := s.svcRing ring.toNat
  .next (if !x.on then s
    else
      let bad := x.enabled && decide (x.reqEntries < (prod - x.consumed).toNat)
      let s := s.updSvcRing ring.toNat fun x => { x with producer := prod, consumer := cons, enabled := x.enabled && !bad }
      if bad then s.event 0x7011 0 0 0xFF 0xFF [ring.toNat, prod.toNat, x.consumed.toNat] else s)

/-- The next request of a ring: its entry, its inline bytes past the first 16, and the entries it takes; none while the producer count does not cover
it. -/
def State.nextRequest (s : State) (x : SvcRing) : Option (List Byte × List Byte × Nat) :=
  let entry (i : Nat) : List Byte := s.host.readBytes (x.reqBase + 64 * ((x.consumed.toNat + i) % x.reqEntries)) 64
  let e := entry 0
  let n := if reqInKind e = 0 then (reqInLen e - 16 + 63) / 64 else 0
  if (x.producer - x.consumed).toNat < 1 + n then none
  else some (e, ((List.range n).flatMap fun i => entry (i + 1)), 1 + n)

/-- The requests that a ring's producer count covers, in order, and the consumer count after them. -/
def State.fetchAll (s : State) (x : SvcRing) : Nat → List (List Byte × List Byte) × W32
  | 0 => ([], x.consumed)
  | n + 1 => match s.nextRequest x with
    | some (e, more, k) =>
      let y := State.fetchAll s { x with consumed := x.consumed + BitVec.ofNat 32 k } n
      ((e, if reqInKind e = 0 then (e.drop 48 ++ more).take (reqInLen e) else []) :: y.1, y.2)
    | none => ([], x.consumed)

/-- Requests by priority, highest first, in fetch order among equals (R357). -/
def byPriority (l : List (List Byte × List Byte)) : List (List Byte × List Byte) :=
  [3, 2, 1, 0].flatMap fun p => l.filter fun r => reqPriority r.1 == p

/-- SERVICE_REQUEST_FETCH (R346, R347, R356, R357, R361): every request that the doorbell covers is fetched, HEAD is written, and each is accepted or
rejected; nothing while the response ring is full. -/
def execServiceRequestFetch (ring : BitVec 6) (s : State) : Host.Outcome State Fault Refusal :=
  let x := s.svcRing ring.toNat
  .next (if !x.on || !x.enabled || x.full then s
    else
      let got := s.fetchAll x (x.producer - x.consumed).toNat
      if got.1.isEmpty then s
      else
        let s := s.updSvcRing ring.toNat fun x => { x with consumed := got.2 }
        let s := { s with host := s.host.writeBytes x.headAddr (toBytes 8 got.2.toNat) }
        (byPriority got.1).foldl (fun st r => st.admitOne (some ring.toNat) none r.1 r.2) s)

/-- SERVICE_RESPONSE_POST (R361, R549): the oldest waiting response of a ring is written with its PHASE, and the ring's vector signalled. -/
def execServiceResponsePost (ring : BitVec 6) (s : State) : Host.Outcome State Fault Refusal :=
  let x := s.svcRing ring.toNat
  .next (match x.waiting with
    | r :: rest =>
      if !x.on || x.full then s
      else
        let flags := bytesAt r 1 1 % 128 + (1 - x.posted / x.respEntries % 2) * 128
        let s := { s with host := s.host.writeBytes (x.respBase + 64 * (x.posted % x.respEntries)) (overwrite r 1 (toBytes 1 flags)) }
        let s := s.updSvcRing ring.toNat fun x => { x with posted := x.posted + 1, waiting := rest }
        { s with outbox := s.outbox ++ [.msix (64 + ring.toNat)] }
    | [] => s)

/-! ## Running requests (R348, R352, R353, R358) -/

/-- A warm partition's hold begins again (R353). -/
def State.restWarm (s : State) (tag : Nat) : State :=
  s.updPart tag fun x => { x with warmAt := x.warmAt.map fun _ => s.time }

/-- The request at the head of a partition's queue becomes its running request, or is dropped where DROP_LATE and its P from now ask for that; the
COMPLETE_TIME of a request that does not run is a free value (R358; log entry 2). -/
def State.takeHead (s : State) (tag : Nat) : State := match s.part tag with
  | some x => (match x.svc, s.tabOf x, x.running, x.queue with
      | some b, some t, none, r :: rest =>
        if x.state ≠ 0 then s
        else if reqTimed r.entry && reqDropLate r.entry && decide (reqDeadline r.entry < s.time + s.charge b t.image r.entry) then
          let r := { r with notRun := true, completeAt := (Config.free64 s.free).toNat }
          ((s.setPart tag (some { x with queue := rest })).draw.restWarm tag).respond r (r.response tag 1 0)
        else s.setPart tag (some { x with running := some r, queue := rest })
      | _, _, _, _ => s)
  | none => s

/-- REQUEST_QUEUE_HEAD (R358). -/
def execRequestQueueHead (part : BitVec 6) (s : State) : Host.Outcome State Fault Refusal := .next (s.takeHead part.toNat)

/-- The running request of a partition changes. -/
def State.updRunning (s : State) (tag : Nat) (f : SvcReq → SvcReq) : State := s.updPart tag fun x => { x with running := x.running.map f }

/-- The running request of a partition fails, and the partition goes on to the next (R350, R359). -/
def State.failRunning (s : State) (tag cause : Nat) : State := match s.part tag with
  | some x => (match x.running with
      | some r => ((s.setPart tag (some { x with running := none })).restWarm tag).failRequest tag cause r
      | none => s)
  | none => s

/-- The input message's packets on the static channel from 0xF0 (R292, R348). -/
def inputPackets (lcid ch queue : Nat) (seq : W32) (msg : List Byte) : List Packet :=
  (msgAddrs msg.length).map fun a =>
    withPayload { mkPacket 0x04 lcid 0 0xF0 0 0xFE seq.toNat with
      addr := w64 a, ctx := BitVec.ofNat 16 ch, queue := BitVec.ofNat 8 queue, aux := BitVec.ofNat 32 msg.length }
      (cleanGrans ((msg.drop a).take 2048))

/-- SERVICE_INPUT_SEND (R348): before a request's first step, or a replay of it, its input message goes to IN_QUEUE; a host input is read first, and
fails with INPUT_ERROR where its ring is gone. -/
def execServiceInputSend (part : BitVec 6) (s : State) : Host.Outcome State Fault Refusal :=
  let tag := part.toNat
  let s := s.takeHead tag
  .next (match s.part tag with
    | some x => (match x.svc, x.running with
        | some b, some r =>
          let core := (x.lcids.getD b.inCore 0xFF)
          let ch := (s.siteOf core).bind fun p => lowest 256 fun c =>
            (s.recvCh p c).any fun y => y.queue == b.inQueue && y.src == 0xF0
          if x.armed || x.failed.isSome || r.stepsRun ≠ 0 || r.sentAt.isSome then s
          else if reqInKind r.entry = 1 && !(r.ring.any fun n => (s.svcRing n).on) then s.failRunning tag 0x06
          else match ch with
            | some c =>
              let base := (r.ring.map fun n => (s.svcRing n).dataBase).getD 0
              let input := if reqInKind r.entry = 1 then s.host.readBytes (base + reqInAddr r.entry) (reqInLen r.entry) else r.input
              let s := (inputPackets core c b.inQueue x.svcSeq (r.entry ++ input)).foldl (fun st k => st.inject (.mgmt st.activeSouth) k) s
              s.updRunning tag fun r => { r with sentAt := some s.time, acks := [], input := input }
            | none => s
        | _, _ => s)
    | none => s)

/-! ## Output (R349, R350, R358, R360) -/

/-- Bytes laid over what a stack holds, as whole granules from the one that holds the first byte; a granule kept in part keeps its mark. -/
def State.spillMerge (s : State) (k : Fin 28) (off : Nat) (bytes : List Byte) : List Flit :=
  let base := off / 64 * 64
  let n := (off % 64 + bytes.length + 63) / 64
  let units := (List.range (2 * n)).map fun i => s.unitAt k (base + 32 * i)
  let data := overwrite (units.flatMap fun u => toBytes 32 u.data) (off - base) bytes
  (List.range n).map fun i =>
    let whole := decide (off ≤ base + 64 * i) && decide (base + 64 * i + 64 ≤ off + bytes.length)
    ⟨granOf ((data.drop (64 * i)).take 64), !whole && ((units.drop (2 * i)).take 2).any (·.poison)⟩

/-- Bytes are written to a stack by the management die, in WRITE packets of up to 2,048 bytes with TAG 0xFE. -/
def State.spillOut (s : State) (k : Fin 28) (off : Nat) (bytes : List Byte) : State :=
  if bytes.isEmpty then s
  else
    let fs := s.spillMerge k off bytes
    let packets := (chunks 32 ((fs.length + 31) / 32) fs).zip (List.range fs.length)
    packets.foldl (fun st c =>
      st.stackWrite k (withPayload { mkPacket 0x01 0xFC k.val 0xF0 0 0xFE 0 with addr := w64 (off / 64 * 64 + 2048 * c.2) } c.1)) s

/-- SVC_OUTPUT frames carry output bytes to the panel that OUT_ADDR names (R347, R406), from the receiving port die, or die 0 for a host request. -/
def State.peerOut (s : State) (r : SvcReq) (bytes : List Byte) : State :=
  let die : Fin 42 := Fin.ofNat 42 ((r.peer.map Prod.fst).getD 0)
  let cs := chunks 1984 ((bytes.length + 1983) / 1984) bytes
  (cs.zip (List.range cs.length)).foldl (fun st c =>
    st.originateTo die (mkFrame 0x82 0 (reqOutAddr r.entry % 2 ^ 10)
      (reqTag r.entry + (r.outLen + 1984 * c.2) * 2 ^ 32 + c.1.length * 2 ^ 64) (cleanGrans c.1))) s

/-- Output bytes go to a request's destination at its running output length. -/
def State.deliver (s : State) (r : SvcReq) (bytes : List Byte) : State :=
  if reqOutKind r.entry = 0 then (match r.ring with
    | some n =>
      if (s.svcRing n).on then { s with host := s.host.writeBytes ((s.svcRing n).dataBase + reqOutAddr r.entry + r.outLen) bytes } else s
    | none => s)
  else if reqOutKind r.entry = 1 then
    s.spillOut (Fin.ofNat 28 (reqOutAddr r.entry / 2 ^ 40)) (reqOutAddr r.entry % 2 ^ 36 + r.outLen) bytes
  else if reqOutKind r.entry = 3 then s.peerOut r bytes
  else s

/-- A request completes now (R358, R360). -/
def State.complete (s : State) (tag : Nat) (r : SvcReq) : State :=
  let missed := reqTimed r.entry && decide (reqDeadline r.entry < s.time)
  let r := { r with completeAt := s.time, late := r.late || missed }
  let s := if missed then s.countLate tag else s
  let s := (s.updPart tag fun x => { x with running := none }).restWarm tag
  s.respond r (r.response tag (if r.poisoned then 2 else if missed then 1 else 0) 0)

/-- Poisoned granules of an output as zeros (R350). -/
def zeroPoison (l : List Flit) : List Flit := l.map fun f => if f.poison then ⟨0, false⟩ else f

/-- The first poisoned granule of a list is consumed by service (R209). -/
def State.servicePoison (s : State) (p : Fin 168) (off : Nat) (fs : List Flit) : State :=
  match fs.findIdx? (·.poison) with
  | some i => s.poisonConsumed p 5 (off + 64 * i) (some (off / 64 + i))
  | none => s

/-- SERVICE_OUTPUT_READ (R349, R350): after a commit point the header and output of the step are read and the output appended to the destination; the
request's last step completes it. -/
def execServiceOutputRead (part : BitVec 6) (s : State) : Host.Outcome State Fault Refusal :=
  let tag := part.toNat
  .next (match s.part tag with
    | some x => (match x.svc, x.running, s.relSite x ((x.svc.map (·.outCore)).getD 0) with
        | some b, some r, some p => (match r.outDue with
          | i :: due =>
            let base := b.buffer i
            if (s.coreRefusal p).isSome then s
            else if reqOutKind r.entry = 1 &&
                s.spillWaits (Fin.ofNat 28 (reqOutAddr r.entry / 2 ^ 40)) (reqOutAddr r.entry % 2 ^ 36 + r.outLen) b.outMax then s
            else
              let h := (s.grants p 3 base 64).readGrans p 3 base 1
              let s := h.1
              let head := flitBytes h.2
              let len := bytesAt head 0 4
              if b.outMax < len || !allZero (head.drop 5) || decide (2 ≤ bytesAt head 4 1) then s.failRunning tag 0x07
              else
                let d := (s.grants p 3 (base + 64) len).readGrans p 3 (base + 64) ((len + 63) / 64)
                let all := h.2 ++ d.2
                let s := d.1.servicePoison p base all
                let out := (flitBytes (zeroPoison d.2)).take len
                let room := reqOutLimit r.entry - r.outLen
                let w := out.take room
                let s := s.deliver r w
                let r := { r with
                  outDue := due, outLen := r.outLen + w.length, clipped := r.clipped || decide (room < len),
                  poisoned := r.poisoned || all.any (·.poison), inline := if reqOutKind r.entry = 2 then r.inline ++ w else r.inline }
                let s := s.updPart tag fun x => { x with outBytes := x.outBytes + w64 w.length, running := some r }
                if bit (BitVec.ofNat 8 (bytesAt head 4 1)) 0 || decide (reqSteps r.entry ≤ r.stepsRun) then s.complete tag r else s
          | [] => s)
        | _, _, _ => s)
    | none => s)

/-! ## Deadlines and warmth (R353, R358, R406) -/

/-- A request of a partition passes its deadline before its completion: LATE, and REQUEST_LATE (R358). -/
def State.passDeadline (s : State) (tag : Nat) (r : SvcReq) : State :=
  let mark (q : SvcReq) : SvcReq := if q.id = r.id then { q with late := true } else q
  let s := s.updPart tag fun x => { x with running := x.running.map mark, queue := x.queue.map mark }
  s.event 0x7010 8 tag tag 0xFF [tag, reqTag r.entry, r.source, reqDeadline r.entry, r.predicted]

/-- REQUEST_DEADLINE_EXPIRY (R358). -/
def execRequestDeadlineExpiry (part : BitVec 6) (req : Nat) (s : State) : Host.Outcome State Fault Refusal :=
  let tag := part.toNat
  .next (match s.part tag with
    | some x => (match (x.running.toList ++ x.queue).find? fun r => r.id == req with
        | some r => if reqTimed r.entry && !r.late && decide (reqDeadline r.entry ≤ s.time) then s.passDeadline tag r else s
        | none => s)
    | none => s)

/-- WARM_HOLD_EXPIRY (R353): WARM_HOLD has passed with no request accepted or outstanding; the partition becomes idle. -/
def execWarmHoldExpiry (part : BitVec 6) (s : State) : Host.Outcome State Fault Refusal :=
  let tag := part.toNat
  .next (match s.part tag with
    | some x => (match x.svc, x.warmAt with
        | some b, some t =>
          if x.running.isNone && x.queue.isEmpty && decide (t + b.warmHold ≤ s.time) then
            let s := (s.setPart tag (some { x with warmAt := none })).setTargets (s.partSites x)
            if x.armed then s else s.lowerGrant tag
          else s
        | _, _ => s)
    | none => s)

/-- SVC_REASSEMBLY_TIMEOUT (R406): a message not complete 100 µs after its first segment is discarded. -/
def execSvcReassemblyTimeout (die : Fin 42) (panel : BitVec 10) (msgId : BitVec 32) (s : State) : Host.Outcome State Fault Refusal :=
  .next { s with reasm := s.reasm.filter fun r =>
    !(r.die == die.val && r.panel == panel.toNat && r.msgId == msgId && decide (r.since + 10000 ≤ s.time)) }

end Sys2Proof.Machine
end

