-- ==== Sys2Proof/Machine/Power.lean ====
section
/-! DEFINITION. The power input, the region regulators and the cap controller (R439-R473): feeds, LOW and the orderly stop, phases and connection
faults, dark regions, averages and enforcement, learning, grants, and ceilings ahead of phases. -/

namespace Sys2Proof.Machine

/-! ## Rails -/

/-- The partitions with a core on one of a list of sites. -/
def State.tagsIn (s : State) (ps : List (Fin 168)) : List Nat :=
  (s.partList.filter fun y => (s.partSites y.2).any ps.contains).map Prod.fst

/-- A site loses its core rail: the core is OFF, its segments are unpowered, and its PLLs stop (R456, R477). -/
def State.coreOff (s : State) (p : Fin 168) : State :=
  let s := ((s.spoilSymps p).endAttempt p).resetCore p
  let s := (s.setSegOn p 0).setCoreState p 0
  let s := (s.setReg (.site p) 0x18600000 (s.reg (.site p) 0x18600000 &&& 0x100)).setRf (.site p) 0x18500000 1 2 0
  s.updClk p fun x => { x with target := none, fretA := none, fretB := none, before := 0, damperSince := none }

/-- A region's core rail goes off; GOV_STATUS.STATE becomes 0 OFF or 2 DARK. A clear that was under way in its cores is discharged. -/
def State.coreRailOff (s : State) (g : Fin 42) (mode : Nat) : State :=
  let s := ((s.setRf (.gov g) 0 0 2 mode).setRf (.gov g) 0 3 1 0).updRegion g fun x => { x with setPoint := 0, holdFrom := none }
  let s := (regionSites g).foldl State.coreOff s
  s.partList.foldl (fun st y => st.finishClear y.1) s

/-- A region's core rail comes up with every core at F0, on the damper source (R488 step 6). -/
def State.coreRailUp (s : State) (g : Fin 42) : State :=
  let s := (s.setRf (.gov g) 0 0 2 1).updRegion g fun x => { x with setPoint := s.railGoal g }
  (regionSites g).foldl (fun st p => (st.setClk p 4 true).setRf (.site p) 0x18600000 12 4 0) s

/-- The region's current limit in units of 8 A: 64 A for each healthy phase, and 512 A under the connection-fault cap (R455, R458, R459). -/
def State.limitUnits (s : State) (g : Fin 42) : Nat :=
  min (8 * (16 - (s.region g).removed.length)) (if (s.region g).connCap then 64 else 128)

/-- GOV_STATUS.LIMIT and PHASES_OK follow the phases and the cap. -/
def State.setLimit (s : State) (g : Fin 42) : State :=
  (s.setRf (.gov g) 0 16 8 (s.limitUnits g)).setRf (.gov g) 0 8 5 (16 - (s.region g).removed.length)

/-- The limit ceiling is lowered so that the region's demand fits its limit (R455): a free value at or below the present one, since no rule gives it
(log entry 2). -/
def State.lowerLimit (s : State) (g : Fin 42) : State :=
  let c := s.rf .mgmt (ceilOff g) 16 4
  s.draw.regionCeilings g 16 (Config.freeNat s.free % (c + 1))

/-- The limit ceiling rises again with the region's limit: to 15 where nothing limits it, else a free value. -/
def State.raiseLimit (s : State) (g : Fin 42) : State :=
  let c := s.rf .mgmt (ceilOff g) 16 4
  if s.limitUnits g = 128 then s.regionCeilings g 16 15
  else s.draw.regionCeilings g 16 (c + Config.freeNat s.free % (16 - c))

/-- A region goes DARK (R456). -/
def State.goDark (s : State) (g : Fin 42) : State :=
  let s := (regionSites g).foldl (fun st p => st.retireSite p 8) s
  let s := ((s.coreRailOff g 2).countSites).event 0x4016 3 g.val 0xFF 0xFF [g.val, 16 - (s.region g).removed.length]
  s.remapLost

/-- Every rail but the always-on supply is off (R445 step 4, R481 step 4): ports DOWN, ring-stops stopped, stacks down and their contents lost, packets
and flits gone. -/
def State.fabricOff (s : State) : State :=
  let s := (List.range 84).foldl (fun st i => if 2 ≤ st.portState i then st.portDown i 0 else st) s
  let s := (List.finRange 42).foldl (fun st g => st.setRf (.gov g) 0 2 1 0) s
  let s := s.atStops fun st p => st.updSite p fun x => { x with fabricDown := true }
  let s := (List.finRange 28).foldl (fun st k => (st.setStackState k 0).updStack k fun _ => StackSt.init) s
  { s with spill := [], net := [], courses := [] }

/-! ## Feeds and the input (R439-R446, R451) -/

/-- SINGLE_FEED of IN_STATUS and CAP_STATUS (R441). -/
def State.noteFeeds (s : State) : State :=
  let one := s.rf .mgmt 0x00100000 2 1 + s.rf .mgmt 0x00100000 3 1 == 1
  (s.setRf .mgmt 0x00100000 4 1 (b01 one)).setRf .mgmt 0x00110000 1 1 (b01 one)

/-- FEED_CONNECT (R439, R442). -/
def execFeedConnect (b : Bool) (s : State) : Host.Outcome State Fault Refusal :=
  .next (if s.rf .mgmt 0x00100000 (2 + b01 b) 1 = 1 then s
  else
    let s := (s.setRf .mgmt 0x00100000 (b01 b) 1 1).setRf .mgmt 0x00100000 (2 + b01 b) 1 1
    s.noteFeeds.event 0x4011 0 0 0xFF 0xFF [b01 b])

/-- FEED_DISCONNECT (R439, R441, R460): the cause is told by the feed's last sample; where that shows none of the three, it is a free value. -/
def execFeedDisconnect (b : Bool) (s : State) : Host.Outcome State Fault Refusal :=
  .next (if s.rf .mgmt 0x00100000 (2 + b01 b) 1 = 0 then s
  else
    let mv := s.rf .mgmt (0x00100020 + 8 * b01 b) 0 17
    let cause := if mv < 36000 then 0 else if 72000 < mv then 2 else if 60000 < mv then 1 else Config.freeNat s.free % 3
    let s := (s.draw.setRf .mgmt 0x00100000 (b01 b) 1 0).setRf .mgmt 0x00100000 (2 + b01 b) 1 0
    (s.noteFeeds.count32 .mgmt 0x00100108).event 0x4010 0 0 0xFF 0xFF [b01 b, cause])

/-- IN_STATUS.STATE: 0 NORMAL, 1 LOW, 2 STOPPING, 3 STOPPED. -/
def State.inputState (s : State) : Nat := s.rf .mgmt 0x00100000 5 2

/-- INPUT_LOW (R443, R444). -/
def execInputLow (s : State) : Host.Outcome State Fault Refusal :=
  .next (if s.inputState ≠ 0 then s
  else
    let s := (s.setRf .mgmt 0x00100000 5 2 1).count32 .mgmt 0x00100100
    let s := s.updPower fun y => { y with inputF0 := true, lowAt := s.time }
    s.allCeilings.event 0x4012 0 0 0xFF 0xFF [s.vin])

/-- INPUT_RECOVERED (R443): the ceilings are released under the granted current. -/
def execInputRecovered (s : State) : Host.Outcome State Fault Refusal :=
  .next (if s.inputState ≠ 1 then s
  else
    let s := (s.setRf .mgmt 0x00100000 5 2 0).event 0x4013 0 0 0xFF 0xFF [s.time - s.power.lowAt]
    s.waitGrant .inputCeilings 0)

/-- Every partition is aborted with a failure cause and the code of an event (R445, R477, R481). -/
def State.abortAll (s : State) (tags : List Nat) (cause code : Nat) : State := tags.foldl (fun st t => st.abortPart t cause code) s

/-- An orderly stop (R445): cause 0 LOW for 10 ms, 1 under 36 V. -/
def State.orderlyStop (s : State) (cause : Nat) : State :=
  let s := (s.setRf .mgmt 0x00100000 5 2 2).event 0x4014 0 0 0xFF 0xFF [cause]
  let s := (s.updPower fun y => { y with inputF0 := true, waits := [] }).allCeilings
  let s := s.abortAll (s.partList.map Prod.fst) 9 0x4014
  let s := (List.finRange 42).foldl (fun st g => if st.railOn g then st.coreRailOff g 0 else st) s
  s.fabricOff.setRf .mgmt 0x00100000 5 2 3

/-- INPUT_LOW_TIMEOUT (R443): LOW for 10 ms, or Vin below 36 V. -/
def execInputLowTimeout (s : State) : Host.Outcome State Fault Refusal :=
  .next (if 2 ≤ s.inputState then s
  else if s.vin < 36000 then s.orderlyStop 1
  else if s.inputState = 1 && decide (s.power.lowAt + 10 ^ 6 ≤ s.time) then s.orderlyStop 0
  else s)

/-- ENERGY_METER_SAMPLE (R451, R17): voltage and current of a feed over 10 µs; its energy counter takes the whole microjoules. A surge above 60 V keeps
a valid feed valid for 10 ms (R439). -/
def execEnergyMeterSample (b : Bool) (mv : BitVec 17) (ma : BitVec 20) (s : State) : Host.Outcome State Fault Refusal :=
  let i := b01 b
  let v := mv.toNat
  let e := Sparse.get 0 s.power.carry i + v * ma.toNat
  let s := (s.setReg .mgmt (0x00100020 + 8 * i) (w64 v)).setReg .mgmt (0x00100030 + 8 * i) (w64 ma.toNat)
  let s := s.count64 .mgmt (0x00100010 + 8 * i) (e / 10 ^ 5)
  let old := s.rf .mgmt 0x00100000 i 1
  let surge := decide (60000 < v) && decide (v ≤ 72000)
  let h := Sparse.get Held.init s.power.held (4000 + i)
  let since := if surge then h.on.getD s.time else s.time
  let valid := (decide (36000 ≤ v) && decide (v ≤ 60000)) || (surge && old == 1 && decide (s.time ≤ since + 10 ^ 6))
  let s := s.updPower fun y => { y with
    carry := Sparse.put 0 y.carry i (e % 10 ^ 5)
    held := Sparse.put Held.init y.held (4000 + i) { h with on := if surge then some since else none } }
  .next (s.setRf .mgmt 0x00100000 i 1 (b01 valid))

/-! ## Phases, connections and the fabric rail (R455-R459) -/

/-- PHASE_FAILED (R455, R456). -/
def execPhaseFailed (g : Fin 42) (phase : BitVec 4) (s : State) : Host.Outcome State Fault Refusal :=
  .next (if (s.region g).removed.contains phase.toNat then s
  else
    let s := (s.updRegion g fun x => { x with removed := phase.toNat :: x.removed }).count32 (.gov g) 0x0108
    let healthy := 16 - (s.region g).removed.length
    let s := (s.setLimit g).event 0x4015 3 g.val 0xFF 0xFF [g.val, phase.toNat, healthy]
    if healthy < 9 then (if s.railOn g then s.goDark g else s) else s.lowerLimit g)

/-- The place of a site in its region: 0 north-west, 1 north-east, 2 south-west, 3 south-east (R461). -/
def regionPlace (p : Fin 168) : Nat := siteRow p % 2 * 2 + siteCol p % 2

/-- CONNECTION_FAULT (R458, R459). -/
def execConnectionFault (p : Site) (s : State) : Host.Outcome State Fault Refusal :=
  let g := powerRegion p
  .next (if s.railOn g && s.rf (.gov g) 0 (32 + regionPlace p) 1 == 0 then
    let s := ((s.setRf (.gov g) 0 (32 + regionPlace p) 1 1).count32 (.gov g) 0x0110).updRegion g fun x => { x with connCap := true }
    ((s.setLimit g).event 0x4017 3 g.val 0xFF 0xFF [g.val, p.val]).lowerLimit g
  else s)

/-- GOV_CLEAR_CONN (R459, R460): faults are cleared, and with the last of them the region's cap; the ceiling rises under the granted current. -/
def execGovClearConn (g : Fin 42) (mask : BitVec 4) (s : State) : Host.Outcome State Fault Refusal :=
  let s := (regionSites g).foldl (fun st p =>
    if bit mask (regionPlace p) && st.rf (.gov g) 0 (32 + regionPlace p) 1 == 1 then
      (st.setRf (.gov g) 0 (32 + regionPlace p) 1 0).event 0x4018 3 g.val 0xFF 0xFF [g.val, p.val]
    else st) s
  .next (if (s.region g).connCap && s.rf (.gov g) 0 32 4 == 0 then
    ((s.updRegion g fun x => { x with connCap := false }).setLimit g).waitGrant (.region g.val) 0
  else s)

/-- Whether a partition's leases stand on a bundle that crosses one of a list of sites. -/
def Partition.crosses (x : Partition) (ps : List (Fin 168)) : Bool := ps.any fun p => x.leasesAt p 0 || x.leasesAt p 1

/-- FABRIC_RAIL_LOST (R405, R457): the failure cause of the requests is ABORTED, since the table names none for this (log entry 26). -/
def execFabricRailLost (g : Fin 42) (s : State) : Host.Outcome State Fault Refusal :=
  .next (if s.rf (.gov g) 0 2 1 = 0 then s
  else
    let ps := regionSites g
    let s := (s.setRf (.gov g) 0 2 1 0).event 0x4019 3 g.val 0xFF 0xFF [g.val]
    let s := ps.foldl (fun st p => (st.stopDown p).retireSite p 9) s
    let s := s.derate [g.val / 7 * 2, g.val / 7 * 2 + 1] [g.val % 7 * 2, g.val % 7 * 2 + 1]
    let s := s.abortAll ((s.partList.filter fun y => y.2.crosses ps).map Prod.fst) 1 0x4019
    let s := (if s.railOn g then s.coreRailOff g 0 else s).countSites
    let s := [2 * g.val, 2 * g.val + 1].foldl (fun st i => if 2 ≤ st.portState i then st.portDown i 0 else st) s
    s.remapLost)

/-! ## Averages and enforcement (R463, R470) -/

/-- Input power in mW by the meters' last samples. -/
def State.inputPower (s : State) : Nat :=
  (s.rf .mgmt 0x00100020 0 17 * s.rf .mgmt 0x00100030 0 20 + s.rf .mgmt 0x00100028 0 17 * s.rf .mgmt 0x00100038 0 20) / 1000

/-- The mean of the samples of the last `window` ticks. -/
def meanPower (log : List (Nat × Nat)) (now window : Nat) : Nat :=
  let l := log.filter fun e => decide (now < e.1 + window)
  if l.isEmpty then 0 else (l.map Prod.snd).foldl (· + ·) 0 / l.length

/-- A core's cap ceiling without headroom: its contract fret less what enforcement takes, or 15 where no step runs (R464, R470). -/
def State.plainCap (s : State) (p : Fin 168) : Nat := match s.contractFret p with
  | some c => c - Sparse.get 0 s.power.lowered (s.partOf p)
  | none => 15

/-- Every core of a bound partition goes back to its plain cap ceiling. -/
def State.withdraw (s : State) : State :=
  let ps := (s.partList.filter fun y => y.2.tab.isSome).flatMap fun y => s.partSites y.2
  (ps.foldl (fun st p => st.updClk p fun c => { c with capCeil := min c.capCeil (st.plainCap p) }) s).setCeilings ps

/-- The largest fitted power of a bound tablature's phases (R467, R470). -/
def State.measured (s : State) (t : Tablature) : Nat :=
  maxOf ((s.power.learned.filter fun e => e.1 == t.id).map fun e => e.2.2.1)

/-- The binding whose measured power most exceeds its reservation, among those with a core above F0 (R470 step 2). -/
def State.worstBinding (s : State) : Option Nat :=
  let cands := s.partList.filterMap fun y => (s.tabOf y.2).bind fun t =>
    if (s.partSites y.2).any fun p => decide (0 < s.plainCap p) then some (y.1, (s.measured t : Int) - (s.reservation t : Int)) else none
  (cands.foldl (fun (a : Option (Nat × Int)) c => match a with
    | some b => if b.2 < c.2 then some c else a
    | none => some c) none).map Prod.fst

/-- The bound partitions whose cap ceilings are lowered, one bit for each tag. -/
def PowerSt.loweredMask (y : PowerSt) : Nat := (y.lowered.map fun e => 2 ^ e.1).foldl (· + ·) 0

/-- Enforcement lowers one fret (R470 step 2); its beginning is counted and raised. -/
def State.enforce (s : State) (sust peak : Nat) : State :=
  let entering := s.rf .mgmt 0x00110000 2 1 == 0
  if !entering && decide (s.time < s.power.lowerAt + 10 ^ 4) then s
  else
    let s := match s.worstBinding with
      | some tag => (s.updPower fun y => { y with
          lowered := Sparse.put 0 y.lowered tag (Sparse.get 0 y.lowered tag + 1), lowerAt := s.time }).withdraw
      | none => s.updPower fun y => { y with lowerAt := s.time }
    if entering then
      ((s.setRf .mgmt 0x00110000 2 1 1).count32 .mgmt 0x00110180).event 0x4020 7 0xF0 0xFF 0xFF
        [sust / 10 ^ 4, peak / 10 ^ 4, s.power.loweredMask]
    else s

/-- Since when a condition has held. -/
def sinceWhen (cond : Bool) (old : Option Nat) (now : Nat) : Option Nat := if cond then some (old.getD now) else none

/-- CAP_AVERAGE_TICK (R463, R470). -/
def execCapAverageTick (s : State) : Host.Outcome State Fault Refusal :=
  let log := (s.time, s.inputPower) :: s.power.log.filter fun e => decide (s.time < e.1 + 10 ^ 8)
  let sust := meanPower log s.time (10 ^ 8)
  let peak := meanPower log s.time (10 ^ 6)
  let hiS := decide (98 * s.capSust < 100 * sust)
  let hiP := decide (98 * s.capPeak < 100 * peak)
  let calm := decide (100 * sust ≤ 95 * s.capSust) && decide (100 * peak ≤ 95 * s.capPeak)
  let s := s.updPower fun y => { y with
    log := log, overSust := sinceWhen hiS y.overSust s.time, overPeak := sinceWhen hiP y.overPeak s.time,
    calmSince := sinceWhen calm y.calmSince s.time }
  let s := (s.setRf .mgmt 0x00110000 32 16 (sust / 10 ^ 4)).setRf .mgmt 0x00110000 48 16 (peak / 10 ^ 4)
  let s := if hiS || hiP then s.withdraw.setReg .mgmt 0x00110108 0 else s
  let s := if s.power.overSust.any (fun t => decide (t + 10 ^ 6 ≤ s.time)) || s.power.overPeak.any (fun t => decide (t + 10 ^ 5 ≤ s.time)) then
      s.enforce sust peak
    else s
  .next (if s.rf .mgmt 0x00110000 2 1 = 1 && s.power.calmSince.any (fun t => decide (t + 10 ^ 7 ≤ s.time)) then
    let s := (s.setRf .mgmt 0x00110000 2 1 0).updPower fun y => { y with lowered := [] }
    let ps := (s.partList.filter fun y => y.2.tab.isSome).flatMap fun y => s.partSites y.2
    (ps.foldl (fun st p => st.updClk p fun c => { c with capCeil := st.plainCap p }) s).setCeilings ps
  else s)

/-- CAP_LEARN_TICK (R467): the fitted baseline and phase powers are free values: the fit's start and the load banks' energy are given by no rule (log
entry 2). Reservations follow the planning figures (R466). -/
def execCapLearnTick (s : State) : Host.Outcome State Fault Refusal :=
  let n := s.free
  let s := s.draw
  let ls := s.power.learned
  let fits := (ls.zip (List.range ls.length)).map fun e => (e.1.1, e.1.2.1, Config.freeNat (n + 1 + e.2), e.1.2.2.2)
  let s := { (s.updPower fun y => { y with baseline := Config.freeNat n, learned := fits }) with free := n + 1 + ls.length }
  .next (s.partList.foldl (fun st y => match st.tabOf y.2 with
    | some t => st.updPart y.1 fun x => { x with reserved := st.reservation t }
    | none => st) s)

/-! ## Grants (R449, R470) -/

/-- A region's rail returns, or its limit ceiling rises, with its share of the grant (R459, R477, R481). The sites of a region that was off for heat
become spares. -/
def State.regionBack (s : State) (g : Fin 42) : State :=
  if s.rf (.gov g) 0 0 2 = 0 && s.rf (.gov g) 0 2 1 = 1 then
    let s := s.coreRailUp g
    if s.rf .mgmt (ceilOff g) 4 1 = 1 then
      let s := s.setRf .mgmt (ceilOff g) 4 1 0
      let s := (regionSites g).foldl (fun st p =>
        if st.siteMode p = 3 then (st.setRf .mgmt (siteStateOff p) 16 4 0).assign p 2 0xFF else st) s
      (s.countSites.event 0x5003 3 g.val 0xFF 0xFF [g.val]).remapLost
    else s
  else if s.railOn g then s.raiseLimit g
  else s

/-- The head of the waiting rises is granted. -/
def State.granted (s : State) (what : GrantFor) (rise since : Nat) : State :=
  let waited := s.time - since
  let s := s.updPower fun y => { y with waits := y.waits.drop 1, grantAt := s.time }
  let s := s.setRf .mgmt 0x00110000 16 16 (s.grantedNow + rise)
  let s := if rise = 0 then s else s.count64 .mgmt 0x00100110 waited
  match what with
  | .step tag => (match s.part tag with
      | some x => (match s.tabOf x with
          | some t => (((s.setPart tag (some { x with granted := some (x.granted.getD 0 + rise) })).count64 .mgmt 0x00110100 waited).armStep
              tag x t.image).armWaits
          | none => s)
      | none => s)
  | .inputCeilings => (s.updPower fun y => { y with inputF0 := false }).allCeilings
  | .coolCeilings => (s.updPower fun y => { y with coolF0 := false }).allCeilings
  | .region g => s.regionBack (Fin.ofNat 42 g)

/-- CAP_GRANT (R449, R470): the oldest waiting rise has its share once the granted current has had the time to move; a step is armed only while the
projected average, a free value, is within 0.98 of CAP_SUST; a step that can no longer be armed gives its place up. -/
def execCapGrant (s : State) : Host.Outcome State Fault Refusal :=
  .next (match s.power.waits with
    | (what, rise, since) :: _ =>
      let slew := s.rf .mgmt 0x00100008 0 8
      let ready := max since s.power.grantAt + (if slew = 0 then 0 else (10 ^ 4 * rise + slew - 1) / slew)
      if s.time < ready then s
      else match what with
        | .step tag =>
          if !((s.part tag).any s.armable) then (s.updPower fun y => { y with waits := y.waits.drop 1 }).armWaits
          else if s.projected ≤ 98 * s.capSust / 100 then s.draw.granted what rise since
          else s.draw
        | _ => s.granted what rise since
    | [] => s)

/-! ## Ceilings ahead of phases (R468, R469) -/

/-- The scaling factor of R468 from a contract fret to a fret, in units of 10^-12, rounded up. -/
def scale (fc f : Nat) : Nat :=
  let d := fretMHz fc * fretMV fc ^ 2
  (fretMHz f * fretMV f ^ 2 * 10 ^ 12 + d - 1) / d

/-- The cores of a bound partition whose hints lie above their contract frets, as (site, contract fret, hint). -/
def State.hinting (s : State) (x : Partition) : List (Fin 168 × Nat × Nat) :=
  (s.partSites x).filterMap fun p => match s.contractFret p with
    | some c => let h := (s.cc p).fretHint.toNat; if h < 16 && c < h then some (p, c, h) else none
    | none => none

/-- The headroom in mW: the budget less all reservations (R469). -/
def State.headroom (s : State) : Nat :=
  s.budget - (s.partList.map fun y => ((s.tabOf y.2).map s.reservation).getD 0).foldl (· + ·) 0

/-- Whether a list of sites' share of a phase's planning figure, with the hinting ones at a fret, in units of 10^-12 of one core's share. -/
def State.shares (s : State) (ps : List (Fin 168)) (hints : List (Fin 168 × Nat × Nat)) (f : Nat) : Nat :=
  (ps.map fun p => if hints.any fun h => h.1 == p then scale ((s.contractFret p).getD 0) f else 10 ^ 12).foldl (· + ·) 0

/-- The allowed fret of a binding for a phase (R469): the highest at or below the cores' hints whose power fits the allowance and every region's
current limit; with none, no core goes above its contract fret. -/
def State.allowedFret (s : State) (x : Partition) (hints : List (Fin 168 × Nat × Nat)) (figure allowance : Nat) : Nat :=
  let ps := s.partSites x
  let n := ps.length
  let top := hints.foldl (fun (a : Nat) h => min a h.2.2) 15
  let fits (f : Nat) : Bool :=
    decide (figure * s.shares ps hints f ≤ allowance * n * 10 ^ 12) &&
    (List.finRange 42).all fun g =>
      let mine := ps.filter fun p => powerRegion p == g
      decide (figure * s.shares mine hints f ≤ s.limitUnits g * 8 * fretMV f * n * 10 ^ 12)
  (((List.range (top + 1)).filter fits).foldl max 0)

/-- The phases of a step that run now or begin within the next 6 µs (R469). -/
def State.nearPhases (s : State) (x : Partition) (img : List Byte) : List (Phase × Nat) :=
  let ps := tabPhases img
  let frame := (s.frameCount - x.start).toNat
  let ahead := frame + 1 + (12000 + s.panelF - 1) / s.panelF
  (ps.zip (List.range ps.length)).filter fun e =>
    decide (e.1.first < ahead) && (decide (frame ≤ e.1.last) || e.2 + 1 == ps.length)

/-- PHASE_CEILING_ISSUE (R469): the cap ceilings of a step's hinting cores become the lowest allowed fret of the phases that run now or begin within
6 µs; without headroom, their contract frets. -/
def execPhaseCeilingIssue (part : BitVec 6) (s : State) : Host.Outcome State Fault Refusal :=
  .next (match s.part part.toNat with
    | some x => (match s.tabOf x, x.armed && x.mark0.isSome with
        | some t, true =>
          let hints := s.hinting x
          let all := (s.partList.map fun y => (s.hinting y.2).length).foldl (· + ·) 0
          let room := s.headroom
          let tight := s.power.overSust.isSome || s.power.overPeak.isSome || s.rf .mgmt 0x00110000 2 1 = 1
          let allowance := s.reservation t + (if all = 0 then 0 else room * hints.length / all)
          let allowed := (s.nearPhases x t.image).foldl (fun (a : Nat) e =>
            min a (s.allowedFret x hints (s.planning t.id e.2 e.1.power) allowance)) 15
          let s := s.setReg .mgmt 0x00110108 (w64 (if tight then 0 else room / 1000))
          let s := (s.partSites x).foldl (fun st p => st.updClk p fun c => { c with
            capCeil := if tight || !(hints.any fun h => h.1 == p) then st.plainCap p else max (st.plainCap p) allowed }) s
          s.setCeilings (s.partSites x)
        | _, _ => s)
    | none => s)

end Sys2Proof.Machine
end

