-- ==== Sys2Proof/Machine/Thermal.lean ====
section
/-! DEFINITION. Temperatures and coolant (R473-R481): sensor readings and the values of pairs, warnings, regions off for heat, thermal loops, coolant
state, flow stops and the shutdown that follows. -/

namespace Sys2Proof.Machine

/-! ## Conditions that must hold for a time -/

/-- A condition is seen or not seen: it counts once it has held for `on` ticks and ends once it has been gone for `off` ticks; the answer's second part
says whether it has just come to count. -/
def Held.see (h : Held) (cond : Bool) (now on off : Nat) : Held × Bool :=
  if cond then
    let since := h.on.getD now
    let stands := h.stands || decide (since + on ≤ now)
    (⟨some since, none, stands⟩, stands && !h.stands)
  else if h.stands && decide (now < h.off.getD now + off) then (⟨none, some (h.off.getD now), true⟩, false)
  else (Held.init, false)

/-- The panel's condition with a number. -/
def State.held (s : State) (key : Nat) : Held := Sparse.get Held.init s.power.held key

/-- A numbered condition is seen or not seen. -/
def State.see (s : State) (key : Nat) (cond : Bool) (on off : Nat) : State × Bool :=
  let x := (s.held key).see cond s.time on off
  (s.updPower fun y => { y with held := Sparse.put Held.init y.held key x.1 }, x.2)

/-! ## Readings (R474) -/

/-- A valid reading in units of 1/n °C: within -40 to 150 °C. -/
def validReading {w : Nat} (n : Int) (r : Option (BitVec w)) : Option Int :=
  r.bind fun v => if -40 * n ≤ v.toInt && v.toInt ≤ 150 * n then some v.toInt else none

/-- A pair's value: the higher of its valid readings. -/
def pairValue (a b : Option Int) : Option Int := match a, b with
  | some x, some y => some (max x y)
  | some x, none => some x
  | none, b => b

/-- A detail word of a temperature. -/
def tempWord (v : Int) : Nat := (BitVec.ofInt 64 v).toNat

/-- One pair is read: SENSOR_INVALID and SENSOR_DISAGREE with their counts. `place`, `pair` and the sensors' numbers name it; `key` numbers its conditions:
the two sensors at key + 2 * pair, the disagreement at key + 8 + pair. -/
def State.readPair {w : Nat} (s : State) (key place pair : Nat) (n : Int) (r : Option (BitVec w) × Option (BitVec w)) : State :=
  let one (s : State) (sensor : Nat) (v : Option (BitVec w)) : State :=
    let x := s.see (key + sensor) (v.isSome && (validReading n v).isNone) 0 (10 ^ 8)
    if x.2 then (x.1.count32 .mgmt 0x00120190).event 0x5005 (if key < 2688 then 1 else 0) (if key < 2688 then place else 0) 0xFF 0xFF
        [place, sensor, ((v.map fun y => tempWord y.toInt).getD 0)]
    else x.1
  let s := one (one s (2 * pair) r.1) (2 * pair + 1) r.2
  match validReading n r.1, validReading n r.2 with
  | some a, some b =>
    let x := s.see (key + 8 + pair) (decide (8 * n < a - b) || decide (8 * n < b - a)) (10 ^ 8) (10 ^ 8)
    if x.2 then (x.1.count32 .mgmt 0x00120190).event 0x5004 (if key < 2688 then 1 else 0) (if key < 2688 then place else 0) 0xFF 0xFF
        [place, pair, tempWord a, tempWord b]
    else x.1
  | _, _ => s

/-- A pair has no valid reading any more: SENSOR_LOST. -/
def State.pairLost (s : State) (site : Bool) (place pair : Nat) : State :=
  (s.count32 .mgmt 0x00120190).event 0x5006 (if site then 1 else 0) (if site then place else 0) 0xFF 0xFF [place, pair]

/-- SITE_TEMPn of a site. -/
def tempOff (p : Fin 168) : Nat := 0x00121000 + 8 * p.val

/-- A pair's value as SITE_TEMPn gives it: 0 compute A, 1 compute B, 2 M0, 3 M1. -/
def State.temp (s : State) (p : Fin 168) (pair : Nat) : Int :=
  (BitVec.ofNat 8 (s.rf .mgmt (tempOff p) (8 + 8 * pair) 8)).toInt

/-- Whether a pair is lost. -/
def State.lost (s : State) (p : Fin 168) (pair : Nat) : Bool := s.rf .mgmt (tempOff p) (40 + pair) 1 == 1

/-- A site's value of a part: 0 the compute die, 1 M0, 2 M1. -/
def State.dieTemp (s : State) (p : Fin 168) (part : Nat) : Int := if part = 0 then max (s.temp p 0) (s.temp p 1) else s.temp p (part + 1)

/-- The warning threshold of a part (R475). -/
def warnAt (part : Nat) : Int := if part = 0 then 110 else 105

/-- The rail-off threshold of a part (R475). -/
def railOffAt (part : Nat) : Int := if part = 0 then 125 else 115

/-- THERM_TARGET for a part (R475). -/
def State.thermTarget (s : State) (part : Nat) : Int :=
  (s.rf .mgmt 0x00120008 0 8 : Int) - (if part = 0 then 0 else 5)

/-- A site's sensors are read into SITE_TEMPn: values, stand-ins for lost pairs, and the bits of single, lost and disagreeing pairs. A value above
127 °C, for which the field has no code, is held at 127 (log entry 26). -/
def State.readSite (s : State) (p : Fin 168) (r : SensorReadings) : State :=
  let rs := [r.cdA, r.cdB, r.m0, r.m1]
  let key := 16 * p.val
  let s := (rs.zip (List.range 4)).foldl (fun st e => st.readPair key p.val e.2 1 e.1) s
  let vs := rs.map fun e => pairValue (validReading 1 e.1) (validReading 1 e.2)
  let other (i : Nat) : Nat := if i < 2 then 1 - i else 5 - i
  let value (i : Nat) : Int := match vs.getD i none, vs.getD (other i) none with
    | some v, _ => v
    | none, some v => v + 10
    | none, none => warnAt (i / 2)
  let single (i : Nat) : Bool := match rs.getD i (none, none) with
    | (a, b) => (validReading 1 a).isSome != (validReading 1 b).isSome
  let s := (List.range 4).foldl (fun st i => if (vs.getD i none).isNone && !st.lost p i then st.pairLost true p.val i else st) s
  let word := (List.range 4).foldl (fun (a : Nat) i =>
    a + (BitVec.ofInt 8 (min 127 (value i))).toNat * 2 ^ (8 + 8 * i) + b01 (vs.getD i none).isNone * 2 ^ (40 + i) +
      b01 (single i) * 2 ^ (44 + i) + b01 (s.held (key + 8 + i)).stands * 2 ^ (48 + i)) 0
  s.setReg .mgmt (tempOff p) (w64 word)

/-! ## Warnings and regions off for heat (R475-R477) -/

/-- THERMAL_WARNING of a die: once, until it has fallen 5 °C below its threshold (R476). -/
def State.warn (s : State) (p : Fin 168) (part : Nat) : State :=
  let key := 16 * p.val + 12 + part
  let v := s.dieTemp p part
  let h := s.held key
  if h.stands then (if v ≤ warnAt part - 5 then (s.see key false 0 0).1 else s)
  else if warnAt part ≤ v then
    ((s.see key true 0 0).1.count32 .mgmt 0x00120180).event 0x5001 1 p.val (s.partOf p) (s.lcidOf p) [p.val, part, tempWord v]
  else s

/-- Ticks of 24 hours. -/
def dayTicks : Nat := 86400 * 10 ^ 8

/-- A region is switched off for heat (R477): its sites are FAILED with cause REGION until it is released (R521). -/
def State.heatOff (s : State) (g : Fin 42) (p : Fin 168) (part : Nat) : State :=
  let s := s.regionCeilings g 8 0
  let s := (s.count32 .mgmt 0x00120188).event 0x5002 3 g.val 0xFF 0xFF [g.val, p.val, part, tempWord (s.dieTemp p part)]
  let s := s.abortAll (s.tagsIn (regionSites g)) 4 0x5002
  let times := s.time :: (s.region g).heatOffs.filter fun t => decide (s.time < t + dayTicks)
  let s := s.updRegion g fun x => { x with heatOffs := times, coolSince := none }
  let s := (s.setRf .mgmt (ceilOff g) 4 1 1).setRf .mgmt (ceilOff g) 20 4 (min 15 times.length)
  let s := (s.coreRailOff g 0)
  let s := (regionSites g).foldl (fun st p =>
    if st.siteMode p = 1 || st.siteMode p = 2 then
      st.setReg .mgmt (siteStateOff p) (setFld (setFld (st.reg .mgmt (siteStateOff p)) 0 3 3) 16 4 8)
    else st) s
  s.countSites.remapLost

/-- Whether every die of a region reads below a temperature. -/
def State.regionBelow (s : State) (g : Fin 42) (t : Int) : Bool :=
  (regionSites g).all fun p => (List.range 3).all fun part => decide (s.dieTemp p part < t)

/-- A region that is off for heat is released once every die has been below 90 °C for 10 s, but not after its third
switch-off within 24 hours (R475, R477). -/
def State.heatRelease (s : State) (g : Fin 42) : State :=
  if s.rf .mgmt (ceilOff g) 4 1 = 0 then s
  else
    let since := sinceWhen (s.regionBelow g 90) (s.region g).coolSince s.time
    let s := s.updRegion g fun x => { x with coolSince := since }
    let n := s.rf .mgmt (ceilOff g) 20 4
    if since.any (fun t => decide (t + 10 ^ 9 ≤ s.time)) && decide (n < 3) then s.waitGrant (.region g.val) 0 else s

/-! ## Coolant (R478-R481) -/

/-- COOL_STATUS.STATE: 0 NORMAL, 1 DEGRADED, 2 FLOW_STOPPED, 3 SHUTDOWN. -/
def State.coolState (s : State) : Nat := s.rf .mgmt 0x00120000 0 3

/-- The mean of capo less thermal ceiling over the cores with a bound partition is above two frets (R479 cause 1). -/
def State.thermalShort (s : State) : Bool :=
  let ps := (s.partList.filter fun y => y.2.tab.isSome).flatMap fun y => s.partSites y.2
  let gap (p : Fin 168) : Int := (s.rf (.site p) 0x18600010 0 4 : Int) - (s.rf .mgmt (ceilOff (powerRegion p)) 8 4 : Int)
  !ps.isEmpty && decide (2 * (ps.length : Int) < (ps.map gap).foldl (· + ·) 0)

/-- A cause of COOLING_DEGRADED is seen or not; one that has come to count raises the event and leaves NORMAL (R479). -/
def State.degrade (s : State) (cause : Nat) (cond : Bool) (on : Nat) : State :=
  let x := s.see (3000 + cause) cond on 0
  if x.2 then
    let s := if x.1.coolState = 0 then (x.1.setRf .mgmt 0x00120000 0 3 1).updPower fun y => { y with
        held := Sparse.put Held.init y.held 3004 ⟨some s.time, none, true⟩ } else x.1
    s.event 0x5007 0 0 0xFF 0xFF [cause, s.rf .mgmt 0x00120000 48 16, s.rf .mgmt 0x00120000 16 16]
  else x.1

/-- DEGRADED ends when no cause has held for 60 s (R479). -/
def State.undegrade (s : State) : State :=
  let calm := !((List.range 3).any fun c => (s.held (3000 + c)).on.isSome)
  let since := sinceWhen calm (s.held 3003).on s.time
  let s := s.updPower fun y => { y with held := Sparse.put Held.init y.held 3003 ⟨since, none, false⟩ }
  if s.coolState = 1 && since.any (fun t => decide (t + 60 * 10 ^ 8 ≤ s.time)) then
    (s.setRf .mgmt 0x00120000 0 3 0).event 0x5008 0 0 0xFF 0xFF [s.time - (s.held 3004).on.getD s.time]
  else s

/-- The coolant sensors are read in 1/8 °C: inlet and outlet pairs, ΔT and the causes of DEGRADED (R474, R478, R479). A lost pair leaves the last values. -/
def State.readCoolant (s : State) (c : (Option W16 × Option W16) × (Option W16 × Option W16)) : State :=
  let s := (s.readPair 2688 0x100 0 8 c.1).readPair 2688 0x100 1 8 c.2
  let in1 := validReading 8 c.1.1
  let in2 := validReading 8 c.1.2
  let out := pairValue (validReading 8 c.2.1) (validReading 8 c.2.2)
  let inlet := match in1, in2 with
    | some a, some b => some (min a b)
    | some a, none => some a
    | none, b => b
  let wasLost (i : Nat) : Bool := (s.held (2688 + 12 + i)).stands
  let s := if inlet.isNone && !wasLost 0 then s.pairLost false 0x100 0 else s
  let s := if out.isNone && !wasLost 1 then s.pairLost false 0x100 1 else s
  let s := (s.see (2688 + 12) inlet.isNone 0 0).1
  let s := (s.see (2688 + 13) out.isNone 0 0).1
  let s := s.setRf .mgmt 0x00120000 3 1 (b01 (inlet.isNone || out.isNone))
  let put (s : State) (lo : Nat) (v : Option Int) : State := match v with
    | some x => s.setRf .mgmt 0x00120000 lo 16 (BitVec.ofInt 16 x).toNat
    | none => s
  let delta := match inlet, out with
    | some a, some b => some (b - a)
    | _, _ => none
  let s := put (put (put s 16 inlet) 32 out) 48 delta
  let s := s.degrade 0 (delta.any fun d => decide (160 < d)) (10 ^ 8)
  let hot := (pairValue in1 in2).any fun v => decide (320 < v)
  let s := s.degrade 2 hot (10 ^ 9)
  (s.degrade 1 s.thermalShort (10 ^ 9)).undegrade

/-- SENSOR_READ (R474-R477, R479): a site's sensors, and the coolant's when the round reads them. -/
def execSensorRead (p : Site) (r : SensorReadings) (s : State) : Host.Outcome State Fault Refusal :=
  let g := powerRegion p
  let s := s.readSite p r
  let s := (List.range 3).foldl (fun st part => st.warn p part) s
  let s := match (List.range 3).find? fun part => decide (railOffAt part ≤ s.dieTemp p part) with
    | some part => if s.railOn g && s.rf .mgmt (ceilOff g) 4 1 == 0 then s.heatOff g p part else s
    | none => s
  let s := s.heatRelease g
  .next (match r.coolant with
    | some c => s.readCoolant c
    | none => s)

/-- THERMAL_LOOP_TICK (R476): every 10 ms, or every 1 ms while a die of the region is at or above its warning threshold. -/
def execThermalLoopTick (g : Fin 42) (s : State) : Host.Outcome State Fault Refusal :=
  let dies := (regionSites g).flatMap fun p => (List.range 3).map fun part => (part, s.dieTemp p part)
  let period := if dies.any fun d => decide (warnAt d.1 ≤ d.2) then 10 ^ 5 else 10 ^ 6
  let hot := dies.any fun d => decide (s.thermTarget d.1 ≤ d.2)
  let cool := dies.all fun d => decide (d.2 ≤ s.thermTarget d.1 - 5)
  .next (if s.time < (s.region g).loopAt + period then s
  else
    let since := sinceWhen cool (s.region g).belowSince s.time
    let s := s.updRegion g fun x => { x with loopAt := s.time, belowSince := since }
    let now := s.rf .mgmt (ceilOff g) 8 4
    if hot then s.regionCeilings g 8 (min now (maxOf ((regionSites g).map s.effFret)) - 1)
    else if since.any (fun t => decide (t + 10 ^ 7 ≤ s.time)) && now < 15 && s.rf .mgmt (ceilOff g) 4 1 == 0 then
      s.regionCeilings g 8 (now + 1)
    else s)

/-- A stop of coolant flow is detected (R481): cause 0 COOL_OK, 1 the rise condition. The stacks close as for heat and reopen as R475 releases them. -/
def State.flowStop (s : State) (cause regions : Nat) : State :=
  let s := (s.setRf .mgmt 0x00120000 0 3 2).event 0x5009 0 0 0xFF 0xFF [cause, regions]
  let s := s.updPower fun y => { y with coolF0 := true, stopAt := s.time }
  let s := s.atStops fun st p => if st.clocked p then st.toDamper p true else st
  let s := s.allCeilings.abortAll (s.partList.map Prod.fst) 5 0x5009
  let s := (List.finRange 28).foldl (fun st k => if st.stackState k = 2 then st.stackClose k 0 else st) s
  (List.finRange 42).foldl (fun st g => if st.railOn g then st.coreRailOff g 0 else st) s

/-- COOL_OK_LOW (R480): COOL_OK has been low for 1 ms; a panel whose core rails may be up takes it as a flow stop. -/
def execCoolOkLow (s : State) : Host.Outcome State Fault Refusal :=
  let s := (s.setRf .mgmt 0x00120000 7 1 0).updPower fun y => { y with coolHigh := none }
  .next (if s.coolState < 2 && decide (6 ≤ s.rf .mgmt 0x00130000 0 4) && s.inputState < 2 then s.flowStop 0 0 else s)

/-- COOL_OK_HIGH (R488, R481): the level that a start waits for at step 5, and that must have stood for 10 s before cooling resumes. -/
def execCoolOkHigh (s : State) : Host.Outcome State Fault Refusal :=
  .next ((s.setRf .mgmt 0x00120000 7 1 1).updPower fun y => { y with coolHigh := if y.coolHigh.isSome then y.coolHigh else some s.time })

/-- The hottest valid compute value of a region. -/
def State.hottest (s : State) (g : Fin 42) : Option Int :=
  (regionSites g).foldl (fun (a : Option Int) p =>
    let v (i : Nat) : Option Int := if s.lost p i || s.reg .mgmt (tempOff p) == 0 then none else some (s.temp p i)
    pairValue a (pairValue (v 0) (v 1))) none

/-- A region's share of the rise condition (R480): its hottest value more than 2 °C above that of 1 s ago, and no ceiling raised in that second; the
values of the last seconds are kept. -/
def State.riseOf (s : State) (g : Fin 42) : State × Bool :=
  let x := s.region g
  let now := s.hottest g
  let old := x.hottest.find? fun e => decide (e.1 + 10 ^ 8 ≤ s.time)
  let met := match now, old with
    | some v, some o => decide (2 < v - o.2) && !(x.roseAt.any fun t => decide (s.time < t + 10 ^ 8))
    | _, _ => false
  let kept := x.hottest.filter fun e => decide (s.time < e.1 + 2 * 10 ^ 8)
  (s.updRegion g fun y => { y with
    hottest := match now with
      | some v => (s.time, v) :: kept
      | none => kept
    steadySince := if met then some s.time else y.steadySince }, met)

/-- RISE_CONDITION_TICK (R480). -/
def execRiseConditionTick (s : State) : Host.Outcome State Fault Refusal :=
  let r := (List.finRange 42).foldl (fun (a : State × Nat) g =>
    let y := a.1.riseOf g
    (y.1, a.2 + b01 y.2)) (s, 0)
  .next (if 8 ≤ r.2 && r.1.coolState < 2 && decide (6 ≤ r.1.rf .mgmt 0x00130000 0 4) && r.1.inputState < 2 then r.1.flowStop 1 r.2 else r.1)

/-- COOLANT_SHUTDOWN (R481 step 4): 60 s after the detection. -/
def execCoolantShutdown (s : State) : Host.Outcome State Fault Refusal :=
  .next (if s.coolState = 2 && decide (s.power.stopAt + 60 * 10 ^ 8 ≤ s.time) then
    (s.fabricOff.setRf .mgmt 0x00120000 0 3 3).event 0x500A 0 0 0xFF 0xFF []
  else s)

/-- Whether cooling may resume (R481): flow stopped, COOL_OK high for 10 s, and no region has met the rise condition for 10 s. -/
def State.mayResume (s : State) : Bool :=
  s.coolState == 2 && s.power.coolHigh.any (fun t => decide (t + 10 ^ 9 ≤ s.time)) &&
    (List.finRange 42).all fun g => !((s.region g).steadySince.any fun t => decide (s.time < t + 10 ^ 9))

/-- Cooling resumes (R481): the rails and the ceilings return with their shares of the grant, the state is NORMAL. -/
def State.resumeCooling (s : State) : State :=
  if s.mayResume then
    let s := (s.setRf .mgmt 0x00120000 0 3 0).event 0x5008 0 0 0xFF 0xFF [s.time - s.power.stopAt]
    let s := (List.finRange 42).foldl (fun st g =>
      if st.rf (.gov g) 0 0 2 = 0 && st.rf .mgmt (ceilOff g) 4 1 == 0 then st.waitGrant (.region g.val) 0 else st) s
    s.waitGrant .coolCeilings 0
  else s

end Sys2Proof.Machine
end

