-- ==== Sys2Proof/Machine/Start.lean ====
section
/-! DEFINITION. Starts (R486-R507): the whole-panel reset (R512), the power-on sequence step by step, the edges and the map, the restart of a single
stop (R499), and the pins that reset (R426, R443, R446, R568, R569, R579, R581). What a test of the hardware finds is a free value (log entry 2);
log entry 27 holds the conventions. -/

namespace Sys2Proof.Machine

/-- The `i`-th of the free values that a command draws, below `n`. -/
def State.pick (s : State) (i n : Nat) : Nat := Config.freeNat (s.free + i) % n

/-- The state with `k` free values drawn. -/
def State.drawn (s : State) (k : Nat) : State := { s with free := s.free + k }

/-! ## The whole-panel reset (R512, R11) -/

/-- Whether a register outlives a whole-panel reset: the feed meters (R512) and START_COUNT. -/
def keptReg (key : Nat) : Bool :=
  decide (regKey .mgmt 0x00100010 ≤ key) && decide (key ≤ regKey .mgmt 0x00100038) || key == regKey .mgmt 0x00130100

/-- A whole-panel reset: everything but the drone, the feed meters and the management flash (R512); the pins keep their levels, IN_STATUS and
COOL_OK report them, and LOW stands while the input is low. -/
def State.panelReset (s : State) : State :=
  let low := s.inputState == 1
  let feeds := s.rf .mgmt 0x00100000 0 (if low then 7 else 5)
  let coolOk := s.rf .mgmt 0x00120000 7 1
  let surges := s.power.held.filter fun e => e.1 == 4000 || e.1 == 4001
  let t := { State.reset with
    pending := s.pending, free := s.free, time := s.time, droneUp := s.droneUp, refValid := s.refValid, eventSeq := s.eventSeq
    host := s.host, outbox := s.outbox, flash := s.flash, resetLow := s.resetLow, perstLow := s.perstLow
    sessions := [Session.zero s.flash.pcieRights], regs := s.regs.filter fun e => keptReg e.1
    power := { PowerSt.init with
      carry := s.power.carry, coolHigh := s.power.coolHigh, held := surges, inputF0 := low, lowAt := s.power.lowAt }
    mgmt := { MgmtSt.init with debugEn := s.mgmt.debugEn } }
  let t := (t.setRf .mgmt 0x00100000 0 7 feeds).setRf .mgmt 0x00120000 7 1 coolOk
  t.noteFeeds

/-- Whether a feed is connected. -/
def State.fed (s : State) : Bool := s.rf .mgmt 0x00100000 2 2 != 0

/-- BRING_STATUS.STEP, the last step completed. -/
def State.startStep (s : State) : Nat := s.rf .mgmt 0x00130000 0 4

/-- A start begins with step 1, and is cold or fast (R486). -/
def State.beginStart (s : State) (cold : Bool) : State :=
  let cold := cold || !s.flash.mapValid || s.flash.coldAt.all fun t => decide (t + days30 ≤ s.time)
  let s := (s.setRf .mgmt 0x00130000 0 4 1).setRf .mgmt 0x00130000 8 2 (if cold then 1 else 2)
  s.count64 .mgmt 0x00130100 1

/-- A start begins where the panel is fed, not STOPPED, and no start has begun since the last whole-panel reset. -/
def State.mayStart (s : State) : Bool := s.fed && s.inputState != 3 && s.rf .mgmt 0x00130000 8 2 == 0 && s.coolState < 2

/-- POWER_ON_START (R486, R488 step 1). -/
def execPowerOnStart (s : State) : Host.Outcome State Fault Refusal :=
  .next (if s.mayStart && !s.resetLow then s.beginStart false else s)

/-! ## The drone and the input -/

/-- The drone comes up: panel time and the event sequence start from zero (R424). -/
def State.droneStart (s : State) : State := { s with droneUp := true, time := 0, eventSeq := 0 }

/-- DRONE_UP (R424). -/
def execDroneUp (s : State) : Host.Outcome State Fault Refusal := .next (if s.droneUp then s else s.droneStart)

/-- DRONE_REF_VALID (R426, R488 step 2): a drone that had lost its reference restarts, and the panel with it. -/
def execDroneRefValid (s : State) : Host.Outcome State Fault Refusal :=
  .next (if s.droneUp then { s with refValid := true }
  else
    let s := { s.droneStart with refValid := true }
    if s.mayStart && !s.resetLow then s.beginStart true else s)

/-- Times that a restart of the drone takes from the stored state: the next start is cold (R486), and a COOL_OK that is high counts from zero. -/
def State.forgetTime (s : State) : State :=
  { s with droneUp := false, refValid := false, flash.coldAt := none, power.coolHigh := s.power.coolHigh.map fun _ => 0 }

/-- DRONE_REF_LOST (R426): the event, a whole-panel reset, and reset until DRONE_REF is valid again. STOPPED and SHUTDOWN stay (R446, R481). -/
def execDroneRefLost (s : State) : Host.Outcome State Fault Refusal :=
  .next (if !s.droneUp then s
  else
    let stopped := s.inputState
    let cool := s.coolState
    let t := s.panelReset.forgetTime
    let t := if 2 ≤ stopped then t.setRf .mgmt 0x00100000 5 2 3 else t
    let t := if cool = 3 then t.setRf .mgmt 0x00120000 0 3 3 else t
    t.event 0x4003 0 0 0xFF 0xFF [s.time])

/-- INPUT_OFF (R443): Vin is at or below 30 V, and everything is unpowered; what the flash holds and the pins stay. -/
def execInputOff (s : State) : Host.Outcome State Fault Refusal :=
  let coolOk := s.rf .mgmt 0x00120000 7 1
  let t := s.panelReset.forgetTime
  let t := { t with regs := [], power := { PowerSt.init with coolHigh := t.power.coolHigh }, eventSeq := 0 }
  .next (t.setRf .mgmt 0x00120000 7 1 coolOk)

/-- STOPPED_RESTART (R446): Vin has stayed within 44-60 V for 1 s. -/
def execStoppedRestart (s : State) : Host.Outcome State Fault Refusal :=
  .next (if s.inputState = 3 && s.rf .mgmt 0x00100008 8 1 == 1 && decide (44000 ≤ s.vin) && decide (s.vin ≤ 60000) && s.coolState != 3 then
    let s := s.panelReset
    if s.resetLow then s else s.beginStart false
  else s)

/-- PANEL_RST_ASSERT (R579): without effect in STOPPED, during an orderly stop, and in SHUTDOWN, which only the MCI start command leaves (R481). -/
def execPanelRstAssert (s : State) : Host.Outcome State Fault Refusal :=
  let t := { s with resetLow := true }
  .next (if s.inputState < 2 && s.coolState != 3 then
    let t := t.panelReset
    if t.mayStart then t.beginStart false else t
  else t)

/-- PANEL_RST_RELEASE (R579): the start that was held at step 2 goes on, or one begins. -/
def execPanelRstRelease (s : State) : Host.Outcome State Fault Refusal :=
  let t := { s with resetLow := false }
  .next (if s.resetLow && t.mayStart then t.beginStart false else t)

/-! ## Failures of a start (R489, R500) -/

/-- A site fails a step with a cause, and SITE_FAILED names it; one that has failed already keeps its first cause. -/
def State.siteFail (s : State) (p : Fin 168) (cause step : Nat) : State :=
  if s.siteMode p = 3 then s
  else
    let v := s.reg .mgmt (siteStateOff p)
    let s := (s.setReg .mgmt (siteStateOff p) (setFld (setFld v 0 3 3) 16 4 cause)).count32 .mgmt 0x00130180
    s.siteEvent p 0x8004 [p.val, cause, step]

/-- Whether a site is still in the running: it has not failed. -/
def State.sound (s : State) (p : Fin 168) : Bool := s.siteMode p != 3

/-- The start fails at the next step with a case of R489: 1 no management die, 2 the fret table, 3 no route. -/
def State.startFails (s : State) (cause : Nat) : State :=
  let s := s.setRf .mgmt 0x00130000 10 1 1
  if s.mgmt.dead == [true, true] then s else s.event 0x8002 0 0 0xFF 0xFF [s.startStep + 1, cause]

/-- The step after the last one is completed. -/
def State.stepDone (s : State) : State := s.setRf .mgmt 0x00130000 0 4 (s.startStep + 1)

/-! ## Step 3: the management dies (R33, R490, R503) -/

/-- The staged images of the other targets that were activated take effect with a start (R567). -/
def State.bootPending (s : State) : State :=
  s.flash.fwPending.foldl (fun st t => match Sparse.get none st.flash.fwStaged t with
    | some (v, svn) =>
      let st := { st with
        flash.fwActive := Sparse.put 0 st.flash.fwActive t v, flash.fwStaged := Sparse.put none st.flash.fwStaged t none
        flash.fwSvn := Sparse.put 0 st.flash.fwSvn t (max svn (Sparse.get 0 st.flash.fwSvn t)), flash.fwPending := [] }
      st.event 0x9013 7 0xF0 0xFF 0xFF [t, v.toNat]
    | none => st) s

/-- Each die verifies its image or does not; a verified die below FEATURE_FLOOR takes no role. -/
def State.bootDies (s : State) : State :=
  let s := s.setRf .mgmt 0x00130008 0 16 s.flash.floor
  let bad (i : Nat) : Bool := s.pick i 2 == 1
  let able (i : Nat) : Bool := !bad i && decide (s.flash.floor ≤ dieLevel (900 + i))
  let t := { s.drawn 2 with mgmt.dead := [bad 0, bad 1] }
  if able 0 then { t with activeSouth := false }.bootPending.stepDone
  else if able 1 then
    ({ t with activeSouth := true }.event 0x8003 7 1 0xFF 0xFF [if bad 0 then 0 else 1]).bootPending.stepDone
  else ({ t with mgmt.dead := [true, true] }).startFails 1

/-! ## Step 4: fabric rails (R491) -/

/-- A region whose fabric rail does not come up stops its stops and fails its sites (R457, R491). -/
def State.fabricFails (s : State) (g : Fin 42) : State :=
  let s := (regionSites g).foldl (fun st p => (st.stopDown p).siteFail p 9 4) s
  s.derate [g.val / 7 * 2, g.val / 7 * 2 + 1] [g.val % 7 * 2, g.val % 7 * 2 + 1]

/-- The small rails come up region by region. -/
def State.fabricRails (s : State) : State :=
  let t := (List.finRange 42).foldl (fun st g =>
    if s.pick g.val 2 = 0 then (st.setRf (.gov g) 0 2 1 1).setLimit g else (st.setLimit g).fabricFails g) s
  (t.drawn 42).stepDone

/-! ## Step 5: edges (R495-R497) -/

/-- The groups that serve one direction's tracks and courses, 15 for none: tracks take half-width groups before full ones, courses full ones. -/
def directionGroups (full half : Nat) (gs : List Nat) : List Nat × List Nat :=
  let halves := gs.filter fun g => half / 2 ^ g % 2 == 1
  let fulls := gs.filter fun g => full / 2 ^ g % 2 == 1
  let narrow := halves.take 2
  let wide := fulls.take (2 - narrow.length)
  let tracks := narrow ++ wide
  let courses := (fulls.drop wide.length).take 3
  (tracks ++ List.replicate (2 - tracks.length) 15, courses ++ List.replicate (3 - courses.length) 15)

/-- The first need left unmet takes the spare. -/
def fillSpare (l : List Nat) : List Nat := mapFirst (fun g => g == 15) (fun _ => 10) l

/-- The assignment of an edge by R495: the groups of S0-S5, then of Q0 forward, Q0 return, Q1 forward and Q1 return; and the direction that the
spare serves, if it does. -/
def edgeAssign (full half : Nat) : List Nat × Option Bool :=
  let a := directionGroups full half (List.range 5)
  let b := directionGroups full half ((List.range 5).map (· + 5))
  let wide := full / 2 ^ 10 % 2 == 1
  let any := wide || half / 2 ^ 10 % 2 == 1
  let lacks (l : List Nat) : Bool := l.contains 15
  let r : (List Nat × List Nat) × (List Nat × List Nat) × Option Bool :=
    if lacks a.1 && any then ((fillSpare a.1, a.2), b, some false)
    else if lacks b.1 && any then (a, (fillSpare b.1, b.2), some true)
    else if lacks a.2 && wide then ((a.1, fillSpare a.2), b, some false)
    else if lacks b.2 && wide then (a, (b.1, fillSpare b.2), some true)
    else (a, b, none)
  let up := r.1.1
  let dn := r.2.1.1
  (r.1.2 ++ r.2.1.2 ++ [up.getD 0 15, dn.getD 0 15, dn.getD 1 15, up.getD 1 15], r.2.2)

/-- COURSES of an edge: a course needs a full-width group, a track any. -/
def coursesOf (full half : Nat) (gs : List Nat) : Nat :=
  (List.range 10).foldl (fun (a : Nat) i =>
    let g := gs.getD i 15
    let works := g < 15 && (full / 2 ^ g % 2 == 1 || (decide (6 ≤ i) && half / 2 ^ g % 2 == 1))
    a + b01 works * 2 ^ i) 0

/-- STATE of an edge by R496. -/
def edgeMode (courses : Nat) (spared : Bool) : Nat :=
  if courses / 64 % 16 != 15 then 3 else if courses % 64 != 63 then 2 else b01 spared

/-- The ring-stops at an edge's low and high ends; none at a stack port. -/
def edgeEnds (e : Nat) : Option (Fin 168) × Option (Fin 168) :=
  if e < 156 then (some (siteAt (e / 13) (e % 13)), some (siteAt (e / 13) (e % 13 + 1)))
  else
    let c := (e - 156) / 13
    let k := (e - 156) % 13
    (if 0 < k then some (siteAt (k - 1) c) else none, if k < 12 then some (siteAt k c) else none)

/-- COURSE_UP and TRACK_UP at both ends of an edge follow its COURSES field, or clear while the edge is DOWN. -/
def State.edgeBits (s : State) (e : Nat) : State :=
  let v := s.reg .mgmt (0x00132000 + 8 * e)
  let base := if e < 156 then 0 else 6
  let tbase := if e < 156 then 0 else 4
  let ends := edgeEnds e
  let live := fld v 61 3 != 4
  let s := (List.range 6).foldl (fun st c =>
    match if courseUp c then ends.2 else ends.1 with
    | some q => st.setRf (.site q) 0x18700000 (2 + base + c) 1 (b01 (live && bit v c))
    | none => st) s
  (List.range 4).foldl (fun st t =>
    match if trackUp t then ends.2 else ends.1 with
    | some q => st.setRf (.site q) 0x18710000 (4 + tbase + t) 1 (b01 (live && bit v (6 + t)))
    | none => st) s

/-- An event of an edge: SOURCE_KIND 9. -/
def State.edgeEvent (s : State) (e code : Nat) (detail : List Nat) : State := s.event code 9 e 0xFF 0xFF detail

/-- An edge's state has its consequences (R496, R497). -/
def State.edgeOutcome (s : State) (e : Nat) (spare : Option Bool) (failed : Nat) : State :=
  let v := s.reg .mgmt (0x00132000 + 8 * e)
  let gone := 63 - fld v 0 6
  match fld v 61 3 with
  | 1 => s.edgeEvent e 0x8005 [e, b01 (spare.getD false), failed]
  | 2 => (if e < 156 then s.derate [e / 13] [] else s.derate [] [(e - 156) / 13]).edgeEvent e 0x8006 [e, gone]
  | 3 =>
    let s := s.edgeEvent e 0x8007 [e, 15 - fld v 6 4]
    let ps := if e < 156 then (List.range 14).map (siteAt (e / 13)) else (List.range 12).map fun r => siteAt r ((e - 156) / 13)
    ps.foldl (fun st p => st.siteFail p 10 5) s
  | _ => s

/-- An edge trains its eleven groups: free widths (log entry 27); an edge with an end stop that does not run is DOWN. -/
def State.trainEdge (s : State) (e full half : Nat) : State :=
  let down (q : Option (Fin 168)) : Bool := q.any fun p => (s.site p).fabricDown
  let ends := edgeEnds e
  if down ends.1 || down ends.2 then s.setReg .mgmt (0x00132000 + 8 * e) (w64 (4 * 2 ^ 61))
  else
    let a := edgeAssign full half
    let cs := coursesOf full half a.1
    let word := edgeMode cs a.2.isSome * 2 ^ 61 + b01 (a.2.getD false) * 2 ^ 56 + b01 a.2.isSome * 2 ^ 55 + full * 2 ^ 32 + half * 2 ^ 16 + cs
    let s := (s.setReg .mgmt (0x00132000 + 8 * e) (w64 word)).edgeBits e
    let s := { s with groups := Sparse.put [] s.groups e a.1 }
    let mine := (List.range 5).map fun i => if a.2.getD false then i + 5 else i
    s.edgeOutcome e a.2 ((mine.find? fun g => full / 2 ^ g % 2 == 0).getD 10)

/-- Whether the active die's stop reaches any other: it runs, and an edge to another ring-stop is in use (R489, R497). -/
def State.routed (s : State) : Bool :=
  let p := attachStop (.mgmt s.activeSouth)
  !(s.site p).fabricDown && (stopEdges p).any fun e => e.2.1.isSome && decide (s.rf .mgmt (0x00132000 + 8 * e.1) 61 3 < 3)

/-- Whether a site's fret table keeps the rules of R427. -/
def State.fretsOk (s : State) (p : Fin 168) : Bool :=
  let f (i : Nat) : Nat := s.rf (.site p) (0x18600100 + 8 * i) 0 11
  (List.range 16).all (fun i => decide (200 ≤ f i) && decide (f i ≤ 1600) && f i % 25 == 0 && (i == 15 || decide (f i < f (i + 1)))) &&
    decide (f 0 ≤ 400)

/-- The stops start at T0 with HOP_LINK of the stored setting, and the edges train. -/
def State.trainEdges (s : State) : State :=
  let s := s.atStops fun st p => st.setRf (.site p) 0x18700020 0 4 st.flash.hopLink
  let t := (List.range 338).foldl (fun st e =>
    let full := s.pick (2 * e) 2048
    st.trainEdge e full ((2047 - full) &&& s.pick (2 * e + 1) 2048)) s
  let t := t.drawn 676
  if !(List.finRange 168).all t.fretsOk then t.startFails 2 else if t.routed then t.stepDone else t.startFails 3

/-- Whether a row or a column has a DEAD edge (R497). -/
def State.deadBundle (s : State) (row : Bool) (i : Nat) : Bool :=
  (List.range 13).any fun k => s.rf .mgmt (0x00132000 + 8 * ((if row then 0 else 156) + 13 * i + k)) 61 3 == 3

/-! ## Step 6: core rails (R491) -/

/-- A region whose core rail does not come up is DARK. -/
def State.railFails (s : State) (g : Fin 42) : State :=
  let s := (regionSites g).foldl (fun st p => st.siteFail p 8 6) (s.setRf (.gov g) 0 0 2 2)
  s.event 0x4016 3 g.val 0xFF 0xFF [g.val, 16 - (s.region g).removed.length]

/-- The core rails come up region by region, every core at F0. -/
def State.coreRails (s : State) : State :=
  let t := (List.finRange 42).foldl (fun st g =>
    if st.rf (.gov g) 0 2 1 = 0 then st else if s.pick g.val 2 = 0 then st.coreRailUp g else st.railFails g) s
  (t.drawn 42).stepDone

/-! ## Step 7: BIST and the remap tables (R212, R492) -/

/-- An entry of a memory die's remap table is written and valid. -/
def State.loadRemap (s : State) (p : Fin 168) (die e : Nat) (image : W64) (fused : Bool) : State :=
  s.setReg (.site p) (0x18508100 + 64 * die + 8 * e) (setFld (setFld (setFld image 21 41 0) 62 1 (b01 fused)) 63 1 1)

/-- Fused and stored entries are loaded in order; none where they break the limits of R212. -/
def State.loadRemaps (s : State) (p : Fin 168) (die : Nat) : Option State :=
  let fused := Config.fusedRemap (p.val * 2 + die)
  let all := (fused.map fun v => (v, true)) ++ ((s.flash.remaps.filter fun e => e.1 == p.val * 2 + die).map fun e => (e.2, false))
  let perBank (b : Nat) : Nat := (all.filter fun e => fld e.1 14 5 == b).length
  if 8 < all.length || (List.range 32).any fun b => decide (4 < perBank b) then none
  else some ((all.zip (List.range all.length)).foldl (fun (st : State) e => st.loadRemap p die e.2 e.1.1 e.1.2) s)

/-- A failing data row becomes an entry of the stored map; none where no entry or no usable spare row is free. -/
def State.bistRow (s : State) (p : Fin 168) (die bank row : Nat) : Option State :=
  if s.remapRow p die bank row ≠ row then some s
  else match s.remapFree p die bank with
    | some (e, r) =>
      let image : W64 := w64 (r * 2 ^ 19 + bank * 2 ^ 14 + row)
      some { s.loadRemap p die e image false with flash.remaps := s.flash.remaps ++ [(p.val * 2 + die, image)] }
    | none => none

/-- One site's BIST, with free results: whether a decoder gives a wrong outcome, which spare row of each die is marked unusable, and which data row of
each die fails (log entry 27). -/
def State.bistSite (s : State) (f : Nat → Nat) (p : Fin 168) : State :=
  let spare (die : Nat) : List Nat := if f (1 + 4 * die) % 2 = 1 then [p.val * 256 + die * 128 + f (2 + 4 * die) % 128] else []
  let s := { s with badSpares := s.badSpares ++ spare 0 ++ spare 1 }
  let die (o : Option State) (d : Nat) : Option State :=
    match o.bind fun st => st.loadRemaps p d with
    | some st => if f (3 + 4 * d) % 2 = 1 then st.bistRow p d (f (4 + 4 * d) % 32) (f (4 + 4 * d) / 32 % 12288) else some st
    | none => none
  match die (die (some s) 0) 1 with
  | some t => if f 0 % 2 = 1 then t.siteFail p 2 7 else t
  | none => s.siteFail p 3 7

/-- BIST of every site that has not failed, in row view. -/
def State.bist (s : State) : State :=
  let t := (List.finRange 168).foldl (fun st p =>
    if st.sound p then st.bistSite (fun i => Config.freeNat (s.free + 9 * p.val + i)) p else st) s
  (t.drawn 1512).stepDone

/-! ## Steps 8 and 9: self-test and characterisation (R493, R494) -/

/-- The self-test of every site that has not failed. -/
def State.selfTests (s : State) : State :=
  let t := (List.finRange 168).foldl (fun st p =>
    if st.sound p then (match s.pick p.val 3 with
      | 1 => st.siteFail p 1 8
      | 2 => st.siteFail p 7 8
      | _ => st) else st) s
  (t.drawn 168).stepDone

/-- A site's capo in SITEn_STATE and in its clock control. -/
def State.putCapo (s : State) (p : Fin 168) (c : Nat) : State :=
  (s.setRf .mgmt (siteStateOff p) 32 4 c).setRf (.site p) 0x18600010 0 4 c

/-- A cold start measures capo, TRIM and R_s: free results within their rules. -/
def State.measure (s : State) : State :=
  let t := (List.finRange 168).foldl (fun st p =>
    let top := s.pick (2 * p.val) 17
    let st := if st.sound p then
      (if top = 0 then st.siteFail p 6 9
       else (st.putCapo p (min fuseMax (top - 2))).updClk p fun x => { x with measuredAt := some s.time })
      else st
    st.setReg .mgmt (0x00133400 + 8 * p.val) (w64 (s.pick (2 * p.val + 1) 65536))) s
  let t := (List.finRange 42).foldl (fun st g => st.setReg .mgmt (0x00133000 + 8 * g.val) (w64 (10 * s.pick (336 + g.val) 7))) t
  t.drawn 378

/-- A fast start loads them. -/
def State.loadMeasures (s : State) : State :=
  let t := (List.finRange 168).foldl (fun st p =>
    let st := (st.putCapo p (Sparse.get 0 s.flash.capos p.val)).updClk p fun x => { x with measuredAt := s.flash.coldAt }
    st.setReg .mgmt (0x00133400 + 8 * p.val) (w64 (Sparse.get 0 s.flash.paths p.val))) s
  (List.finRange 42).foldl (fun st g => st.setReg .mgmt (0x00133000 + 8 * g.val) (w64 (Sparse.get 0 s.flash.trims g.val))) t

/-- Whether the start under way is cold. -/
def State.coldStart (s : State) : Bool := s.rf .mgmt 0x00130000 8 2 == 1

/-! ## Step 10: feature level and map (R500-R505) -/

/-- The feature level of a site: the lowest of its three dies. -/
def siteLevel (p : Fin 168) : Nat := min (dieLevel (4 * p.val)) (min (dieLevel (4 * p.val + 1)) (dieLevel (4 * p.val + 2)))

/-- Whether a site's dies form a pair of the Stack compatibility table. -/
def pairAllowed (p : Fin 168) : Bool :=
  let c := dieRev (4 * p.val)
  let m := dieRev (4 * p.val + 1)
  m == dieRev (4 * p.val + 2) && (if m = 0 then decide (c ≤ 1) else decide (1 ≤ c))

/-- A site's revisions and level are recorded, and it fails where they are not admitted or the stored map retires it. -/
def State.admitSite (s : State) (p : Fin 168) : State :=
  let v := s.reg .mgmt (siteStateOff p)
  let v := setFld (setFld (setFld v 48 16 (siteLevel p)) 44 4 (dieRev (4 * p.val))) 42 2 (dieRev (4 * p.val + 1))
  let s := s.setReg .mgmt (siteStateOff p) (setFld v 40 2 (dieRev (4 * p.val + 2)))
  if !s.sound p then s
  else if !pairAllowed p then s.siteFail p 4 10
  else if siteLevel p < s.flash.floor then s.siteFail p 5 10
  else if s.flash.retired.contains p.val then
    s.setReg .mgmt (siteStateOff p) (setFld (setFld (s.reg .mgmt (siteStateOff p)) 0 3 4) 16 4 11)
  else s

/-- Whether a port die is left DOWN: no fabric rail, a DEAD row at its stop, or a level below the floor (R491, R497, R503). -/
def State.dieDown (s : State) (d : Fin 42) : Bool :=
  s.rf (.gov d) 0 2 1 == 0 || s.deadBundle true (d.val / 7 * 2) || decide (dieLevel (700 + d.val) < s.flash.floor)

/-- Whether a stack port is left DOWN before it trains. -/
def State.stackDown (s : State) (k : Fin 28) : Bool :=
  s.rf (.gov (powerRegion (attachStop (.stack k)))) 0 2 1 == 0 || s.deadBundle false (siteCol (attachStop (.stack k))) ||
    decide (dieLevel (800 + k.val) < s.flash.floor)

/-- The panel's feature level and a die that sets it, by the numbers of Config.revision (R502). -/
def State.panelLevel (s : State) : Nat × Nat :=
  let sites := (List.finRange 168).filter fun p => s.siteMode p == 0
  let keys := [900, 901] ++ sites.flatMap (fun p => [4 * p.val, 4 * p.val + 1, 4 * p.val + 2]) ++
    ((List.finRange 42).filter fun d => !s.dieDown d).map (fun d => 700 + d.val) ++
    ((List.finRange 28).filter fun k => !s.stackDown k).map (fun k => 800 + k.val)
  keys.foldl (fun (a : Nat × Nat) k => if dieLevel k < a.1 then (dieLevel k, k) else a) (0x10000, 0)

/-- The usable sites of a row before the map is built. -/
def State.usableSites (s : State) (r : Nat) : List (Fin 168) := (rowSites r).filter fun p => s.siteMode p == 0

/-- The spares that a row without a stored map sets aside: up to two sites of the lowest capo, the highest column among equals. -/
def State.setAside (s : State) (l : List (Fin 168)) : Nat → List (Fin 168)
  | 0 => []
  | n + 1 =>
    match l.foldl (fun (a : Option (Fin 168)) p => match a with
        | some q => if s.capoAt p ≤ s.capoAt q then some p else some q
        | none => some p) none with
    | some p => p :: State.setAside s (l.filter fun q => q != p) n
    | none => []

/-- The sites that a row's logical columns start from: the stored ones that are usable, or the usable sites in order but for the spares (R501). -/
def State.rowStart (s : State) (r : Nat) : List (Nat × Fin 168) :=
  let l := s.usableSites r
  if s.flash.mapValid then
    l.filterMap fun p =>
      let x := Sparse.get 0 s.flash.lcids p.val
      if 0 < x && (x - 1) / 12 == r then some ((x - 1) % 12, p) else none
  else
    let spares := s.setAside l (min 2 (l.length - 12))
    (List.range 12).zip (l.filter fun p => !spares.contains p)

/-- The logical columns still without a site take the free site of the highest capo, the lowest column among equals (R501). -/
def State.fillRow (s : State) (m : List (Nat × Fin 168)) (left : List (Fin 168)) : List Nat → List (Nat × Fin 168)
  | [] => m
  | c :: cs =>
    if m.any fun e => e.1 == c then State.fillRow s m left cs
    else match s.bestCapo left with
      | some p => State.fillRow s (m ++ [(c, p)]) (left.filter fun q => q != p) cs
      | none => State.fillRow s m left cs

/-- Both versions of every stop's routing table hold an LCID's column. -/
def State.mapBoth (s : State) (lcid : Nat) (col : Option Nat) : State :=
  s.atStops fun st p =>
    (st.setReg (.site p) (0x18720000 + 8 * lcid) (w64 (col.getD 0x10))).setReg (.site p) (0x18720800 + 8 * lcid) (w64 (col.getD 0x10))

/-- A row's map is built (R501). -/
def State.buildRow (s : State) (r : Nat) : State :=
  let usable := s.usableSites r
  let start := s.rowStart r
  let taken := start.map Prod.snd
  let m := s.fillRow start (usable.filter fun p => !taken.contains p) (List.range 12)
  let spares := usable.filter fun p => !(m.map Prod.snd).contains p
  let s := m.foldl (fun st e => ((st.assign e.2 1 (12 * r + e.1)).setCoreState e.2 1).mapBoth (12 * r + e.1) (some (siteCol e.2))) s
  let s := spares.foldl (fun st p => (st.assign p 2 0xFF).setCoreState p 0) s
  let s := ((List.range 12).filter fun c => !(m.map Prod.fst).contains c).foldl (fun st c =>
    (st.mapBoth (12 * r + c) none).event 0x800A 2 (12 * r + c) 0xFF (12 * r + c) [12 * r + c]) s
  if spares.isEmpty then s.event 0x8009 0 0 0xFF 0xFF [r, usable.length] else s

/-- The level is set and the map is built. -/
def State.buildMap (s : State) : State :=
  let s := (List.finRange 168).foldl State.admitSite s
  let l := s.panelLevel
  let s := (s.setRf .mgmt 0x00130000 48 16 l.1).setReg .bar0 0x60010 (w64 l.1)
  let s := s.event 0x800C 0 0 0xFF 0xFF [l.1, l.2]
  ((List.range 12).foldl State.buildRow s).countSites.stepDone

/-! ## Steps 11 to 13 (R506, R507, R487) -/

/-- A stack trains, is tested and zero-filled, or is left DOWN (R506): free outcomes. -/
def State.startStack (s : State) (k : Fin 28) (f : Nat → Nat) : State :=
  if s.stackDown k then s
  else if f 0 % 2 = 1 then s.stackEvent k 0x800B [k.val, 0]
  else
    let s := s.setRf (.stack k) 0 6 2 (s.rf (.stack k) 8 0 2)
    let entries := (s.flash.spillRemaps.filter fun e => e.1 == 1000 + k.val).take 32
    let s := (entries.zip (List.range 32)).foldl (fun (st : State) e => st.setReg (.stack k) (0x2000 + 8 * e.2) (setFld e.1.2 63 1 1)) s
    if f 1 % 2 = 1 then s.stackEvent k 0x800B [k.val, 1] else s.setStackState k 2

/-- The stacks; then the enabled ports begin to train. -/
def State.startStacks (s : State) : State :=
  let t := (List.finRange 28).foldl (fun st k => st.startStack k fun i => Config.freeNat (s.free + 2 * k.val + i)) s
  let t := { t with spill := [] }
  let t := (List.range 84).foldl (fun st i =>
    let on := bit (st.reg (.die (portDie i)) (portReg i 0x1008)) 1 && !st.dieDown (portDie i)
    if on then st.portTrain i 4
    else st.setRf (.die (portDie i)) (portReg i 0x1000) 0 2 (if bit (st.reg (.die (portDie i)) (portReg i 0x1008)) 1 then 1 else 0)) t
  (t.drawn 56).stepDone

/-- The stored map is written to both flashes (R487). -/
def State.storeMap (s : State) : State :=
  let capos := (List.finRange 168).foldl (fun (m : Sparse Nat) p => Sparse.put 0 m p.val (s.capoAt p)) []
  let paths := (List.finRange 168).foldl (fun (m : Sparse Nat) p => Sparse.put 0 m p.val (s.rn .mgmt (0x00133400 + 8 * p.val))) []
  let trims := (List.finRange 42).foldl (fun (m : Sparse Nat) g => Sparse.put 0 m g.val (s.rn .mgmt (0x00133000 + 8 * g.val))) []
  { s with
    flash.mapValid := true, flash.coldAt := if s.coldStart then some s.time else s.flash.coldAt
    flash.capos := capos, flash.paths := paths, flash.trims := trims }

/-- READY (R488 step 13). -/
def State.ready (s : State) : State :=
  let s := (s.stepDone.setRf .mgmt 0x00130000 11 1 1).setReg .mgmt 0x00130108 (w64 s.time)
  let n := s.rf .mgmt 0x00130000 32 8
  s.storeMap.event 0x8001 0 0 0xFF 0xFF [s.rf .mgmt 0x00130000 8 2, s.time, s.rf .mgmt 0x00130000 48 16, 144 - n, s.rf .mgmt 0x00130000 24 8]

/-- BRINGUP_STEP_COMPLETE (R488): the next step of the power-on sequence completes, as soon as what it waits for is there. A low COOL_OK holds the start
before step 6 (R576), a low PANEL_RST_N at step 2 (R579). -/
def execBringupStepComplete (s : State) : Host.Outcome State Fault Refusal :=
  .next (if s.rf .mgmt 0x00130000 8 2 = 0 || s.rf .mgmt 0x00130000 10 1 == 1 || decide (2 ≤ s.coolState) || decide (2 ≤ s.inputState) then s
  else match s.startStep with
    | 1 => if s.droneUp && s.refValid then s.stepDone else s
    | 2 => if s.resetLow then s else s.bootDies
    | 3 => s.fabricRails
    | 4 => s.trainEdges
    | 5 => if s.rf .mgmt 0x00120000 7 1 = 1 then s.coreRails else s
    | 6 => s.bist
    | 7 => s.selfTests
    | 8 => (if s.coldStart then s.measure else s.loadMeasures).stepDone
    | 9 => s.buildMap
    | 10 => s.startStacks
    | 11 => if (List.range 84).any fun i => s.portState i == 2 then s else s.stepDone
    | 12 => s.ready
    | _ => s)

/-! ## The restart of one stop (R499) -/

/-- The width of a group by masks: 2 full, 1 half, 0 neither. -/
def groupWidth (full half g : Nat) : Nat := if full / 2 ^ g % 2 == 1 then 2 else half / 2 ^ g % 2

/-- An edge of a restarting stop retrains: each end reports a free width for each group, capped by the last trained one; the narrower stands, and a
difference is EDGE_WIDTH_MISMATCH. -/
def State.retrainEdge (s : State) (e : Nat) : State :=
  let off := 0x00132000 + 8 * e
  let v := s.reg .mgmt off
  let old (g : Nat) : Nat := groupWidth (fld v 32 11) (fld v 16 11) g
  let end1 (g : Nat) : Nat := min (old g) (s.pick (2 * g) 3)
  let end2 (g : Nat) : Nat := min (old g) (s.pick (2 * g + 1) 3)
  let width (g : Nat) : Nat := min (end1 g) (end2 g)
  let mask (w : Nat) : Nat := (List.range 11).foldl (fun (a : Nat) g => a + b01 (width g == w) * 2 ^ g) 0
  let s := (List.range 11).foldl (fun st g =>
    if end1 g = end2 g then st
    else ((st.setRf .mgmt off 57 1 1).count32 .mgmt 0x00130188).edgeEvent e 0x8008 [e, g, end1 g, end2 g]) (s.drawn 22)
  let cs := coursesOf (mask 2) (mask 1) (Sparse.get [] s.groups e)
  s.setReg .mgmt off (setFld (setFld (setFld (setFld (s.reg .mgmt off) 32 11 (mask 2)) 16 11 (mask 1)) 0 10 cs) 61 3 (edgeMode cs (bit v 55)))

/-- A stop restarts and retrains its edges with the running neighbours (R499). A track that trains at neither width leaves the restart incomplete: that
edge is DEAD, the others stay DOWN. Its core stays retired. -/
def State.stopRestart (s : State) (p : Fin 168) : State :=
  if !(s.site p).fabricDown || s.rf (.gov (powerRegion p)) 0 2 1 == 0 then s
  else
    let es := (stopEdges p).filter fun e => !(e.2.1.any fun q => (s.site q).fabricDown)
    let s := es.foldl (fun st e => st.retrainEdge e.1) s
    let dead := es.filter fun e => s.rf .mgmt (0x00132000 + 8 * e.1) 61 3 == 3
    if dead.isEmpty then
      let s := s.updSite p fun x => { x with fabricDown := false }
      es.foldl (fun st e => st.edgeBits e.1) s
    else
      es.foldl (fun st e =>
        if st.rf .mgmt (0x00132000 + 8 * e.1) 61 3 = 3 then
          st.edgeEvent e.1 0x8007 [e.1, 15 - st.rf .mgmt (0x00132000 + 8 * e.1) 6 4]
        else st.setRf .mgmt (0x00132000 + 8 * e.1) 61 3 4) s

/-- FABRIC_PLL_RELOCK (R436, R499). -/
def execFabricPllRelock (p : Site) (s : State) : Host.Outcome State Fault Refusal := .next (s.stopRestart p)

/-! ## Function resets and the debug port -/

/-- A Function Level Reset of the active function (R549): session 0 closes and opens anew, BAR0 returns to its Reset values but for the feature level that
the panel has set, and event and service rings are disabled; accepted requests run on and their responses are discarded. -/
def State.functionReset (s : State) : State :=
  let rest := s.sessions.filter fun x => x.id != 0
  let s := { s with
    sessions := Session.zero s.flash.pcieRights :: rest
    regs := s.regs.filter fun e => e.1 / 2 ^ 29 != 501
    evRings := [], svcRings := []
    mgmt.boxes := s.mgmt.boxes.filter fun e => e.1 / 64 != b01 s.activeSouth }
  s.setReg .bar0 0x60010 (w64 (s.rf .mgmt 0x00130000 48 16))

/-- FUNCTION_LEVEL_RESET (R549). -/
def execFunctionLevelReset (s : State) : Host.Outcome State Fault Refusal := .next s.functionReset

/-- PERST_ASSERT (R581): the pin is low, and the reset of port k acts on that die's function; the standby function carries no commands, so that only its
mailboxes return to their Reset values. -/
def execPerstAssert (k : BitVec 1) (s : State) : Host.Outcome State Fault Refusal :=
  let s := { s with perstLow := s.perstLow.set k.toNat true }
  .next (if decide (k.toNat = b01 s.activeSouth) then s.functionReset
  else { s with mgmt.boxes := s.mgmt.boxes.filter fun e => e.1 / 64 != k.toNat })

/-- PERST_RELEASE (R581). -/
def execPerstRelease (k : BitVec 1) (s : State) : Host.Outcome State Fault Refusal :=
  .next { s with perstLow := s.perstLow.set k.toNat false }

/-- DEBUG_EN_ASSERT (R568). -/
def execDebugEnAssert (s : State) : Host.Outcome State Fault Refusal := .next { s with mgmt.debugEn := true }

/-- DEBUG_EN_DEASSERT (R569): a whole-panel reset at once while JTAG is open, and then a start. -/
def execDebugEnDeassert (s : State) : Host.Outcome State Fault Refusal :=
  let t := { s with mgmt.debugEn := false }
  .next (if s.mgmt.jtagOpen then
    let t := t.panelReset
    if t.mayStart && !t.resetLow then t.beginStart false else t
  else t)

/-- TAP_INSTRUCTION (R568): a closed port accepts BYPASS (all ones) and IDCODE; any other instruction selects BYPASS and raises DEBUG_ATTEMPT. -/
def execTapInstruction (ir : BitVec 8) (s : State) : Host.Outcome State Fault Refusal :=
  .next (if s.mgmt.jtagOpen || ir == 0xFF || ir == Config.tapIdcode then { s with mgmt.tapIr := ir }
  else ({ s with mgmt.tapIr := 0xFF }).event 0x9017 7 0 0xFF 0xFF [ir.toNat])

/-! ## Output pins (R442, R477, R541, R580) -/

/-- FAULT_N is low: a CRITICAL event is not acknowledged, or the start has failed. -/
def State.faultLow (s : State) : Bool := !s.unacked.isEmpty || s.rf .mgmt 0x00130000 10 1 == 1

/-- PWR_GOOD of a feed is high while it is connected. -/
def State.pwrGood (s : State) (b : Bool) : Bool := s.rf .mgmt 0x00100000 (2 + b01 b) 1 == 1

/-- THERM_ALERT_N is low while a warning stands, a region is off for heat, or the coolant state is not NORMAL (R477). -/
def State.thermAlertLow (s : State) : Bool :=
  (List.finRange 42).any (fun g => s.rf .mgmt (ceilOff g) 4 1 == 1) || s.coolState != 0 ||
    (List.finRange 168).any fun p => (List.range 3).any fun part => (s.held (16 * p.val + 12 + part)).stands

end Sys2Proof.Machine
end

