-- ==== Sys2Proof/Machine/Mgmt.lean ====
section
/-! DEFINITION. The management dies beside the command interface: the journal and the heartbeat (R544, R545), takeovers (R546), sessions that end (R556), and
events on their way to the host and to subscribed sessions (R538, R563-R565). -/

namespace Sys2Proof.Machine

/-! ## Roles (R33, R544-R546) -/

/-- Whether a management die is dead: its firmware did not verify, and it holds in its boot ROM (R490). -/
def State.dieDead (s : State) (south : Bool) : Bool := s.mgmt.dead.getD (b01 south) false

/-- Ethernet sessions end (R546, R568). -/
def State.endSessions (s : State) : State := { s with sessions := s.sessions.filter fun x => x.id == 0 }

/-- The standby takes the active role (R545, R546): kind 0 planned, 1 forced; cause 0 command, 1 no heartbeat, 2 firmware fault (log entry 27). In a forced
takeover the running step of every bound partition fails, as by ABORT. Nothing where the standby holds in its boot ROM. -/
def State.takeover (s : State) (kind cause : Nat) : State :=
  if s.dieDead (!s.activeSouth) then s
  else
    let s := { s.endSessions with
      activeSouth := !s.activeSouth, outbox := s.outbox ++ [Out.msix 132], mgmt.heartAt := s.time, mgmt.applied := s.mgmt.journal }
    let s := s.event 0x9010 7 (0xF0 + b01 s.activeSouth) 0xFF 0xFF [b01 s.activeSouth, kind, cause]
    if kind = 1 then s.partList.foldl (fun st y => st.fail y.1 0x04 0 0) s else s

/-- Whether the management dies have booted (R488 step 3). -/
def State.booted (s : State) : Bool := decide (3 ≤ s.startStep) && !s.dieDead s.activeSouth

/-- HEARTBEAT_SEND (R545): the time of the last heartbeat. -/
def execHeartbeatSend (s : State) : Host.Outcome State Fault Refusal :=
  .next (if s.booted then { s with mgmt.heartAt := s.time } else s)

/-- HEARTBEAT_LOSS (R545): no heartbeat for 10 ms. -/
def execHeartbeatLoss (s : State) : Host.Outcome State Fault Refusal :=
  .next (if s.booted && decide (s.mgmt.heartAt + 10 ^ 6 ≤ s.time) then s.takeover 1 1 else s)

/-- FIRMWARE_FAULT_REPORT (R545). -/
def execFirmwareFaultReport (s : State) : Host.Outcome State Fault Refusal := .next (if s.booted then s.takeover 1 2 else s)

/-- JOURNAL_RECORD (R544): the standby applies the oldest record it has not applied. -/
def execJournalRecord (s : State) : Host.Outcome State Fault Refusal :=
  .next (if s.mgmt.applied < s.mgmt.journal then { s with mgmt.applied := s.mgmt.applied + 1 } else s)

/-! ## Sessions (R556) -/

/-- A session closes: session 0 of PCI Express opens anew (R549), any other is gone. -/
def State.closeSession (s : State) (id : W32) : State :=
  if id = 0 then s.updSession 0 fun _ => Session.zero s.flash.pcieRights
  else { s with sessions := s.sessions.filter fun x => x.id != id }

/-- SESSION_IDLE_TIMEOUT (R556): 60 s without a valid datagram. -/
def execSessionIdleTimeout (id : BitVec 32) (s : State) : Host.Outcome State Fault Refusal :=
  .next (match s.session id with
    | some x => if id ≠ 0 && decide (x.last + 60 * 10 ^ 8 ≤ s.time) then s.closeSession id else s
    | none => s)

/-! ## Event records on their way (R538, R563-R565) -/

/-- An event record as 64 bytes (R538). -/
def eventBytes (e : Event) : List Byte :=
  toBytes 2 e.code.toNat ++ [e.severity, e.kind] ++ toBytes 2 e.id.toNat ++ [e.part, e.flags] ++ toBytes 8 e.time.toNat ++
    toBytes 4 e.seq.toNat ++ [e.lcid, 0, 0, 0] ++ (List.range 5).flatMap fun i => toBytes 8 (e.detail.getD i 0).toNat

/-- An event ring. -/
def State.evRing (s : State) (r : Nat) : EvRing := Sparse.get EvRing.init s.evRings r

/-- The records that stand in an event ring and that the host has not consumed. -/
def State.evUsed (s : State) (r : Nat) : Nat :=
  (s.rf .bar0 (0x50008 + 16 * r) 0 32 + 2 ^ 32 - s.rf .bar0 (0x50000 + 16 * r) 0 32) % 2 ^ 32

/-- EVENT_RECORD_DELIVERY (R563): the oldest waiting record of a ring is written where the ring has room; a vector follows at most once per 10 µs. -/
def execEventRecordDelivery (ring : BitVec 2) (s : State) : Host.Outcome State Fault Refusal :=
  let r := ring.toNat
  let x := s.evRing r
  .next (match x.waiting with
    | e :: rest =>
      if x.on && decide (s.evUsed r < x.entries) then
        let prod := s.rf .bar0 (0x50008 + 16 * r) 0 32
        let signal := !(x.lastVector.any fun t => decide (s.time < t + 1000))
        let mem := s.host.writeBytes (x.base + prod % x.entries * 64) (eventBytes e)
        let mem := mem.writeBytes x.prodAddr (toBytes 8 ((prod + 1) % 2 ^ 32))
        let s := { s with
          host := mem
          evRings := Sparse.put EvRing.init s.evRings r { x with waiting := rest, lastVector := if signal then some s.time else x.lastVector }
          outbox := if signal then s.outbox ++ [Out.msix (128 + r)] else s.outbox }
        s.setRf .bar0 (0x50008 + 16 * r) 0 32 (prod + 1)
      else s
    | [] => s)

/-- EVENT_CONSUMER_WRITE (R563). -/
def execEventConsumerWrite (ring : BitVec 2) (cons : BitVec 32) (s : State) : Host.Outcome State Fault Refusal :=
  .next (s.setRf .bar0 (0x50000 + 16 * ring.toNat) 0 32 cons.toNat)

/-- An EVENT_NOTIFY datagram (R559, R565); its TAG is the panel's own, a free value. -/
def State.notify (s : State) (x : Session) (es : List Event) : State :=
  let c : MciCmd := ⟨.ether s.activeSouth x.id 0 0 0, 0, 0, Config.free32 s.free, 0, x.id, 0, []⟩
  let payload := toBytes 8 es.length ++ es.flatMap eventBytes
  s.draw.sendDatagram s.activeSouth x (mciHeader c 0x0014 payload.length 0 0 0 ++ payload)

/-- EVENT_NOTIFY_SEND (R565): up to 16 records that have not been sent yet. -/
def execEventNotifySend (id : BitVec 32) (s : State) : Host.Outcome State Fault Refusal :=
  .next (match s.session id with
    | some x =>
      let es := (x.notices.filter fun n => n.sends == 0).take 16
      let sent (n : Notice) : Notice := if es.any (fun m => m.ev.seq == n.ev.seq) then { n with sends := 1, sentAt := s.time } else n
      if es.isEmpty then s
      else (s.notify x (es.map Notice.ev)).updSession id fun y => { y with notices := y.notices.map sent }
    | none => s)

/-- EVENT_NOTIFY_RESEND (R565): records unconfirmed for 20 ms are sent again, four times at most, and are then dropped for the session, under a count
and EVENTS_LOST once. -/
def execEventNotifyResend (id : BitVec 32) (s : State) : Host.Outcome State Fault Refusal :=
  .next (match s.session id with
    | some x =>
      let due (n : Notice) : Bool := n.sends != 0 && decide (n.sentAt + 2 * 10 ^ 6 ≤ s.time)
      let gone := x.notices.filter fun n => due n && decide (5 ≤ n.sends)
      let es := (x.notices.filter fun n => due n && decide (n.sends < 5)).take 16
      let s := if es.isEmpty then s else s.notify x (es.map Notice.ev)
      let again (n : Notice) : Notice :=
        if es.any (fun m => m.ev.seq == n.ev.seq) then { n with sends := n.sends + 1, sentAt := s.time } else n
      let s := s.updSession id fun y => { y with
        notices := (y.notices.filter fun n => !gone.any fun m => m.ev.seq == n.ev.seq).map again
        lost := min 0xFFFFFFFF (y.lost + gone.length), lostRaised := y.lostRaised || !gone.isEmpty }
      (match gone.head? with
        | some n => if x.lostRaised then s else s.event 0x9018 0 0 0xFF 0xFF [id.toNat, n.ev.seq.toNat]
        | none => s)
    | none => s)

end Sys2Proof.Machine
end

