-- ==== Sys2Proof/Machine/RegWrite.lean ====
section
/-! DEFINITION. Registers as the masters outside a core reach them (R12-R14, R39, R485): every unit's view, writes by the active management die with
what each register does, and the rows REGISTER_WRITE and READ_CLEAR. -/

namespace Sys2Proof.Machine

/-! ## Views -/

/-- COLLi_STATUS of a port die (R411, R415): the newest invocation decides STATE. -/
def State.collStatus (s : State) (d : Fin 42) (i : Nat) : W64 :=
  match s.colls.find? fun c => c.die == d.val && c.index == i with
  | some c =>
    let last := c.invs.getLast?
    let st := match last with
      | some v => if v.aborted then 3 else 1
      | none => if c.retained.isSome then 2 else 0
    let num := match last, c.retained with
      | some v, _ => v.num.toNat
      | none, some v => v.num.toNat
      | none, none => 0
    w64 (2 ^ 63 + st * 2 ^ 60 + c.id % 2 ^ 16 * 2 ^ 32 + num)
  | none => 0

/-- SENSE_EXCL of a region: sites with a connection fault, and sites whose core is off (R453, R458). -/
def State.senseExcl (s : State) (g : Fin 42) : Nat :=
  (regionSites g).foldl (fun (a : Nat) p =>
    a + b01 (s.rf (.gov g) 0 (32 + regionPlace p) 1 == 1 || s.coreState p == 0) * 2 ^ regionPlace p) 0

/-- The role that a management die's ROLE register shows (R547, R490): 0 active, 1 standby, 2 boot ROM. -/
def State.roleOf (s : State) (south : Bool) : Nat := if s.dieDead south then 2 else if s.activeSouth == south then 0 else 1

/-- BAR0 of the active function. -/
def State.bar0View (s : State) (off : Nat) : W64 :=
  if inTable off 0x40800 8 64 then s.box s.activeSouth ((off - 0x40800) / 8)
  else if off = 0x60000 then w64 (b01 s.activeSouth * 2 ^ 8 + s.roleOf s.activeSouth)
  else if off = 0x60018 && Sparse.get 0 s.flash.fwActive 0 != 0 then (Sparse.get 0 s.flash.fwActive 0).zeroExtend 64
  else s.reg .bar0 off

/-- What any unit's register holds, mirrored fields included. -/
def State.unitView (s : State) (u : RegUnit) (off : Nat) : W64 :=
  match u with
  | .stack k => if off = 0 then s.spxStatus k else s.reg u off
  | .gov g => if off = 0 then s.reg u off ||| w64 (s.senseExcl g * 2 ^ 36) else s.reg u off
  | .die d => if inTable off 0x6000 8 64 then s.collStatus d ((off - 0x6000) / 8) else s.regView u off
  | .bar0 => s.bar0View off
  | _ => s.regView u off

/-- What a read of any unit's register returns. -/
def State.unitRead (s : State) (u : RegUnit) (off : Nat) : W64 := readFields (regFields u off) (s.unitView u off)

/-! ## Writes by the active management die -/

/-- A register takes a write through its access codes. -/
def State.plainWrite (s : State) (u : RegUnit) (off : Nat) (locked : Bool) (v : W64) : State :=
  s.setReg u off (writeFields (regFields u off) locked (s.reg u off) v)

/-- The state that an outcome leads to, this one where it leads to none. -/
def State.after (s : State) : Host.Outcome State Fault Refusal → State
  | .next t => t
  | _ => s

/-- Whether a write of a site's register is ignored: the active slot and lease banks (R233, R246), the routing version in use and both while DRAINING (R275),
a valid remap entry, and values outside R218, R229 and R231. -/
def State.siteIgnores (s : State) (p : Fin 168) (off : Nat) (v : W64) : Bool :=
  if off = 0x18508008 then v != 0 && !(decide (1800 ≤ fld v 0 32) && decide (fld v 0 32 ≤ 604800))
  else if 0x18508100 ≤ off && off < 0x18508180 then bit (s.reg (.site p) off) 63
  else if off = 0x18700008 then !(decide (64 ≤ fld v 0 14) && decide (fld v 0 14 ≤ 8192))
  else if off = 0x18700020 then decide (6 ≤ s.startStep) || !(decide (6 ≤ fld v 0 4) && decide (fld v 0 4 ≤ 9))
  else if 0x18701000 ≤ off && off < 0x18701800 then (off - 0x18701000) / 0x400 == s.slotBank p
  else if 0x18720000 ≤ off && off < 0x18721000 then
    s.rf (.site p) 0x18710000 1 1 == 1 || (off - 0x18720000) / 0x800 == s.injectEpoch p
  else if 0x18740000 ≤ off then (off - 0x18740000) / 0x30000 == s.slotBank p
  else false

/-- A write of a site's register by the active management die: CORE_CONTROL (R543), the management ring (R184, R187, R190), SP_SEG_ON (R172), CAPO (R438),
registers that a control core may write as well, and the rest through the access codes; FRETn_MHZ is locked from step 5 on (R427). CLK_TARGET and
CEILING are the governor's (R438). -/
def State.siteWrite (s : State) (p : Fin 168) (off : Nat) (v : W64) : State :=
  let u := RegUnit.site p
  if off = 0x18000008 then s.coreControl p v
  else if off = 0x18502210 then s.after (execMvMgmtIssue p (v.setWidth 29) s)
  else if off = 0x18502108 then
    let s := if bit v 1 then s.mvAbort p 8 else s
    if bit v 0 then s.mvClearFault p 8 else s
  else if off = 0x18500010 then s.setSegOn p v.toNat
  else if off = 0x18600008 then s
  else if off = 0x18600010 then (s.setRf u off 0 4 (fld v 0 4)).clockEval p
  else if s.siteIgnores p off v then s
  else match s.ccStoreReg p off v with
    | some t => t
    | none => s.plainWrite u off (decide (5 ≤ s.startStep)) v

/-- A stack trains anew at SPEED (R366, R506), with a free outcome. -/
def State.retrainStack (s : State) (k : Fin 28) : State :=
  if s.pick 0 2 = 1 then ((s.drawn 1).setStackState k 0).stackEvent k 0x800B [k.val, 0]
  else ((s.drawn 1).setRf (.stack k) 0 6 2 (s.rf (.stack k) 8 0 2)).setStackState k 2

/-- Whether a stack has a valid extent entry. -/
def State.extAny (s : State) (k : Fin 28) : Bool := (List.range 256).any fun n => bit (s.extCfg k n) 63

/-- A write of a stack port's register (R366, R386). -/
def State.stackRegWrite (s : State) (k : Fin 28) (off : Nat) (v : W64) : State :=
  let u := RegUnit.stack k
  if off = 8 then
    let s := if fld v 0 2 = 3 then s else s.plainWrite u off false v
    if bit v 2 && !s.extAny k && s.stackState k == 2 then s.retrainStack k else s
  else if 0x1000 ≤ off && off < 0x2000 && bit (s.reg u (off / 16 * 16)) 61 then s
  else s.plainWrite u off false v

/-- The panel id is set at a port die (R35, R401). -/
def State.setPanelId (s : State) (d : Fin 42) (id : Nat) : State :=
  if s.rf (.die d) 0 0 1 = 1 then s else ((s.setRf (.die d) 8 0 10 id).setRf (.die d) 0 0 1 1)

/-- A port's ENABLE is written (R396, R400). -/
def State.portEnable (s : State) (i : Nat) (on : Bool) : State :=
  let old := bit (s.reg (.die (portDie i)) (portReg i 0x1008)) 1
  let s := s.setRf (.die (portDie i)) (portReg i 0x1008) 1 1 (b01 on)
  if old && !on then s.portDown i 4
  else if on && !old && s.rf (.gov (portDie i)) 0 2 1 == 1 then s.portTrain i 4 else s

/-- A port retrains toward full width (R400): one that is UP goes through TRAINING. -/
def State.portRetrain (s : State) (i : Nat) : State :=
  if s.portState i = 0 || s.rf (.gov (portDie i)) 0 2 1 == 0 then s else s.portTrain i 4

/-- A write of a port die's register. -/
def State.dieRegWrite (s : State) (d : Fin 42) (off : Nat) (v : W64) : State :=
  let u := RegUnit.die d
  if off = 8 then s.setPanelId d (fld v 0 10)
  else if off = 0x10 then (s.plainWrite u off false v).rechoose
  else if off = 0x1008 || off = 0x1808 then
    let i := 2 * d.val + (off - 0x1008) / 0x800
    let s := s.portEnable i (bit v 1)
    if bit v 2 then s.portRetrain i else s
  else if off = 0x1010 || off = 0x1810 then
    (if fld v 0 4 = 0 || fld v 4 4 = 0 || fld v 8 4 = 0 then s else s.plainWrite u off false v)
  else if inTable off 0x3800 8 16 then (if bit v 63 then s.releaseFreeze d ((off - 0x3800) / 8) else s)
  else s.plainWrite u off false v

/-- Whether a policy register takes a value (R461, R485, R503): every field in its range. -/
def policyOk (off : Nat) (v : W64) : Bool :=
  let within (lo w a b : Nat) : Bool := decide (a ≤ fld v lo w) && decide (fld v lo w ≤ b)
  if off = 0x00100008 then within 0 8 10 200
  else if off = 0x00110008 then within 0 16 400 capDefaults.2 && within 32 16 (fld v 0 16) capDefaults.1
  else if off = 0x00110010 then within 0 8 10 255 && within 8 4 2 15 && within 16 10 20 1000
  else if off = 0x00120008 then within 0 8 80 105
  else if off = 0x00140000 then within 0 8 1 60 && within 8 8 1 60
  else true

/-- A write of a register of the active management die; FEATURE_FLOOR is held in the stored map (R511). -/
def State.mgmtRegWrite (s : State) (off : Nat) (v : W64) : State :=
  if off = 0x00120010 then (if bit v 0 then s.resumeCooling else s)
  else if !policyOk off v then s
  else
    let s := s.plainWrite .mgmt off false v
    if off = 0x00130008 then { s with flash.floor := fld v 0 16 } else s

/-- A write of a governor's register (R459, R461). -/
def State.govWrite (s : State) (g : Fin 42) (off : Nat) (v : W64) : State :=
  if off = 8 then s.after (execGovClearConn g (v.setWidth 4) s)
  else if off = 0x10 && !(decide (20 ≤ fld v 0 8) && decide (fld v 0 8 ≤ 80) && decide (10 ≤ fld v 8 8) && decide (fld v 8 8 ≤ 100)) then s
  else s.plainWrite (.gov g) off false v

/-- A write of a register by the active management die. -/
def State.mgmtWrite (s : State) (u : RegUnit) (off : Nat) (v : W64) : State :=
  if (regRow u off).isNone then s
  else match u with
    | .site p => s.siteWrite p off v
    | .stack k => s.stackRegWrite k off v
    | .die d => s.dieRegWrite d off v
    | .gov g => s.govWrite g off v
    | .mgmt => s.mgmtRegWrite off v
    | .bar0 => s

/-- A write of BAR0 by the host: EVRr_CONS; doorbells have rows of their own (R346, R548, R550). -/
def State.hostWrite (s : State) (off : Nat) (v : W64) : State :=
  if (regRow .bar0 off).isNone then s else s.plainWrite .bar0 off false v

/-- The panel address of a register (R36): a site's registers stand in the window of the LCID it holds; BAR0 has none and counts as 0. -/
def State.panelAddr (s : State) (u : RegUnit) (off : Nat) : W64 :=
  match u with
  | .site q => w64 (s.lcidOf q * 2 ^ 43 + off)
  | _ => w64 (regPA u off)

/-- A register access that R38 or R39 refuses to a control core (R156): the violation names the panel address; the instruction word is a free value. -/
def State.regViolation (s : State) (p : Fin 168) (u : RegUnit) (off : Nat) : State :=
  if s.coreRuns p then s.draw.accessViolation p (s.panelAddr u off) (Config.free32 s.free) else s

/-- REGISTER_WRITE (R12, R38, R39): the active management die writes what the maps permit, a control core its own blocks, the host BAR0; the standby die
writes nothing. -/
def execRegisterWrite (m : Master) (u : RegUnit) (off : BitVec 29) (v : BitVec 64) (s : State) : Host.Outcome State Fault Refusal :=
  .next (match m with
    | .mgmtActive => s.mgmtWrite u off.toNat v
    | .mgmtStandby => s
    | .host => if u = .bar0 then s.hostWrite off.toNat v else s
    | .core p =>
      if u = .site p then (match s.ccStoreReg p off.toNat v with
        | some t => if s.coreRuns p then t else s
        | none => s.regViolation p u off.toNat)
      else s.regViolation p u off.toNat)

/-- READ_CLEAR (R13, R14): a read of an RC field clears it. The host reads BAR0 alone, a control core its own site's registers through its window and other units'
through packets; a BAR0 register is read by the host alone. -/
def execReadClear (m : Master) (u : RegUnit) (off : BitVec 29) (s : State) : Host.Outcome State Fault Refusal :=
  let bar := u == .bar0
  .next (match m with
    | .host => if bar then s.regClear u off.toNat else s
    | .core p => if bar || !s.coreRuns p then s else (match u with
      | .site q => if p = q then s.regClear u off.toNat else s.regViolation p u off.toNat
      | _ => s.regClear u off.toNat)
    | _ => if bar then s else s.regClear u off.toNat)

end Sys2Proof.Machine
end

