-- ==== Sys2Proof/Machine/Mci.lean ====
section
/-! DEFINITION. The command interface (R544, R550-R559): how a command is taken, checked and answered. The commands themselves stand in MciPanel, MciPart,
MciData, MciFault and MciIhlyx. Log entry 28 holds the order of the checks. -/

namespace Sys2Proof.Machine

/-- What a command comes to: the state, STATUS, DETAIL and the response payload; whether it is answered later, and what happens once it is answered. -/
structure MciAns where
  s : State
  status : Nat
  detail : Nat
  payload : List Byte
  later : Bool
  next : State → State

/-- Done. -/
def MciAns.done (s : State) : MciAns := ⟨s, 0, 0, [], false, id⟩
/-- Done, with a payload. -/
def MciAns.give (s : State) (payload : List Byte) : MciAns := ⟨s, 0, 0, payload, false, id⟩
/-- A status without detail. -/
def MciAns.fail (s : State) (status : Nat) : MciAns := ⟨s, status, 0, [], false, id⟩
/-- BAD_FIELD at an offset of the payload. -/
def MciAns.bad (s : State) (off : Nat) : MciAns := ⟨s, 3, off, [], false, id⟩
/-- REFUSED with a reason. -/
def MciAns.refuse (s : State) (reason : Nat) (payload : List Byte) : MciAns := ⟨s, 0xA, reason, payload, false, id⟩
/-- Answered later. -/
def MciAns.wait (s : State) : MciAns := ⟨s, 0, 0, [], true, id⟩
/-- Done, and something follows the answer. -/
def MciAns.andThen (s : State) (payload : List Byte) (f : State → State) : MciAns := ⟨s, 0, 0, payload, false, f⟩

/-- The form of a command (R559): its code; the right it needs (0 none, 1 O, 2 P, 4 S); the sizes of its fields, each with whether it is reserved; the bytes that
follow them; whether it names a host bus address, or is for Ethernet alone; and whether the standby die executes it. -/
structure MciForm where
  op : Nat
  right : Nat
  fields : List (Nat × Bool)
  tail : List Byte → Nat
  bus : Bool
  wire : Bool
  standby : Bool

/-- A command with fields only. -/
def mciForm (op right : Nat) (fields : List (Nat × Bool)) : MciForm := ⟨op, right, fields, fun _ => 0, false, false, false⟩

/-- A command that names a host bus address. -/
def mciBus (op right : Nat) (fields : List (Nat × Bool)) : MciForm := ⟨op, right, fields, fun _ => 0, true, false, false⟩

/-- A field. -/
def fd (n : Nat) : Nat × Bool := (n, false)

/-- A reserved field. -/
def rs (n : Nat) : Nat × Bool := (n, true)

/-- A field of a command's payload. -/
def arg (c : MciCmd) (off n : Nat) : Nat := bytesAt c.payload off n

/-- The offset of the first reserved field that is not zero. -/
def badReserved (payload : List Byte) : Nat → List (Nat × Bool) → Option Nat
  | _, [] => none
  | off, (n, res) :: t => if res && bytesAt payload off n != 0 then some off else badReserved payload (off + n) t

/-- The offset in the header of the first reserved field that is not zero (R551). -/
def badHeaderField (c : MciCmd) (session : W32) : Option Nat :=
  firstBad [(c.flags.toNat / 2 != 0, 2), (c.res3 != 0, 3), (c.session != session, 12), (c.res24 != 0, 24)]

/-- The greatest payload of a transport (R551). -/
def mciLimit : MciVia → Nat
  | .mailbox _ _ => 4064
  | .ether _ _ _ _ _ => 1280

/-- Whether a command came over Ethernet. -/
def onWire (c : MciCmd) : Bool := match c.via with
  | .mailbox _ _ => false
  | .ether _ _ _ _ _ => true

/-- The die whose port a command came in by, true for the south. -/
def viaSouth : MciVia → Bool
  | .mailbox b _ => b
  | .ether b _ _ _ _ => b

/-- The session a command belongs to. -/
def cmdSession (c : MciCmd) : W32 := match c.via with
  | .mailbox _ _ => 0
  | .ether _ id _ _ _ => id

/-- A command's bytes (R551); the fields ignored on submission are taken as zero (log entry 28). -/
def cmdBytes (c : MciCmd) (op : Nat) : List Byte :=
  toBytes 2 op ++ [c.flags, c.res3] ++ toBytes 4 c.tag.toNat ++ toBytes 4 c.length.toNat ++ toBytes 4 c.session.toNat ++ toBytes 8 0 ++
    toBytes 8 c.res24.toNat ++ c.payload

/-- Whether a datagram's TAG verifies under a key (R555). -/
def tagOf (key : List Byte) (id res : W32) (counter : W64) (c : MciCmd) (op : Nat) : BitVec 128 :=
  BitVec.ofNat 128 (ofBytes ((hmac256 key (toBytes 4 id.toNat ++ toBytes 4 res.toNat ++ toBytes 8 counter.toNat ++ cmdBytes c op)).take 16))

/-- A datagram is discarded and counted; SESSION_AUTH_FAIL at most once a second (R555). -/
def State.discard (s : State) (south : Bool) : State :=
  let sec := s.time / 10 ^ 8
  let old := Sparse.get (0, 0) s.mgmt.discards (b01 south)
  let n := if old.1 = sec then old.2 + 1 else 1
  let s := { s with mgmt.discards := Sparse.put (0, 0) s.mgmt.discards (b01 south) (sec, n) }
  if s.mgmt.authAt.any fun t => decide (s.time < t + 10 ^ 8) then s
  else ({ s with mgmt.authAt := some s.time }).event 0x9011 7 (0xF0 + b01 south) 0xFF 0xFF [b01 south, n]

/-- A session is frozen for a command outside its rights, or a wrong owner token (R518, R558): cause 0 or 1. -/
def State.freezeSession (s : State) (id : W32) (op cause : Nat) : State :=
  (s.updSession id fun x => { x with frozen := true }).event 0x9007 7 (0xF0 + b01 s.activeSouth) 0xFF 0xFF [id.toNat, op, cause]

/-- The checks before execution (R551, R557-R559): the status and detail of the first that fails. -/
def mciCheck (c : MciCmd) (f : MciForm) (x : Session) : Option (Nat × Nat) :=
  let need := (f.fields.map Prod.fst).foldl (· + ·) 0
  if x.frozen then some (6, 0)
  else if f.right != 0 && x.rights / f.right % 2 == 0 then some (5, 0)
  else if mciLimit c.via < c.payload.length || c.length.toNat != c.payload.length || c.payload.length < need ||
      c.payload.length != need + f.tail c.payload then some (2, 0)
  else match badHeaderField c (cmdSession c) with
    | some off => some (3, off)
    | none => match badReserved c.payload 0 f.fields with
      | some off => some (3, off)
      | none => if (f.bus && onWire c) || (f.wire && !onWire c) then some (0xD, 0) else none

/-- A command is executed at the active die and answered. A change is journalled before the answer (R544). -/
def State.mciRun (s : State) (c : MciCmd) (f : MciForm) (x : Session) (go : State → MciAns) : State :=
  match mciCheck c f x with
  | some (st, det) =>
    let s := if st = 5 then s.freezeSession x.id f.op 0 else s
    s.mciReply c f.op st det []
  | none =>
    let a := go s
    let s := if a.status = 5 then a.s.freezeSession x.id f.op 1 else a.s
    let s := if 2 ≤ f.right && a.status == 0 then { s with mgmt.journal := s.mgmt.journal + 1, mgmt.applied := s.mgmt.applied + 1 } else s
    if a.later then s else a.next (s.mciReply c f.op a.status a.detail a.payload)

/-- The answer of a die that executes nothing else: NOT_ACTIVE, or the command where the standby executes it (R544). It keeps no answers. -/
def State.mciStandby (s : State) (c : MciCmd) (f : MciForm) (go : State → MciAns) : State :=
  let x := { Session.zero s.flash.pcieRights with id := cmdSession c }
  let answer (s : State) (st det : Nat) (payload : List Byte) : State :=
    let y := s.mciBytes c f.op st det payload
    y.1.sendAnswer c y.2
  if !f.standby then answer s 4 0 []
  else match mciCheck c f x with
    | some (st, det) => answer s st det []
    | none =>
      let a := go s
      a.next (answer a.s a.status a.detail a.payload)

/-- A command reaches a die that has booted: the kept answer of its TAG is sent again over Ethernet (R557; log entry 29), or it is executed. -/
def State.mciTake (s : State) (c : MciCmd) (f : MciForm) (go : State → MciAns) : State :=
  match s.session (cmdSession c) with
  | some x => (match x.kept.find? fun k => onWire c && k.1 == c.tag with
      | some k => s.sendAnswer c k.2
      | none => s.mciRun c f x go)
  | none => s

/-- Whether a management die takes commands: it has booted or holds in its boot ROM after a failed start (R488 step 3, R490), and its PCI Express port is not
in reset (R581). -/
def State.takesCommands (s : State) (south : Bool) : Bool :=
  (decide (3 ≤ s.startStep) || s.rf .mgmt 0x00130000 10 1 == 1) && !s.perstLow.getD (b01 south) false

/-- A command is taken from its mailbox, whose page is locked and BUSY (R550). GO on a BUSY mailbox is ignored. -/
def State.takeBox (s : State) (c : MciCmd) (op : Nat) (south : Bool) (m : Fin 64) (f : State → State) : State :=
  if !s.takesCommands south || fld (s.box south m.val) 0 2 == 1 then s
  else
    let s := { s with mgmt.pages := s.mgmt.pages.writeBytes (pageAt south m.val) (cmdBytes c op) }
    f (s.setBox south m.val (setFld (s.box south m.val) 0 2 1))

/-- A command of a mailbox or an authentic datagram (R544, R550, R555): TAG, counter and session of a datagram are checked first. A die in its boot ROM answers
NOT_ACTIVE to all but the recovery command. -/
def State.mci (s : State) (c : MciCmd) (f : MciForm) (go : State → MciAns) : Host.Outcome State Fault Refusal :=
  .next (match c.via with
    | .mailbox south m => s.takeBox c f.op south m fun s =>
      if s.dieDead south then s.mciStandby c { f with standby := false } go
      else if south != s.activeSouth then s.mciStandby c f go
      else s.mciTake c f go
    | .ether south id res counter mac =>
      if !s.booted || s.dieDead south then s
      else match s.session id with
        | some x =>
          if id = 0 || south != s.activeSouth || tagOf (toBytes 32 x.key.toNat) id res counter c f.op != mac || decide (counter ≤ x.counter) then
            s.discard south
          else (s.updSession id fun y => { y with counter := counter, last := s.time }).mciTake c f go
        | none => s.discard south)

/-- MCI_BAD_OPCODE (R551, R559). -/
def execMciBadOpcode (opcode : BitVec 16) (c : MciCmd) (s : State) : Host.Outcome State Fault Refusal :=
  s.mci c ⟨opcode.toNat, 0, [], fun p => p.length, false, false, false⟩ fun s => .fail s 1

end Sys2Proof.Machine
end

