-- ==== Sys2Proof/Machine/MciPanel.lean ====
section
/-! DEFINITION. Commands on identity, start and role, events, sessions, keys, debug access and firmware (R490, R541, R545, R555, R556, R559, R563-R569). -/

namespace Sys2Proof.Machine

/-! ## Identity, start, role (0x00xx) -/

/-- The form of a command that the standby executes too (R544). -/
def mciBoth (op right : Nat) (fields : List (Nat × Bool)) : MciForm := ⟨op, right, fields, fun _ => 0, false, false, true⟩

/-- IDENTIFY. -/
def execIdentify (c : MciCmd) (s : State) : Host.Outcome State Fault Refusal :=
  s.mci c (mciBoth 0x0001 1 []) fun s =>
    let south := viaSouth c.via
    .give s (toBytes 1 variantCode ++ toBytes 1 (s.roleOf south) ++ toBytes 1 (b01 south) ++ [0] ++ toBytes 2 (s.ownPanel.getD 0xFFFF) ++
      toBytes 2 (s.rf .mgmt 0x00130000 48 16) ++ toBytes 4 (s.bar0View 0x60018).toNat ++ toBytes 2 (Sparse.get 0 s.flash.fwSvn 0) ++ [0, 0] ++
      toBytes 16 Config.serial.toNat)

/-- STATUS. -/
def execStatus (c : MciCmd) (s : State) : Host.Outcome State Fault Refusal :=
  s.mci c (mciBoth 0x0002 1 []) fun s =>
    .give s ((([0x00130000, 0x00130010, 0x00100000, 0x00110000, 0x00120000] : List Nat).flatMap fun o => toBytes 8 (s.unitRead .mgmt o).toNat) ++
      toBytes 8 s.time)

/-- Whether the panel may be started by command: STOPPED, in SHUTDOWN, or after a failed start. -/
def State.startable (s : State) : Bool := s.inputState == 3 || s.coolState == 3 || s.rf .mgmt 0x00130000 10 1 == 1

/-- START (R446, R481, R486, R489): the response is written before the start begins. -/
def execStart (c : MciCmd) (s : State) : Host.Outcome State Fault Refusal :=
  s.mci c (mciForm 0x0003 2 [fd 1, rs 7]) fun s =>
    if 1 < arg c 0 1 then .bad s 0
    else if !s.startable then .fail s 7
    else .andThen s [] fun s =>
      let s := s.panelReset
      if s.mayStart then s.beginStart (arg c 0 1 == 1) else s

/-- ROLE_HANDOVER (R545, R546): planned when sent to the active die, forced when sent to the standby; STATE where the other die cannot take the role. -/
def execRoleHandover (c : MciCmd) (s : State) : Host.Outcome State Fault Refusal :=
  s.mci c (mciBoth 0x0004 2 [rs 8]) fun s =>
    let active := viaSouth c.via == s.activeSouth
    if active && s.dieDead (!s.activeSouth) then .fail s 7
    else .andThen s [] fun s => s.takeover (b01 !active) 0

/-- NET_CONFIG (R554): prefix, address and gateway of the executing die's port. -/
def execNetConfig (c : MciCmd) (s : State) : Host.Outcome State Fault Refusal :=
  s.mci c (mciForm 0x0005 2 [fd 1, rs 7, fd 16, fd 16]) fun s =>
    if 128 < arg c 0 1 then .bad s 0
    else .done { s with mgmt.netCfg := Sparse.put [] s.mgmt.netCfg (b01 s.activeSouth) (c.payload.take 1 ++ c.payload.drop 8) }

/-! ## Events (0x0010-0x0015) -/

/-- Whether a number is a power of two from 64 to 65,536. -/
def ringSize (n : Nat) : Bool := ((List.range 11).map fun k => 2 ^ (k + 6)).contains n

/-- EVENT_RING_SET (R559, R563). -/
def execEventRingSet (c : MciCmd) (s : State) : Host.Outcome State Fault Refusal :=
  s.mci c (mciBus 0x0010 2 [fd 1, fd 1, fd 2, fd 4, fd 8, fd 8]) fun s =>
    let n := arg c 4 4
    if 3 < arg c 0 1 then .bad s 0
    else if n != 0 && !ringSize n then .bad s 4
    else
      let ring : EvRing := { EvRing.init with
        on := true, base := arg c 8 8, entries := n, minSev := arg c 1 1, subsys := arg c 2 2, prodAddr := arg c 16 8 }
      .done { s with evRings := Sparse.put EvRing.init s.evRings (arg c 0 1) (if n = 0 then EvRing.init else ring) }

/-- Whether an event number does not come before another; the numbers wrap. -/
def seqFrom (first q : W32) : Bool := decide ((q - first).toNat < 2 ^ 31)

/-- EVENT_READ. -/
def execEventRead (c : MciCmd) (s : State) : Host.Outcome State Fault Refusal :=
  s.mci c (mciForm 0x0011 1 [fd 4, fd 2, rs 2]) fun s =>
    let n := arg c 4 2
    if n = 0 || (if onWire c then 20 else 63) < n then .bad s 4
    else .give s (((s.events.reverse.filter fun e => seqFrom (BitVec.ofNat 32 (arg c 0 4)) e.seq).take n).flatMap eventBytes)

/-- EVENT_ACK (R541). -/
def execEventAck (c : MciCmd) (s : State) : Host.Outcome State Fault Refusal :=
  s.mci c (mciForm 0x0012 2 [fd 4, rs 4]) fun s =>
    .done { s with unacked := s.unacked.filter fun q => !seqFrom q (BitVec.ofNat 32 (arg c 0 4)) }

/-- EVENT_SUBSCRIBE (R563). -/
def execEventSubscribe (c : MciCmd) (s : State) : Host.Outcome State Fault Refusal :=
  s.mci c { mciForm 0x0013 1 [fd 1, rs 1, fd 2, rs 4] with wire := true } fun s =>
    .done (s.updSession (cmdSession c) fun x =>
      if arg c 0 1 = 0xFF then { x with sub := none, notices := [] } else { x with sub := some (arg c 0 1, arg c 2 2) })

/-- EVENT_CONFIRM (R565). -/
def execEventConfirm (c : MciCmd) (s : State) : Host.Outcome State Fault Refusal :=
  s.mci c (mciForm 0x0015 1 [fd 4, rs 4]) fun s =>
    .done (s.updSession (cmdSession c) fun x =>
      { x with notices := x.notices.filter fun n => !seqFrom n.ev.seq (BitVec.ofNat 32 (arg c 0 4)) })

/-! ## Sessions (R555, R556) -/

/-- The form of SESSION_OPEN. -/
def openForm : MciForm := { mciForm 0x0901 0 [fd 8, fd 16] with wire := true }

/-- The slot and key of a role key by its KEY_ID, the lowest slot first. -/
def State.roleKey (s : State) (id : Nat) : Option (Nat × Nat × List Byte) :=
  (List.range 16).findSome? fun n => match Sparse.get none s.flash.roleKeys n with
    | some (k, rights, key) => if k = id then some (n, rights, key) else none
    | none => none

/-- An answer under a role key leaves as a datagram of session 0. -/
def State.answerOpen (s : State) (c : MciCmd) (south : Bool) (slot : Nat) (key : List Byte) (status : Nat) (payload : List Byte) : State :=
  let y := s.mciBytes c 0x0901 status 0 payload
  let n := Sparse.get 0 s.mgmt.openCounters (slot + 100) + 1
  let body := toBytes 8 0 ++ toBytes 8 n.toNat ++ y.2
  let s := { y.1 with mgmt.openCounters := Sparse.put 0 s.mgmt.openCounters (slot + 100) n }
  { s with outbox := s.outbox ++ [.datagram south (body ++ (hmac256 key body).take 16)] }

/-- A session is opened under a role key: its id, its rights, and its key from both nonces (R556); the panel's nonce is a free value. -/
def State.openSession (s : State) (c : MciCmd) (south : Bool) (slot rights : Nat) (key : List Byte) : State :=
  let id := s.mgmt.nextSession
  let nonce := toBytes 16 ((Config.free512 s.free).toNat % 2 ^ 128)
  let sk := hmac256 key (([0x4D, 0x43, 0x49, 0x2D, 0x53] : List Byte) ++ (c.payload.drop 8).take 16 ++ nonce ++ toBytes 4 id.toNat)
  let x : Session := { Session.zero rights with id := id, keySlot := slot, key := BitVec.ofNat 256 (ofBytes sk), last := s.time }
  let s := { s.draw with sessions := s.sessions ++ [x], mgmt.nextSession := id + 1 }
  s.answerOpen c south slot key 0 (toBytes 4 id.toNat ++ toBytes 1 rights ++ toBytes 3 0 ++ nonce)

/-- SESSION_OPEN (R556): under the role key that it names; every other use of session 0 on Ethernet is discarded. On PCI Express it is for the wrong
transport, and on a session that is open STATE refuses it. -/
def execSessionOpen (c : MciCmd) (s : State) : Host.Outcome State Fault Refusal :=
  match c.via with
  | .ether south id res counter mac =>
    if id ≠ 0 then s.mci c openForm fun s => .fail s 7
    else .next (if !s.booted || s.dieDead south then s
    else match s.roleKey (arg c 0 8) with
      | some (slot, rights, key) =>
        let last := Sparse.get 0 s.mgmt.openCounters slot
        if tagOf key id res counter c 0x0901 != mac || decide (counter ≤ last) then s.discard south
        else
          let s := { s with mgmt.openCounters := Sparse.put 0 s.mgmt.openCounters slot counter }
          if south != s.activeSouth then s.answerOpen c south slot key 4 []
          else if c.payload.length != 24 || c.length != 24 then s.answerOpen c south slot key 2 []
          else if (badHeaderField c 0).isSome then s.answerOpen c south slot key 3 []
          else if 16 ≤ (s.sessions.filter fun x => x.id != 0).length then s.answerOpen c south slot key 9 []
          else s.openSession c south slot rights key
      | none => s.discard south)
  | .mailbox _ _ => s.mci c openForm fun s => .done s

/-- SESSION_CLOSE (R556). -/
def execSessionClose (c : MciCmd) (s : State) : Host.Outcome State Fault Refusal :=
  s.mci c (mciForm 0x0902 1 []) fun s => .andThen s [] fun s => s.closeSession (cmdSession c)

/-! ## Keys and policy (R566, R567) -/

/-- KEYS_CHANGED. -/
def State.keysChanged (s : State) (op kind slot : Nat) : State :=
  s.event 0x9015 7 (0xF0 + b01 s.activeSouth) 0xFF 0xFF [op, kind, slot]

/-- ENROL (R566). -/
def execEnrol (c : MciCmd) (s : State) : Host.Outcome State Fault Refusal :=
  s.mci c (mciForm 0x0903 4 [fd 16, fd 4, rs 4, fd 112, fd 96]) fun s =>
    let now := match s.flash.owner with
      | some o => o.1.toNat + 1
      | none => 0
    if !ecdsaOk Config.tamyutKey (c.payload.take 136) (c.payload.drop 136) then .refuse s 1 []
    else if BitVec.ofNat 128 (arg c 0 16) != Config.serial then .refuse s 2 []
    else if arg c 16 4 < now then .refuse s 3 []
    else .done (({ s with flash.owner := some (BitVec.ofNat 32 (arg c 16 4), (c.payload.drop 24).take 97) }).keysChanged 0x0903 0 0)

/-- KEY_INSTALL (R566). -/
def execKeyInstall (c : MciCmd) (s : State) : Host.Outcome State Fault Refusal :=
  s.mci c (mciForm 0x0904 4 [fd 1, fd 1, fd 1, rs 5, fd 8, fd 112, fd 96]) fun s =>
    let kind := arg c 0 1
    let slot := arg c 1 1
    let key := (c.payload.drop 16).take 112
    let signed := s.flash.owner.any fun o => ecdsaOk o.2 (c.payload.take 128) (c.payload.drop 128)
    if 1 < kind then .bad s 0
    else if 15 < slot then .bad s 1
    else if 7 < arg c 2 1 then .bad s 2
    else if !signed then .refuse s 1 []
    else
      let s := if kind = 0 then { s with flash.tabKeys := Sparse.put none s.flash.tabKeys slot (some (arg c 8 8, key.take 97)) }
        else { s with flash.roleKeys := Sparse.put none s.flash.roleKeys slot (some (arg c 8 8, arg c 2 1, key.take 32)) }
      .done (s.keysChanged 0x0904 kind slot)

/-- KEY_REVOKE. -/
def execKeyRevoke (c : MciCmd) (s : State) : Host.Outcome State Fault Refusal :=
  s.mci c (mciForm 0x0905 4 [fd 1, fd 1, rs 6]) fun s =>
    let kind := arg c 0 1
    let slot := arg c 1 1
    let held := if kind = 0 then (Sparse.get none s.flash.tabKeys slot).isSome else (Sparse.get none s.flash.roleKeys slot).isSome
    if 1 < kind then .bad s 0
    else if 15 < slot then .bad s 1
    else if !held then .fail s 8
    else
      let s := if kind = 0 then { s with flash.tabKeys := Sparse.put none s.flash.tabKeys slot none }
        else { s with flash.roleKeys := Sparse.put none s.flash.roleKeys slot none }
      .done (s.keysChanged 0x0905 kind slot)

/-- SEC_POLICY (R558, R567). -/
def execSecPolicy (c : MciCmd) (s : State) : Host.Outcome State Fault Refusal :=
  s.mci c (mciForm 0x0906 4 [fd 1, fd 1, rs 6]) fun s =>
    let sign := arg c 0 1
    let rights := arg c 1 1
    if 2 < sign then .bad s 0
    else if 7 < rights then .bad s 1
    else
      let s := if sign = 0 then s else { s with flash.signedOnly := sign == 2 }
      let s := if rights = 0 then s else ({ s with flash.pcieRights := rights }).updSession 0 fun x => { x with rights := rights }
      .done (s.keysChanged 0x0906 0 0)

/-! ## Debug access (R568, R569) -/

/-- Every partition is killed with clear, and every clear runs to its end. -/
def State.eraseParts (s : State) : State :=
  let s := s.partList.foldl (fun st y => st.kill y.1 1 false none) s
  let s := s.atStops fun st p =>
    if st.coreState p = 6 || st.coreState p = 7 then (st.setRf (.site p) 0x18500000 1 2 0).setCoreState p 0 else st
  let s := (List.finRange 28).foldl (fun st k => (List.range 256).foldl (fun st n =>
    if bit (st.extCfg k n) 61 then st.extCleared k n else st) st) s
  s.partList.foldl (fun st y => st.finishClear y.1) s

/-- What DEBUG_UNLOCK erases before it opens JTAG. -/
def State.debugErase (s : State) : State :=
  let s := s.eraseParts
  let s := (List.range 84).foldl (fun st i => st.portEnable i false) s
  let s := { s.endSessions with flash.owner := none, flash.tabKeys := [], flash.roleKeys := [], mgmt.openCounters := [] }
  let s := s.atStops fun st p =>
    if st.railOn (powerRegion p) then
      (List.range 48).foldl (fun st g => st.zeroSeg p g) (st.setReg (.site p) 0x18500010 0xFFFFFFFFFFFF)
    else st
  { s with spill := [] }

/-- DEBUG_UNLOCK (R568): STATE without the strap or with the wrong CONFIRM; else the panel erases, opens JTAG and completes. -/
def execDebugUnlock (c : MciCmd) (s : State) : Host.Outcome State Fault Refusal :=
  s.mci c (mciForm 0x0907 4 [fd 8]) fun s =>
    if !s.mgmt.debugEn || arg c 0 8 != 0x4C4C414553415245 then .fail s 7
    else
      let s := { s.debugErase with mgmt.jtagOpen := true }
      .done (s.event 0x9016 7 (0xF0 + b01 s.activeSouth) 0xFF 0xFF [(cmdSession c).toNat])

/-! ## Firmware (R490, R567) -/

/-- An image in host memory. -/
def State.hostImage (s : State) (addr len : Nat) : List Byte := s.host.readBytes addr len

/-- FW_STAGE (R567). -/
def execFwStage (c : MciCmd) (s : State) : Host.Outcome State Fault Refusal :=
  s.mci c (mciBus 0x0F01 4 [fd 1, rs 7, fd 8, fd 8]) fun s =>
    let t := arg c 0 1
    if 3 < t then .bad s 0
    else if Config.fwMax t < arg c 16 8 then .refuse s 4 []
    else
      let img := s.hostImage (arg c 8 8) (arg c 16 8)
      let v := Config.fwVersion img
      let svn := Config.fwSvn img
      if !Config.fwSigned img then .refuse s 1 []
      else if svn < Sparse.get 0 s.flash.fwSvn t then .refuse s 2 []
      else if Config.fwTarget img != t then .refuse s 3 []
      else
        let s := { s with flash.fwStaged := Sparse.put none s.flash.fwStaged t (some (v, svn)) }
        .done (s.event 0x9012 7 (0xF0 + b01 s.activeSouth) 0xFF 0xFF [t, v.toNat, svn])

/-- The Mboirzo image is activated (R567): the standby boots the new bank, by a free outcome, and takes the role by a planned handover; a die that fails
returns to the old bank. -/
def State.activateFirmware (s : State) (v : W32) (svn : Nat) : MciAns :=
  let fails := s.dieDead (!s.activeSouth) || s.pick 0 2 == 1
  let s := s.drawn 1
  if fails then .done (s.event 0x9014 7 (0xF0 + b01 !s.activeSouth) 0xFF 0xFF [0, v.toNat, b01 !s.activeSouth])
  else
    let s := { s with
      flash.fwActive := Sparse.put 0 s.flash.fwActive 0 v, flash.fwStaged := Sparse.put none s.flash.fwStaged 0 none
      flash.fwSvn := Sparse.put 0 s.flash.fwSvn 0 (max svn (Sparse.get 0 s.flash.fwSvn 0)) }
    .andThen s [] fun s => (s.takeover 0 0).event 0x9013 7 0xF0 0xFF 0xFF [0, v.toNat]

/-- FW_ACTIVATE (R567): the other targets' images take effect at the next start. -/
def execFwActivate (c : MciCmd) (s : State) : Host.Outcome State Fault Refusal :=
  s.mci c (mciForm 0x0F02 4 [fd 1, rs 7]) fun s =>
    let t := arg c 0 1
    if 3 < t then .bad s 0
    else match Sparse.get none s.flash.fwStaged t with
      | some (v, svn) =>
        if t = 0 then s.activateFirmware v svn
        else .done (if s.flash.fwPending.contains t then s else { s with flash.fwPending := s.flash.fwPending ++ [t] })
      | none => .fail s 7

/-- FW_STATUS. -/
def execFwStatus (c : MciCmd) (s : State) : Host.Outcome State Fault Refusal :=
  s.mci c (mciForm 0x0F03 1 []) fun s =>
    .give s ((List.range 4).flatMap fun t =>
      let staged := Sparse.get none s.flash.fwStaged t
      let active := if t = 0 then (s.bar0View 0x60018).toNat else (Sparse.get 0 s.flash.fwActive t).toNat
      toBytes 4 active ++ toBytes 4 ((staged.map fun x => x.1.toNat).getD 0) ++ toBytes 2 (Sparse.get 0 s.flash.fwSvn t) ++
        toBytes 1 (if s.flash.fwPending.contains t then 2 else b01 staged.isSome) ++ toBytes 5 0)

/-- The recovery image is installed at a die in its boot ROM: a signed image for the Mboirzo target; the die runs it, and takes the active role where no die
has it. -/
def State.recover (s : State) (south : Bool) (img : List Byte) : MciAns :=
  if !Config.fwSigned img || Config.fwTarget img != 0 then .refuse s 1 []
  else
    let both := s.mgmt.dead == [true, true]
    .done { s with
      flash.fwActive := Sparse.put 0 s.flash.fwActive 0 (Config.fwVersion img), mgmt.dead := s.mgmt.dead.set (b01 south) false
      activeSouth := if both then south else s.activeSouth }

/-- FW_RECOVER (R490): accepted only from the boot ROM, on PCI Express. -/
def execFwRecover (c : MciCmd) (s : State) : Host.Outcome State Fault Refusal :=
  let f : MciForm := { mciBus 0x0F10 0 [fd 8, fd 8] with standby := true }
  match c.via with
  | .mailbox south m =>
    if s.dieDead south then
      .next (s.takeBox c 0x0F10 south m fun s => s.mciStandby c f fun s => s.recover south (s.hostImage (arg c 0 8) (arg c 8 8)))
    else s.mci c { f with standby := false } fun s => .fail s 7
  | .ether _ _ _ _ _ => s.mci c { f with standby := false } fun s => .fail s 7

end Sys2Proof.Machine
end

