-- ==== Sys2Proof/Machine/MciPart.lean ====
section
/-! DEFINITION. Commands on tablatures, partitions and service (R325-R328, R343-R346, R364, R530, R536, R537, R559). -/

namespace Sys2Proof.Machine

/-! ## Tablatures (0x01xx) -/

/-- The installed tablature keys as (KEY_ID, key). -/
def State.tabKeyList (s : State) : List (Nat × List Byte) := s.flash.tabKeys.filterMap Prod.snd

/-- TAB_LOAD (R324). -/
def execTabLoad (c : MciCmd) (s : State) : Host.Outcome State Fault Refusal :=
  s.mci c (mciBus 0x0101 2 [fd 8, fd 8]) fun s =>
    let img := s.hostImage (arg c 0 8) (arg c 8 8)
    match tabLoadRefusal img (s.rf .mgmt 0x00130000 48 16) s.flash.owner.isSome s.flash.signedOnly s.tabKeyList with
    | some r => .refuse (s.tabRefused (tabId img) r) r.code (toBytes 2 r.sec ++ toBytes 6 0 ++ toBytes 8 r.off)
    | none =>
      if s.tabs.any fun t => t.id == tabId img then .fail s 7
      else if 32 ≤ s.tabs.length then .fail s 9
      else
        let digest := sha384 img
        .give { s with tabs := s.tabs ++ [⟨tabId img, arg c 0 8, img, BitVec.ofNat 384 (ofBytes digest)⟩] } (toBytes 16 (tabId img).toNat ++ digest)

/-- A loaded tablature by its id. -/
def State.tablature (s : State) (id : Nat) : Option Tablature := s.tabs.find? fun t => t.id.toNat == id

/-- The partitions that a tablature is bound to. -/
def State.bindings (s : State) (t : Tablature) : Nat := (s.partList.filter fun y => y.2.tab == some t.id).length

/-- TAB_UNLOAD. -/
def execTabUnload (c : MciCmd) (s : State) : Host.Outcome State Fault Refusal :=
  s.mci c (mciForm 0x0102 2 [fd 16]) fun s =>
    match s.tablature (arg c 0 16) with
    | some t => if s.bindings t = 0 then .done { s with tabs := s.tabs.filter fun y => y.id != t.id } else .fail s 7
    | none => .fail s 8

/-- TAB_LIST. -/
def execTabList (c : MciCmd) (s : State) : Host.Outcome State Fault Refusal :=
  s.mci c (mciForm 0x0103 1 []) fun s =>
    .give s (s.tabs.flatMap fun t => toBytes 16 t.id.toNat ++ toBytes 1 (s.bindings t) ++ toBytes 1 (bytesAt t.image 36 1 % 4) ++ toBytes 6 0)

/-! ## Creation and deletion (R246, R325, R326) -/

/-- Whether two runs of consecutive numbers meet. -/
def runsMeet (a m b n : Nat) : Bool := decide (a < b + n) && decide (b < a + m)

/-- Whether the leases of two partitions stand on a common bundle: a common row, or both on the columns (R246). -/
def Partition.sharesBundle (x y : Partition) : Bool := runsMeet x.row0 x.rows y.row0 y.rows || (decide (1 < x.rows) && decide (1 < y.rows))

/-- Whether the leases of a partition fit at its base: within F, and off every other lease (R326). -/
def State.baseFits (s : State) (x : Partition) : Bool :=
  (List.range 3).all fun p =>
    x.leaseLen p = 0 || (decide (x.base + x.leaseLen p ≤ s.panelF) && s.partList.all fun y =>
      !(x.sharesBundle y.2 && y.2.leaseLen p != 0 && runsMeet x.base (x.leaseLen p) y.2.base (y.2.leaseLen p)))

/-- Whether a partition's leases would need a seventeenth range on some pair (R246). -/
def State.rangesFull (s : State) (x : Partition) : Bool :=
  (List.range 3).any fun p => x.leaseLen p != 0 &&
    (((List.range x.rows).any fun r => decide (16 ≤ (s.partList.filter fun y =>
        y.2.leaseLen p != 0 && runsMeet (x.row0 + r) 1 y.2.row0 y.2.rows).length)) ||
      (decide (1 < x.rows) && decide (16 ≤ (s.partList.filter fun y => y.2.leaseLen p != 0 && decide (1 < y.2.rows)).length)))

/-- Whether a rectangle holds an ABSENT core (R28). -/
def State.holdsAbsent (s : State) (x : Partition) : Bool := x.lcids.any fun l => (s.siteOf l).isNone

/-- The partition that a PART_CREATE asks for, at a base; its barriers live at the site of its lowest LCID (R280). -/
def State.asked (s : State) (c : MciCmd) (base : Nat) : Partition :=
  Partition.init (arg c 0 1) (arg c 1 1) (arg c 2 1) (arg c 3 1) [arg c 4 2, arg c 6 2, arg c 8 2] base
    (((s.siteOf (arg c 0 1 * 12 + arg c 1 1)).map Fin.val).getD 0)

/-- PART_CREATE (R246, R325, R326): the first reason of *Creation refusals* that applies, or the lowest free tag and base (log entry 28). -/
def execPartCreate (c : MciCmd) (s : State) : Host.Outcome State Fault Refusal :=
  s.mci c (mciForm 0x0201 2 [fd 1, fd 1, fd 1, fd 1, fd 2, fd 2, fd 2, fd 2, rs 4]) fun s =>
    let s := s.remapLost
    let x := s.asked c 0
    if x.rows = 0 || x.cols = 0 || 12 < x.row0 + x.rows || 12 < x.col0 + x.cols || x.lease.any fun l => decide (s.panelF < l) then .refuse s 1 []
    else if s.partList.any fun y => runsMeet x.row0 x.rows y.2.row0 y.2.rows && runsMeet x.col0 x.cols y.2.col0 y.2.cols then .refuse s 2 []
    else match lowest 64 fun n => (s.part n).isNone with
      | none => .refuse s 3 []
      | some tag =>
        if s.holdsAbsent x then .refuse s 4 []
        else match lowest (min (arg c 10 2) s.panelF + 1) fun b => s.baseFits (s.asked c b) with
          | none => .refuse s 5 []
          | some base =>
            if s.rangesFull x then .refuse s 6 []
            else
              let s := s.setPart tag (some (s.asked c base))
              let s := s.atStops fun st p => st.setRf (.site p) (pctxOff tag) 16 8 tag
              .give (s.writeBanks tag) (toBytes 1 tag ++ [0] ++ toBytes 2 base ++ toBytes 4 0)

/-- What a command does with the partition whose tag it names first; NOT_FOUND where none has it. -/
def State.onPart (s : State) (c : MciCmd) (go : Nat → Partition → MciAns) : MciAns := match s.part (arg c 0 1) with
  | some x => go (arg c 0 1) x
  | none => .fail s 8

/-- PART_DELETE: the cores leave the partition. -/
def execPartDelete (c : MciCmd) (s : State) : Host.Outcome State Fault Refusal :=
  s.mci c (mciForm 0x0202 2 [fd 1, rs 7]) fun s => s.onPart c fun tag x =>
    if x.tab.isSome || x.state != 0 then .fail s 7
    else .done (((s.partSites x).foldl (fun st p => st.giveTag p 0xFF) s).deletePart tag)

/-! ## Binding (R327, R328) -/

/-- PART_BIND (R324, R327): the buffer is read again for its digest. -/
def execPartBind (c : MciCmd) (s : State) : Host.Outcome State Fault Refusal :=
  s.mci c (mciForm 0x0203 2 [fd 1, fd 1, fd 1, rs 5, fd 16]) fun s =>
    if 1 < arg c 1 1 then .bad s 1
    else s.onPart c fun tag _ =>
      let s := s.remapLost
      match s.part tag, s.tablature (arg c 8 16) with
      | some x, some t =>
        if x.state != 0 then .fail s 7
        else match s.bindRefusal tag x t (s.hostImage t.addr t.image.length) with
          | some r => .refuse (s.tabRefused t.id r) r.code []
          | none => .done (s.bindPart tag x t (BitVec.ofNat 8 (arg c 2 1)) (arg c 1 1 == 1))
      | _, _ => .fail s 8

/-- What a command does with a bound partition; STATE where it is not bound. -/
def State.onBound (s : State) (c : MciCmd) (go : Nat → Partition → MciAns) : MciAns :=
  s.onPart c fun tag x => if x.tab.isNone || x.state != 0 then .fail s 7 else go tag x

/-- PART_UNBIND (R328, R359). -/
def execPartUnbind (c : MciCmd) (s : State) : Host.Outcome State Fault Refusal :=
  s.mci c (mciForm 0x0204 2 [fd 1, rs 7]) fun s => s.onBound c fun tag _ => .done (s.unbind tag 8)

/-- PART_ABORT (R335, R359). -/
def execPartAbort (c : MciCmd) (s : State) : Host.Outcome State Fault Refusal :=
  s.mci c (mciForm 0x0205 2 [fd 1, rs 7]) fun s => s.onBound c fun tag _ => .done (s.abortPart tag 1 0)

/-! ## Kills (R536, R537) -/

/-- PART_KILL: its rows are the two values of MODE. A partition that is held or clearing has been killed already (log entry 28). -/
def State.partKill (s : State) (c : MciCmd) : MciAns :=
  let hold := arg c 1 1 == 1
  if 1 < arg c 1 1 then .bad s 1
  else if !hold && arg c 8 8 != 0 then .bad s 8
  else s.onPart c fun tag x =>
    if x.state != 0 then .fail s 7 else .done (s.kill tag 1 hold (if hold then some (w64 (arg c 8 8)) else none))

/-- The form of PART_KILL. -/
def killForm : MciForm := mciForm 0x0206 2 [fd 1, fd 1, rs 6, fd 8]

/-- PART_KILL_CLEAR (R536). -/
def execPartKillClear (c : MciCmd) (s : State) : Host.Outcome State Fault Refusal := s.mci c killForm fun s => s.partKill c

/-- PART_KILL_HOLD (R193, R383, R537). -/
def execPartKillHold (c : MciCmd) (s : State) : Host.Outcome State Fault Refusal := s.mci c killForm fun s => s.partKill c

/-- PART_RELEASE (R537): a hold without a token, which FM_DEFAULT made, is released by PLACEMENT. -/
def execPartRelease (c : MciCmd) (s : State) : Host.Outcome State Fault Refusal :=
  s.mci c (mciForm 0x0207 2 [fd 1, rs 7, fd 8]) fun s => s.onPart c fun tag x =>
    match x.state, x.ownerToken with
    | 3, some k => if k = w64 (arg c 8 8) then .done (s.beginClear tag) else .fail s 5
    | _, _ => .fail s 7

/-! ## Status (R364, R530) -/

/-- STATE of PART_STATUS. -/
def Partition.statusCode (x : Partition) : Nat :=
  if x.state != 0 then x.state else if x.tab.isNone then 0 else if x.svc.isNone then 1 else 2

/-- PART_STATUS (R364): reading clears the saturating counters. -/
def execPartStatus (c : MciCmd) (s : State) : Host.Outcome State Fault Refusal :=
  s.mci c (mciForm 0x0209 1 [fd 1, rs 7]) fun s => s.onPart c fun tag x =>
    let measured := (s.tabOf x).any fun t => tabMeasured t.image
    .give (s.setPart tag (some { x with rejected := [], lateCount := 0, failCount := 0 }))
      (toBytes 1 x.statusCode ++ toBytes 1 (b01 measured + 2 * b01 x.warmAt.isSome + 4 * b01 x.stepHash) ++ toBytes 2 x.base ++ toBytes 4 0 ++
        toBytes 8 x.stepIndex.toNat ++ toBytes 16 ((x.tab.map BitVec.toNat).getD 0) ++ toBytes 8 x.accepted.toNat ++ toBytes 8 x.stepsRun.toNat ++
        toBytes 8 x.outBytes.toNat ++ ([1, 2, 3, 4, 5].flatMap fun r => toBytes 4 (Sparse.get 0 x.rejected r)) ++ toBytes 4 x.lateCount ++
        toBytes 4 x.failCount)

/-- STEP_HASH_READ (R530): the recorded steps from FIRST on, in order. -/
def execStepHashRead (c : MciCmd) (s : State) : Host.Outcome State Fault Refusal :=
  s.mci c (mciForm 0x020A 1 [fd 1, rs 1, fd 2, rs 4, fd 8]) fun s =>
    if arg c 2 2 = 0 || 64 < arg c 2 2 then .bad s 2
    else s.onPart c fun _ x =>
      .give s (((x.hashes.reverse.filter fun h => decide (arg c 8 8 ≤ h.1.toNat)).take (arg c 2 2)).flatMap fun h =>
        toBytes 8 h.1.toNat ++ toBytes 8 h.2.toNat)

/-! ## Service (R343-R346, R353, R359) -/

/-- SVC_RING_SET (R345). -/
def execSvcRingSet (c : MciCmd) (s : State) : Host.Outcome State Fault Refusal :=
  s.mci c (mciBus 0x0301 2 [fd 1, rs 7, fd 8, fd 8, fd 4, fd 4, fd 8, fd 8, fd 8]) fun s =>
    let n := arg c 0 1
    if 63 < n then .bad s 0
    else if arg c 24 4 = 0 then .done (s.updSvcRing n fun _ => SvcRing.init)
    else match firstBad [(arg c 8 8 % 64 != 0, 8), (arg c 16 8 % 64 != 0, 16), (!ringSize (arg c 24 4), 24), (!ringSize (arg c 28 4), 28)] with
      | some o => .bad s o
      | none =>
        let ring : SvcRing := { SvcRing.init with
          on := true, reqBase := arg c 8 8, respBase := arg c 16 8, reqEntries := arg c 24 4, respEntries := arg c 28 4, dataBase := arg c 32 8
          dataLen := arg c 40 8, headAddr := arg c 48 8, enabled := true }
        .done (s.updSvcRing n fun _ => ring)

/-- SVC_RING_ENABLE (R346): nothing is fetched before the next doorbell. -/
def execSvcRingEnable (c : MciCmd) (s : State) : Host.Outcome State Fault Refusal :=
  s.mci c (mciForm 0x0302 2 [fd 1, rs 7]) fun s =>
    let n := arg c 0 1
    if 63 < n then .bad s 0
    else if !(s.svcRing n).on then .fail s 8
    else .done (if (s.svcRing n).enabled then s else s.updSvcRing n fun x => { x with enabled := true, producer := x.consumed })

/-- The first refusal of a service binding (R343). -/
def SvcBinding.refusal (b : SvcBinding) (img : List Byte) (rate : Nat) : Option Nat :=
  let channel := (tabSetup img).any fun r => r.kind == 2 && r.core == 0xF0 && r.val % 256 == b.inCore && r.val / 256 % 128 == b.inQueue
  if !channel then some 1
  else if !declared (layMask img b.outCore) b.outOffset (2 * (64 + b.outMax)) then some 2
  else if rate * tabPeriod img * tabF img < 2 * (64 + b.outMax) then some 3
  else none

/-- SVC_ENABLE (R343); a partition that has a service binding keeps it (log entry 28). -/
def execSvcEnable (c : MciCmd) (s : State) : Host.Outcome State Fault Refusal :=
  s.mci c (mciForm 0x0303 2 [fd 1, fd 1, fd 1, fd 1, fd 4, fd 4, fd 2, rs 2, fd 4]) fun s => s.onBound c fun tag x =>
    let b : SvcBinding := ⟨arg c 1 1, arg c 2 1, arg c 3 1, arg c 4 4, arg c 8 4, arg c 12 2, 100 * arg c 16 4⟩
    let n := x.rows * x.cols
    if x.svc.isSome then .fail s 7
    else match firstBad [(decide (n ≤ b.inCore), 1), (decide (127 < b.inQueue), 2), (decide (n ≤ b.outCore), 3), (b.outOffset % 64 != 0, 4),
        (decide (65472 < b.outMax) || b.outMax % 64 != 0, 8), (b.queueLimit == 0 || decide (1024 < b.queueLimit), 12),
        (decide (10 ^ 9 < b.warmHold), 16)], s.tabOf x with
      | some o, _ => .bad s o
      | none, some t => (match b.refusal t.image s.svcRate with
          | some r => .refuse s r []
          | none => .done (s.setPart tag (some { x with svc := some b })))
      | none, none => .fail s 7

/-- SVC_DISABLE (R359): the requests fail with UNBOUND, and the partition is idle. -/
def execSvcDisable (c : MciCmd) (s : State) : Host.Outcome State Fault Refusal :=
  s.mci c (mciForm 0x0304 2 [fd 1, rs 7]) fun s => s.onPart c fun tag x =>
    if x.svc.isNone then .fail s 7
    else
      let s := (s.failRequests tag 8).updPart tag fun x => { x with svc := none, warmAt := none }
      let s := s.setTargets (s.partSites x)
      .done (if x.armed then s else s.lowerGrant tag)

/-- SVC_POLICY (R344). -/
def execSvcPolicy (c : MciCmd) (s : State) : Host.Outcome State Fault Refusal :=
  s.mci c (mciForm 0x0305 2 [fd 4, fd 1, rs 3]) fun s =>
    if arg c 0 4 < 100 || 100000 < arg c 0 4 then .bad s 0
    else if arg c 4 1 < 1 || 64 < arg c 4 1 then .bad s 4
    else .done { s with svcFixed := arg c 0 4, svcRate := arg c 4 1 }

end Sys2Proof.Machine
end

