-- ==== Sys2Proof/Machine/MciData.lean ====
section
/-! DEFINITION. Commands that move data (R36-R38, R193, R383, R407, R537, R559, R560). The packets that they cause under TAG 0xFE are taken to land as the command
executes, and a NACK of one is STATE (log entry 28). -/

namespace Sys2Proof.Machine

/-! ## Panel addresses (R36-R38) -/

/-- What a panel address names: a register, a register of the standby die, a scratchpad or spill offset, an ABSENT core, or nothing (R38). -/
inductive PaKind
  | reg (u : RegUnit) (off : Nat)
  | standby
  | scratch (p : Fin 168) (off : Nat)
  | spill (k : Fin 28) (off : Nat)
  | absent
  | none
  deriving DecidableEq, Repr

/-- The decode of a panel address. -/
def State.paKind (s : State) (pa : Nat) : PaKind :=
  let target := pa / 2 ^ 43 % 256
  let off := pa % 2 ^ 29
  let unit := off / 2 ^ 21
  if 2 ^ 52 ≤ pa then .none
  else if pa / 2 ^ 51 = 1 then
    (if pa / 2 ^ 46 % 32 != 0 || pa / 2 ^ 36 % 32 != 0 || 28 ≤ pa / 2 ^ 41 % 32 then .none
     else .spill (Fin.ofNat 28 (pa / 2 ^ 41 % 32)) (pa % 2 ^ 36))
  else if pa / 2 ^ 29 % 2 ^ 14 != 0 then .none
  else if target < 144 then
    (if 0x18800000 ≤ off then .none
     else match s.siteOf target with
      | some p => if off < 0x18000000 then .scratch p off else .reg (.site p) off
      | none => .absent)
  else if target = 0xF0 then .reg .mgmt off
  else if target = 0xF1 then .standby
  else if target = 0xF4 && unit < 42 then .reg (.gov (Fin.ofNat 42 unit)) (off % 2 ^ 21)
  else if target = 0xF8 && unit < 42 then .reg (.die (Fin.ofNat 42 unit)) (off % 2 ^ 21)
  else if target = 0xFC && unit < 28 then .reg (.stack (Fin.ofNat 28 unit)) (off % 2 ^ 21)
  else .none

/-- The end of the register space of a unit. -/
def regEnd : RegUnit → Nat
  | .site _ => 0x18800000
  | .mgmt => 2 ^ 29
  | _ => 2 ^ 21

/-! ## Checks (R560) -/

/-- Whether a core is held or clearing. -/
def State.coreKept (s : State) (p : Fin 168) : Bool := s.coreState p == 7 || s.coreState p == 6

/-- Whether a span of a stack meets an extent that is held or clearing. -/
def State.extKept (s : State) (k : Fin 28) (off len : Nat) : Bool :=
  (List.range 256).any fun n =>
    let c := s.extCfg k n
    bit c 63 && (bit c 62 || bit c 61) && meets (s.extBase k n, s.extLen k n) (off, len)

/-- Alignment and bounds of an access: the offset of the payload field at fault, PA or LENGTH. -/
def State.accessBad (s : State) (pa len paOff lenOff : Nat) : Option Nat := match s.paKind pa with
  | .reg u off => firstBad [(off % 8 != 0, paOff), (len % 8 != 0 || decide (regEnd u < off + len), lenOff)]
  | .standby => firstBad [(pa % 8 != 0, paOff), (len % 8 != 0 || decide (2 ^ 29 < pa % 2 ^ 29 + len), lenOff)]
  | .scratch _ off => firstBad [(off % 64 != 0, paOff), (len % 64 != 0 || decide (0x18000000 < off + len), lenOff)]
  | .spill _ off => firstBad [(off % 64 != 0 || decide (spillBytes ≤ off), paOff), (len % 64 != 0 || decide (spillBytes < off + len), lenOff)]
  | .absent => none
  | .none => some paOff

/-- STATE or NOT_FOUND of an access: a core or an extent that is held or clearing, an ABSENT core. -/
def State.accessStatus (s : State) (pa len : Nat) : Option Nat := match s.paKind pa with
  | .reg (.site p) _ => if s.coreKept p then some 7 else none
  | .scratch p _ => if s.coreKept p then some 7 else none
  | .spill k off => if s.extKept k off len then some 7 else none
  | .absent => some 8
  | _ => none

/-! ## Access -/

/-- What an access comes to: the state, and for a read its bytes with a mark per granule; nothing where a packet was refused. -/
abbrev Moved := State × Option (List Byte × List Bool)

/-- Consecutive 8-byte registers are read; RC fields clear (R13). -/
def State.readRegs (s : State) (u : RegUnit) (off : Nat) : Nat → State × List Byte
  | 0 => (s, [])
  | n + 1 =>
    let v := s.unitRead u off
    let y := State.readRegs (s.regClear u off) u (off + 8) n
    (y.1, toBytes 8 v.toNat ++ y.2)

/-- Free values for `n` registers of the standby die, whose own values the spec does not give (log entry 2). -/
def State.freeRegs (s : State) : Nat → State × List Byte
  | 0 => (s, [])
  | n + 1 =>
    let y := State.freeRegs s.draw n
    (y.1, toBytes 8 (Config.free64 s.free).toNat ++ y.2)

/-- Whether a request packet of TAG 0xFE is admitted to a core's span (R173, R178, R182, R272). -/
def State.coreAdmits (s : State) (p : Fin 168) (off len : Nat) (check : RegionCheck) : Bool :=
  (s.coreRefusal p).isNone && s.remoteSpanOk p off len && check == .ok

/-- A scratchpad span is read in packets of at most 2,048 bytes. -/
def State.readCore (s : State) (p : Fin 168) (off len : Nat) : Nat → State × Option (List Flit)
  | 0 => (s, some [])
  | n + 1 =>
    let m := min len 2048
    if m = 0 then (s, some [])
    else if s.coreAdmits p off m (s.checkReads p 5 off m) then
      let ends := s.regionEnds p false 5 off m
      let x := (s.grants p 3 off m).readGrans p 3 off (m / 64)
      let y := State.readCore (x.1.advanceTails p ends) p (off + m) (len - m) n
      (y.1, y.2.map fun l => x.2 ++ l)
    else (s, none)

/-- Bytes and marks of granules. -/
def flitData (l : List Flit) : List Byte × List Bool := (flitBytes l, l.map (·.poison))

/-- A command that reads poison from a core's scratchpad consumes it: one event, which names the first poisoned granule (R209). -/
def State.corePoison (s : State) (p : Fin 168) (off : Nat) (l : List Flit) : State := match l.findIdx? (·.poison) with
  | some i => s.poisonConsumed p 7 (off + 64 * i) (some (off / 64 + i))
  | none => s

/-- The same for a stack's spill memory. -/
def State.stackPoison (s : State) (k : Fin 28) (off : Nat) (l : List Flit) : State := match l.findIdx? (·.poison) with
  | some i => s.event 0x1002 4 k.val 0xFF 0xFF [7, off + 64 * i, 0, 0]
  | none => s

/-- A read of the panel by the management die. -/
def State.readPanel (s : State) (pa len : Nat) : Moved := match s.paKind pa with
  | .reg u off => let y := s.readRegs u off (len / 8); (y.1, some (y.2, []))
  | .standby => let y := s.freeRegs (len / 8); (y.1, some (y.2, []))
  | .scratch p off =>
    let y := s.readCore p off len (len / 2048 + 1)
    (y.1.corePoison p off (y.2.getD []), y.2.map flitData)
  | .spill k off =>
    if s.stackState k != 2 then (s, none)
    else
      let y := s.readSpill k off 0xF000 (len / 64)
      let t := y.1.stackPoison k off y.2
      ((t.count64 (.stack k) 0x100 ((len + 2047) / 2048)).count64 (.stack k) 0x110 len, some (flitData y.2))
  | _ => (s, none)

/-- Consecutive registers are written. -/
def State.writeRegs (s : State) (u : RegUnit) (off : Nat) : Nat → List Byte → State
  | 0, _ => s
  | n + 1, l => State.writeRegs (s.mgmtWrite u off (w64 (ofBytes (l.take 8)))) u (off + 8) n (l.drop 8)

/-- A scratchpad span is written in packets of at most 32 granules. -/
def State.writeCore (s : State) (p : Fin 168) (off : Nat) (l : List Flit) : Nat → State × Bool
  | 0 => (s, true)
  | n + 1 =>
    let here := l.take 32
    let m := 64 * here.length
    if m = 0 then (s, true)
    else if s.coreAdmits p off m (s.checkWrites p 5 off m) then
      let ends := s.regionEnds p true 5 off m
      State.writeCore (((s.grants p 3 off m).writeGrans p off here).advanceHeads p ends) p (off + m) (l.drop 32) n
    else (s, false)

/-- A write of the panel by the management die; whether every packet of it was admitted. -/
def State.writePanel (s : State) (pa : Nat) (bytes : List Byte) : State × Bool := match s.paKind pa with
  | .reg u off => (s.writeRegs u off (bytes.length / 8) bytes, true)
  | .standby => (s, true)
  | .scratch p off => s.writeCore p off (cleanGrans bytes) (bytes.length / 2048 + 1)
  | .spill k off =>
    if s.stackState k != 2 then (s, false)
    else
      let s := s.writeSpill k off (cleanGrans bytes)
      ((s.count64 (.stack k) 0x108 ((bytes.length + 2047) / 2048)).count64 (.stack k) 0x118 bytes.length, true)
  | _ => (s, false)

/-- A bitmap of marks, `n` bytes. -/
def markBytes (n : Nat) (marks : List Bool) : List Byte :=
  toBytes n ((marks.zip (List.range marks.length)).foldl (fun (a : Nat) (e : Bool × Nat) => a + b01 e.1 * 2 ^ e.2) 0)

/-- The most that MEM_READ and MEM_WRITE move (R560). -/
def moveLimit (c : MciCmd) : Nat := if onWire c then 1024 else 3968

/-! ## The rows -/

/-- MEM_READ. -/
def execMemRead (c : MciCmd) (s : State) : Host.Outcome State Fault Refusal :=
  s.mci c (mciForm 0x0401 2 [fd 8, fd 4, rs 4]) fun s =>
    let len := arg c 8 4
    if moveLimit c < len then .bad s 8
    else match s.accessBad (arg c 0 8) len 0 8, s.accessStatus (arg c 0 8) len with
      | some o, _ => .bad s o
      | none, some st => .fail s st
      | none, none => (match s.readPanel (arg c 0 8) len with
          | (t, some d) => .give t (markBytes 8 d.2 ++ d.1)
          | (t, none) => .fail t 7)

/-- MEM_WRITE. -/
def execMemWrite (c : MciCmd) (s : State) : Host.Outcome State Fault Refusal :=
  s.mci c { mciForm 0x0402 2 [fd 8, fd 4, rs 4] with tail := fun p => bytesAt p 8 4 } fun s =>
    let len := arg c 8 4
    if moveLimit c < len then .bad s 8
    else match s.accessBad (arg c 0 8) len 0 8, s.accessStatus (arg c 0 8) len with
      | some o, _ => .bad s o
      | none, some st => .fail s st
      | none, none =>
        let y := s.writePanel (arg c 0 8) (c.payload.drop 16)
        if y.2 then .done y.1 else .fail y.1 7

/-- DMA_IN. -/
def execDmaIn (c : MciCmd) (s : State) : Host.Outcome State Fault Refusal :=
  s.mci c (mciBus 0x0403 2 [fd 8, fd 8, fd 8]) fun s =>
    let len := arg c 16 8
    if 2 ^ 32 < len then .bad s 16
    else match s.accessBad (arg c 8 8) len 8 16, s.accessStatus (arg c 8 8) len with
      | some o, _ => .bad s o
      | none, some st => .fail s st
      | none, none =>
        let y := s.writePanel (arg c 8 8) (s.host.readBytes (arg c 0 8) len)
        if y.2 then .done y.1 else .fail y.1 7

/-- DMA_OUT: the data as delivered, and one bit per granule. -/
def execDmaOut (c : MciCmd) (s : State) : Host.Outcome State Fault Refusal :=
  s.mci c (mciBus 0x0404 2 [fd 8, fd 8, fd 8, fd 8]) fun s =>
    let len := arg c 16 8
    if 2 ^ 32 < len then .bad s 16
    else match s.accessBad (arg c 8 8) len 8 16, s.accessStatus (arg c 8 8) len with
      | some o, _ => .bad s o
      | none, some st => .fail s st
      | none, none => (match s.readPanel (arg c 8 8) len with
          | (t, some d) =>
            .done { t with host := (t.host.writeBytes (arg c 0 8) d.1).writeBytes (arg c 24 8) (markBytes ((len + 511) / 512) d.2) }
          | (t, none) => .fail t 7)

/-- Whether an access lies within what a partition holds (R193, R383): one of its held cores, or one of its HELD extents. -/
def State.withinHeld (s : State) (tag : Nat) (x : Partition) (pa len : Nat) : Bool := match s.paKind pa with
  | .scratch p _ => (s.partSites x).contains p && s.coreState p == 7
  | .spill k off => (List.range 256).any fun n =>
      let c := s.extCfg k n
      bit c 63 && bit c 62 && fld c 40 8 == tag && decide (s.extBase k n ≤ off) && decide (off + len ≤ s.extBase k n + s.extLen k n)
  | _ => false

/-- HELD_READ (R193, R537): with the owner token alone. -/
def execHeldRead (c : MciCmd) (s : State) : Host.Outcome State Fault Refusal :=
  s.mci c (mciForm 0x0208 2 [fd 1, rs 3, fd 4, fd 8, fd 8]) fun s =>
    let len := arg c 4 4
    if moveLimit c < len then .bad s 4
    else s.onPart c fun tag x => match x.state, x.ownerToken with
      | 3, some k =>
        if k != w64 (arg c 8 8) then .fail s 5
        else match s.accessBad (arg c 16 8) len 16 4 with
          | some o => .bad s o
          | none =>
            if !s.withinHeld tag x (arg c 16 8) len then .bad s 16
            else match s.readPanel (arg c 16 8) len with
              | (t, some d) => .give t (markBytes 8 d.2 ++ d.1)
              | (t, none) => .fail t 7
      | _, _ => .fail s 7

/-- APERTURE_SET (R186, R560): LENGTH 0 revokes. -/
def execApertureSet (c : MciCmd) (s : State) : Host.Outcome State Fault Refusal :=
  s.mci c (mciBus 0x0405 2 [fd 1, fd 1, rs 6, fd 8, fd 8]) fun s =>
    if 15 < arg c 1 1 then .bad s 1
    else s.onPart c fun tag _ =>
      .done { s with apertures := Sparse.put (0, 0) s.apertures (tag * 16 + arg c 1 1) (if arg c 16 8 = 0 then (0, 0) else (arg c 8 8, arg c 16 8)) }

/-- The BULK_WRITE frames of a span of host memory, of at most 31 granules each (R407). -/
def bulkFrames (panel ap off : Nat) (bytes : List Byte) : List Frame :=
  (List.range ((bytes.length + 1983) / 1984)).map fun i =>
    mkFrame 0xC0 0 panel (ap + (off + 1984 * i) % 2 ^ 64 * 2 ^ 64) (cleanGrans ((bytes.drop (1984 * i)).take 1984))

/-- BULK_SEND (R407): the frames leave by the egress port that the routing table gives, and the last one's leaving answers the command; without a route
each is dropped (R401). -/
def execBulkSend (c : MciCmd) (s : State) : Host.Outcome State Fault Refusal :=
  s.mci c (mciBus 0x0406 2 [fd 2, fd 1, rs 5, fd 8, fd 8, fd 8]) fun s =>
    let panel := arg c 0 2
    let frames := bulkFrames panel (arg c 2 1) (arg c 8 8) (s.host.readBytes (arg c 16 8) (arg c 24 8))
    match firstBad [(decide (1023 < panel), 0), (decide (63 < arg c 2 1), 2), (arg c 24 8 % 64 != 0, 24)] with
    | some o => .bad s o
    | none => match s.routeOf 0 panel with
      | some e =>
        if frames.isEmpty then .done s
        else if 84 ≤ e then .done s
        else
          let s := { s with mgmt.bulk := s.mgmt.bulk ++ [(c, e, frames.length)] }
          .wait (frames.foldl (fun st f => st.originate (portDie e) e f) s)
      | none => .done (frames.foldl (fun st f => st.originateTo 0 f) s)

end Sys2Proof.Machine
end

