-- ==== Sys2Proof/Machine/MciFault.lean ====
section
/-! DEFINITION. Commands on power and thermal policy, faults, spares, placement, the fabric and epochs (R229, R231, R274, R275, R366, R447, R462, R471, R472, R475,
R477, R481, R482, R499, R512-R517, R521, R531, R535, R559, R561). -/

namespace Sys2Proof.Machine

/-! ## Power and thermal policy (0x05xx) -/

/-- The fields of POWER_POLICY that are out of range, by payload offset: CAP_PEAK is held against the CAP_SUST that results. -/
def State.policyBad (s : State) (c : MciCmd) : Option Nat :=
  let out (off n lo hi : Nat) : Bool × Nat := (arg c off n != 0 && !(decide (lo ≤ arg c off n) && decide (arg c off n ≤ hi)), off)
  let sust := if arg c 0 2 = 0 then s.rf .mgmt 0x00110008 0 16 else arg c 0 2
  let peak := if arg c 2 2 = 0 then s.rf .mgmt 0x00110008 32 16 else arg c 2 2
  firstBad [out 0 2 400 capDefaults.2, (arg c 2 2 == 0 && decide (peak < sust), 0), out 2 2 sust capDefaults.1, out 4 1 10 200, out 5 1 1 2, out 6 1 80 105,
    out 7 1 2 15, out 8 2 20 1000, out 10 1 10 255]

/-- A field of a policy register takes a command's field unless that is zero. -/
def State.setPolicy (s : State) (v off lo w : Nat) : State := if v = 0 then s else s.setRf .mgmt off lo w v

/-- POWER_POLICY. -/
def execPowerPolicy (c : MciCmd) (s : State) : Host.Outcome State Fault Refusal :=
  s.mci c (mciForm 0x0501 2 [fd 2, fd 2, fd 1, fd 1, fd 1, fd 1, fd 2, fd 1, rs 5]) fun s =>
    match s.policyBad c with
    | some o => .bad s o
    | none =>
      let s := ((s.setPolicy (arg c 0 2) 0x00110008 0 16).setPolicy (arg c 2 2) 0x00110008 32 16).setPolicy (arg c 4 1) 0x00100008 0 8
      let s := if arg c 5 1 = 0 then s else s.setRf .mgmt 0x00100008 8 1 (arg c 5 1 - 1)
      let s := (s.setPolicy (arg c 6 1) 0x00120008 0 8).setPolicy (arg c 7 1) 0x00110010 8 4
      .done ((s.setPolicy (arg c 8 2) 0x00110010 16 10).setPolicy (arg c 10 1) 0x00110010 0 8)

/-- COOL_RESUME (R481). -/
def execCoolResume (c : MciCmd) (s : State) : Host.Outcome State Fault Refusal :=
  s.mci c (mciForm 0x0502 2 []) fun s => if s.mayResume then .done s.resumeCooling else .fail s 7

/-- THERMAL_CLEAR (R477): the region is released as soon as the release condition holds. -/
def execThermalClear (c : MciCmd) (s : State) : Host.Outcome State Fault Refusal :=
  s.mci c (mciForm 0x0503 2 [fd 1, rs 7]) fun s =>
    let g : Fin 42 := Fin.ofNat 42 (arg c 0 1)
    if 41 < arg c 0 1 then .bad s 0
    else if s.rf .mgmt (ceilOff g) 4 1 = 0 || s.rf .mgmt (ceilOff g) 20 4 < 3 then .fail s 7
    else
      let s := (s.setRf .mgmt (ceilOff g) 20 4 0).updRegion g fun x => { x with heatOffs := [] }
      .done (s.heatRelease g)

/-- A job energy record (R482). -/
def jobBytes (j : Job) (isOpen : Bool) : List Byte :=
  toBytes 16 j.tab.toNat ++ toBytes 1 j.part ++ toBytes 1 (2 * b01 isOpen + b01 j.killed) ++ toBytes 2 j.others ++ toBytes 4 0 ++ toBytes 8 j.tStart ++
    toBytes 8 j.tEnd ++ toBytes 8 j.eStart.toNat ++ toBytes 8 j.eEnd.toNat ++ toBytes 8 j.steps.toNat

/-- The open jobs as they stand now, by tag. -/
def State.openJobs (s : State) : List Job := s.partList.filterMap fun y => y.2.tab.map fun id =>
  ⟨id, y.1, false, y.2.others.length, y.2.jobAt, s.time, y.2.jobEnergy, s.energy, y.2.stepIndex⟩

/-- ENERGY_READ (R482). -/
def execEnergyRead (c : MciCmd) (s : State) : Host.Outcome State Fault Refusal :=
  s.mci c (mciForm 0x0504 1 [fd 2, fd 2, rs 4]) fun s =>
    let n := arg c 2 2
    if n = 0 || 16 < n then .bad s 2
    else .give s (((s.openJobs.map fun j => jobBytes j true) ++ s.jobs.map fun j => jobBytes j false).drop (arg c 0 2) |>.take n).flatten

/-! ## Resets (R512-R517) -/

/-- A reset by command meets a partition's step (R335): one in progress fails; a bound partition between steps is replayed too, so that its cores start
again (log entry 28). -/
def State.resetFails (s : State) (tag cause code where_ : Nat) : State := match s.part tag with
  | some x =>
    if x.armed then s.fail tag cause code where_
    else if x.tab.isSome && x.state == 0 && x.failed.isNone then s.setPart tag (some { x with failed := some (cause + code * 2 ^ 8) })
    else s
  | none => s

/-- The migrations whose old site is one of a list are cancelled (R517). -/
def State.cancelMoves (s : State) (ps : List (Fin 168)) : State :=
  s.partList.foldl (fun st y => if y.2.migrate.any fun m => ps.any fun p => p.val == m.old then st.cancelMigration y.1 else st) s

/-- Cores reset on their own or with their region: the steps of their partitions fail with cause CORE (R335, R515). -/
def State.resetCores (s : State) (ps : List (Fin 168)) : State :=
  let s := s.cancelMoves ps
  ps.foldl (fun st p =>
    if (st.site p).symp.isSome then st.endAttempt p else (st.resetCore p).resetFails (st.partOf p) 0x02 0x8025 p.val) s

/-- A partition reset by command (R515). -/
def State.resetPart (s : State) (tag : Nat) : State := (s.resetFails tag 0x03 0 0).partReset tag

/-- RESET_DONE; the duration is a free value (log entry 2). -/
def State.resetDone (s : State) (level scope : Nat) : State :=
  (s.drawn 1).event 0x8025 7 0xF0 0xFF 0xFF [level, scope, Config.freeNat s.free]

/-- A compute reset: every partition, and every spare's core. -/
def State.resetCompute (s : State) : State :=
  let s := s.partList.foldl (fun st y => st.resetPart y.1) s
  s.resetCores ((List.finRange 168).filter fun p => s.siteMode p == 2)

/-- RESET: its rows are the values of LEVEL. -/
def State.mciReset (s : State) (c : MciCmd) : MciAns :=
  let scope := arg c 2 2
  match arg c 0 1 with
  | 0 => if 167 < scope then .bad s 2 else .done ((s.resetCores [Fin.ofNat 168 scope]).resetDone 0 scope)
  | 1 => if 41 < scope then .bad s 2 else .done ((s.resetCores (regionSites (Fin.ofNat 42 scope))).resetDone 1 scope)
  | 2 => (match s.part scope with
      | some x => if x.state != 0 then .fail s 7 else .done ((s.resetPart scope).resetDone 2 scope)
      | none => .fail s 8)
  | 3 => .done (s.resetCompute.resetDone 3 scope)
  | 4 => .andThen s [] fun s =>
      let s := s.panelReset.resetDone 4 scope
      if s.mayStart then s.beginStart false else s
  | _ => .bad s 0

/-- The form of RESET. -/
def resetForm : MciForm := mciForm 0x0601 2 [fd 1, rs 1, fd 2, rs 4]

/-- MCI_RESET_CORE. -/
def execMciResetCore (c : MciCmd) (s : State) : Host.Outcome State Fault Refusal := s.mci c resetForm fun s => s.mciReset c

/-- MCI_RESET_REGION (R515). -/
def execMciResetRegion (c : MciCmd) (s : State) : Host.Outcome State Fault Refusal := s.mci c resetForm fun s => s.mciReset c

/-- MCI_RESET_PARTITION (R515). -/
def execMciResetPartition (c : MciCmd) (s : State) : Host.Outcome State Fault Refusal := s.mci c resetForm fun s => s.mciReset c

/-- MCI_RESET_COMPUTE (R515). -/
def execMciResetCompute (c : MciCmd) (s : State) : Host.Outcome State Fault Refusal := s.mci c resetForm fun s => s.mciReset c

/-- MCI_RESET_PANEL (R512): the response is written before the reset. -/
def execMciResetPanel (c : MciCmd) (s : State) : Host.Outcome State Fault Refusal := s.mci c resetForm fun s => s.mciReset c

/-! ## Sites (R521-R531) -/

/-- RETIRE (R521, R522). -/
def execRetire (c : MciCmd) (s : State) : Host.Outcome State Fault Refusal :=
  s.mci c (mciForm 0x0602 2 [fd 1, rs 7]) fun s =>
    let p : Fin 168 := Fin.ofNat 168 (arg c 0 1)
    if 167 < arg c 0 1 then .bad s 0
    else .done (((s.endAttempt p).retireSite p 11).countSites.remapLost)

/-- FAULT_CLEAR (R500, R532): the RETIRED mark of the stored map, which the next start reads; SUSPECT. -/
def execFaultClear (c : MciCmd) (s : State) : Host.Outcome State Fault Refusal :=
  s.mci c (mciForm 0x0603 2 [fd 1, fd 1, rs 6]) fun s =>
    let p : Fin 168 := Fin.ofNat 168 (arg c 0 1)
    if 167 < arg c 0 1 then .bad s 0
    else if 3 < arg c 1 1 then .bad s 1
    else
      let s := if arg c 1 1 % 2 = 1 then { s with flash.retired := s.flash.retired.filter fun n => n != p.val } else s
      .done (if arg c 1 1 / 2 = 1 then s.setRf (.site p) 0x18000000 15 1 0 else s)

/-- The partition that a core belongs to. -/
def State.holderOf (s : State) (lcid : Nat) : Option (Nat × Partition) := s.partList.find? fun y => y.2.lcids.contains lcid

/-- MIGRATE (R531): answered by MIGRATION_ENDED. A core of no partition moves as soon as no epoch change is in progress (log entry 28). -/
def execMigrate (c : MciCmd) (s : State) : Host.Outcome State Fault Refusal :=
  s.mci c (mciForm 0x0604 2 [fd 1, fd 1, rs 6]) fun s =>
    let lcid := arg c 0 1
    let new : Fin 168 := Fin.ofNat 168 (arg c 1 1)
    if 143 < lcid then .bad s 0
    else if 167 < arg c 1 1 then .bad s 1
    else match s.siteOf lcid with
      | none => .fail s 8
      | some old =>
        let m : Migration := ⟨lcid, old.val, new.val, s.time, c⟩
        if s.siteMode new != 2 || siteRow new != lcid / 12 then .fail s 7
        else match s.holderOf lcid with
          | some (tag, x) =>
            if x.state != 0 || x.migrate.isSome then .fail s 7
            else .wait ((s.setPart tag (some { x with migrate := some m })).tryMigrate tag)
          | none => if s.epochBusy then .fail s 0xB else .wait (s.moveCore m)

/-! ## Placement (R535) -/

/-- PLACEMENT: its rows are the values of DECISION. RESUME replays the step; where only the cap kept it from being armed it waits for the grant anew. -/
def State.placement (s : State) (c : MciCmd) : MciAns :=
  if 2 < arg c 4 1 then .bad s 4
  else match s.partList.find? fun y => y.2.query.any fun q => q.1 == arg c 0 4 with
    | none => .fail s 8
    | some (tag, x) =>
      match arg c 4 1 with
      | 0 =>
        if x.state != 0 then .fail s 7
        else if x.query.any fun q => q.2.1 == 5 then .done (s.setPart tag (some { x with query := none }))
        else .done (s.setPart tag (some { x with query := none, stage := 3, failed := some (x.failed.getD 2) }))
      | 1 =>
        if x.state = 4 then .fail s 7
        else .done ((s.kill tag 1 true none).updPart tag fun y => { y with query := x.query })
      | _ => .done ((s.kill tag 1 false none).updPart tag fun y => { y with query := none })

/-- The form of PLACEMENT. -/
def placementForm : MciForm := mciForm 0x0605 2 [fd 4, fd 1, rs 3]

/-- PLACEMENT_RESUME. -/
def execPlacementResume (c : MciCmd) (s : State) : Host.Outcome State Fault Refusal := s.mci c placementForm fun s => s.placement c

/-- PLACEMENT_HOLD. -/
def execPlacementHold (c : MciCmd) (s : State) : Host.Outcome State Fault Refusal := s.mci c placementForm fun s => s.placement c

/-- PLACEMENT_RELEASE. -/
def execPlacementRelease (c : MciCmd) (s : State) : Host.Outcome State Fault Refusal := s.mci c placementForm fun s => s.placement c

/-- FAULT_POLICY (R511, R525, R535). -/
def execFaultPolicy (c : MciCmd) (s : State) : Host.Outcome State Fault Refusal :=
  s.mci c (mciForm 0x0606 2 [fd 1, fd 1, fd 1, rs 1, fd 2, rs 2]) fun s =>
    match firstBad [(decide (2 < arg c 0 1), 0), (decide (60 < arg c 1 1), 1), (decide (60 < arg c 2 1), 2)] with
    | some o => .bad s o
    | none =>
      let s := if arg c 0 1 = 0 then s else s.setRf .mgmt 0x00140000 16 1 (arg c 0 1 - 1)
      let s := (s.setPolicy (arg c 1 1) 0x00140000 8 8).setPolicy (arg c 2 1) 0x00140000 0 8
      .done (if arg c 4 2 = 0xFFFF then s else { s.setRf .mgmt 0x00130008 0 16 (arg c 4 2) with flash.floor := arg c 4 2 })

/-! ## Fabric and epochs (0x07xx) -/

/-- The stops of a row (kind 0) or a column bundle. -/
def bundleSites (kind i : Nat) : List (Fin 168) := if kind = 0 then rowSites i else (List.range 12).map fun r => siteAt r i

/-- WAY_STAGE (R257, R561). -/
def execWayStage (c : MciCmd) (s : State) : Host.Outcome State Fault Refusal :=
  s.mci c (mciForm 0x0701 2 [fd 1, fd 1, fd 2, rs 4]) fun s =>
    let kind := arg c 0 1
    let i := arg c 1 1
    match firstBad [(decide (1 < kind), 0), (decide ((if kind = 0 then 12 else 14) ≤ i), 1), (decide (2 ^ 14 ≤ arg c 2 2), 2)] with
    | some o => .bad s o
    | none =>
      if s.epochBusy then .fail s 0xB
      else
        let off := 0x18720480 + 0x800 * s.idleVersion
        .done ((bundleSites kind i).foldl (fun st p => st.setRf (.site p) off (16 * kind) 14 (arg c 2 2)) s)

/-- EPOCH_FLIP (R274, R275): answered by EPOCH_DRAINED. -/
def execEpochFlip (c : MciCmd) (s : State) : Host.Outcome State Fault Refusal :=
  s.mci c (mciForm 0x0702 2 []) fun s =>
    if s.epochBusy then .fail s 0xB
    else .wait { s.armFlip with mgmt.flips := s.mgmt.flips ++ [(c, (s.frameCount + 1).toNat)] }

/-- FRAME_LEN (R231). -/
def execFrameLen (c : MciCmd) (s : State) : Host.Outcome State Fault Refusal :=
  s.mci c (mciForm 0x0703 2 [fd 2, rs 6]) fun s =>
    let f := arg c 0 2
    if f < 64 || 8192 < f then .bad s 0
    else if s.partList.any fun y => y.2.tab.isSome then .fail s 7
    else .done (s.atStops fun st p => st.setReg (.site p) 0x18700008 (w64 f))

/-- FABRIC_RESTART (R457, R499): STATE where the rail has not been lost. -/
def execFabricRestart (c : MciCmd) (s : State) : Host.Outcome State Fault Refusal :=
  s.mci c (mciForm 0x0704 2 [fd 1, rs 7]) fun s =>
    let g : Fin 42 := Fin.ofNat 42 (arg c 0 1)
    if 41 < arg c 0 1 then .bad s 0
    else if s.rf (.gov g) 0 2 1 = 1 || s.startStep < 6 || s.coolState = 3 then .fail s 7
    else .done ((regionSites g).foldl State.stopRestart (s.setRf (.gov g) 0 2 1 1))

/-- STACK_RETRAIN (R366): STATE where the stack is not READY; one that is OFFLINE stays so until a whole-panel reset (R379). -/
def execStackRetrain (c : MciCmd) (s : State) : Host.Outcome State Fault Refusal :=
  s.mci c (mciForm 0x0705 2 [fd 1, fd 1, rs 6]) fun s =>
    let k : Fin 28 := Fin.ofNat 28 (arg c 0 1)
    match firstBad [(decide (27 < arg c 0 1), 0), (decide (2 < arg c 1 1), 1)] with
    | some o => .bad s o
    | none => if s.extAny k || s.stackState k != 2 then .fail s 7 else .done ((s.setRf (.stack k) 8 0 2 (arg c 1 1)).retrainStack k)

/-- HOP_SET (R229). -/
def execHopSet (c : MciCmd) (s : State) : Host.Outcome State Fault Refusal :=
  s.mci c (mciForm 0x0706 2 [fd 1, rs 7]) fun s =>
    let h := arg c 0 1
    if h < 6 || 9 < h then .bad s 0 else if !s.tabs.isEmpty then .fail s 7 else .done { s with flash.hopLink := h }

end Sys2Proof.Machine
end

