-- ==== Sys2Proof/Machine/MciIhlyx.lean ====
section
/-! DEFINITION. Commands on the Ihlyx ports, collectives and peers (R35, R399-R401, R407, R409, R410, R415, R419, R421, R533, R559, R562). -/

namespace Sys2Proof.Machine

/-- A change made at every port die. -/
def State.atDies (s : State) (f : State → Fin 42 → State) : State := (List.finRange 42).foldl f s

/-- PANEL_ID (R35). -/
def execPanelId (c : MciCmd) (s : State) : Host.Outcome State Fault Refusal :=
  s.mci c (mciForm 0x0801 2 [fd 2, rs 6]) fun s =>
    if 1023 < arg c 0 2 then .bad s 0
    else if s.ownPanel.isSome then .fail s 7
    else .done (s.atDies fun st d => st.setPanelId d (arg c 0 2)).rechoose

/-- ROUTE_SET (R401): every port die takes the entries. -/
def execRouteSet (c : MciCmd) (s : State) : Host.Outcome State Fault Refusal :=
  s.mci c { mciForm 0x0802 2 [fd 2, fd 2, rs 4] with tail := fun p => 2 * bytesAt p 2 2 } fun s =>
    let first := arg c 0 2
    let n := arg c 2 2
    let entry (i : Nat) : Nat := arg c (8 + 2 * i) 2
    let wrong (i : Nat) : Bool := decide (512 ≤ entry i) || (entry i / 256 == 1 && decide (84 ≤ entry i % 256))
    match firstBad [(decide (1023 < first), 0), (n == 0 || decide (512 < n) || decide (1024 < first + n), 2)], (List.range n).find? wrong with
    | some o, _ => .bad s o
    | none, some i => .bad s (8 + 2 * i)
    | none, none => .done (s.atDies fun st d =>
        (List.range n).foldl (fun st i => st.setReg (.die d) (0x8000 + 8 * (first + i)) (w64 (entry i))) st)

/-! ## Ports -/

/-- The weights of a port that are not zero (R393, R421). -/
def State.setWeights (s : State) (i coll service bulk : Nat) : State :=
  let put (st : State) (lo v : Nat) : State := if v = 0 then st else st.setRf (.die (portDie i)) (portReg i 0x1010) lo 4 v
  put (put (put s 0 coll) 4 service) 8 bulk

/-- PORT_CONTROL: its rows are the values of ACTION. -/
def State.portControl (s : State) (c : MciCmd) : MciAns :=
  let i := arg c 0 1
  match firstBad [(decide (83 < i), 0), (decide (3 < arg c 1 1), 1), (decide (15 < arg c 2 1), 2), (decide (15 < arg c 3 1), 3),
      (decide (15 < arg c 4 1), 4)] with
  | some o => .bad s o
  | none =>
    let s := s.setWeights i (arg c 2 1) (arg c 3 1) (arg c 4 1)
    match arg c 1 1 with
    | 1 => .done (s.portEnable i false)
    | 2 => .done (s.portEnable i true)
    | 3 => .done (s.portRetrain i)
    | _ => .done s

/-- The form of PORT_CONTROL. -/
def portForm : MciForm := mciForm 0x0803 2 [fd 1, fd 1, fd 1, fd 1, fd 1, rs 3]

/-- PORT_CONTROL with no action: the weights alone. -/
def execPortControl (c : MciCmd) (s : State) : Host.Outcome State Fault Refusal := s.mci c portForm fun s => s.portControl c

/-- PORT_DISABLE (R396). -/
def execPortDisable (c : MciCmd) (s : State) : Host.Outcome State Fault Refusal := s.mci c portForm fun s => s.portControl c

/-- PORT_ENABLE. -/
def execPortEnable (c : MciCmd) (s : State) : Host.Outcome State Fault Refusal := s.mci c portForm fun s => s.portControl c

/-- PORT_RETRAIN (R400). -/
def execPortRetrain (c : MciCmd) (s : State) : Host.Outcome State Fault Refusal := s.mci c portForm fun s => s.portControl c

/-- A port's line of TOPOLOGY (R399); a peer without a valid id is shown as 0xFFFF (log entry 28). -/
def State.portLine (s : State) (i : Nat) : List Byte :=
  let v := s.reg (.die (portDie i)) (portReg i 0x1000)
  toBytes 1 i ++ toBytes 1 (fld v 0 2) ++ toBytes 1 (fld v 8 3) ++ [0] ++ toBytes 2 (if bit v 21 then fld v 22 10 else 0xFFFF) ++
    toBytes 1 (fld v 32 8) ++ [0] ++ toBytes 2 (s.port i).feature.toNat ++ toBytes 2 0 ++ toBytes 4 (s.rf (.die (portDie i)) (portReg i 0x1018) 0 32)

/-- TOPOLOGY (R399). -/
def execTopology (c : MciCmd) (s : State) : Host.Outcome State Fault Refusal :=
  s.mci c (mciForm 0x0804 1 [fd 1, fd 1, rs 6]) fun s =>
    match firstBad [(decide (83 < arg c 0 1), 0), (arg c 1 1 == 0 || decide (80 < arg c 1 1), 1)] with
    | some o => .bad s o
    | none => .give s ((((List.range 84).drop (arg c 0 1)).take (arg c 1 1)).flatMap s.portLine)

/-- TIME_MASTER (R419). -/
def execTimeMaster (c : MciCmd) (s : State) : Host.Outcome State Fault Refusal :=
  s.mci c (mciForm 0x0805 2 [fd 1, rs 7]) fun s =>
    if 1 < arg c 0 1 then .bad s 0
    else .done (s.atDies fun st d => st.setRf (.die d) 0x0010 6 1 (arg c 0 1)).rechoose

/-! ## Collectives (R410, R415, R533, R562) -/

/-- A port id, or 0xFF for none. -/
def portOrNone (i : Nat) : Bool := decide (i < 84) || i == 0xFF

/-- The child ports of a COLL_BIND. -/
def collChildren (c : MciCmd) : List Nat := ((List.range 8).map fun j => arg c (20 + j) 1).filter fun i => i != 0xFF

/-- The offset of the first field of a COLL_BIND that is out of range (R410); `cores` is the partition's size. -/
def collBad (c : MciCmd) (cores : Nat) : Option Nat :=
  let op := arg c 2 1
  let len := arg c 8 4
  let members := arg c 12 2
  let anchor := (BitVec.ofNat 16 (arg c 4 2)).toInt
  let kids := (List.range 8).map fun j => arg c (20 + j) 1
  let n := min (arg c 18 1) 16
  firstBad ([ (decide (3 < op), 2), ((if op < 2 then decide (1 < arg c 3 1) else arg c 3 1 != 2), 3),
      ((if arg c 3 1 = 1 then !(decide (-192 ≤ anchor) && decide (anchor ≤ 191)) else anchor != 0), 4), (decide (41 < arg c 6 1), 6),
      (decide (len < 64) || decide (2 ^ 24 < len) || len % 64 != 0 || (op == 1 && len % (64 * members) != 0), 8),
      (decide (members < 2) || decide (1024 < members), 12), (decide (members ≤ arg c 14 2), 14),
      (arg c 16 1 == 0 || decide (144 < arg c 16 1), 16), (!portOrNone (arg c 17 1), 17), (arg c 18 1 == 0 || decide (16 < arg c 18 1), 18) ] ++
    ((List.range 8).map fun j => (!portOrNone (kids.getD j 0) || (j != 0 && kids.getD j 0 != 0xFF && kids.getD (j - 1) 0 == 0xFF), 20 + j)) ++
    ((List.range n).flatMap fun i =>
      [(decide (cores ≤ arg c (32 + 16 * i) 1), 32 + 16 * i), (arg c (33 + 16 * i) 3 != 0, 33 + 16 * i), (arg c (44 + 16 * i) 4 != 0, 44 + 16 * i)]))

/-- The collective that a COLL_BIND describes, at an index, with the addresses of its IN and GO areas. -/
def collOf (c : MciCmd) (index inPa goPa : Nat) : Coll :=
  { die := arg c 6 1, index := index, id := arg c 0 2, op := arg c 2 1, format := arg c 3 1, anchorExp := BitVec.ofNat 16 (arg c 4 2),
    length := arg c 8 4, members := arg c 12 2, rank := arg c 14 2, ids := [], parent := arg c 17 1, children := collChildren c,
    part := arg c 7 1, ncontrib := arg c 16 1,
    deliver := (List.range (arg c 18 1)).map fun i => (arg c (32 + 16 * i) 1, arg c (36 + 16 * i) 4, arg c (40 + 16 * i) 4),
    inPa := inPa, goPa := goPa, invs := [], retained := none, lateness := [] }

/-- An area's panel address at a port die: a free value in target 0xF8, since the spec says only that the command returns it (log entry 16). -/
def State.areaPa (s : State) (i : Nat) : Nat := 0xF8 * 2 ^ 43 + 64 * s.pick i (2 ^ 37)

/-- The collective memory of a port die: 48 MiB (R410). -/
def collMemory : Nat := 48 * 2 ^ 20

/-- COLL_BIND (R410). An id that is bound already is refused with STATE (log entry 28). -/
def execCollBind (c : MciCmd) (s : State) : Host.Outcome State Fault Refusal :=
  s.mci c { mciForm 0x0806 2 [fd 2, fd 1, fd 1, fd 2, fd 1, fd 1, fd 4, fd 2, fd 2, fd 1, fd 1, fd 1, rs 1, fd 8, rs 4] with
      tail := fun p => 16 * bytesAt p 18 1 } fun s =>
    let cores : Nat := match s.part (arg c 7 1) with
      | some x => x.rows * x.cols
      | none => 256
    match collBad c cores, s.part (arg c 7 1) with
    | some o, _ => .bad s o
    | none, none => .fail s 8
    | none, some x =>
      let y := collOf c 0 (s.areaPa 0) (s.areaPa 1)
      let here := s.colls.filter fun z => z.die == y.die
      if x.tab.isNone || s.colls.any fun z => z.id == y.id then .fail s 7
      else if collMemory < y.footprint + (here.map Coll.footprint).foldl (· + ·) 0 then .fail s 9
      else match lowest 64 fun i => !(here.any fun z => z.index == i) with
        | some i => .give { s.drawn 2 with colls := s.colls ++ [{ y with index := i }] } (toBytes 8 y.inPa ++ toBytes 8 y.goPa)
        | none => .fail s 9

/-- What a command does with the collective whose id it names first; NOT_FOUND where none is bound. -/
def State.onColl (s : State) (c : MciCmd) (go : Coll → MciAns) : MciAns := match s.colls.find? fun z => z.id == arg c 0 2 with
  | some y => go y
  | none => .fail s 8

/-- COLL_MEMBERS (R562): contributions that have waited for the last rank go on. -/
def execCollMembers (c : MciCmd) (s : State) : Host.Outcome State Fault Refusal :=
  s.mci c { mciForm 0x0807 2 [fd 2, fd 2, fd 2, rs 2] with tail := fun p => 2 * bytesAt p 4 2 } fun s => s.onColl c fun y =>
    let first := arg c 2 2
    let n := arg c 4 2
    match firstBad [(decide (y.members ≤ first), 2), (decide (y.members < first + n), 4)], (List.range n).find? fun i => decide (1023 < arg c (8 + 2 * i) 2) with
    | some o, _ => .bad s o
    | none, some i => .bad s (8 + 2 * i)
    | none, none =>
      let ids := (List.range n).foldl (fun (l : Sparse Nat) i => Sparse.put 0 l (first + i) (arg c (8 + 2 * i) 2 + 1)) y.ids
      let s := s.updColl y.die y.index fun z => { z with ids := ids }
      .done (if !y.ready && ({ y with ids := ids } : Coll).ready then y.invs.foldl (fun st v => st.collAdvance y.die y.index v.num) s else s)

/-- COLL_UNBIND. -/
def execCollUnbind (c : MciCmd) (s : State) : Host.Outcome State Fault Refusal :=
  s.mci c (mciForm 0x0808 2 [fd 2, rs 6]) fun s => s.onColl c fun y => .done (s.collRemove y)

/-- COLL_ABORT (R415): cause COMMAND. -/
def execCollAbort (c : MciCmd) (s : State) : Host.Outcome State Fault Refusal :=
  s.mci c (mciForm 0x0809 2 [fd 2, rs 6]) fun s => s.onColl c fun y => .done (s.collAbort y 2 0xFF)

/-- COLL_LATENESS (R533). -/
def execCollLateness (c : MciCmd) (s : State) : Host.Outcome State Fault Refusal :=
  s.mci c (mciForm 0x080A 1 [fd 2, fd 2, rs 4]) fun s =>
    if arg c 2 2 = 0 || 64 < arg c 2 2 then .bad s 2
    else s.onColl c fun y =>
      .give s ((y.lateness.take (arg c 2 2)).flatMap fun z => toBytes 4 z.1.toNat ++ toBytes 4 0 ++ toBytes 8 z.2.toNat)

/-! ## Peers -/

/-- SVC_PEERS (R406, R409). -/
def execSvcPeers (c : MciCmd) (s : State) : Host.Outcome State Fault Refusal :=
  s.mci c (mciForm 0x080B 2 [fd 128]) fun s =>
    .done (s.atDies fun st d => (List.range 16).foldl (fun st n => st.setReg (.die d) (0x3000 + 8 * n) (w64 (arg c (8 * n) 8))) st)

/-- BULK_APERTURE (R407): every port die takes the entry. -/
def execBulkAperture (c : MciCmd) (s : State) : Host.Outcome State Fault Refusal :=
  s.mci c (mciForm 0x080C 2 [fd 1, fd 1, fd 1, fd 1, fd 2, rs 2, fd 8, fd 8]) fun s =>
    let len := arg c 16 8
    match firstBad [(decide (63 < arg c 0 1), 0), (decide (63 < arg c 1 1), 1), (decide (27 < arg c 2 1), 2), (decide (1 < arg c 3 1), 3),
        (decide (1023 < arg c 4 2), 4), (arg c 8 8 % 4096 != 0 || decide (2 ^ 36 ≤ arg c 8 8), 8), (len % 4096 != 0 || decide (2 ^ 36 ≤ len), 16)] with
    | some o => .bad s o
    | none =>
      let v := if len = 0 then 0 else
        2 ^ 63 + arg c 1 1 * 2 ^ 48 + arg c 2 1 * 2 ^ 40 + arg c 8 8 + arg c 3 1 * 2 ^ 11 + arg c 4 2
      let off := 0x4000 + 32 * arg c 0 1
      .done (s.atDies fun st d => (st.setReg (.die d) off (w64 v)).setReg (.die d) (off + 8) (w64 len))

/-- FREEZE_RELEASE (R409). -/
def execFreezeRelease (c : MciCmd) (s : State) : Host.Outcome State Fault Refusal :=
  s.mci c (mciForm 0x080D 2 [fd 1, fd 1, rs 6]) fun s =>
    let d : Fin 42 := Fin.ofNat 42 (arg c 0 1)
    let k := arg c 1 1
    if 41 < arg c 0 1 then .bad s 0
    else if 15 < k && k != 0xFF then .bad s 1
    else if k = 0xFF then
      let s := (List.range 16).foldl (fun st n => st.releaseFreeze d n) s
      .done ((s.updPort (2 * d.val) fun x => { x with frozenAll := [] }).updPort (2 * d.val + 1) fun x => { x with frozenAll := [] })
    else .done (s.releaseFreeze d k)

end Sys2Proof.Machine
end

