-- ==== Sys2Proof/Machine/MgmtPkts.lean ====
section
/-! DEFINITION. What the active management die does with the packets that reach it (R250, R274, R283, R331, R348, R406, R416, R532), host apertures (R186),
and MGMT packets at every unit (R263, R369). The fields of these packets that the spec does not lay out are the model's (log entry 10). -/

namespace Sys2Proof.Machine

/-! ## Host apertures (R186) -/

/-- The host address of a HOST packet's span: its aperture is in CTX, its offset in ADDR; none outside the aperture as granted to its partition. -/
def State.aperture (s : State) (k : Packet) (len : Nat) : Option Nat :=
  let a := Sparse.get (0, 0) s.apertures (k.tag.toNat * 16 + k.ctx.toNat)
  if k.ctx.toNat < 16 && decide (k.addr.toNat + len ≤ a.2) then some (a.1 + k.addr.toNat) else none

/-- HOST_OUT at the management die: the payload goes to host memory. -/
def State.apertureWrite (s : State) (here : Place) (k : Packet) : State :=
  let bytes := flitBytes k.payload
  if k.trunc then s.nack here k 0x08 false
  else match s.aperture k bytes.length with
    | some a => ({ s with host := s.host.writeBytes a bytes } : State).ack here k
    | none => s.nack here k 0x06 true

/-- HOST_IN at the management die: host memory is read. -/
def State.apertureRead (s : State) (here : Place) (k : Packet) : State :=
  let len := k.aux.toNat
  if k.trunc then s.nack here k 0x08 false
  else if 2048 < len || len % 64 ≠ 0 then s.nack here k 0x06 true
  else match s.aperture k len with
    | some a => s.inject here (withPayload (s.answer here k 0x10) (cleanGrans (s.host.readBytes a len)))
    | none => s.nack here k 0x06 true

/-! ## Service (R348, R406) -/

/-- A peer request is complete: its entry, with DEADLINE as panel time rounded up, and its inline bytes are admitted (R406). -/
def State.peerRequest (s : State) (r : Reasm) : State :=
  let bytes := ((List.range (r.last.getD 0 + 1)).flatMap fun n => match r.segs.find? fun g => g.1 == n with
    | some g => g.2
    | none => []).flatMap fun f => granBytes f.data
  let e := bytes.take 64
  let due := (((reqDeadline e : Nat) : Int) * 65536 - s.podOffset + 65535) / 65536
  let e := if reqTimed e then overwrite e 24 (toBytes 8 due.toNat) else e
  s.admitOne none (some (r.die, r.panel, r.msgId)) e (if reqInKind e = 0 then (bytes.drop 48).take (reqInLen e) else [])

/-- A segment of a peer request reaches the management die: the message is admitted once every segment up to the last is there (R406). -/
def State.svcSegment (s : State) (f : Frame) (ingress : Nat) : State :=
  let panel := fld f.srcPanel 0 10
  let id := BitVec.ofNat 32 (f.arg 0 4)
  let seg := f.arg 4 1
  let mine (r : Reasm) : Bool := r.panel == panel && r.msgId == id
  let r := (s.reasm.find? mine).getD ⟨panel, id, ingress / 2, s.time, [], none⟩
  let r := { r with
    segs := if r.segs.any fun g => g.1 == seg then r.segs else r.segs ++ [(seg, f.flits)]
    last := if bit f.flags 1 then some seg else r.last }
  let rest := s.reasm.filter fun r => !mine r
  if 2 < seg then s
  else if r.last.any fun n => (List.range (n + 1)).all fun i => r.segs.any fun g => g.1 == i then ({ s with reasm := rest } : State).peerRequest r
  else { s with reasm := rest ++ [r] }

/-- A TRANSIT packet at the active management die: a service frame; its transit credit returns (R403, R406). -/
def State.mgmtTransit (s : State) (here : Place) (k : Packet) : State :=
  match frameOf k.payload with
  | some f =>
    let s := s.returnCredit here (0xF0, 0) (if k.src = 0xF8 then some k.srcUnit.toNat else none) f.cls
    if f.typ = 0x80 then s.svcSegment f (fld k.aux 0 8) else s
  | none => s

/-- Whether an answer is to a packet of the partition's present input message (R348). -/
def Partition.sendsInput (x : Partition) (k : Packet) : Bool :=
  fld k.aux 0 8 == 0x04 && k.seq == x.svcSeq && (x.running.any fun r => r.sentAt.isSome && r.landAt.isNone) &&
    (x.svc.any fun b => x.lcids.getD b.inCore 0xFF == k.src.toNat)

/-- An ACK of an input message's packet: with the last one the message has landed (R294, R348). -/
def State.inputAcked (s : State) (k : Packet) : State :=
  let tag := k.tag.toNat
  match s.part tag with
  | some x =>
    if !x.sendsInput k then s
    else match x.running with
      | some r =>
        let acks := if r.acks.contains k.addr.toNat then r.acks else r.acks ++ [k.addr.toNat]
        if (msgAddrs (r.entry.length + r.input.length)).all fun a => acks.contains a then
          s.setPart tag (some { x with svcSeq := x.svcSeq + 1, running := some { r with acks := acks, landAt := some s.time } })
        else s.setPart tag (some { x with running := some { r with acks := acks } })
      | none => s
  | none => s

/-- A NACK of an input message's packet: the message is sent again under its number (R299; log entry 25). -/
def State.inputNacked (s : State) (k : Packet) : State :=
  match s.part k.tag.toNat with
  | some x =>
    if x.sendsInput k then s.updRunning k.tag.toNat fun r => { r with sentAt := none, acks := [] } else s
  | none => s

/-! ## Steps, barriers, collectives, drains -/

/-- A core reports STEP.DONE (R331). -/
def State.doneReport (s : State) (k : Packet) : State :=
  s.updPart k.tag.toNat fun x =>
    let rel := x.rel k.src.toNat
    if x.armed && x.failed.isNone && k.addr == x.stepIndex && x.lcids.contains k.src.toNat && !x.done.contains rel then
      { x with done := x.done ++ [rel] }
    else x

/-- CORE_SUSPECT is due once more than 250 of the window's episodes were late ones (R532): the site is marked and the event names the count and their mean
LAST_GAP. -/
def State.suspectDue (s : State) (p : Fin 168) : State :=
  let late := (s.site p).lateWin.filter Prod.fst
  if late.length ≤ 250 || s.rf (.site p) 0x18000000 15 1 == 1 then s
  else
    let sum := late.foldl (fun (a : Nat) (x : Bool × Nat) => a + x.2) 0
    (s.setRf (.site p) 0x18000000 15 1 1).siteEvent p 0x8023 [s.lcidOf p, p.val, late.length, sum / late.length]

/-- BAR_REPORT at the management die (R283, R532): the episode joins the window of each member of the instance. -/
def State.barReport (s : State) (k : Packet) : State :=
  let v := (k.payload.getD 0 ⟨0, false⟩).data
  let last := fld v 0 32
  let gap := fld v 32 32
  let home : Fin 168 := Fin.ofNat 168 k.srcUnit.toNat
  if s.rf (.site home) (0x18730000 + 64 * fld k.aux 0 5) 8 8 ≠ k.tag.toNat then s
  else (s.barMembers home (fld k.aux 0 5)).foldl (fun st l => match st.siteOf l with
    | some p => (st.updSite p fun x => { x with lateWin := ((l == last && decide (4000 < gap), gap) :: x.lateWin).take 1000 }).suspectDue p
    | none => st) s

/-- A lost-slot report at the management die (R250, R335, cause LOST_SLOT). -/
def State.stepFailReport (s : State) (k : Packet) : State := s.fail (fld k.aux 0 8) 0x01 (fld k.aux 8 16) k.addr.toNat

/-- A collective's abort is reported to the management die (R416): the partition's step fails, unless the invocation was complete here. -/
def State.abortReport (s : State) (k : Packet) : State := if bit k.aux 16 then s else s.fail k.tag.toNat 0x05 0x6005 0

/-- A drain report at the epoch unit (R274 step 4): the first frame with a zero report from all 168 stops and 28 stack ports ends the drain. -/
def State.drainReported (s : State) (k : Packet) : State :=
  let frame := k.addr.toNat
  let id := if k.src = 0xFC then 200 + k.srcUnit.toNat else k.srcUnit.toNat
  if s.epoch.flippedAt.isNone then s
  else
    let l := if s.epoch.reports.contains (frame, id) then s.epoch.reports else s.epoch.reports ++ [(frame, id)]
    let s := { s with epoch.reports := l }
    if (List.range 168 ++ (List.range 28).map (200 + ·)).all fun i => l.contains (frame, i) then s.drained frame else s

/-! ## MGMT (R263, R331, R369, R403) -/

/-- The registers that MGMT packets reach at a place: a site's by its core offset, another unit's by its register offset. -/
def unitOf : Place → RegUnit
  | .stop p => .site p
  | .stack k => .stack k
  | .die d => .die d
  | .gov g => .gov g
  | .mgmt _ => .mgmt

/-- A MGMT packet at its destination: AUX 0 writes payload [63:0] at ADDR, for the active management die alone (R39); AUX 2 reads, answered with AUX 3; AUX 1
reports STEP.DONE; AUX 4 returns a transit credit. The standby die's registers take no write and read as free values (log entries 2 and 10). -/
def State.mgmtPacket (s : State) (here : Place) (k : Packet) : State :=
  let u := unitOf here
  let off := k.addr.toNat
  let standby := here == .mgmt (!s.activeSouth)
  let me := s.selfId here k
  match k.aux.toNat with
  | 0 =>
    if k.tag ≠ 0xFE || k.src ≠ 0xF0 then s.nack here k 0x06 true
    else if standby then s
    else s.mgmtWrite u off (w64 (fld (k.payload.getD 0 ⟨0, false⟩).data 0 64))
  | 1 => if here = .mgmt s.activeSouth then s.doneReport k else s
  | 2 =>
    let v := if standby then Config.free64 s.free else s.unitRead u off
    let s := if standby then s.draw else s.regClear u off
    s.inject here { withPayload (mkPacket 0x25 k.src.toNat k.srcUnit.toNat me.1 me.2 (s.selfTag here k) k.seq.toNat)
      [⟨granOf (toBytes 8 v.toNat), false⟩] with aux := 3, addr := k.addr }
  | 4 => (match here with
      | .die d => s.creditBack d (if k.src = 0xF0 then 100 else k.srcUnit.toNat) off
      | _ => s)
  | _ => s

end Sys2Proof.Machine
end

