-- ==== Sys2Proof/Machine/PktRows.lean ====
section
/-! DEFINITION. The rows of the request plane's packets (R262-R274): a packet arrives whole at a place, and each place does with it what its type asks. -/

namespace Sys2Proof.Machine

/-- Whether a packet type is an answer (R262). -/
def isAnswer (t : Byte) : Bool := (0x10 ≤ t.toNat && t.toNat ≤ 0x13) || t == 0x20

/-- A row takes packets of its own type, and those of no listed type, which are malformed (R262, R263). -/
def State.packetRow (s : State) (here : Place) (k : Packet) (typ : Nat) (go : State → State) : Host.Outcome State Fault Refusal :=
  .next (if k.typ.toNat ≠ typ && (typeVC k.typ.toNat).isSome then s
    else if !wellFormedPkt k then (s.landed here k).malformed here k (s.flightSrc here k)
    else go s)

/-- A VC1 request at a core's stop: it is no longer in flight, and the attempts that shadow the core become inconclusive (R528). -/
def State.atStop (s : State) (p : Fin 168) (k : Packet) : State :=
  let s := s.landed (.stop p) k
  if k.dest.toNat < 144 then s.spoilSymps p else s

/-- A packet at a management die's side port: one for 0xF0 that reaches the die without the active role is sunk with CORE_RESET (R546), one for 0xF1 that writes
or reads is refused as R39 gives; an answer draws no NACK. -/
def State.atMgmt (s : State) (south : Bool) (k : Packet) (go : State → State) : State :=
  let here := Place.mgmt south
  let s := s.landed here k
  if isAnswer k.typ then (if south == s.activeSouth then go s else s)
  else if south == s.activeSouth then go s
  else if k.dest = 0xF0 then s.nack here k 0x04 false
  else if k.typ = 0x25 then go s
  else s.nack here k 0x06 true

/-- A request of a type that the place does not take (R39, R369): refused as an access violation. -/
def State.notTaken (s : State) (here : Place) (k : Packet) : State :=
  match here with
  | .stack x => s.stackOther x k
  | _ => (s.landed here k).nack here k 0x06 true

/-- An answer or a report at a place that has no use for it: a stack port refuses it (R369), any other place consumes it. -/
def State.unused (s : State) (here : Place) (k : Packet) : State :=
  match here with
  | .stack x => s.stackOther x k
  | _ => s.landed here k

/-- A packet type that only ring-stops take. -/
def State.stopOnly (s : State) (here : Place) (k : Packet) (go : Fin 168 → State → State) : State :=
  match here with
  | .stop p => go p (s.atStop p k)
  | _ => s.notTaken here k

/-- An answer to a core's request. -/
def State.answerTo (s : State) (here : Place) (k : Packet) (go : Fin 168 → State → State) : State :=
  match here with
  | .stop p => go p (s.landed here k)
  | _ => s.unused here k

/-- A report to the active management die. -/
def State.reportTo (s : State) (here : Place) (k : Packet) (go : State → State) : State :=
  match here with
  | .mgmt south => s.atMgmt south k go
  | _ => s.unused here k

/-! ## Requests on VC1 -/

/-- PKT_WRITE (R39, R182, R186, R272, R369, R411). -/
def execPktWrite (here : Place) (k : Packet) (s : State) : Host.Outcome State Fault Refusal :=
  s.packetRow here k 0x01 fun s => match here with
    | .stop p => (s.atStop p k).stopWrite p k
    | .stack x => s.stackWrite x k
    | .die d => (s.landed here k).dieWritten d k false
    | .gov _ => s.notTaken here k
    | .mgmt south => s.atMgmt south k fun s => s.apertureWrite here k

/-- PKT_READ_REQ (R182, R186, R272, R369). -/
def execPktReadReq (here : Place) (k : Packet) (s : State) : Host.Outcome State Fault Refusal :=
  s.packetRow here k 0x02 fun s => match here with
    | .stop p => (s.atStop p k).stopRead p k
    | .stack x => s.stackRead x k
    | .mgmt south => s.atMgmt south k fun s => s.apertureRead here k
    | _ => s.notTaken here k

/-- PKT_PUT (R306-R309). -/
def execPktPut (here : Place) (k : Packet) (s : State) : Host.Outcome State Fault Refusal :=
  s.packetRow here k 0x03 fun s => s.stopOnly here k fun p s => s.stopPut p k

/-- PKT_MSG (R293). -/
def execPktMsg (here : Place) (k : Packet) (s : State) : Host.Outcome State Fault Refusal :=
  s.packetRow here k 0x04 fun s => s.stopOnly here k fun p s => s.stopMsg p k

/-- PKT_REDUCE (R278, R411). -/
def execPktReduce (here : Place) (k : Packet) (s : State) : Host.Outcome State Fault Refusal :=
  s.packetRow here k 0x05 fun s => match here with
    | .stop p => (s.atStop p k).stopReduce p k
    | .die d => (s.landed here k).dieWritten d k true
    | _ => s.notTaken here k

/-- PKT_CHAN_OPEN (R296). -/
def execPktChanOpen (here : Place) (k : Packet) (s : State) : Host.Outcome State Fault Refusal :=
  s.packetRow here k 0x06 fun s => s.stopOnly here k fun p s => s.stopChanOpen p k

/-- PKT_CHAN_CLOSE (R303). -/
def execPktChanClose (here : Place) (k : Packet) (s : State) : Host.Outcome State Fault Refusal :=
  s.packetRow here k 0x07 fun s => s.stopOnly here k fun p s => s.stopChanClose p k

/-- PKT_TRANSIT (R402, R403, R406). -/
def execPktTransit (here : Place) (k : Packet) (s : State) : Host.Outcome State Fault Refusal :=
  s.packetRow here k 0x08 fun s => match here with
    | .die d => (s.landed here k).dieTransit d k
    | .mgmt south => s.atMgmt south k fun s => s.mgmtTransit here k
    | _ => s.notTaken here k

/-- PKT_ROW_WRITE (R170, R522). -/
def execPktRowWrite (here : Place) (k : Packet) (s : State) : Host.Outcome State Fault Refusal :=
  s.packetRow here k 0x09 fun s => s.stopOnly here k fun p s => s.stopRowWrite p k

/-! ## Answers -/

/-- PKT_READ_RESP (R184, R262). -/
def execPktReadResp (here : Place) (k : Packet) (s : State) : Host.Outcome State Fault Refusal :=
  s.packetRow here k 0x10 fun s => s.answerTo here k fun p s => s.stopReadResp p k

/-- PKT_ACK (R187, R294, R348, R407, R413). -/
def execPktAck (here : Place) (k : Packet) (s : State) : Host.Outcome State Fault Refusal :=
  s.packetRow here k 0x11 fun s => match here with
    | .die d => (s.landed here k).dieAnswer d k false
    | .mgmt south => s.atMgmt south k fun s => s.inputAcked k
    | _ => s.answerTo here k fun p s => s.stopAck p k

/-- PKT_CHAN_ACCEPT (R296). -/
def execPktChanAccept (here : Place) (k : Packet) (s : State) : Host.Outcome State Fault Refusal :=
  s.packetRow here k 0x12 fun s => s.answerTo here k fun p s => s.stopAccept p k

/-- PKT_CHAN_CLOSED (R303). -/
def execPktChanClosed (here : Place) (k : Packet) (s : State) : Host.Outcome State Fault Refusal :=
  s.packetRow here k 0x13 fun s => s.answerTo here k fun p s => s.stopClosed p k

/-- PKT_NACK (R187, R264, R299, R348, R407, R519). -/
def execPktNack (here : Place) (k : Packet) (s : State) : Host.Outcome State Fault Refusal :=
  s.packetRow here k 0x20 fun s => match here with
    | .die d => (s.landed here k).dieAnswer d k true
    | .mgmt south => s.atMgmt south k fun s => s.inputNacked k
    | _ => s.answerTo here k fun p s => s.stopNack p k

/-! ## Control traffic on VC0 -/

/-- PKT_BAR_ARRIVE (R281, R284). -/
def execPktBarArrive (here : Place) (k : Packet) (s : State) : Host.Outcome State Fault Refusal :=
  s.packetRow here k 0x21 fun s => s.answerTo here k fun p s => s.stopBarArrive p k

/-- PKT_BAR_RELEASE (R282, R284). -/
def execPktBarRelease (here : Place) (k : Packet) (s : State) : Host.Outcome State Fault Refusal :=
  s.packetRow here k 0x22 fun s => s.answerTo here k fun p s => s.stopBarRelease p k

/-- PKT_BAR_REPORT (R283, R532). -/
def execPktBarReport (here : Place) (k : Packet) (s : State) : Host.Outcome State Fault Refusal :=
  s.packetRow here k 0x23 fun s => s.reportTo here k fun s => s.barReport k

/-- PKT_ABORT (R402, R405, R416): at a port die a control frame or an abort of a collective there, at the management die a collective's report; a stop or
governor consumes it. -/
def execPktAbort (here : Place) (k : Packet) (s : State) : Host.Outcome State Fault Refusal :=
  s.packetRow here k 0x24 fun s => match here with
    | .die d => (s.landed here k).dieAbort d k
    | _ => s.reportTo here k fun s => s.abortReport k

/-- PKT_MGMT (R39, R263, R331, R369, R403). -/
def execPktMgmt (here : Place) (k : Packet) (s : State) : Host.Outcome State Fault Refusal :=
  s.packetRow here k 0x25 fun s => match here with
    | .mgmt south => s.atMgmt south k fun s => s.mgmtPacket here k
    | _ => (s.landed here k).mgmtPacket here k

/-- PKT_STEP_FAIL (R250). -/
def execPktStepFail (here : Place) (k : Packet) (s : State) : Host.Outcome State Fault Refusal :=
  s.packetRow here k 0x26 fun s => s.reportTo here k fun s => s.stepFailReport k

/-- PKT_DRAIN_REPORT (R274). -/
def execPktDrainReport (here : Place) (k : Packet) (s : State) : Host.Outcome State Fault Refusal :=
  s.packetRow here k 0x27 fun s => s.reportTo here k fun s => s.drainReported k

end Sys2Proof.Machine
end

