-- ==== Sys2Proof/Machine/Dispatch.lean ====
section
/-! DEFINITION. The dispatch of the commands: one arm per constructor of Instr, each one direct call of its meaning. -/

namespace Sys2Proof.Machine

/-- The effect of a command on everything but the queue. -/
def exec (i : Instr) (s : State) : Host.Outcome State Fault Refusal :=
  match i with
  | .add p rd rs1 rs2 => Sys2Proof.Machine.execAdd p rd rs1 rs2 s
  | .sub p rd rs1 rs2 => Sys2Proof.Machine.execSub p rd rs1 rs2 s
  | .mul p rd rs1 rs2 => Sys2Proof.Machine.execMul p rd rs1 rs2 s
  | .mulhu p rd rs1 rs2 => Sys2Proof.Machine.execMulhu p rd rs1 rs2 s
  | .and p rd rs1 rs2 => Sys2Proof.Machine.execAnd p rd rs1 rs2 s
  | .or p rd rs1 rs2 => Sys2Proof.Machine.execOr p rd rs1 rs2 s
  | .xor p rd rs1 rs2 => Sys2Proof.Machine.execXor p rd rs1 rs2 s
  | .shl p rd rs1 rs2 => Sys2Proof.Machine.execShl p rd rs1 rs2 s
  | .shr p rd rs1 rs2 => Sys2Proof.Machine.execShr p rd rs1 rs2 s
  | .sar p rd rs1 rs2 => Sys2Proof.Machine.execSar p rd rs1 rs2 s
  | .cmp p pd rs1 rs2 cond => Sys2Proof.Machine.execCmp p pd rs1 rs2 cond s
  | .sel p rd rs1 rs2 ps => Sys2Proof.Machine.execSel p rd rs1 rs2 ps s
  | .pset p pd pa pb op => Sys2Proof.Machine.execPset p pd pa pb op s
  | .addi p rd rs1 imm => Sys2Proof.Machine.execAddi p rd rs1 imm s
  | .andi p rd rs1 imm => Sys2Proof.Machine.execAndi p rd rs1 imm s
  | .ori p rd rs1 imm => Sys2Proof.Machine.execOri p rd rs1 imm s
  | .xori p rd rs1 imm => Sys2Proof.Machine.execXori p rd rs1 imm s
  | .shli p rd rs1 sh => Sys2Proof.Machine.execShli p rd rs1 sh s
  | .shri p rd rs1 sh => Sys2Proof.Machine.execShri p rd rs1 sh s
  | .sari p rd rs1 sh => Sys2Proof.Machine.execSari p rd rs1 sh s
  | .cmpi p pd rs1 imm cond => Sys2Proof.Machine.execCmpi p pd rs1 imm cond s
  | .lui p rd imm => Sys2Proof.Machine.execLui p rd imm s
  | .jal p rd imm => Sys2Proof.Machine.execJal p rd imm s
  | .jalr p rd rs1 imm => Sys2Proof.Machine.execJalr p rd rs1 imm s
  | .bp p ps imm => Sys2Proof.Machine.execBp p ps imm s
  | .bnp p ps imm => Sys2Proof.Machine.execBnp p ps imm s
  | .bs p test sum imm => Sys2Proof.Machine.execBs p test sum imm s
  | .ld8u p rd rs1 imm => Sys2Proof.Machine.execLd8u p rd rs1 imm s
  | .ld8s p rd rs1 imm => Sys2Proof.Machine.execLd8s p rd rs1 imm s
  | .ld16u p rd rs1 imm => Sys2Proof.Machine.execLd16u p rd rs1 imm s
  | .ld16s p rd rs1 imm => Sys2Proof.Machine.execLd16s p rd rs1 imm s
  | .ld32u p rd rs1 imm => Sys2Proof.Machine.execLd32u p rd rs1 imm s
  | .ld32s p rd rs1 imm => Sys2Proof.Machine.execLd32s p rd rs1 imm s
  | .ld64 p rd rs1 imm => Sys2Proof.Machine.execLd64 p rd rs1 imm s
  | .st8 p rs2 rs1 imm => Sys2Proof.Machine.execSt8 p rs2 rs1 imm s
  | .st16 p rs2 rs1 imm => Sys2Proof.Machine.execSt16 p rs2 rs1 imm s
  | .st32 p rs2 rs1 imm => Sys2Proof.Machine.execSt32 p rs2 rs1 imm s
  | .st64 p rs2 rs1 imm => Sys2Proof.Machine.execSt64 p rs2 rs1 imm s
  | .crr p rd num => Sys2Proof.Machine.execCrr p rd num s
  | .crw p rs1 num => Sys2Proof.Machine.execCrw p rs1 num s
  | .eret p => Sys2Proof.Machine.execEret p s
  | .fence p => Sys2Proof.Machine.execFence p s
  | .issueMe p rd rs1 => Sys2Proof.Machine.execIssueMe p rd rs1 s
  | .issueVe p rd rs1 => Sys2Proof.Machine.execIssueVe p rd rs1 s
  | .issueMv p rd rs1 ring => Sys2Proof.Machine.execIssueMv p rd rs1 ring s
  | .wait p pd rs1 eng ring => Sys2Proof.Machine.execWait p pd rs1 eng ring s
  | .chanOpen p rd rs1 => Sys2Proof.Machine.execChanOpen p rd rs1 s
  | .chanSend p rd rs1 rs2 => Sys2Proof.Machine.execChanSend p rd rs1 rs2 s
  | .chanSendBlock p rd rs1 rs2 => Sys2Proof.Machine.execChanSendBlock p rd rs1 rs2 s
  | .chanClose p rd rs1 => Sys2Proof.Machine.execChanClose p rd rs1 s
  | .winOpen p rd rs1 rs2 win => Sys2Proof.Machine.execWinOpen p rd rs1 rs2 win s
  | .winClose p rd win => Sys2Proof.Machine.execWinClose p rd win s
  | .qWp p rd q wait => Sys2Proof.Machine.execQWp p rd q wait s
  | .qAdv p rs1 q => Sys2Proof.Machine.execQAdv p rs1 q s
  | .barArrive p rd inst => Sys2Proof.Machine.execBarArrive p rd inst s
  | .barWait p rs1 inst => Sys2Proof.Machine.execBarWait p rs1 inst s
  | .fretHint p clear fret => Sys2Proof.Machine.execFretHint p clear fret s
  | .dlSetSendBudget p rs1 => Sys2Proof.Machine.execDlSetSendBudget p rs1 s
  | .dlSetStepDeadline p rs1 => Sys2Proof.Machine.execDlSetStepDeadline p rs1 s
  | .stepWait p rd => Sys2Proof.Machine.execStepWait p rd s
  | .stepDone p => Sys2Proof.Machine.execStepDone p s
  | .illegalInstruction p uncorrectable => Sys2Proof.Machine.execIllegalInstruction p uncorrectable s
  | .exceptionEntry p => Sys2Proof.Machine.execExceptionEntry p s
  | .ccStepDeadlineExpiry p => Sys2Proof.Machine.execCcStepDeadlineExpiry p s
  | .meLoadTile p => Sys2Proof.Machine.execMeLoadTile p s
  | .meGemmWs p => Sys2Proof.Machine.execMeGemmWs p s
  | .meGemvStream p => Sys2Proof.Machine.execMeGemvStream p s
  | .meDrain p => Sys2Proof.Machine.execMeDrain p s
  | .meSync p => Sys2Proof.Machine.execMeSync p s
  | .meDescComplete p => Sys2Proof.Machine.execMeDescComplete p s
  | .meAbort p => Sys2Proof.Machine.execMeAbort p s
  | .meClearFault p => Sys2Proof.Machine.execMeClearFault p s
  | .veFill p => Sys2Proof.Machine.execVeFill p s
  | .veEvict p => Sys2Proof.Machine.execVeEvict p s
  | .veChain p => Sys2Proof.Machine.execVeChain p s
  | .veLoadTable p => Sys2Proof.Machine.execVeLoadTable p s
  | .veSync p => Sys2Proof.Machine.execVeSync p s
  | .veDescComplete p => Sys2Proof.Machine.execVeDescComplete p s
  | .veAbort p => Sys2Proof.Machine.execVeAbort p s
  | .veClearFault p => Sys2Proof.Machine.execVeClearFault p s
  | .veSumWrite p n v => Sys2Proof.Machine.execVeSumWrite p n v s
  | .mvCopyOut p ring => Sys2Proof.Machine.execMvCopyOut p ring s
  | .mvCopyIn p ring => Sys2Proof.Machine.execMvCopyIn p ring s
  | .mvHostOut p ring => Sys2Proof.Machine.execMvHostOut p ring s
  | .mvHostIn p ring => Sys2Proof.Machine.execMvHostIn p ring s
  | .mvFill p ring => Sys2Proof.Machine.execMvFill p ring s
  | .mvZero p ring => Sys2Proof.Machine.execMvZero p ring s
  | .mvRowCopy p ring => Sys2Proof.Machine.execMvRowCopy p ring s
  | .mvSync p ring => Sys2Proof.Machine.execMvSync p ring s
  | .mvDescComplete p ring => Sys2Proof.Machine.execMvDescComplete p ring s
  | .mvMgmtIssue p offset => Sys2Proof.Machine.execMvMgmtIssue p offset s
  | .mvAbort p ring => Sys2Proof.Machine.execMvAbort p ring s
  | .mvClearFault p ring => Sys2Proof.Machine.execMvClearFault p ring s
  | .mvResend p ring => Sys2Proof.Machine.execMvResend p ring s
  | .regAdv p region head amount => Sys2Proof.Machine.execRegAdv p region head amount s
  | .scrubLineRead p => Sys2Proof.Machine.execScrubLineRead p s
  | .scrubBehind p => Sys2Proof.Machine.execScrubBehind p s
  | .writeBack p => Sys2Proof.Machine.execWriteBack p s
  | .watchEntryExpiry p n => Sys2Proof.Machine.execWatchEntryExpiry p n s
  | .remapAdd p die bank row => Sys2Proof.Machine.execRemapAdd p die bank row s
  | .killClearComplete p => Sys2Proof.Machine.execKillClearComplete p s
  | .frameMark => Sys2Proof.Machine.execFrameMark s
  | .slotPass p course slot crcError => Sys2Proof.Machine.execSlotPass p course slot crcError s
  | .slotInject p course slot crcError => Sys2Proof.Machine.execSlotInject p course slot crcError s
  | .slotExtract p course slot crcError => Sys2Proof.Machine.execSlotExtract p course slot crcError s
  | .slotDropContinue p course slot crcError => Sys2Proof.Machine.execSlotDropContinue p course slot crcError s
  | .slotReduceAdd p course slot crcError => Sys2Proof.Machine.execSlotReduceAdd p course slot crcError s
  | .slotTurn p course slot crcError => Sys2Proof.Machine.execSlotTurn p course slot crcError s
  | .slotTurnIn p course slot crcError => Sys2Proof.Machine.execSlotTurnIn p course slot crcError s
  | .feedLineFetch p buf => Sys2Proof.Machine.execFeedLineFetch p buf s
  | .landFlitWrite p buf => Sys2Proof.Machine.execLandFlitWrite p buf s
  | .linkNakReplay p track ackSeq => Sys2Proof.Machine.execLinkNakReplay p track ackSeq s
  | .pktWrite here pkt => Sys2Proof.Machine.execPktWrite here pkt s
  | .pktReadReq here pkt => Sys2Proof.Machine.execPktReadReq here pkt s
  | .pktPut here pkt => Sys2Proof.Machine.execPktPut here pkt s
  | .pktMsg here pkt => Sys2Proof.Machine.execPktMsg here pkt s
  | .pktReduce here pkt => Sys2Proof.Machine.execPktReduce here pkt s
  | .pktChanOpen here pkt => Sys2Proof.Machine.execPktChanOpen here pkt s
  | .pktChanClose here pkt => Sys2Proof.Machine.execPktChanClose here pkt s
  | .pktTransit here pkt => Sys2Proof.Machine.execPktTransit here pkt s
  | .pktRowWrite here pkt => Sys2Proof.Machine.execPktRowWrite here pkt s
  | .pktReadResp here pkt => Sys2Proof.Machine.execPktReadResp here pkt s
  | .pktAck here pkt => Sys2Proof.Machine.execPktAck here pkt s
  | .pktChanAccept here pkt => Sys2Proof.Machine.execPktChanAccept here pkt s
  | .pktChanClosed here pkt => Sys2Proof.Machine.execPktChanClosed here pkt s
  | .pktNack here pkt => Sys2Proof.Machine.execPktNack here pkt s
  | .pktBarArrive here pkt => Sys2Proof.Machine.execPktBarArrive here pkt s
  | .pktBarRelease here pkt => Sys2Proof.Machine.execPktBarRelease here pkt s
  | .pktBarReport here pkt => Sys2Proof.Machine.execPktBarReport here pkt s
  | .pktAbort here pkt => Sys2Proof.Machine.execPktAbort here pkt s
  | .pktMgmt here pkt => Sys2Proof.Machine.execPktMgmt here pkt s
  | .pktStepFail here pkt => Sys2Proof.Machine.execPktStepFail here pkt s
  | .pktDrainReport here pkt => Sys2Proof.Machine.execPktDrainReport here pkt s
  | .wormTruncate p => Sys2Proof.Machine.execWormTruncate p s
  | .epochDrainSlow => Sys2Proof.Machine.execEpochDrainSlow s
  | .msgAbandoned p ch => Sys2Proof.Machine.execMsgAbandoned p ch s
  | .channelResend p ctx => Sys2Proof.Machine.execChannelResend p ctx s
  | .sendBudgetExpiry p ctx => Sys2Proof.Machine.execSendBudgetExpiry p ctx s
  | .stepArm part => Sys2Proof.Machine.execStepArm part s
  | .commitPoint part => Sys2Proof.Machine.execCommitPoint part s
  | .lbTimerExpiry part => Sys2Proof.Machine.execLbTimerExpiry part s
  | .stepReplay part => Sys2Proof.Machine.execStepReplay part s
  | .serviceDoorbell ring prod cons => Sys2Proof.Machine.execServiceDoorbell ring prod cons s
  | .serviceRequestFetch ring => Sys2Proof.Machine.execServiceRequestFetch ring s
  | .serviceInputSend part => Sys2Proof.Machine.execServiceInputSend part s
  | .serviceOutputRead part => Sys2Proof.Machine.execServiceOutputRead part s
  | .serviceResponsePost ring => Sys2Proof.Machine.execServiceResponsePost ring s
  | .requestDeadlineExpiry part req => Sys2Proof.Machine.execRequestDeadlineExpiry part req s
  | .requestQueueHead part => Sys2Proof.Machine.execRequestQueueHead part s
  | .warmHoldExpiry part => Sys2Proof.Machine.execWarmHoldExpiry part s
  | .svcReassemblyTimeout die panel msgId => Sys2Proof.Machine.execSvcReassemblyTimeout die panel msgId s
  | .stackTempReadout k temp => Sys2Proof.Machine.execStackTempReadout k temp s
  | .stackRecalFailure k => Sys2Proof.Machine.execStackRecalFailure k s
  | .stackRefresh k => Sys2Proof.Machine.execStackRefresh k s
  | .spillRemapComplete k n => Sys2Proof.Machine.execSpillRemapComplete k n s
  | .spillWriteBack k => Sys2Proof.Machine.execSpillWriteBack k s
  | .spillClearComplete k n => Sys2Proof.Machine.execSpillClearComplete k n s
  | .frameIdle port f => Sys2Proof.Machine.execFrameIdle port f s
  | .frameIdent port f => Sys2Proof.Machine.execFrameIdent port f s
  | .frameTimeSync port f => Sys2Proof.Machine.execFrameTimeSync port f s
  | .frameTimeReply port f => Sys2Proof.Machine.execFrameTimeReply port f s
  | .frameAbort port f => Sys2Proof.Machine.execFrameAbort port f s
  | .frameCollUp port f => Sys2Proof.Machine.execFrameCollUp port f s
  | .frameCollDown port f => Sys2Proof.Machine.execFrameCollDown port f s
  | .frameSvcRequest port f => Sys2Proof.Machine.execFrameSvcRequest port f s
  | .frameSvcResponse port f => Sys2Proof.Machine.execFrameSvcResponse port f s
  | .frameSvcOutput port f => Sys2Proof.Machine.execFrameSvcOutput port f s
  | .frameBulkWrite port f => Sys2Proof.Machine.execFrameBulkWrite port f s
  | .ihlyxReplay port => Sys2Proof.Machine.execIhlyxReplay port s
  | .portLossOfLock port lane => Sys2Proof.Machine.execPortLossOfLock port lane s
  | .portSilent port => Sys2Proof.Machine.execPortSilent port s
  | .portTrainTimeout port => Sys2Proof.Machine.execPortTrainTimeout port s
  | .portRetrainTimer port => Sys2Proof.Machine.execPortRetrainTimer port s
  | .portIdleSend port => Sys2Proof.Machine.execPortIdleSend port s
  | .timeSyncSend port => Sys2Proof.Machine.execTimeSyncSend port s
  | .podTimeUnlockTimeout die => Sys2Proof.Machine.execPodTimeUnlockTimeout die s
  | .egressTimeout port => Sys2Proof.Machine.execEgressTimeout port s
  | .clkTargetWrite p fret => Sys2Proof.Machine.execClkTargetWrite p fret s
  | .clkLimitsWrite p capo ceiling => Sys2Proof.Machine.execClkLimitsWrite p capo ceiling s
  | .railSetPointReached g => Sys2Proof.Machine.execRailSetPointReached g s
  | .idlePllLocked p => Sys2Proof.Machine.execIdlePllLocked p s
  | .fretSwitch p => Sys2Proof.Machine.execFretSwitch p s
  | .droopAssert g => Sys2Proof.Machine.execDroopAssert g s
  | .droopDeassert g => Sys2Proof.Machine.execDroopDeassert g s
  | .damperHoldExpiry g => Sys2Proof.Machine.execDamperHoldExpiry g s
  | .damperRecoverExpiry g => Sys2Proof.Machine.execDamperRecoverExpiry g s
  | .pllUnlock p pllB => Sys2Proof.Machine.execPllUnlock p pllB s
  | .fabricPllUnlock p => Sys2Proof.Machine.execFabricPllUnlock p s
  | .droneRefLost => Sys2Proof.Machine.execDroneRefLost s
  | .droneRefValid => Sys2Proof.Machine.execDroneRefValid s
  | .capoMeasure p capo => Sys2Proof.Machine.execCapoMeasure p capo s
  | .feedConnect b => Sys2Proof.Machine.execFeedConnect b s
  | .feedDisconnect b => Sys2Proof.Machine.execFeedDisconnect b s
  | .inputLow => Sys2Proof.Machine.execInputLow s
  | .inputRecovered => Sys2Proof.Machine.execInputRecovered s
  | .inputLowTimeout => Sys2Proof.Machine.execInputLowTimeout s
  | .inputOff => Sys2Proof.Machine.execInputOff s
  | .stoppedRestart => Sys2Proof.Machine.execStoppedRestart s
  | .energyMeterSample b mv ma => Sys2Proof.Machine.execEnergyMeterSample b mv ma s
  | .phaseFailed g phase => Sys2Proof.Machine.execPhaseFailed g phase s
  | .connectionFault p => Sys2Proof.Machine.execConnectionFault p s
  | .govClearConn g mask => Sys2Proof.Machine.execGovClearConn g mask s
  | .fabricRailLost g => Sys2Proof.Machine.execFabricRailLost g s
  | .capAverageTick => Sys2Proof.Machine.execCapAverageTick s
  | .capLearnTick => Sys2Proof.Machine.execCapLearnTick s
  | .capGrant => Sys2Proof.Machine.execCapGrant s
  | .phaseCeilingIssue part => Sys2Proof.Machine.execPhaseCeilingIssue part s
  | .sensorRead p r => Sys2Proof.Machine.execSensorRead p r s
  | .thermalLoopTick g => Sys2Proof.Machine.execThermalLoopTick g s
  | .coolOkLow => Sys2Proof.Machine.execCoolOkLow s
  | .riseConditionTick => Sys2Proof.Machine.execRiseConditionTick s
  | .coolantShutdown => Sys2Proof.Machine.execCoolantShutdown s
  | .powerOnStart => Sys2Proof.Machine.execPowerOnStart s
  | .bringupStepComplete => Sys2Proof.Machine.execBringupStepComplete s
  | .panelRstAssert => Sys2Proof.Machine.execPanelRstAssert s
  | .panelRstRelease => Sys2Proof.Machine.execPanelRstRelease s
  | .perstAssert k => Sys2Proof.Machine.execPerstAssert k s
  | .functionLevelReset => Sys2Proof.Machine.execFunctionLevelReset s
  | .coreReset p => Sys2Proof.Machine.execCoreReset p s
  | .coreRestart p => Sys2Proof.Machine.execCoreRestart p s
  | .coreQuiesce p => Sys2Proof.Machine.execCoreQuiesce p s
  | .coreUnquiesce p => Sys2Proof.Machine.execCoreUnquiesce p s
  | .sympQualStart p => Sys2Proof.Machine.execSympQualStart p s
  | .sympQualEnd p => Sys2Proof.Machine.execSympQualEnd p s
  | .selfQualification p pass => Sys2Proof.Machine.execSelfQualification p pass s
  | .fmWaitExpiry => Sys2Proof.Machine.execFmWaitExpiry s
  | .heartbeatSend => Sys2Proof.Machine.execHeartbeatSend s
  | .heartbeatLoss => Sys2Proof.Machine.execHeartbeatLoss s
  | .journalRecord => Sys2Proof.Machine.execJournalRecord s
  | .sessionIdleTimeout session => Sys2Proof.Machine.execSessionIdleTimeout session s
  | .eventRecordDelivery ring => Sys2Proof.Machine.execEventRecordDelivery ring s
  | .eventConsumerWrite ring cons => Sys2Proof.Machine.execEventConsumerWrite ring cons s
  | .eventNotifySend session => Sys2Proof.Machine.execEventNotifySend session s
  | .eventNotifyResend session => Sys2Proof.Machine.execEventNotifyResend session s
  | .debugEnDeassert => Sys2Proof.Machine.execDebugEnDeassert s
  | .tapInstruction ir => Sys2Proof.Machine.execTapInstruction ir s
  | .registerWrite m u off v => Sys2Proof.Machine.execRegisterWrite m u off v s
  | .readClear m u off => Sys2Proof.Machine.execReadClear m u off s
  | .identify c => Sys2Proof.Machine.execIdentify c s
  | .status c => Sys2Proof.Machine.execStatus c s
  | .start c => Sys2Proof.Machine.execStart c s
  | .roleHandover c => Sys2Proof.Machine.execRoleHandover c s
  | .netConfig c => Sys2Proof.Machine.execNetConfig c s
  | .eventRingSet c => Sys2Proof.Machine.execEventRingSet c s
  | .eventRead c => Sys2Proof.Machine.execEventRead c s
  | .eventAck c => Sys2Proof.Machine.execEventAck c s
  | .eventSubscribe c => Sys2Proof.Machine.execEventSubscribe c s
  | .eventConfirm c => Sys2Proof.Machine.execEventConfirm c s
  | .tabLoad c => Sys2Proof.Machine.execTabLoad c s
  | .tabUnload c => Sys2Proof.Machine.execTabUnload c s
  | .tabList c => Sys2Proof.Machine.execTabList c s
  | .partCreate c => Sys2Proof.Machine.execPartCreate c s
  | .partDelete c => Sys2Proof.Machine.execPartDelete c s
  | .partBind c => Sys2Proof.Machine.execPartBind c s
  | .partUnbind c => Sys2Proof.Machine.execPartUnbind c s
  | .partAbort c => Sys2Proof.Machine.execPartAbort c s
  | .partKillClear c => Sys2Proof.Machine.execPartKillClear c s
  | .partKillHold c => Sys2Proof.Machine.execPartKillHold c s
  | .partRelease c => Sys2Proof.Machine.execPartRelease c s
  | .heldRead c => Sys2Proof.Machine.execHeldRead c s
  | .partStatus c => Sys2Proof.Machine.execPartStatus c s
  | .stepHashRead c => Sys2Proof.Machine.execStepHashRead c s
  | .svcRingSet c => Sys2Proof.Machine.execSvcRingSet c s
  | .svcRingEnable c => Sys2Proof.Machine.execSvcRingEnable c s
  | .svcEnable c => Sys2Proof.Machine.execSvcEnable c s
  | .svcDisable c => Sys2Proof.Machine.execSvcDisable c s
  | .svcPolicy c => Sys2Proof.Machine.execSvcPolicy c s
  | .memRead c => Sys2Proof.Machine.execMemRead c s
  | .memWrite c => Sys2Proof.Machine.execMemWrite c s
  | .dmaIn c => Sys2Proof.Machine.execDmaIn c s
  | .dmaOut c => Sys2Proof.Machine.execDmaOut c s
  | .apertureSet c => Sys2Proof.Machine.execApertureSet c s
  | .bulkSend c => Sys2Proof.Machine.execBulkSend c s
  | .powerPolicy c => Sys2Proof.Machine.execPowerPolicy c s
  | .coolResume c => Sys2Proof.Machine.execCoolResume c s
  | .thermalClear c => Sys2Proof.Machine.execThermalClear c s
  | .energyRead c => Sys2Proof.Machine.execEnergyRead c s
  | .mciResetCore c => Sys2Proof.Machine.execMciResetCore c s
  | .mciResetRegion c => Sys2Proof.Machine.execMciResetRegion c s
  | .mciResetPartition c => Sys2Proof.Machine.execMciResetPartition c s
  | .mciResetCompute c => Sys2Proof.Machine.execMciResetCompute c s
  | .mciResetPanel c => Sys2Proof.Machine.execMciResetPanel c s
  | .retire c => Sys2Proof.Machine.execRetire c s
  | .faultClear c => Sys2Proof.Machine.execFaultClear c s
  | .migrate c => Sys2Proof.Machine.execMigrate c s
  | .placementResume c => Sys2Proof.Machine.execPlacementResume c s
  | .placementHold c => Sys2Proof.Machine.execPlacementHold c s
  | .placementRelease c => Sys2Proof.Machine.execPlacementRelease c s
  | .faultPolicy c => Sys2Proof.Machine.execFaultPolicy c s
  | .wayStage c => Sys2Proof.Machine.execWayStage c s
  | .epochFlip c => Sys2Proof.Machine.execEpochFlip c s
  | .frameLen c => Sys2Proof.Machine.execFrameLen c s
  | .fabricRestart c => Sys2Proof.Machine.execFabricRestart c s
  | .stackRetrain c => Sys2Proof.Machine.execStackRetrain c s
  | .hopSet c => Sys2Proof.Machine.execHopSet c s
  | .panelId c => Sys2Proof.Machine.execPanelId c s
  | .routeSet c => Sys2Proof.Machine.execRouteSet c s
  | .portControl c => Sys2Proof.Machine.execPortControl c s
  | .portDisable c => Sys2Proof.Machine.execPortDisable c s
  | .portEnable c => Sys2Proof.Machine.execPortEnable c s
  | .portRetrain c => Sys2Proof.Machine.execPortRetrain c s
  | .topology c => Sys2Proof.Machine.execTopology c s
  | .timeMaster c => Sys2Proof.Machine.execTimeMaster c s
  | .collBind c => Sys2Proof.Machine.execCollBind c s
  | .collMembers c => Sys2Proof.Machine.execCollMembers c s
  | .collUnbind c => Sys2Proof.Machine.execCollUnbind c s
  | .collAbort c => Sys2Proof.Machine.execCollAbort c s
  | .collLateness c => Sys2Proof.Machine.execCollLateness c s
  | .svcPeers c => Sys2Proof.Machine.execSvcPeers c s
  | .bulkAperture c => Sys2Proof.Machine.execBulkAperture c s
  | .freezeRelease c => Sys2Proof.Machine.execFreezeRelease c s
  | .sessionOpen c => Sys2Proof.Machine.execSessionOpen c s
  | .sessionClose c => Sys2Proof.Machine.execSessionClose c s
  | .enrol c => Sys2Proof.Machine.execEnrol c s
  | .keyInstall c => Sys2Proof.Machine.execKeyInstall c s
  | .keyRevoke c => Sys2Proof.Machine.execKeyRevoke c s
  | .secPolicy c => Sys2Proof.Machine.execSecPolicy c s
  | .debugUnlock c => Sys2Proof.Machine.execDebugUnlock c s
  | .fwStage c => Sys2Proof.Machine.execFwStage c s
  | .fwActivate c => Sys2Proof.Machine.execFwActivate c s
  | .fwStatus c => Sys2Proof.Machine.execFwStatus c s
  | .fwRecover c => Sys2Proof.Machine.execFwRecover c s
  | .mciBadOpcode opcode c => Sys2Proof.Machine.execMciBadOpcode opcode c s
  | .coolOkHigh => Sys2Proof.Machine.execCoolOkHigh s
  | .fabricPllRelock p => Sys2Proof.Machine.execFabricPllRelock p s
  | .rqFlitCrcError p track => Sys2Proof.Machine.execRqFlitCrcError p track s
  | .frameCrcError port => Sys2Proof.Machine.execFrameCrcError port s
  | .firmwareFaultReport => Sys2Proof.Machine.execFirmwareFaultReport s
  | .debugEnAssert => Sys2Proof.Machine.execDebugEnAssert s
  | .qualificationExpiry p => Sys2Proof.Machine.execQualificationExpiry p s
  | .droneUp => Sys2Proof.Machine.execDroneUp s
  | .perstRelease k => Sys2Proof.Machine.execPerstRelease k s

end Sys2Proof.Machine
end

