-- ==== Sys2Proof/Machine/Step.lean ====
section
/-! DEFINITION. One step of the block: the command at the front of the queue is carried out with the queue's rest; on an empty queue one
tick of the drone passes (log entry 3). -/

namespace Sys2Proof.Machine

/-- Panel time advances one tick of 10 ns while the drone is up (R18, R424). -/
def State.tick (s : State) : State := { s with time := if s.droneUp then s.time + 1 else s.time }

/-- One step. -/
def step (s : State) : Host.Outcome State Fault Refusal :=
  match s.pending with
  | c :: rest => exec c { s with pending := rest }
  | [] => .next s.tick

/-- The state with the command that a word spells put at the front of its queue; unchanged where the word spells none, as every word does. -/
def State.withFetchWord (s : State) (nbits w : Nat) : State :=
  match decodeTableWord nbits w with
  | some c => { s with pending := c :: s.pending }
  | none => s

end Sys2Proof.Machine
end

