-- ==== Sys2Proof/WellFormed.lean ====
section
/-! DEFINITION. Which commands are well formed: the checks that the types of their operands do not make. A command that fails one is no command of
its row. -/

namespace Sys2Proof

/-- The packet types that the spec lists (R263). -/
def packetTypes : List Nat :=
  [0x01, 0x02, 0x03, 0x04, 0x05, 0x06, 0x07, 0x08, 0x09, 0x10, 0x11, 0x12, 0x13, 0x20, 0x21, 0x22, 0x23, 0x24, 0x25, 0x26, 0x27]

/-- The frame types that the spec lists (R390). -/
def frameTypes : List Nat := [0x00, 0x01, 0x02, 0x03, 0x04, 0x40, 0x41, 0x80, 0x81, 0x82, 0xC0]

/-- The MCI opcodes that the spec lists (R559-R568). -/
def mciOpcodes : List Nat :=
  [0x0001, 0x0002, 0x0003, 0x0004, 0x0005, 0x0010, 0x0011, 0x0012, 0x0013, 0x0014, 0x0015, 0x0101, 0x0102, 0x0103,
   0x0201, 0x0202, 0x0203, 0x0204, 0x0205, 0x0206, 0x0207, 0x0208, 0x0209, 0x020A, 0x0301, 0x0302, 0x0303, 0x0304, 0x0305] ++
  [0x0401, 0x0402, 0x0403, 0x0404, 0x0405, 0x0406, 0x0501, 0x0502, 0x0503, 0x0504, 0x0601, 0x0602, 0x0603, 0x0604, 0x0605, 0x0606,
   0x0701, 0x0702, 0x0703, 0x0704, 0x0705, 0x0706] ++
  [0x0801, 0x0802, 0x0803, 0x0804, 0x0805, 0x0806, 0x0807, 0x0808, 0x0809, 0x080A, 0x080B, 0x080C, 0x080D,
   0x0901, 0x0902, 0x0903, 0x0904, 0x0905, 0x0906, 0x0907, 0x0F01, 0x0F02, 0x0F03, 0x0F10]

/-- A packet of a row: its own type or an unlisted one, and no more flits than a packet holds (R262, R263). -/
def Packet.wf (k : Packet) (typ : Nat) : Bool :=
  (k.typ.toNat == typ || !packetTypes.contains k.typ.toNat) && decide (k.payload.length ≤ 32)

/-- A frame of a row: its own type or an unlisted one, and no more granules than a frame holds (R390). -/
def Frame.wf (f : Frame) (typ : Nat) : Bool :=
  (f.typ.toNat == typ || !frameTypes.contains f.typ.toNat) && decide (f.payload.length ≤ 31)

/-- An MCI command fits its transport (R550, R555). -/
def MciCmd.wf (c : MciCmd) : Bool := match c.via with
  | .mailbox _ _ => decide (c.payload.length ≤ 4064)
  | .ether _ _ _ _ _ => decide (c.payload.length ≤ 1280)

/-- A payload byte that decides the row of a command whose rows are the values of one field; a payload too short for it is of any of them. -/
def MciCmd.holds (c : MciCmd) (offset value : Nat) : Bool := match c.payload[offset]? with
  | some b => b.toNat == value
  | none => true

/-- Well-formed commands. -/
def Instr.wf : Instr → Bool
  | .wait _ _ _ eng ring => eng = .mv || ring = 0
  | .remapAdd _ _ _ row => decide (row.toNat < 12292)
  | .pktWrite _ k => k.wf 0x01
  | .pktReadReq _ k => k.wf 0x02
  | .pktPut _ k => k.wf 0x03
  | .pktMsg _ k => k.wf 0x04
  | .pktReduce _ k => k.wf 0x05
  | .pktChanOpen _ k => k.wf 0x06
  | .pktChanClose _ k => k.wf 0x07
  | .pktTransit _ k => k.wf 0x08
  | .pktRowWrite _ k => k.wf 0x09
  | .pktReadResp _ k => k.wf 0x10
  | .pktAck _ k => k.wf 0x11
  | .pktChanAccept _ k => k.wf 0x12
  | .pktChanClosed _ k => k.wf 0x13
  | .pktNack _ k => k.wf 0x20
  | .pktBarArrive _ k => k.wf 0x21
  | .pktBarRelease _ k => k.wf 0x22
  | .pktBarReport _ k => k.wf 0x23
  | .pktAbort _ k => k.wf 0x24
  | .pktMgmt _ k => k.wf 0x25
  | .pktStepFail _ k => k.wf 0x26
  | .pktDrainReport _ k => k.wf 0x27
  | .frameIdle _ f => f.wf 0x00
  | .frameIdent _ f => f.wf 0x01
  | .frameTimeSync _ f => f.wf 0x02
  | .frameTimeReply _ f => f.wf 0x03
  | .frameAbort _ f => f.wf 0x04
  | .frameCollUp _ f => f.wf 0x40
  | .frameCollDown _ f => f.wf 0x41
  | .frameSvcRequest _ f => f.wf 0x80
  | .frameSvcResponse _ f => f.wf 0x81
  | .frameSvcOutput _ f => f.wf 0x82
  | .frameBulkWrite _ f => f.wf 0xC0
  | .registerWrite _ _ off _ => off.toNat % 8 == 0
  | .readClear _ _ off => off.toNat % 8 == 0
  | .partKillClear c => c.wf && c.holds 1 0
  | .partKillHold c => c.wf && c.holds 1 1
  | .mciResetCore c => c.wf && c.holds 0 0
  | .mciResetRegion c => c.wf && c.holds 0 1
  | .mciResetPartition c => c.wf && c.holds 0 2
  | .mciResetCompute c => c.wf && c.holds 0 3
  | .mciResetPanel c => c.wf && c.holds 0 4
  | .placementResume c => c.wf && c.holds 4 0
  | .placementHold c => c.wf && c.holds 4 1
  | .placementRelease c => c.wf && c.holds 4 2
  | .portControl c => c.wf && c.holds 1 0
  | .portDisable c => c.wf && c.holds 1 1
  | .portEnable c => c.wf && c.holds 1 2
  | .portRetrain c => c.wf && c.holds 1 3
  | .mciBadOpcode op c => c.wf && !mciOpcodes.contains op.toNat
  | .add .. | .sub .. | .mul .. | .mulhu .. | .and .. | .or .. | .xor .. | .shl .. | .shr .. | .sar .. | .cmp .. | .sel .. | .pset ..
  | .addi .. | .andi .. | .ori .. | .xori .. | .shli .. | .shri .. | .sari .. | .cmpi .. | .lui .. | .jal .. | .jalr .. | .bp .. | .bnp ..
  | .bs .. | .ld8u .. | .ld8s .. | .ld16u .. | .ld16s .. | .ld32u .. | .ld32s .. | .ld64 .. | .st8 .. | .st16 .. | .st32 .. | .st64 ..
  | .crr .. | .crw .. | .eret .. | .fence .. | .issueMe .. | .issueVe .. | .issueMv .. | .chanOpen .. | .chanSend .. | .chanSendBlock ..
  | .chanClose .. | .winOpen .. | .winClose .. | .qWp .. | .qAdv .. | .barArrive .. | .barWait .. | .fretHint .. | .dlSetSendBudget ..
  | .dlSetStepDeadline .. | .stepWait .. | .stepDone .. | .illegalInstruction .. | .exceptionEntry .. | .ccStepDeadlineExpiry ..
  | .meLoadTile .. | .meGemmWs .. | .meGemvStream .. | .meDrain .. | .meSync .. | .meDescComplete .. | .meAbort .. | .meClearFault ..
  | .veFill .. | .veEvict .. | .veChain .. | .veLoadTable .. | .veSync .. | .veDescComplete .. | .veAbort .. | .veClearFault ..
  | .veSumWrite .. | .mvCopyOut .. | .mvCopyIn .. | .mvHostOut .. | .mvHostIn .. | .mvFill .. | .mvZero .. | .mvRowCopy .. | .mvSync ..
  | .mvDescComplete .. | .mvMgmtIssue .. | .mvAbort .. | .mvClearFault .. | .mvResend .. | .regAdv .. | .scrubLineRead .. | .scrubBehind ..
  | .writeBack .. | .watchEntryExpiry .. | .killClearComplete .. | .frameMark .. | .slotPass .. | .slotInject .. | .slotExtract ..
  | .slotDropContinue .. | .slotReduceAdd .. | .slotTurn .. | .slotTurnIn .. | .feedLineFetch .. | .landFlitWrite .. | .linkNakReplay ..
  | .wormTruncate .. | .epochDrainSlow .. | .msgAbandoned .. | .channelResend .. | .sendBudgetExpiry .. | .stepArm .. | .commitPoint ..
  | .lbTimerExpiry .. | .stepReplay .. | .serviceDoorbell .. | .serviceRequestFetch .. | .serviceInputSend .. | .serviceOutputRead ..
  | .serviceResponsePost .. | .requestDeadlineExpiry .. | .requestQueueHead .. | .warmHoldExpiry .. | .svcReassemblyTimeout ..
  | .stackTempReadout .. | .stackRecalFailure .. | .stackRefresh .. | .spillRemapComplete .. | .spillWriteBack .. | .spillClearComplete ..
  | .ihlyxReplay .. | .portLossOfLock .. | .portSilent .. | .portTrainTimeout .. | .portRetrainTimer .. | .portIdleSend ..
  | .timeSyncSend .. | .podTimeUnlockTimeout .. | .egressTimeout .. | .clkTargetWrite .. | .clkLimitsWrite .. | .railSetPointReached ..
  | .idlePllLocked .. | .fretSwitch .. | .droopAssert .. | .droopDeassert .. | .damperHoldExpiry .. | .damperRecoverExpiry ..
  | .pllUnlock .. | .fabricPllUnlock .. | .droneRefLost .. | .droneRefValid .. | .capoMeasure .. | .feedConnect .. | .feedDisconnect ..
  | .inputLow .. | .inputRecovered .. | .inputLowTimeout .. | .inputOff .. | .stoppedRestart .. | .energyMeterSample .. | .phaseFailed ..
  | .connectionFault .. | .govClearConn .. | .fabricRailLost .. | .capAverageTick .. | .capLearnTick .. | .capGrant ..
  | .phaseCeilingIssue .. | .sensorRead .. | .thermalLoopTick .. | .coolOkLow .. | .riseConditionTick .. | .coolantShutdown ..
  | .powerOnStart .. | .bringupStepComplete .. | .panelRstAssert .. | .panelRstRelease .. | .perstAssert .. | .functionLevelReset ..
  | .coreReset .. | .coreRestart .. | .coreQuiesce .. | .coreUnquiesce .. | .sympQualStart .. | .sympQualEnd .. | .selfQualification ..
  | .fmWaitExpiry .. | .heartbeatSend .. | .heartbeatLoss .. | .journalRecord .. | .sessionIdleTimeout .. | .eventRecordDelivery ..
  | .eventConsumerWrite .. | .eventNotifySend .. | .eventNotifyResend .. | .debugEnDeassert .. | .tapInstruction .. | .coolOkHigh ..
  | .fabricPllRelock .. | .rqFlitCrcError .. | .frameCrcError .. | .firmwareFaultReport .. | .debugEnAssert .. | .qualificationExpiry ..
  | .droneUp .. | .perstRelease .. => true
  | .identify c | .status c | .start c | .roleHandover c | .netConfig c | .eventRingSet c | .eventRead c | .eventAck c | .eventSubscribe c
  | .eventConfirm c | .tabLoad c | .tabUnload c | .tabList c | .partCreate c | .partDelete c | .partBind c | .partUnbind c | .partAbort c
  | .partRelease c | .heldRead c | .partStatus c | .stepHashRead c | .svcRingSet c | .svcRingEnable c | .svcEnable c | .svcDisable c
  | .svcPolicy c | .memRead c | .memWrite c | .dmaIn c | .dmaOut c | .apertureSet c | .bulkSend c | .powerPolicy c | .coolResume c
  | .thermalClear c | .energyRead c | .retire c | .faultClear c | .migrate c | .faultPolicy c | .wayStage c | .epochFlip c | .frameLen c
  | .fabricRestart c | .stackRetrain c | .hopSet c | .panelId c | .routeSet c | .topology c | .timeMaster c | .collBind c | .collMembers c
  | .collUnbind c | .collAbort c | .collLateness c | .svcPeers c | .bulkAperture c | .freezeRelease c | .sessionOpen c | .sessionClose c
  | .enrol c | .keyInstall c | .keyRevoke c | .secPolicy c | .debugUnlock c | .fwStage c | .fwActivate c | .fwStatus c | .fwRecover c => c.wf

end Sys2Proof
end

