-- ==== Sys2Proof/Safety.lean ====
section
/-! DEFINITION. What claims ask of a state: the forms that every step keeps, in states that no run reaches as well. -/

namespace Sys2Proof.Machine

/-- Every waiting command is well formed. -/
def State.QueueOk (s : State) : Prop := ∀ c ∈ s.pending, c.wf = true

/-- Scratchpad rows, spill units, host memory and mailbox pages are in their canonical form. -/
def State.MemOk (s : State) : Prop := s.scratch.wf = true ∧ s.spill.wf = true ∧ s.host.wf = true ∧ s.mgmt.pages.wf = true

/-! ## Control cores -/

/-- An instruction executes at a site's control core: the core runs and no asynchronous exception is due (R155, R156). -/
def State.ccReady (s : State) (p : Fin 168) : Prop := s.coreRuns p = true ∧ s.ccDue p = false

/-- The second state differs from the first in the control core of one site and in nothing else. -/
def State.onlyCc (s t : State) (p : Fin 168) : Prop :=
  { t with sites := s.sites } = s ∧ (∀ q, q ≠ p → t.site q = s.site q) ∧ { t.site p with cc := s.cc p } = s.site p

/-- The second control core stands at `pc`, one instruction and `clocks` clocks after the first; all else is as it was, but the general
registers and the predicates. -/
def Cc.retired (c d : Cc) (clocks : Nat) (pc : W16) : Prop :=
  d = { c with g := d.g, preds := d.preds, pc := pc, instret := c.instret + 1, cycle := c.cycle + w64 clocks }

/-- An instruction completes at `pc` after `clocks` clocks: it writes one general register and nothing else but PC, INSTRET and CYCLE. -/
def WritesRegAt (i : Instr) (p : Site) (clocks : Nat) (pc : W16) (rd : BitVec 5) (v : W64) (s : State) : Prop :=
  ∃ t, exec i s = .next t ∧ s.onlyCc t p ∧ (s.cc p).retired (t.cc p) clocks pc ∧
    (t.cc p).r rd = (if rd = 0 then 0 else v) ∧ (∀ r, r ≠ rd → (t.cc p).r r = (s.cc p).r r) ∧ (t.cc p).preds = (s.cc p).preds

/-- An instruction completes in order in one clock, writing one general register. -/
def WritesReg (i : Instr) (p : Site) (rd : BitVec 5) (v : W64) (s : State) : Prop :=
  WritesRegAt i p 1 ((s.cc p).pc + 4) rd v s

/-- An instruction completes in order: it writes one predicate and nothing else but PC, INSTRET and CYCLE. -/
def WritesPred (i : Instr) (p : Site) (pd : BitVec 3) (b : Bool) (s : State) : Prop :=
  ∃ t, exec i s = .next t ∧ s.onlyCc t p ∧ (s.cc p).retired (t.cc p) 1 ((s.cc p).pc + 4) ∧
    (t.cc p).pr pd = (pd == 0 || b) ∧ (∀ r, r ≠ pd → (t.cc p).pr r = (s.cc p).pr r) ∧ (t.cc p).g = (s.cc p).g

/-- An instruction completes at `pc` after `clocks` clocks, changing no general register and no predicate. -/
def GoesTo (i : Instr) (p : Site) (clocks : Nat) (pc : W16) (s : State) : Prop :=
  ∃ t, exec i s = .next t ∧ s.onlyCc t p ∧ (s.cc p).retired (t.cc p) clocks pc ∧ (t.cc p).g = (s.cc p).g ∧ (t.cc p).preds = (s.cc p).preds

/-- The control core after an exception with a handler (R155): EPC the address of the instruction, ECAUSE, EINFO, EX set, PC at EVEC. -/
def Cc.trapped (c : Cc) (ecause : W16) (einfo : W64) : Cc :=
  { c with epc := c.pc, ecause := ecause, einfo := einfo, ex := true, pc := c.evec }

/-- A command takes an exception of a control core, changing nothing else. -/
def Traps (i : Instr) (p : Site) (ecause : W16) (einfo : W64) (s : State) : Prop :=
  ∃ t, exec i s = .next t ∧ s.onlyCc t p ∧ t.cc p = (s.cc p).trapped ecause einfo

/-! ## Registers, events and packets -/

/-- The second state differs from the first in the named registers and in nothing else. -/
def State.onlyRegs (s t : State) (ks : List (RegUnit × Nat)) : Prop :=
  { t with regs := s.regs } = s ∧ ∀ u off, (∀ k ∈ ks, regKey u off ≠ regKey k.1 k.2) → t.reg u off = s.reg u off

/-- The second state differs from the first in the named registers and in what raising events changes: the log, the records not
acknowledged, the rings and sessions that receive them and the rings' loss counters. -/
def State.onlyEvents (s t : State) (ks : List (RegUnit × Nat)) : Prop :=
  { t with regs := s.regs, eventSeq := s.eventSeq, events := s.events, unacked := s.unacked, evRings := s.evRings,
           sessions := s.sessions } = s ∧
    ∀ u off, (∀ k ∈ ks ++ [(.bar0, 0x50040), (.bar0, 0x50048), (.bar0, 0x50050), (.bar0, 0x50058)], regKey u off ≠ regKey k.1 k.2) →
      t.reg u off = s.reg u off

/-- An event with a code and detail words was recorded first on the way from the first state to the second (R538). -/
def State.raised (s t : State) (code : W16) (detail : List W64) : Prop :=
  ∃ e ∈ t.events, e.code = code ∧ e.seq = s.eventSeq ∧ e.time = w64 s.time ∧ e.detail = detail

/-- A place has taken a packet and answered it: it is no longer in flight, and one packet of a type with its SEQ is on its way to `d`. -/
def State.answered (s t : State) (here : Place) (k : Packet) (typ : Byte) (d : Place) : Prop :=
  ∃ f, t.net = (s.landed here k).net ++ [f] ∧ f.src = here ∧ f.dst = d ∧ f.pkt.typ = typ ∧ f.pkt.seq = k.seq

/-- Where the answer to a packet goes: its source, as the map version at the place it stands at leads to it (R264, R269). -/
def State.answerPlace (s : State) (here : Place) (k : Packet) : Option Place :=
  s.placeOf (attachStop here) (s.injectEpoch (attachStop here)) k.src.toNat k.srcUnit.toNat

/-- The core on a site may take a packet, whole and well formed, of a type: it is not off, in reset, frozen, halted or in QUIESCE, and its
stop may send (R272, R526). -/
def State.stopTakes (s : State) (p : Fin 168) (k : Packet) (typ : Byte) : Prop :=
  k.typ = typ ∧ wellFormedPkt k = true ∧ k.trunc = false ∧ s.coreRefusal p = none ∧ s.quiet p = false

/-! ## MCI commands -/

/-- A mailbox of the active die takes a command with a payload, and nothing in the header, the session or its rights refuses it (R550, R551, R558);
`right` is 0 for none, 1 O, 2 P, 4 S. -/
def State.boxTakes (s : State) (c : MciCmd) (m : Fin 64) (right : Nat) (payload : List Byte) : Prop :=
  c.via = .mailbox s.activeSouth m ∧ c.payload = payload ∧ c.length.toNat = payload.length ∧ payload.length ≤ 4064 ∧ c.flags.toNat < 2 ∧
    c.res3 = 0 ∧ c.session = 0 ∧ c.res24 = 0 ∧ s.takesCommands s.activeSouth = true ∧ s.dieDead s.activeSouth = false ∧
    fld (s.box s.activeSouth m.val) 0 2 ≠ 1 ∧ ∃ x, s.session 0 = some x ∧ x.frozen = false ∧ (right = 0 ∨ x.rights / right % 2 = 1)

/-- An authentic datagram of an open session at the active die carries a command that nothing in its header, its session or its rights refuses, under a
TAG that is not kept (R551, R555, R557, R558). -/
def State.wireTakes (s : State) (c : MciCmd) (op right : Nat) (payload : List Byte) (id : W32) (counter : W64) (x : Session) : Prop :=
  (∃ res, c.via = .ether s.activeSouth id res counter (tagOf (toBytes 32 x.key.toNat) id res counter c op)) ∧ id ≠ 0 ∧
    s.session id = some x ∧ x.counter < counter ∧ s.booted = true ∧ x.frozen = false ∧ (right = 0 ∨ x.rights / right % 2 = 1) ∧
    (∀ k ∈ x.kept, k.1 ≠ c.tag) ∧ c.payload = payload ∧ c.length.toNat = payload.length ∧ payload.length ≤ 1280 ∧ c.flags.toNat < 2 ∧
    c.res3 = 0 ∧ c.session = id ∧ c.res24 = 0

/-- A mailbox holds the answer to its command (R550, R551): its page has STATUS, DETAIL, RESP_LENGTH and the payload, MBm_STATE is COMPLETE, and one more
command has completed there. -/
def State.boxDone (s t : State) (m : Fin 64) (status detail : Nat) (payload : List Byte) : Prop :=
  let page := pageAt s.activeSouth m.val
  t.box s.activeSouth m.val = w64 ((fld (s.box s.activeSouth m.val) 32 32 + 1) % 2 ^ 32 * 2 ^ 32 + 2) ∧
    t.mgmt.pages.readBytes (page + 16) 2 = toBytes 2 status ∧ t.mgmt.pages.readBytes (page + 18) 2 = toBytes 2 detail ∧
    t.mgmt.pages.readBytes (page + 20) 4 = toBytes 4 payload.length ∧ t.mgmt.pages.readBytes (page + 32) payload.length = payload

/-- The second state differs from the first in nothing but what taking and answering a command changes: mailboxes, the journal, what left the panel, and
the counter of free values. -/
def State.onlyBox (u t : State) : Prop :=
  { t with free := u.free, outbox := u.outbox, mgmt.pages := u.mgmt.pages, mgmt.boxes := u.mgmt.boxes, mgmt.journal := u.mgmt.journal,
           mgmt.applied := u.mgmt.applied } = u

/-- A command completes with a payload through its mailbox, and its effect leads to a state. -/
def Completes (i : Instr) (s : State) (m : Fin 64) (u : State) (payload : List Byte) : Prop :=
  ∃ t, exec i s = .next t ∧ u.onlyBox t ∧ s.boxDone t m 0 0 payload

/-- A command is answered with a status and a detail, without effect. -/
def TurnedAway (i : Instr) (s : State) (m : Fin 64) (status detail : Nat) : Prop :=
  ∃ t, exec i s = .next t ∧ s.onlyBox t ∧ s.boxDone t m status detail []

end Sys2Proof.Machine
end

