-- ==== Sys2Proof/Certificates/Slice0/Obligations.lean ====
section
/-! DEFINITION. The statements for the provers. -/

open Sys2Proof Sys2Proof.Machine

/-! ## Control core -/

/-- R139, registers and immediates: each instruction writes rd its result and changes nothing else but PC, INSTRET and CYCLE. Every result
is taken from the registers as they were, so a destination may be a source; a write of g0 is discarded (R132). -/
def Obligations.CcRegisterResults : Prop :=
  ∀ (s : State) (p : Site) (rd rs1 rs2 : BitVec 5) (ps : BitVec 3) (imm : BitVec 16) (sh : BitVec 6) (imm21 : BitVec 21), s.ccReady p →
    let a := (s.cc p).r rs1
    let b := (s.cc p).r rs2
    WritesReg (.add p rd rs1 rs2) p rd (a + b) s ∧
    WritesReg (.sub p rd rs1 rs2) p rd (a - b) s ∧
    WritesReg (.mul p rd rs1 rs2) p rd (a * b) s ∧
    WritesReg (.mulhu p rd rs1 rs2) p rd (BitVec.ofNat 64 (a.toNat * b.toNat / 2 ^ 64)) s ∧
    WritesReg (.and p rd rs1 rs2) p rd (a &&& b) s ∧
    WritesReg (.or p rd rs1 rs2) p rd (a ||| b) s ∧
    WritesReg (.xor p rd rs1 rs2) p rd (a ^^^ b) s ∧
    WritesReg (.shl p rd rs1 rs2) p rd (a <<< (b.toNat % 64)) s ∧
    WritesReg (.shr p rd rs1 rs2) p rd (a >>> (b.toNat % 64)) s ∧
    WritesReg (.sar p rd rs1 rs2) p rd (a.sshiftRight (b.toNat % 64)) s ∧
    WritesReg (.sel p rd rs1 rs2 ps) p rd (if (s.cc p).pr ps then a else b) s ∧
    WritesReg (.addi p rd rs1 imm) p rd (a + imm.signExtend 64) s ∧
    WritesReg (.andi p rd rs1 imm) p rd (a &&& imm.zeroExtend 64) s ∧
    WritesReg (.ori p rd rs1 imm) p rd (a ||| imm.zeroExtend 64) s ∧
    WritesReg (.xori p rd rs1 imm) p rd (a ^^^ imm.zeroExtend 64) s ∧
    WritesReg (.shli p rd rs1 sh) p rd (a <<< sh.toNat) s ∧
    WritesReg (.shri p rd rs1 sh) p rd (a >>> sh.toNat) s ∧
    WritesReg (.sari p rd rs1 sh) p rd (a.sshiftRight sh.toNat) s ∧
    WritesReg (.lui p rd imm21) p rd (imm21.signExtend 64 <<< 16) s

/-- R139, predicates: each instruction writes pd its truth value and changes nothing else but PC, INSTRET and CYCLE; a write of p0 is
discarded (R132). -/
def Obligations.CcPredicateResults : Prop :=
  ∀ (s : State) (p : Site) (pd pa pb : BitVec 3) (rs1 rs2 : BitVec 5) (imm : BitVec 16), s.ccReady p →
    let a := (s.cc p).r rs1
    let b := (s.cc p).r rs2
    let k := imm.signExtend 64
    let x := (s.cc p).pr pa
    let y := (s.cc p).pr pb
    WritesPred (.cmp p pd rs1 rs2 .eq) p pd (decide (a = b)) s ∧
    WritesPred (.cmp p pd rs1 rs2 .ne) p pd (decide (a ≠ b)) s ∧
    WritesPred (.cmp p pd rs1 rs2 .lt) p pd (decide (a.toInt < b.toInt)) s ∧
    WritesPred (.cmp p pd rs1 rs2 .ge) p pd (decide (b.toInt ≤ a.toInt)) s ∧
    WritesPred (.cmp p pd rs1 rs2 .ltu) p pd (decide (a.toNat < b.toNat)) s ∧
    WritesPred (.cmp p pd rs1 rs2 .geu) p pd (decide (b.toNat ≤ a.toNat)) s ∧
    WritesPred (.cmpi p pd rs1 imm .eq) p pd (decide (a = k)) s ∧
    WritesPred (.cmpi p pd rs1 imm .ne) p pd (decide (a ≠ k)) s ∧
    WritesPred (.cmpi p pd rs1 imm .lt) p pd (decide (a.toInt < k.toInt)) s ∧
    WritesPred (.cmpi p pd rs1 imm .ge) p pd (decide (k.toInt ≤ a.toInt)) s ∧
    WritesPred (.pset p pd pa pb .and) p pd (x && y) s ∧
    WritesPred (.pset p pd pa pb .or) p pd (x || y) s ∧
    WritesPred (.pset p pd pa pb .xor) p pd (x ^^ y) s ∧
    WritesPred (.pset p pd pa pb .andNot) p pd (x && !y) s ∧
    WritesPred (.pset p pd pa pb .not) p pd (!x) s

/-- R138, R139, R140: a taken branch or jump goes to its target, an offset in words from its own address or a register sum with bits [1:0]
cleared, and JAL and JALR link the address after their own; one not taken goes on in order. BS tests a summary as it stands, and raises POISON on a
poisoned one. -/
def Obligations.CcBranchesAndJumps : Prop :=
  ∀ (s : State) (p : Site) (rd rs1 : BitVec 5) (ps : BitVec 3) (imm : BitVec 16) (imm21 : BitVec 21) (n : BitVec 4) (test : SumTest), s.ccReady p →
    let pc : W64 := (s.cc p).pc.zeroExtend 64
    let t := pc + imm.signExtend 64 * 4
    let tj := pc + imm21.signExtend 64 * 4
    let tr := ((s.cc p).r rs1 + imm.signExtend 64) &&& ~~~3#64
    let sum := s.reg (.site p) (0x18200100 + 8 * n.toNat)
    let holds := match test with
      | .nz => sum.toNat % 2 ^ 32 ≠ 0
      | .z => sum.toNat % 2 ^ 32 = 0
      | .hnz => sum.toNat / 2 ^ 32 ≠ 0
      | .hz => sum.toNat / 2 ^ 32 = 0
    let clean := bit (s.reg (.site p) 0x18200050) n.toNat = false
    (tj.toNat < 0x10000 → WritesRegAt (.jal p rd imm21) p 3 (tj.setWidth 16) rd (pc + 4) s) ∧
    (tr.toNat < 0x10000 → WritesRegAt (.jalr p rd rs1 imm) p 3 (tr.setWidth 16) rd (pc + 4) s) ∧
    ((s.cc p).pr ps = true → t.toNat < 0x10000 → GoesTo (.bp p ps imm) p 3 (t.setWidth 16) s) ∧
    ((s.cc p).pr ps = false → GoesTo (.bp p ps imm) p 1 ((s.cc p).pc + 4) s) ∧
    ((s.cc p).pr ps = false → t.toNat < 0x10000 → GoesTo (.bnp p ps imm) p 3 (t.setWidth 16) s) ∧
    ((s.cc p).pr ps = true → GoesTo (.bnp p ps imm) p 1 ((s.cc p).pc + 4) s) ∧
    (clean → holds → t.toNat < 0x10000 → GoesTo (.bs p test n imm) p 3 (t.setWidth 16) s) ∧
    (clean → ¬ holds → GoesTo (.bs p test n imm) p 1 ((s.cc p).pc + 4) s) ∧
    (¬ clean → (s.cc p).ex = false → (s.cc p).evec ≠ 0 → ∃ u, exec (.bs p test n imm) s = .next u ∧
      u.cc p = (s.cc p).trapped 0x0103 (w64 (0x18200100 + 8 * n.toNat)))

/-- R138, R155, R158: outside a handler, with a handler set, a taken branch or jump to a target at or beyond 0x1_0000 raises ILLEGAL with
detail TARGET and the instruction word in EINFO, EPC being its own address; a word that is no instruction raises ILLEGAL with detail
ENCODING, an unlisted control register ILLEGAL with detail OPERAND, and a misaligned narrow access ALIGNMENT with its address. Nothing else
changes. -/
def Obligations.CcPreciseExceptions : Prop :=
  ∀ (s : State) (p : Site) (rd rs1 rs2 : BitVec 5) (ps : BitVec 3) (imm : BitVec 16) (imm21 : BitVec 21) (num : BitVec 12), s.ccReady p →
    (s.cc p).ex = false → (s.cc p).evec ≠ 0 →
    let pc : W64 := (s.cc p).pc.zeroExtend 64
    let t := pc + imm.signExtend 64 * 4
    let tj := pc + imm21.signExtend 64 * 4
    let tr := ((s.cc p).r rs1 + imm.signExtend 64) &&& ~~~3#64
    let ea := (s.cc p).r rs1 + imm.signExtend 64
    let word := Sparse.get 0 (s.site p).imem ((s.cc p).pc.toNat / 4)
    (0x10000 ≤ tj.toNat → Traps (.jal p rd imm21) p 0x0201 ((ccWord (.jal p rd imm21)).zeroExtend 64) s) ∧
    (0x10000 ≤ tr.toNat → Traps (.jalr p rd rs1 imm) p 0x0201 ((ccWord (.jalr p rd rs1 imm)).zeroExtend 64) s) ∧
    ((s.cc p).pr ps = true → 0x10000 ≤ t.toNat → Traps (.bp p ps imm) p 0x0201 ((ccWord (.bp p ps imm)).zeroExtend 64) s) ∧
    ((s.cc p).pr ps = false → 0x10000 ≤ t.toNat → Traps (.bnp p ps imm) p 0x0201 ((ccWord (.bnp p ps imm)).zeroExtend 64) s) ∧
    (ccDecode p word = none → Traps (.illegalInstruction p false) p 0x0001 (word.zeroExtend 64) s) ∧
    (0x060 ≤ num.toNat → Traps (.crr p rd num) p 0x0101 ((ccWord (.crr p rd num)).zeroExtend 64) s ∧
      Traps (.crw p rs1 num) p 0x0101 ((ccWord (.crw p rs1 num)).zeroExtend 64) s) ∧
    (ea.toNat % 8 ≠ 0 → s.spanOn p ea.toNat 8 = true → Traps (.ld64 p rd rs1 imm) p 0x0002 ea s) ∧
    (ea.toNat % 8 ≠ 0 → s.spanOn p ea.toNat 8 = true → s.regionOf p ea.toNat = none → Traps (.st64 p rs2 rs1 imm) p 0x0002 ea s)

/-- R141, R142, R145: a load of powered, aligned scratchpad whose code unit reads clean and that no running descriptor writes gives rd the
bytes from the effective address, least significant first, zero- or sign-extended; LD64 reads a plain register of the core's own window. -/
def Obligations.CcLoadResults : Prop :=
  ∀ (s : State) (p : Site) (rd rs1 : BitVec 5) (imm : BitVec 16), s.ccReady p →
    let ea := ((s.cc p).r rs1 + imm.signExtend 64).toNat
    let g := s.granAt p ea
    let v := g.data.toNat / 2 ^ (8 * (ea % 64))
    let clean := g.outcomes [ea % 64 / 16] = (0, 0) ∧ bit g.poison (ea % 64 / 16) = false ∧ spanHas (s.hotSpans p) ea = false
    (s.spanOn p ea 1 = true → clean → WritesReg (.ld8u p rd rs1 imm) p rd ((BitVec.ofNat 8 v).zeroExtend 64) s ∧
      WritesReg (.ld8s p rd rs1 imm) p rd ((BitVec.ofNat 8 v).signExtend 64) s) ∧
    (s.spanOn p ea 2 = true → ea % 2 = 0 → clean → WritesReg (.ld16u p rd rs1 imm) p rd ((BitVec.ofNat 16 v).zeroExtend 64) s ∧
      WritesReg (.ld16s p rd rs1 imm) p rd ((BitVec.ofNat 16 v).signExtend 64) s) ∧
    (s.spanOn p ea 4 = true → ea % 4 = 0 → clean → WritesReg (.ld32u p rd rs1 imm) p rd ((BitVec.ofNat 32 v).zeroExtend 64) s ∧
      WritesReg (.ld32s p rd rs1 imm) p rd ((BitVec.ofNat 32 v).signExtend 64) s) ∧
    (s.spanOn p ea 8 = true → ea % 8 = 0 → clean → WritesReg (.ld64 p rd rs1 imm) p rd (BitVec.ofNat 64 v) s) ∧
    (ea = 0x18100020 → WritesReg (.ld64 p rd rs1 imm) p rd (s.reg (.site p) 0x18100020) s)

/-- R141, R143, R166: a store to powered, aligned scratchpad outside every region, whose code unit reads clean, completes: the raw cells of
its bytes hold the low bytes of rs2, least significant first, and every other cell of every scratchpad keeps its byte, but for the eight
check bytes of the granule; general registers, predicates and every register of the panel keep their values. -/
def Obligations.CcStoreEffects : Prop :=
  ∀ (s : State) (p : Site) (rs2 rs1 : BitVec 5) (imm : BitVec 16) (size : Nat) (i : Instr), s.ccReady p →
    (size, i) ∈ [(1, .st8 p rs2 rs1 imm), (2, .st16 p rs2 rs1 imm), (4, .st32 p rs2 rs1 imm), (8, .st64 p rs2 rs1 imm)] →
    let ea := ((s.cc p).r rs1 + imm.signExtend 64).toNat
    let g := s.granAt p ea
    let cell := s.cellOf p ea (64 * offGran ea) + ea % 64
    let check := s.cellOf p ea (512 + 8 * offGran ea)
    s.spanOn p ea size = true → ea % size = 0 → s.regionOf p ea = none → g.outcomes [ea % 64 / 16] = (0, 0) →
      ∃ t, exec i s = .next t ∧
        (∀ j, j < size → t.scratch.read (cell + j) = BitVec.ofNat 8 (((s.cc p).r rs2).toNat / 2 ^ (8 * j))) ∧
        (∀ a, (a < cell ∨ cell + size ≤ a) → (a < check ∨ check + 8 ≤ a) → t.scratch.read a = s.scratch.read a) ∧
        (s.cc p).retired (t.cc p) 1 ((s.cc p).pc + 4) ∧ (t.cc p).g = (s.cc p).g ∧ (t.cc p).preds = (s.cc p).preds ∧
        t.regs = s.regs ∧ (∀ q, q ≠ p → t.site q = s.site q) ∧ t.host = s.host ∧ t.spill = s.spill ∧ t.net = s.net

/-- R155, R159: CRR gives rd a listed control register, TIME at most four ticks stale; CRW writes EPC and EVEC with bits [1:0] clear, the
predicates and ESCRATCH, and no other register; ERET clears EX and resumes at EPC, and a FENCE completes. -/
def Obligations.CcControlRegisters : Prop :=
  ∀ (s : State) (p : Site) (rd rs1 : BitVec 5) (num : BitVec 12), s.ccReady p →
    let c := s.cc p
    let v := c.r rs1
    (∀ x ∈ [(0x001, c.epc.zeroExtend 64), (0x002, c.ecause.zeroExtend 64), (0x003, c.einfo), (0x004, c.evec.zeroExtend 64), (0x006, c.escratch),
        (0x010, w64 (s.lcidOf (s.actingSite p))), (0x011, w64 (s.partOf (s.actingSite p))), (0x012, c.stepIndex), (0x022, c.instret),
        (0x030, c.sendBudget), (0x031, c.stepDeadline), (0x041, c.fretHint.zeroExtend 64), (0x050, c.meIssued), (0x051, c.veIssued)],
      num.toNat = x.1 → WritesReg (.crr p rd num) p rd x.2 s) ∧
    (rd ≠ 0 → num = 0x020 → ∃ t, exec (.crr p rd num) s = .next t ∧ ∃ k, k < 5 ∧ (t.cc p).r rd = w64 (s.time - k)) ∧
    (∀ x ∈ [(0x001, { c with epc := v.setWidth 16 &&& 0xFFFC }), (0x004, { c with evec := v.setWidth 16 &&& 0xFFFC }),
        (0x005, { c with preds := setBit (v.setWidth 8) 0 false }), (0x006, { c with escratch := v })],
      num.toNat = x.1 → ∃ t, exec (.crw p rs1 num) s = .next t ∧ s.onlyCc t p ∧
        t.cc p = { x.2 with pc := c.pc + 4, instret := c.instret + 1, cycle := c.cycle + 1 }) ∧
    (∃ t, exec (.eret p) s = .next t ∧ s.onlyCc t p ∧
      t.cc p = { c with ex := false, pc := c.epc, pends := (t.cc p).pends, instret := c.instret + 1, cycle := c.cycle + 3 }) ∧
    GoesTo (.fence p) p 1 (c.pc + 4) s

/-- R146, R147: an ISSUE from powered, aligned scratchpad that reads clean, to an engine that is not faulted and has room, places the
descriptor's bytes last in the queue with the next ticket, gives rd that ticket, and takes two clocks. -/
def Obligations.IssuePlacesDescriptors : Prop :=
  ∀ (s : State) (p : Site) (rd rs1 : BitVec 5) (ring : BitVec 3), s.ccReady p → rd ≠ 0 →
    let c := s.cc p
    let ea := (c.r rs1).toNat
    let clean (n : Nat) := s.spanOn p ea n = true ∧ ea % n = 0 ∧
      ∀ j, j < n / 64 → (s.granAt p (ea + 64 * j)).outcomes [0, 1, 2, 3] = (0, 0) ∧ (s.granAt p (ea + 64 * j)).poison = 0
    let placed (d : Desc) (n : Nat) (ticket : W64) := d.ticket = ticket ∧ d.off = ea ∧ d.poison = false ∧ d.bytes.length = n ∧
      ∀ j, j < n → d.bytes[j]? = some (s.byteAt p (ea + j))
    let after (t : State) (ticket : W64) := (t.cc p).pc = c.pc + 4 ∧ (t.cc p).cycle = c.cycle + 2 ∧ (t.cc p).r rd = ticket ∧
      (∀ r, r ≠ rd → (t.cc p).r r = c.r r) ∧ t.regs = s.regs ∧ t.scratch = s.scratch ∧ ∀ q, q ≠ p → t.site q = s.site q
    (clean 64 → bit (s.reg (.site p) 0x18100000) 7 = false → (s.site p).me.queue.length < 16 →
      ∃ t d, exec (.issueMe p rd rs1) s = .next t ∧ after t (c.meIssued + 1) ∧ (t.site p).me.queue = (s.site p).me.queue ++ [d] ∧
        placed d 64 (c.meIssued + 1) ∧ (t.site p).ve = (s.site p).ve ∧ (t.site p).rings = (s.site p).rings) ∧
    (clean 128 → bit (s.reg (.site p) 0x18200000) 7 = false → (s.site p).ve.queue.length < 16 →
      ∃ t d, exec (.issueVe p rd rs1) s = .next t ∧ after t (c.veIssued + 1) ∧ (t.site p).ve.queue = (s.site p).ve.queue ++ [d] ∧
        placed d 128 (c.veIssued + 1) ∧ (t.site p).me = (s.site p).me ∧ (t.site p).rings = (s.site p).rings) ∧
    (clean 64 → bit (s.reg (.site p) (0x18502000 + 32 * ring.toNat)) 1 = false → (s.ring p ring.toNat).queue.length < 32 →
      ∃ t d, let ticket := Sparse.get 0 c.mvIssued ring.toNat + 1
        exec (.issueMv p rd rs1 ring) s = .next t ∧ after t ticket ∧
        (t.ring p ring.toNat).queue = (s.ring p ring.toNat).queue ++ [d] ∧ placed d 64 ticket ∧
        (∀ n, n ≠ ring.toNat → t.ring p n = s.ring p n) ∧ (t.site p).me = (s.site p).me ∧ (t.site p).ve = (s.site p).ve)

/-- R148: a WAIT whose ticket the engine's done count has reached sets pd; one on a faulted engine that has not reached it clears pd;
otherwise the core stalls, and the state is as it was. -/
def Obligations.WaitForTickets : Prop :=
  ∀ (s : State) (p : Site) (pd : BitVec 3) (rs1 : BitVec 5) (ring : BitVec 3) (e : Engine), s.coreRuns p = true →
    let x := match e with
      | .me => (s.reg (.site p) 0x18100020, bit (s.reg (.site p) 0x18100000) 7)
      | .ve => (s.reg (.site p) 0x18200020, bit (s.reg (.site p) 0x18200000) 7)
      | .mv => (s.reg (.site p) (0x18502010 + 32 * ring.toNat), bit (s.reg (.site p) (0x18502000 + 32 * ring.toNat)) 1)
    let reached := 0 ≤ (x.1 - (s.cc p).r rs1).toInt
    (s.ccDue p = false → reached → WritesPred (.wait p pd rs1 e ring) p pd true s) ∧
    (s.ccDue p = false → ¬ reached → x.2 = true → WritesPred (.wait p pd rs1 e ring) p pd false s) ∧
    (s.ccDue p = false → ¬ reached → x.2 = false → exec (.wait p pd rs1 e ring) s = .next s) ∧
    (s.ccDue p = true → exec (.wait p pd rs1 e ring) s = .next s)

/-- R151, R296, R297, R301, R303, R590: CHAN.OPEN takes the lowest free send context, opening; a plain CHAN.SEND on an open context with room
gives rd the message's sequence number and advances it; a BLOCK send and a CHAN.CLOSE start an operation that the core waits for; an
operation of the instruction at PC that has ended with a value gives rd the value and clears the record. -/
def Obligations.ChannelInstructions : Prop :=
  ∀ (s : State) (p : Site) (rd rs1 rs2 : BitVec 5) (n : Nat) (dest : Byte) (q : BitVec 7), s.ccReady p → rd ≠ 0 → dest.toNat < 144 →
    let c := s.cc p
    let x := s.sctx p n
    ((c.pends.all fun o => o.addr != c.pc) = true → c.r rs1 = w64 (dest.toNat + q.toNat * 2 ^ 8) → s.freeCtx p = some n →
      ∃ t, exec (.chanOpen p rd rs1) s = .next t ∧ (t.sctx p n).state = 1 ∧ (t.sctx p n).dest = dest ∧ (t.sctx p n).queue = q.toNat ∧
        (t.sctx p n).msgs = [] ∧ (∀ m, m ≠ n → t.sctx p m = s.sctx p m) ∧ (t.cc p).pc = c.pc ∧
        (s.quiet p = false → t.net.length = s.net.length + 1) ∧ (t.cc p).pends = c.pends ++ [⟨c.pc, .chanOpen, n, 0, 0, none⟩]) ∧
    (n < 256 → c.r rs1 = w64 n → (c.r rs2).toNat % 64 = 0 → x.state = 2 → x.msgs.length < 8 →
      (∃ t, exec (.chanSend p rd rs1 rs2) s = .next t ∧ (t.cc p).r rd = x.next.zeroExtend 64 ∧ (t.sctx p n).next = x.next + 1 ∧
        (t.sctx p n).msgs.length = x.msgs.length + 1 ∧ (t.cc p).pc = c.pc + 4 ∧ ∀ m, m ≠ n → t.sctx p m = s.sctx p m) ∧
      ((c.pends.all fun o => o.addr != c.pc) = true →
        ∃ t, exec (.chanSendBlock p rd rs1 rs2) s = .next t ∧ (t.sctx p n).next = x.next + 1 ∧ (t.cc p).pc = c.pc ∧
          (t.cc p).pends = c.pends ++ [⟨c.pc, .chanSend, n, x.next, 0, none⟩])) ∧
    (n < 256 → c.r rs1 = w64 n → x.state = 1 → x.req.isSome = true → (c.pends.all fun o => o.addr != c.pc) = true →
      ∃ t, exec (.chanClose p rd rs1) s = .next t ∧ (t.sctx p n).state = 4 ∧ (t.cc p).pc = c.pc ∧
        (t.cc p).pends = (c.pends.filter fun o => o.ctx != n) ++ [⟨c.pc, .chanClose, n, 0, 0, none⟩]) ∧
    (∀ (o : PendOp) (v : W64), c.pendHere o.kind = some o → o.result = some (.value v) →
      let i : Instr := match o.kind with
        | .chanOpen => .chanOpen p rd rs1
        | .chanSend => .chanSendBlock p rd rs1 rs2
        | .chanClose => .chanClose p rd rs1
      ∃ t, exec i s = .next t ∧ s.onlyCc t p ∧ (t.cc p).r rd = v ∧ (t.cc p).pc = c.pc + 4 ∧ (t.cc p).pends = c.pends.filter fun o => o.addr != c.pc)

/-- R151, R281, R282, R287, R288, R305, R307: WIN.OPEN sets the window's base, length, tag and next generation and gives rd the generation;
WIN.CLOSE leaves it closed; Q.WP gives the write pointer of an ACTIVE queue and Q.ADV moves the read pointer; BAR.ARRIVE gives the
next episode of the instance and sends one packet, and BAR.WAIT completes once the episode is released. -/
def Obligations.WindowQueueAndBarrierInstructions : Prop :=
  ∀ (s : State) (p : Site) (rd rs1 rs2 : BitVec 5) (win : BitVec 6) (q : BitVec 7) (inst : BitVec 5), s.ccReady p → rd ≠ 0 →
    let c := s.cc p
    let w := 0x18402000 + 32 * win.toNat
    let gen := s.rf (.site p) w 40 8
    let x := s.queue p q.toNat
    let released := (s.reg (.site p) (0x18731000 + 8 * inst.toNat)).setWidth 32
    let issued : W32 := Sparse.get 0 c.barIssued inst.toNat
    (∀ len tag, len < 2 ^ 32 → tag < 2 ^ 8 → c.r rs2 = w64 (len + tag * 2 ^ 32) → 0 < len → len % 512 = 0 → tag ≠ 0xFD → tag ≠ 0xFE →
      s.spanOn p (c.r rs1).toNat len = true → (c.r rs1).toNat % 512 = 0 →
      ∃ t, exec (.winOpen p rd rs1 rs2 win) s = .next t ∧ (t.cc p).r rd = w64 ((gen + 1) % 256) ∧ (t.cc p).pc = c.pc + 4 ∧
        t.reg (.site p) w = w64 (2 ^ 63 + (gen + 1) % 256 * 2 ^ 40 + tag * 2 ^ 32 + (c.r rs1).toNat) ∧
        t.reg (.site p) (w + 8) = w64 len) ∧
    (∃ t, exec (.winClose p rd win) s = .next t ∧ t.rf (.site p) w 63 1 = 0 ∧ t.rf (.site p) w 40 8 = gen ∧ (t.cc p).r rd = w64 gen) ∧
    (s.qActive p q.toNat = true → WritesReg (.qWp p rd q false) p rd (w64 (x.wp % s.qSize p q.toNat)) s ∧
      (x.wp ≠ x.rp → WritesReg (.qWp p rd q true) p rd (w64 (x.wp % s.qSize p q.toNat)) s) ∧
      (x.wp = x.rp → exec (.qWp p rd q true) s = .next s)) ∧
    (s.qActive p q.toNat = true → x.rp + (c.r rs1).toNat ≤ x.wp → (c.r rs1).toNat % 16 = 0 →
      ∃ t, exec (.qAdv p rs1 q) s = .next t ∧ t.queue p q.toNat = { x with rp := x.rp + (c.r rs1).toNat } ∧ (t.cc p).pc = c.pc + 4) ∧
    (∀ h, s.barHome p inst.toNat = some h → s.quiet p = false → atOrPast released issued = true →
      ∃ t, exec (.barArrive p rd inst) s = .next t ∧ (t.cc p).r rd = (issued + 1).zeroExtend 64 ∧
        Sparse.get 0 (t.cc p).barIssued inst.toNat = issued + 1 ∧ t.net.length = s.net.length + 1) ∧
    ((s.barHome p inst.toNat).isSome = true → atOrPast released ((c.r rs1).setWidth 32) = true → GoesTo (.barWait p rs1 inst) p 1 (c.pc + 4) s)

/-- R152, R153, R154: FRET.HINT sets or withdraws the hint; DL.SET arms SEND_BUDGET or STEP_DEADLINE; STEP.WAIT waits, and once a frame mark
has started the step gives rd its index; STEP.DONE disarms STEP_DEADLINE, ends the step and sends its report. -/
def Obligations.HintsDeadlinesAndSteps : Prop :=
  ∀ (s : State) (p : Site) (rd rs1 : BitVec 5) (fret : BitVec 4), s.ccReady p →
    let c := s.cc p
    let done (d : Cc) := { d with pc := c.pc + 4, instret := c.instret + 1, cycle := c.cycle + 1 }
    (∃ t, exec (.fretHint p false fret) s = .next t ∧ s.onlyCc t p ∧ t.cc p = done { c with fretHint := fret.zeroExtend 5 }) ∧
    (∃ t, exec (.fretHint p true fret) s = .next t ∧ s.onlyCc t p ∧ t.cc p = done { c with fretHint := 0x10 }) ∧
    (∃ t, exec (.dlSetSendBudget p rs1) s = .next t ∧ s.onlyCc t p ∧ t.cc p = done { c with sendBudget := c.r rs1 }) ∧
    (∃ t, exec (.dlSetStepDeadline p rs1) s = .next t ∧ s.onlyCc t p ∧ t.cc p = done { c with stepDeadline := c.r rs1, stepFired := false }) ∧
    (∀ n, c.stepGo = some n → ∃ t, exec (.stepWait p rd) s = .next t ∧ s.onlyCc t p ∧ (t.cc p).r rd = (if rd = 0 then 0 else n) ∧
      (t.cc p).stepIndex = n ∧ (t.cc p).inStep = true ∧ (t.cc p).stepWaiting = false ∧ (t.cc p).stepGo = none ∧ (t.cc p).pc = c.pc + 4) ∧
    (c.stepGo = none → ∃ t, exec (.stepWait p rd) s = .next t ∧ s.onlyCc t p ∧ t.cc p = { c with stepWaiting := true }) ∧
    (∃ t, exec (.stepDone p) s = .next t ∧ (t.cc p).stepDeadline = 0 ∧ (t.cc p).inStep = false ∧ (t.cc p).pc = c.pc + 4 ∧
      (s.quiet p = false → t.net.length = s.net.length + 1))

/-- R150, R153, R155: a pending ENGINE_FAULT is taken before a pending STEP_DEADLINE, and either goes to EVEC with its cause, EPC being the next
instruction; a non-zero STEP_DEADLINE that panel time has reached becomes pending once. -/
def Obligations.AsynchronousExceptions : Prop :=
  ∀ (s : State) (p : Site), s.coreRuns p = true →
    let c := s.cc p
    (∀ e, c.ex = false → c.evec ≠ 0 → c.engPending = [e] → ∃ t, exec (.exceptionEntry p) s = .next t ∧ s.onlyCc t p ∧
      t.cc p = { c.trapped 0x07 (w64 (e.ring * 2 ^ 16 + e.eng * 2 ^ 8 + e.reason)) with engPending := [], stepWaiting := false, stepGo := none }) ∧
    (c.ex = false → c.evec ≠ 0 → c.engPending = [] → c.stepPending = true → ∃ t, exec (.exceptionEntry p) s = .next t ∧ s.onlyCc t p ∧
      t.cc p = { c.trapped 0x06 c.stepHit with stepPending := false, stepWaiting := false, stepGo := none }) ∧
    (c.stepDeadline ≠ 0 → c.stepFired = false → c.stepDeadline.toNat ≤ s.time →
      ∃ t, exec (.ccStepDeadlineExpiry p) s = .next t ∧ (t.cc p).stepPending = true ∧ (t.cc p).stepFired = true ∧
        (t.cc p).stepHit = c.stepDeadline ∧ (t.cc p).pc = c.pc ∧ t.events ≠ [])

/-- R141, R156, R518, R519, R543: an access of the control core outside its window freezes its core: STATE FROZEN, EPC the instruction, ECAUSE
ACCESS_VIOLATION and EINFO the address, PC unmoved, and one violation counted (below saturation). -/
def Obligations.LocalViolationFreezesTheCore : Prop :=
  ∀ (s : State) (p : Site) (rd rs1 rs2 : BitVec 5) (imm : BitVec 16) (i : Instr), s.ccReady p →
    i ∈ [.ld8u p rd rs1 imm, .ld64 p rd rs1 imm, .st8 p rs2 rs1 imm, .st64 p rs2 rs1 imm] →
    let ea := (s.cc p).r rs1 + imm.signExtend 64
    0x18800000 ≤ ea.toNat → s.rf (.site p) 0x18000028 0 32 < 0xFFFFFFFF →
      ∃ t, exec i s = .next t ∧ t.coreState p = 3 ∧ (t.cc p).epc = (s.cc p).pc ∧ (t.cc p).ecause = 0x04 ∧ (t.cc p).einfo = ea ∧
        (t.cc p).pc = (s.cc p).pc ∧ (t.cc p).g = (s.cc p).g ∧ (t.cc p).preds = (s.cc p).preds ∧
        t.rf (.site p) 0x18000028 0 32 = s.rf (.site p) 0x18000028 0 32 + 1 ∧ t.scratch = s.scratch

/-! ## Engines -/

/-- R76-R79, R82-R87, R91-R93, R98: a head that may start, passes every check and meets no region's pointer joins the running descriptors with
reason NONE; LOAD_TILE leaves its tile in the shadow, GEMM_WS its rows in its bank, which is tagged by format and rows. One that fails
checks joins with the lowest failing code. The control core is not touched. -/
def Obligations.MatrixEngineStarts : Prop :=
  ∀ (s : State) (p : Site) (op : Nat) (i : Instr) (d : Desc),
    (op, i) ∈ [(1, .meLoadTile p), (2, .meGemmWs p), (3, .meGemvStream p), (4, .meDrain p), (5, .meSync p)] →
    s.meHead p op = some d →
    let m := (s.site p).me
    (s.meCheck p d = none → (s.readsOk p 1 (meReads d)).join (s.writesOk p 1 (meWrites d)) = .ok → ((op = 3 ∨ op = 4) → s.meNoRoom p d = false) →
      ∃ t r, exec i s = .next t ∧ (t.site p).me.queue = m.queue.drop 1 ∧ (t.site p).me.running = m.running ++ [r] ∧ r.desc = d ∧ r.reason = 0 ∧
        t.cc p = s.cc p ∧
        (op = 1 → ∃ x, (t.site p).me.shadow = some x ∧ x.fmt = meB d ∧ x.mult = meMult (meA d) (meB d) ∧ x.addr = meBAddr d ∧ x.serves = none) ∧
        (op = 2 → ((t.site p).me.bank (meBank d)).fmt = some (if meWa d then .wa96 else .fp32) ∧
          ((t.site p).me.bank (meBank d)).rows = meM d ∧ (t.site p).me.live.isSome = true ∧ r.count = meM d * (256 * meK d) * 256) ∧
        (op = 3 → r.writes = meWrites d ∧ r.count = 256 * meN d * (256 * meK d)) ∧ (op = 4 → r.writes = meWrites d)) ∧
    (∀ c, s.meCheck p d = some c →
      ∃ t r, exec i s = .next t ∧ (t.site p).me.queue = m.queue.drop 1 ∧ (t.site p).me.running = m.running ++ [r] ∧ r.desc = d ∧ r.reason = c ∧
        t.cc p = s.cc p ∧ t.scratch = s.scratch)

/-- R102, R123-R126, R129: a vector head that may start, awaits no handoff, passes every check and meets no region's pointer joins the running
descriptors with reason NONE; LOAD_TABLE leaves a table; SYNC completes at once, advancing the done count. One that fails checks
joins with the lowest failing code. -/
def Obligations.VectorEngineStarts : Prop :=
  ∀ (s : State) (p : Site) (op : Nat) (i : Instr) (d : Desc) (rest : List Desc),
    (op, i) ∈ [(1, .veFill p), (2, .veEvict p), (3, .veChain p), (4, .veLoadTable p), (5, .veSync p)] →
    let v := (s.site p).ve
    v.queue = d :: rest → s.veReady p = true → veOp d = op → v.mayStart d = true → s.veWaitsMe p d = false →
    (s.veCheck p d = none → (s.readsOk p 2 (veReads d)).join (s.writesOk p 2 (veWrites d)) = .ok →
      ∃ t, exec i s = .next t ∧ (t.site p).ve.queue = rest ∧ (t.site p).me = (s.site p).me ∧
        (op ≠ 5 → ∃ r, (t.site p).ve.running = v.running ++ [r] ∧ r.desc = d ∧ r.reason = 0 ∧ t.cc p = s.cc p ∧
          (op = 1 → r.cacheWrites = veCacheWrites d) ∧ (op = 2 → r.writes = veWrites d ∧ r.cacheReads = veCacheReads d) ∧
          (op = 3 → r.count = veN d) ∧ (op = 4 → (t.site p).ve.table.isSome = true)) ∧
        (op = 5 → v.running = [] → (t.site p).ve.running = [] ∧
          t.reg (.site p) 0x18200020 = s.reg (.site p) 0x18200020 + 1)) ∧
    (op ≠ 5 → ∀ c, s.veCheck p d = some c →
      ∃ t r, exec i s = .next t ∧ (t.site p).ve.queue = rest ∧ (t.site p).ve.running = v.running ++ [r] ∧ r.desc = d ∧ r.reason = c ∧
        t.cc p = s.cc p ∧ t.scratch = s.scratch)

/-- R184, R186, R187, R190: the head of a ready ring that passes every check and meets no region's pointer becomes the ring's running descriptor;
copies send one packet for each piece of at most 2 KiB, or three raw rows, and await an answer to each; fills await none; SYNC completes
at once. The other rings go on as they are. -/
def Obligations.MoverStarts : Prop :=
  ∀ (s : State) (p : Site) (ring : Fin 9) (op : Nat) (i : Instr) (d : Desc) (rest : List Desc),
    (op, i) ∈ [(1, .mvCopyOut p ring), (2, .mvCopyIn p ring), (3, .mvHostOut p ring), (4, .mvHostIn p ring), (5, .mvFill p ring),
      (6, .mvZero p ring), (7, .mvRowCopy p ring), (8, .mvSync p ring)] →
    let r := s.ring p ring.val
    r.queue = d :: rest → s.mvReady p ring.val = true → mvOp d = op → s.mvCheck p ring.val d = none →
    (if mvWritesLocal d then s.writesOk p 3 (mvSpans d) else s.spansReadable p 3 (mvSpans d)) = .ok →
      ∃ t, exec i s = .next t ∧ (t.ring p ring.val).queue = rest ∧ (∀ n, n ≠ ring.val → t.ring p n = s.ring p n) ∧
        (op ≠ 8 → t.cc p = s.cc p ∧ ∃ x, (t.ring p ring.val).run = some x ∧ x.desc = d ∧ x.reason = 0 ∧
          (op ≤ 4 → x.reqs.length = (mvPieces d).length ∧ (s.quiet p = false → t.net.length = s.net.length + (mvPieces d).length)) ∧
          ((op = 5 ∨ op = 6) → x.reqs = [] ∧ x.writes = mvSpans d) ∧
          (op = 7 → x.reqs.length = if mvRemote d / 2 ^ 20 % 256 = p.val then 0 else (mvRows d + 2) / 3)) ∧
        (op = 8 → (t.ring p ring.val).run = none ∧
          t.reg (.site p) (0x18502010 + 32 * ring.val) = s.reg (.site p) (0x18502010 + 32 * ring.val) + 1)

/-- R95, R97, R128, R147, R150, R179, R189, R190: the oldest running descriptor of an engine that goes on completes: it leaves the running ones,
the record count and the done count advance by one; a refused one also sets FAULTED with its reason and makes ENGINE_FAULT pending. -/
def Obligations.EngineCompletions : Prop :=
  ∀ (s : State) (p : Site) (r : EngRun) (rest : List EngRun) (ring : Fin 9) (x : MvRun),
    let u := RegUnit.site p
    (s.enginesRun p = true → (s.site p).me.running = r :: rest → r.reason < 256 →
      ∃ t, exec (.meDescComplete p) s = .next t ∧ (t.site p).me.running = rest ∧ t.reg u 0x18100018 = s.reg u 0x18100018 + 1 ∧
        t.reg u 0x18100020 = s.reg u 0x18100020 + 1 ∧ (t.site p).me.queue = (s.site p).me.queue ∧
        (r.reason = 0 → t.reg u 0x18100028 = s.reg u 0x18100028 + w64 r.count ∧ t.cc p = s.cc p ∧
          (meOp r.desc = 4 → (t.site p).me.bank (meBank r.desc) = Bank.init)) ∧
        (r.reason ≠ 0 → bit (t.reg u 0x18100000) 7 = true ∧ t.rf u 0x18100000 8 8 = r.reason ∧
          (t.cc p).engPending = (s.cc p).engPending ++ [⟨0, 0, r.reason, BitVec.ofNat 32 (bytesAt r.desc.bytes 44 4)⟩])) ∧
    (s.enginesRun p = true → (s.site p).ve.running = r :: rest → r.reason < 256 →
      ∃ t, exec (.veDescComplete p) s = .next t ∧ (t.site p).ve.running = rest ∧ t.reg u 0x18200018 = s.reg u 0x18200018 + 1 ∧
        t.reg u 0x18200020 = s.reg u 0x18200020 + 1 ∧ (t.site p).ve.queue = (s.site p).ve.queue ∧
        (r.reason = 0 → t.reg u 0x18200028 = s.reg u 0x18200028 + w64 r.count ∧ t.cc p = s.cc p) ∧
        (r.reason ≠ 0 → bit (t.reg u 0x18200000) 7 = true ∧ t.rf u 0x18200000 8 8 = r.reason ∧
          (t.cc p).engPending = (s.cc p).engPending ++ [⟨1, 0, r.reason, BitVec.ofNat 32 (bytesAt r.desc.bytes 12 4)⟩])) ∧
    (s.mvFrozen p = false → s.coreState p ≠ 3 → (s.ring p ring.val).run = some x → x.reqs = [] → x.reason < 256 → x.poison = false →
      ∃ t, exec (.mvDescComplete p ring) s = .next t ∧ (t.ring p ring.val).run = none ∧ (t.ring p ring.val).queue = (s.ring p ring.val).queue ∧
        t.reg u 0x18502208 = s.reg u 0x18502208 + 1 ∧
        t.reg u (0x18502010 + 32 * ring.val) = s.reg u (0x18502010 + 32 * ring.val) + 1 ∧
        (x.reason = 0 → t.cc p = s.cc p) ∧
        (x.reason ≠ 0 → bit (t.reg u (0x18502000 + 32 * ring.val)) 1 = true ∧ t.rf u (0x18502000 + 32 * ring.val) 8 8 = x.reason ∧
          (ring.val ≠ 8 → (t.cc p).engPending = (s.cc p).engPending ++ [⟨2, ring.val, x.reason, BitVec.ofNat 32 (mvToken x.desc)⟩])))

/-- R97, R100, R119, R129, R131, R147, R184, R187, R190: ABORT stops what runs, discards the queue and brings the issue count back to the done
count, and for the matrix engine empties both banks; CLEAR_FAULT discards the queue and clears FAULTED; a summary write clears its poison;
the management die's issue joins ring 8; a resend sends its packet again. -/
def Obligations.EngineControlWrites : Prop :=
  ∀ (s : State) (p : Site) (ring : Fin 9) (n : BitVec 4) (v : W64) (off : BitVec 29) (x : MvRun) (q : MvReq), s.coreRuns p = true →
    let u := RegUnit.site p
    let o := off.toNat / 64 * 64
    (∃ t, exec (.meAbort p) s = .next t ∧ (t.site p).me.queue = [] ∧ (t.site p).me.running = [] ∧ (t.site p).me.bank0 = Bank.init ∧
      (t.site p).me.bank1 = Bank.init ∧ (t.cc p).meIssued = s.reg u 0x18100020 ∧ t.regs = s.regs) ∧
    (∃ t, exec (.meClearFault p) s = .next t ∧ (t.site p).me.queue = [] ∧ bit (t.reg u 0x18100000) 7 = false ∧
      (t.site p).me.running = (s.site p).me.running ∧ (t.site p).me.bank0 = (s.site p).me.bank0) ∧
    (∃ t, exec (.veAbort p) s = .next t ∧ (t.site p).ve.queue = [] ∧ (t.site p).ve.running = [] ∧ (t.site p).ve.cache = (s.site p).ve.cache ∧
      (t.cc p).veIssued = s.reg u 0x18200020 ∧ t.regs = s.regs) ∧
    (∃ t, exec (.veClearFault p) s = .next t ∧ (t.site p).ve.queue = [] ∧ bit (t.reg u 0x18200000) 7 = false ∧
      (t.site p).ve.running = (s.site p).ve.running) ∧
    (∃ t, exec (.veSumWrite p n v) s = .next t ∧ t.reg u (0x18200100 + 8 * n.toNat) = v ∧ bit (t.reg u 0x18200050) n.toNat = false ∧
      t.sites = s.sites ∧ t.scratch = s.scratch) ∧
    (∃ t, exec (.mvAbort p ring) s = .next t ∧ (t.ring p ring.val).queue = [] ∧ (t.ring p ring.val).run = none ∧
      (∀ m, m ≠ ring.val → t.ring p m = s.ring p m) ∧
      (ring.val ≠ 8 → Sparse.get 0 (t.cc p).mvIssued ring.val = s.reg u (0x18502010 + 32 * ring.val))) ∧
    (s.mvFrozen p = false → ∃ t, exec (.mvClearFault p ring) s = .next t ∧ (t.ring p ring.val).queue = [] ∧
      bit (t.reg u (0x18502000 + 32 * ring.val)) 1 = false ∧ (t.ring p ring.val).run = (s.ring p ring.val).run) ∧
    ((s.ring p 8).queue.length < 32 → s.segOn p o = true → ∃ t d, exec (.mvMgmtIssue p off) s = .next t ∧
      (t.ring p 8).queue = (s.ring p 8).queue ++ [d] ∧ d.off = o ∧ ∀ m, m ≠ 8 → t.ring p m = s.ring p m) ∧
    (s.mvFrozen p = false → s.quiet p = false → (s.ring p ring.val).run = some x → x.reqs = [q] →
      (∃ due, q.resendAt = some due ∧ due ≤ s.time) → s.time < q.first + (s.cc p).sendBudget.toNat →
      ∃ t, exec (.mvResend p ring) s = .next t ∧ t.net.length = s.net.length + 1 ∧
        (t.ring p ring.val).run = some { x with reqs := [{ q with resendAt := none }] })

/-! ## Scratchpad, spill memory and the scheduled plane -/

/-- R180, R200, R201, R203, R204, R213: a permitted REGn_ADV advances HEAD or TAIL by its amount; a scrub pass reads its next line and counts it,
and is BEHIND one period after its start; a write-back stores the oldest queued granule as it decodes; a watch entry below three is freed
after an hour; a remap entry names the failing row and its spare and joins the stored map. -/
def Obligations.ScratchpadProtectionRows : Prop :=
  ∀ (s : State) (p : Site) (region : BitVec 6) (amount : BitVec 32) (n : BitVec 5) (die : BitVec 1) (row : BitVec 14),
    let u := RegUnit.site p
    let g := region.toNat
    let v := s.reg u (0x18508200 + 8 * n.toNat)
    (s.coreRuns p = true → s.regAdvBad p g true amount.toNat = false → ∃ t, exec (.regAdv p region true amount) s = .next t ∧
      t.regionHead p g = (s.regionHead p g + amount.toNat) % 2 ^ 64 ∧ t.regionTail p g = s.regionTail p g ∧
      t.sites = s.sites ∧ t.scratch = s.scratch) ∧
    (s.coreRuns p = true → s.regAdvBad p g false amount.toNat = false → ∃ t, exec (.regAdv p region false amount) s = .next t ∧
      t.regionTail p g = (s.regionTail p g + amount.toNat) % 2 ^ 64 ∧ t.regionHead p g = s.regionHead p g ∧
      t.sites = s.sites ∧ t.scratch = s.scratch) ∧
    (∀ x off next, s.scrubRuns p = true → s.scrubPeriod p ≠ 0 → (s.site p).scrubPass = some x → scrubLineAt x.spans x.done = some off →
      scrubLineAt x.spans (x.done + 1) = some next → ∃ t, exec (.scrubLineRead p) s = .next t ∧
        t.reg u 0x18508018 = s.reg u 0x18508018 + 1 ∧ t.reg u 0x18508010 = w64 next ∧
        (t.site p).scrubPass = some { x with done := x.done + 1 } ∧ t.scratch = s.scratch) ∧
    (∀ x, (s.site p).scrubPass = some x → x.behind = false → s.scrubPeriod p ≠ 0 → x.start + s.scrubPeriod p ≤ s.time →
      ∃ t, exec (.scrubBehind p) s = .next t ∧ t.rf u 0x18508000 1 1 = 1 ∧ (t.site p).scrubPass = some { x with behind := true } ∧
        t.scratch = s.scratch) ∧
    (∀ k rest, (s.site p).writeBacks = k :: rest → s.scrubRuns p = true → s.segOn p (k * 64) = true →
      ∃ t, exec (.writeBack p) s = .next t ∧ (t.site p).writeBacks = rest ∧ t.scratch = (s.writeBackGran p (k * 64)).scratch) ∧
    (bit v 63 = true → fld v 61 2 < 3 → hourTicks ≤ (s.time + 2 ^ 41 - fld v 0 41) % 2 ^ 41 →
      ∃ t, exec (.watchEntryExpiry p n) s = .next t ∧ t.reg u (0x18508200 + 8 * n.toNat) = 0 ∧
        (∀ m, m < 32 → m ≠ n.toNat → t.reg u (0x18508200 + 8 * m) = s.reg u (0x18508200 + 8 * m)) ∧ t.scratch = s.scratch) ∧
    (∀ e spare, s.remapFree p die.toNat n.toNat = some (e, spare) → row.toNat < 12288 →
      let image := w64 (2 ^ 63 + spare * 2 ^ 19 + n.toNat * 2 ^ 14 + row.toNat)
      ∃ t, exec (.remapAdd p die n row) s = .next t ∧ t.reg u (0x18508100 + 64 * die.toNat + 8 * e) = image ∧
        t.flash.remaps = s.flash.remaps ++ [(p.val * 2 + die.toNat, image)])

/-- R365, R375, R377, R378, R379, R382: a readout shows in SPX_TEMP, doubles refresh at 85 °C and closes a READY stack at 95 °C; a failed
recalibration takes the stack offline and loses its cells and no other stack's; a refresh keeps everything; a finished block copy makes its
entry valid; a write-back leaves the queue; a finished fill frees its entry. -/
def Obligations.SpillStackRows : Prop :=
  ∀ (s : State) (k : Fin 28) (temp : BitVec 8) (n : BitVec 5) (m : BitVec 8),
    (∃ t, exec (.stackTempReadout k temp) s = .next t ∧ t.reg (.stack k) 0x10 = temp.zeroExtend 64 ∧
      t.rf (.stack k) 0 8 1 = (if 85 ≤ temp.toInt then 1 else 0) ∧
      (95 ≤ temp.toInt → s.stackState k = 2 → t.stackState k = 3) ∧ (temp.toInt < 95 → s.stackState k = 2 → t.stackState k = 2) ∧
      t.spill = s.spill ∧ t.scratch = s.scratch) ∧
    (s.stackState k = 2 → ∃ t, exec (.stackRecalFailure k) s = .next t ∧ t.stackState k = 4 ∧ t.scratch = s.scratch ∧
      ∀ block unit b, block < spillBlocks + 32 → unit < 128 → b < 34 →
        t.spill.read (spillKey k.val block unit b) = 0 ∧
        ∀ j : Fin 28, j ≠ k → t.spill.read (spillKey j.val block unit b) = s.spill.read (spillKey j.val block unit b)) ∧
    exec (.stackRefresh k) s = .next s ∧
    (∀ block spare, (s.stackSt k).copying.find? (fun c => c.1 == n.toNat) = some (n.toNat, block, spare) →
      ∃ t, exec (.spillRemapComplete k n) s = .next t ∧ t.spillRemap k n.toNat = w64 (2 ^ 63 + spare * 2 ^ 24 + block) ∧
        (t.stackSt k).copying = (s.stackSt k).copying.filter (fun c => c.1 != n.toNat) ∧ t.scratch = s.scratch) ∧
    (∀ x rest, (s.stackSt k).writeBacks = x :: rest → ∃ t, exec (.spillWriteBack k) s = .next t ∧ (t.stackSt k).writeBacks = rest ∧
      t.regs = s.regs ∧ t.scratch = s.scratch) ∧
    (bit (s.extCfg k m.toNat) 63 = true → bit (s.extCfg k m.toNat) 61 = true →
      ∃ t, exec (.spillClearComplete k m) s = .next t ∧ t.reg (.stack k) (0x1000 + 16 * m.toNat) = 0 ∧
        t.reg (.stack k) (0x1008 + 16 * m.toNat) = 0 ∧ (t.stackSt k).copying = (s.stackSt k).copying)

/-- R221, R225, R229, R235, R236, R241, R242: with no CRC error, in the good case, each slot action does what its row says to the arriving flit, its
slot buffer or turn queue and the flit that leaves, which meets the next stop H slots later; the flit taken is gone from its slot. An
INJECT from an empty buffer sends LATE and counts an underrun. -/
def Obligations.ScheduledSlotActions : Prop :=
  ∀ (s : State) (p q : Site) (c : Fin 12) (slot : BitVec 13) (tag : Nat),
    let e := s.slotEntry p c.val slot.toNat
    let f := s.arriving p c.val slot.toNat
    let b := fld e 6 6
    let w := fld e 6 4
    let act (k : Nat) := s.effAction p c.val slot.toNat = k
    let buf := s.slotBuf p b
    let sent (t : State) (x : SFlit) := t.arriving q c.val ((slot.toNat + s.hopLen p) % s.frameLen p) = x
    let taken (t : State) := t.arriving p c.val slot.toNat = SFlit.empty
    slot.toNat < s.frameLen p → s.frameLen p ≤ 8192 → nextStop p c.val = some q → (s.site p).fabricDown = false →
    s.coreDown p = false → s.shadowing p = [] → s.leaseOwner p c.val slot.toNat = some tag → tag < 256 → s.siteTag p = tag →
    (s.part (s.partOf p)).any (·.stepHash) = false →
    (act 0 → f.valid = true → f.late = false → ∃ t, exec (.slotPass p c slot false) s = .next t ∧ sent t f ∧ taken t ∧
      t.reg (.site p) (0x18700100 + 8 * c.val) = s.reg (.site p) (0x18700100 + 8 * c.val) + 1 ∧ t.sites = s.sites) ∧
    (∀ x rest, act 1 → bit e 12 = false → f.valid = false → s.slotMode p b = 1 → buf = x :: rest →
      ∃ t, exec (.slotInject p c slot false) s = .next t ∧ sent t (SFlit.dataOf tag x.flit) ∧ taken t ∧ t.slotBuf p b = rest) ∧
    (act 1 → f.valid = false → s.slotMode p b = 1 → buf = [] → s.rf (.site p) 0x18700180 0 32 < 0xFFFFFFFF →
      ∃ t, exec (.slotInject p c slot false) s = .next t ∧ sent t (SFlit.lateOf tag) ∧
        t.rf (.site p) 0x18700180 0 32 = s.rf (.site p) 0x18700180 0 32 + 1) ∧
    (act 2 → f.ownedBy tag = true → s.slotMode p b = 3 → buf.length < 256 →
      ∃ t, exec (.slotExtract p c slot false) s = .next t ∧ taken t ∧ t.slotBuf p b = buf ++ [⟨f.flit, f.late, 0⟩] ∧ t.regs = s.regs) ∧
    (act 3 → bit e 12 = false → f.ownedBy tag = true → s.slotMode p b = 3 → buf.length < 256 →
      ∃ t, exec (.slotDropContinue p c slot false) s = .next t ∧ sent t f ∧ taken t ∧ t.slotBuf p b = buf ++ [⟨f.flit, f.late, 0⟩]) ∧
    (∀ x rest, act 4 → f.ownedBy tag = true → f.late = false → s.slotMode p b = 1 → buf = x :: rest →
      ∃ t, exec (.slotReduceAdd p c slot false) s = .next t ∧ taken t ∧ t.slotBuf p b = rest ∧
        sent t (SFlit.dataOf tag ⟨if bit e 12 then waMerge512 f.flit.data x.flit.data else fpAdd512 f.flit.data x.flit.data,
          f.flit.poison || x.flit.poison⟩)) ∧
    (act 5 → f.ownedBy tag = true → s.tqLevel p < 256 →
      ∃ t, exec (.slotTurn p c slot false) s = .next t ∧ taken t ∧
        t.turnQ p w = s.turnQ p w ++ [⟨f, s.frameCount.toNat, slot.toNat⟩] ∧ t.regs = s.regs) ∧
    (∀ x rest, act 6 → bit e 12 = false → f.valid = false → s.turnQ p w = x :: rest → s.turnReady p slot.toNat x = true →
      x.flit.ownedBy tag = true → ∃ t, exec (.slotTurnIn p c slot false) s = .next t ∧ taken t ∧ sent t x.flit ∧ t.turnQ p w = rest)

/-- R177, R179, R241, R242: a FEED buffer with room takes the next whole line below HEAD as eight flits; a LAND buffer's oldest flit is written at
HEAD, which advances by 64. -/
def Obligations.FeedAndLandBuffers : Prop :=
  ∀ (s : State) (p : Site) (buf : BitVec 6), s.coreDown p = false →
    let n := buf.toNat
    let g := s.sbRegion p n
    let pos := max (Sparse.get 0 (s.site p).feedPos n) (s.regionTail p g)
    let head := s.regionHead p g
    let off := s.regionOff p g head
    2 ≤ s.regionMode p g →
    (s.slotMode p n = 2 → (s.slotBuf p n).length ≤ 248 → s.regionConsumer p g = 5 → pos + 512 ≤ s.regionHead p g →
      s.spanOn p (s.regionOff p g pos) 512 = true →
      ∃ t, exec (.feedLineFetch p buf) s = .next t ∧ (t.slotBuf p n).length = (s.slotBuf p n).length + 8 ∧
        (t.slotBuf p n).take (s.slotBuf p n).length = s.slotBuf p n ∧ Sparse.get 0 (t.site p).feedPos n = pos + 512 ∧
        t.scratch = s.scratch) ∧
    (∀ x rest, s.slotBuf p n = x :: rest → x.late = false → s.slotMode p n = 3 → s.regionProducer p g = 5 →
      head < s.regionTail p g + s.regionSize p g → s.spanOn p off 64 = true → head + 64 < 2 ^ 64 →
      ∃ t, exec (.landFlitWrite p buf) s = .next t ∧ t.slotBuf p n = rest ∧ t.regionHead p g = head + 64 ∧
        t.scratch = (s.writeWide p off x.flit).scratch)

/-! ## Core resets, worms and links -/

/-- R512, R516, R543: a reset of a core that is not OFF, CLEARING or HELD leaves it in RESET with its control core, engines and queues as after
reset, its instruction memory, its scratchpad and every other site as they were; a restart runs it from PC 0; QUIESCE and its clearing change
CORE_STATUS alone. -/
def Obligations.CoreResetRestartAndQuiesce : Prop :=
  ∀ (s : State) (p : Site),
    let st := s.coreState p
    let status := [(RegUnit.site p, 0x18000000)]
    (st ≠ 0 → st ≠ 6 → st ≠ 7 → ∃ t, exec (.coreReset p) s = .next t ∧ t.coreState p = 1 ∧ t.cc p = Cc.init ∧ (t.site p).me = Me.init ∧
      (t.site p).ve = Ve.init ∧ (t.site p).rings = [] ∧ (t.site p).queues = [] ∧ (t.site p).ctxs = [] ∧ (t.site p).imem = (s.site p).imem ∧
      t.lcidOf p = s.lcidOf p ∧ t.mvFrozen p = false ∧ t.scratch = s.scratch ∧ t.spill = s.spill ∧ t.host = s.host ∧
      ∀ q, q ≠ p → t.site q = s.site q) ∧
    (st = 1 → ∃ t, exec (.coreRestart p) s = .next t ∧ t.coreState p = 2 ∧ t.cc p = Cc.init ∧ t.scratch = s.scratch ∧
      (∀ q, q ≠ p → t.site q = s.site q) ∧ { t.site p with cc := (s.site p).cc } = s.site p) ∧
    (st = 2 → ∃ t, exec (.coreQuiesce p) s = .next t ∧ t.coreState p = 5 ∧ s.onlyRegs t status) ∧
    (st = 5 → ∃ t, exec (.coreUnquiesce p) s = .next t ∧ t.coreState p = 2 ∧ s.onlyRegs t status)

/-- R227, R260, R514: the stop of a core that does not run ends its newest packet with a payload by a TRUNC tail; a flit received with a CRC error is
counted and a replay asked for; a NAK replays from ACK_SEQ + 1, counted, and the request for it ends. -/
def Obligations.WormsAndLinkReplay : Prop :=
  ∀ (s : State) (p : Site) (track : BitVec 3) (ack : BitVec 7) (a b : List Flight) (f : Flight),
    let u := RegUnit.site p
    let mine (f : Flight) := f.src = .stop p ∧ f.pkt.payload ≠ []
    let n := track.toNat
    (s.coreRuns p = false → s.net = a ++ f :: b → mine f → (∀ g ∈ b, ¬ mine g) → (∀ g ∈ s.net, mine g → g.pkt.trunc = false) →
      exec (.wormTruncate p) s = .next { s with net := a ++ { f with pkt := { f.pkt with trunc := true } } :: b }) ∧
    (s.rf u 0x18710180 0 32 < 0xFFFFFFFF → ∃ t, exec (.rqFlitCrcError p track) s = .next t ∧
      t.rf u 0x18710180 0 32 = s.rf u 0x18710180 0 32 + 1 ∧ t.link p n = { s.link p n with nak := true } ∧ t.net = s.net ∧
      t.scratch = s.scratch ∧ t.cc p = s.cc p) ∧
    (s.rf u 0x18710188 0 32 < 0xFFFFFFFF → ∃ t, exec (.linkNakReplay p track ack) s = .next t ∧
      t.rf u 0x18710188 0 32 = s.rf u 0x18710188 0 32 + 1 ∧ (t.link p n).nakFrom = ack + 1 ∧
      (∀ q, trackNext p n = some q → (t.link q n).nak = false) ∧ t.net = s.net ∧ t.scratch = s.scratch)

/-! ## Channels over time -/

/-- R295, R296, R299, R300, R301: a reservation that no packet has reached for 100 µs is abandoned, with MSG_ABANDONED and its NEXT_SEQ kept; a resend
whose backoff has elapsed goes out within the budget; a budget that has run out frees a context still opening and fails an open one. -/
def Obligations.ChannelTimers : Prop :=
  ∀ (s : State) (p : Site) (ch ctx : BitVec 8) (x : RecvCh) (r : Resv) (due : Nat) (m : PendMsg),
    let n := ctx.toNat
    let c := s.sctx p n
    (s.recvCh p ch.toNat = some x → x.queue < 128 → s.resvOf p ch.toNat = some r → s.coreState p ≠ 3 → r.last + 10000 ≤ s.time →
      ∃ t, exec (.msgAbandoned p ch) s = .next t ∧ s.raised t 0x3002 ([s.lcidOf p, x.queue, ch.toNat, r.seq.toNat, r.size].map w64) ∧
        t.recvCh p ch.toNat = some x ∧ t.rf (.site p) (0x18300028 + 256 * x.queue) 1 1 = 1 ∧
        t.reg (.site p) (0x18300040 + 256 * x.queue) = s.reg (.site p) (0x18300040 + 256 * x.queue) + 1 ∧ t.net = s.net) ∧
    (s.enginesRun p = true → s.quiet p = false → c.state = 1 → c.resendAt = some due → due ≤ s.time → s.time < c.first + c.budget →
      ∃ t, exec (.channelResend p ctx) s = .next t ∧ t.net.length = s.net.length + 1 ∧
        t.sctx p n = { c with req := some (s.site p).mvNextSeq, resendAt := none } ∧ ∀ k, k ≠ n → t.sctx p k = s.sctx p k) ∧
    (s.enginesRun p = true → s.quiet p = false → c.state = 2 → c.msgs = [m] → m.status = none → m.resendAt = some due → due ≤ s.time →
      m.late s.time = false → ∃ t, exec (.channelResend p ctx) s = .next t ∧ t.net.length = s.net.length + (msgAddrs m.len).length ∧
        (t.sctx p n).state = 2 ∧ ∃ y, (t.sctx p n).msgs = [y] ∧ y.seq = m.seq ∧ y.resendAt = none ∧ y.att = m.att + 1) ∧
    (s.enginesRun p = true → c.state = 1 → c.resendAt = some due → c.first + c.budget ≤ s.time →
      ∃ t, exec (.sendBudgetExpiry p ctx) s = .next t ∧ t.sctx p n = SendCtx.init ∧ (∀ k, k ≠ n → t.sctx p k = s.sctx p k) ∧
        t.net = s.net ∧ t.regs = s.regs) ∧
    (s.enginesRun p = true → c.state = 2 → m ∈ c.msgs → m.status = none → m.resendAt = some due → m.late s.time = true →
      ∃ t, exec (.sendBudgetExpiry p ctx) s = .next t ∧ (t.sctx p n).state = 3 ∧ t.net = s.net)

/-! ## Packets -/

/-- R170, R182, R263, R272, R278, R306, R307, R522: at a running core's stop, a write, put or reduction that passes the checks changes scratchpad as its payload
says and is acknowledged; a read answers with the granules as they decode; a row write stores its raw rows. -/
def Obligations.RemoteAccessesAtAStop : Prop :=
  ∀ (s : State) (p : Site) (k : Packet) (d : Place),
    let here := Place.stop p
    let off := k.addr.toNat
    let len := 64 * k.payload.length
    let w := fld k.ctx 0 6
    let base := s.rf (.site p) (0x18402000 + 32 * w) 9 20 * 512
    let wide (typ : Byte) := s.stopTakes p k typ ∧ k.dest.toNat < 144 ∧ s.remoteSpanOk p off len = true ∧
      s.checkWrites p 5 off len = .ok ∧ s.answerPlace here k = some d
    (wide 0x01 → s.tagOk p k = true → ∃ t, exec (.pktWrite here k) s = .next t ∧ s.answered t here k 0x11 d ∧
      t.scratch = (s.writeGrans p off k.payload).scratch ∧ t.cc p = s.cc p) ∧
    (wide 0x03 → s.winIsOpen p w = true → k.gen.toNat = s.winGen p w → k.tag.toNat = s.winTag p w → base ≤ off →
      off + len ≤ base + s.rn (.site p) (0x18402008 + 32 * w) → ∃ t, exec (.pktPut here k) s = .next t ∧ s.answered t here k 0x11 d ∧
        t.scratch = (s.writeGrans p off k.payload).scratch ∧ t.cc p = s.cc p) ∧
    (wide 0x05 → s.tagOk p k = true → ∃ t, exec (.pktReduce here k) s = .next t ∧ s.answered t here k 0x11 d ∧
      t.scratch = (s.reduceGrans p off k.payload).scratch ∧ t.cc p = s.cc p) ∧
    (s.stopTakes p k 0x02 → k.dest.toNat < 144 → s.tagOk p k = true → k.aux.toNat ≤ 2048 → s.remoteSpanOk p off k.aux.toNat = true →
      s.checkReads p 5 off k.aux.toNat = .ok → s.answerPlace here k = some d →
      ∃ t f, exec (.pktReadReq here k) s = .next t ∧ t.net = (s.landed here k).net ++ [f] ∧ f.dst = d ∧ f.pkt.typ = 0x10 ∧
        f.pkt.seq = k.seq ∧ f.pkt.payload = (granOffs off k.aux.toNat).map (fun o => ⟨(s.granAt p o).data, (s.granAt p o).poison != 0⟩) ∧
        t.scratch = s.scratch ∧ t.cc p = s.cc p) ∧
    (k.typ = 0x09 → wellFormedPkt k = true → k.trunc = false → k.tag = 0xFE → k.dest = 0xF2 → s.rf (.site p) 0x18500008 0 1 = 1 →
      off / 2 ^ 20 % 256 = p.val → fld k.aux 0 2 ≠ 0 → k.payload.length = 9 * fld k.aux 0 2 →
      off % 2 ^ 14 + fld k.aux 0 2 ≤ 12292 → s.answerPlace here k = some d →
      ∃ t, exec (.pktRowWrite here k) s = .next t ∧ s.answered t here k 0x11 d ∧
        t.scratch = (s.putRows (off % 2 ^ 32) (chunks 576 (fld k.aux 0 2) (flitBytes k.payload))).scratch ∧ t.sites = s.sites)

/-- R293, R294, R296, R303: a MSG packet in order lands and is acknowledged, and one that completes its message advances NEXT_SEQ; CHAN_OPEN
registers the lowest free channel and is accepted; CHAN_CLOSE frees the channel. -/
def Obligations.MessagesAtAStop : Prop :=
  ∀ (s : State) (p : Site) (k : Packet) (d : Place) (x : RecvCh) (c : Nat),
    let here := Place.stop p
    let ch := k.ctx.toNat
    let q := fld k.queue 0 7
    let known := s.recvCh p ch = some x ∧ x.queue < 128
    k.dest.toNat < 144 → s.tagOk p k = true → s.answerPlace here k = some d →
    (s.stopTakes p k 0x04 → known → s.qActive p x.queue = true → k.seq = x.nextSeq → (s.resvOf p ch).isSome = true →
      ∃ t, exec (.pktMsg here k) s = .next t ∧ s.answered t here k 0x11 d ∧ t.cc p = s.cc p) ∧
    (s.stopTakes p k 0x04 → known → s.qActive p x.queue = true → k.seq = x.nextSeq → s.resvOf p ch = none → k.addr = 0 →
      fld k.aux 0 17 ≤ 2048 → (s.qPlace p x.queue ch k.seq (fld k.aux 0 17)).2 = true →
      ∃ t, exec (.pktMsg here k) s = .next t ∧ s.answered t here k 0x11 d ∧ t.recvCh p ch = some { x with nextSeq := x.nextSeq + 1 } ∧
        t.cc p = s.cc p) ∧
    (s.stopTakes p k 0x06 → s.freeRecv p = some c → s.qActive p q = true →
      ∃ t, exec (.pktChanOpen here k) s = .next t ∧ s.answered t here k 0x12 d ∧ t.recvCh p c = some ⟨q, k.src, k.srcUnit, 0⟩ ∧
        ∀ n, n ≠ c → t.recvCh p n = s.recvCh p n) ∧
    (s.stopTakes p k 0x07 → known → ∃ t, exec (.pktChanClose here k) s = .next t ∧ s.answered t here k 0x13 d ∧ t.recvCh p ch = none ∧
      ∀ n, n ≠ ch → t.recvCh p n = s.recvCh p n)

/-- R184, R187, R262, R296, R303, R518, R519: an answer to a request outstanding from the core settles it: a READ_RESP lands at its place, an ACK ends
its packet, CHAN_ACCEPT opens and CHAN_CLOSED or a refusal frees the context; a NACK of the control core's request with AUX[12]
freezes the core and raises PARTITION_VIOLATION. -/
def Obligations.AnswersToACore : Prop :=
  ∀ (s : State) (p : Site) (k : Packet) (n : Nat) (q : MvReq),
    let here := Place.stop p
    let whole (typ : Byte) := k.typ = typ ∧ wellFormedPkt k = true ∧ s.takesAnswers p k = true
    let landed (t : State) := t.net = (s.landed here k).net
    let others (t : State) := ∀ m, m ≠ n → t.ring p m = s.ring p m
    let ctxs (t : State) := ∀ m, m ≠ n → t.sctx p m = s.sctx p m
    (whole 0x10 → s.mvAwaiting p k.seq = some n → (s.ring p n).req k.seq = some q →
      ∃ t, exec (.pktReadResp here k) s = .next t ∧ landed t ∧ others t ∧ (t.ring p n).awaits k.seq = false ∧
        t.scratch = (State.engWrite [] s p 3 q.land k.payload).1.scratch ∧ t.cc p = s.cc p) ∧
    (whole 0x11 → fld k.aux 0 8 ≠ 0x04 → s.mvAwaiting p k.seq = some n →
      ∃ t, exec (.pktAck here k) s = .next t ∧ landed t ∧ others t ∧ t.ring p n = (s.ring p n).done k.seq ∧ t.regs = s.regs ∧
        t.scratch = s.scratch) ∧
    (whole 0x12 → s.ctxShaking p k.seq = some n → (s.sctx p n).state = 1 →
      ∃ t, exec (.pktChanAccept here k) s = .next t ∧ landed t ∧ ctxs t ∧ t.regs = s.regs ∧
        t.sctx p n = { s.sctx p n with state := 2, channel := fld k.ctx 0 8, req := none }) ∧
    (whole 0x13 → s.ctxShaking p k.seq = some n → (s.sctx p n).state = 4 →
      ∃ t, exec (.pktChanClosed here k) s = .next t ∧ landed t ∧ ctxs t ∧ t.regs = s.regs ∧ t.sctx p n = SendCtx.init) ∧
    (whole 0x20 → fld k.aux 0 8 = 0x06 → bit k.aux 12 = false → s.ctxShaking p k.seq = some n → (s.sctx p n).state = 1 → k.reason ≠ 0x05 →
      ∃ t, exec (.pktNack here k) s = .next t ∧ landed t ∧ ctxs t ∧ t.regs = s.regs ∧ t.sctx p n = SendCtx.init) ∧
    (whole 0x20 → fld k.aux 0 8 = 0x21 → bit k.aux 12 = true → s.coreRuns p = true → s.rf (.site p) 0x18000028 0 32 < 0xFFFFFFFE →
      ∃ t, exec (.pktNack here k) s = .next t ∧ t.coreState p = 3 ∧ t.rf (.site p) 0x18000028 0 32 = s.rf (.site p) 0x18000028 0 32 + 1 ∧
        s.raised t 0x9002 ([s.lcidOf p, 1, k.src.toNat * 256 + k.srcUnit.toNat, k.addr.toNat, 0x21].map w64) ∧ t.cc p = s.cc p)

/-- R281, R282, R283, R284, R532: an arrival of a member at its home, for the open episode, is taken once; the last one opens the next episode, and
releases go to the members present and a report to the management die; a release sets the member's BAR_DONE; a report joins the window
of each member. -/
def Obligations.BarrierPackets : Prop :=
  ∀ (s : State) (p : Site) (k : Packet),
    let here := Place.stop p
    let u := RegUnit.site p
    let i := fld k.aux 0 5
    let b := s.bar p i
    let whole (typ : Byte) := k.typ = typ ∧ wellFormedPkt k = true ∧ fld k.aux 8 8 = s.barGen p k.tag.toNat
    let home := s.quiet p = false ∧ bit (s.reg u (0x18730000 + 64 * i)) 63 = true ∧ s.rf u (0x18730000 + 64 * i) 8 8 = k.tag.toNat ∧
      s.barMember p i k.src.toNat = true ∧ k.seq = b.episode ∧ b.arrived.any (fun x => x.1 == k.src.toNat) = false
    let missing (l : Nat) := l ∈ s.barMembers p i ∧ l ≠ k.src.toNat ∧ b.arrived.any (fun x => x.1 == l) = false
    (whole 0x21 → home → (∃ l, missing l) → ∃ t time, exec (.pktBarArrive here k) s = .next t ∧
      t.bar p i = ⟨b.episode, b.arrived ++ [(k.src.toNat, time)]⟩ ∧ t.net = (s.landed here k).net ∧ t.regs = s.regs) ∧
    (whole 0x21 → home → (¬ ∃ l, missing l) → ∃ t, exec (.pktBarArrive here k) s = .next t ∧ t.bar p i = ⟨b.episode + 1, []⟩ ∧
      t.rf u (0x18730020 + 64 * i) 32 32 = b.episode.toNat ∧
      t.net.length = (s.landed here k).net.length + ((s.barMembers p i).filter fun l => (s.siteOf l).isSome).length + 1) ∧
    (whole 0x22 → k.tag.toNat = s.siteTag p → ∃ t, exec (.pktBarRelease here k) s = .next t ∧
      t.reg u (0x18731000 + 8 * i) = k.seq.zeroExtend 64 ∧ t.net = (s.landed here k).net ∧
      (∀ v off, regKey v off ≠ regKey u (0x18731000 + 8 * i) → t.reg v off = s.reg v off) ∧ t.sites = s.sites) ∧
    (k.typ = 0x23 → wellFormedPkt k = true →
      let home : Site := Fin.ofNat 168 k.srcUnit.toNat
      s.rf (.site home) (0x18730000 + 64 * i) 8 8 = k.tag.toNat →
      ∃ t, exec (.pktBarReport (.mgmt s.activeSouth) k) s = .next t ∧ t.net = (s.landed (.mgmt s.activeSouth) k).net ∧
        ∀ l q, l ∈ s.barMembers home i → s.siteOf l = some q →
          let v := (k.payload.getD 0 ⟨0, false⟩).data
          (t.site q).lateWin.head? = some (l == fld v 0 32 && decide (4000 < fld v 32 32), fld v 32 32))

/-- R250, R263, R274, R331, R335, R403, R406, R416: at the active management die a lost-slot or collective abort report fails the step it names, a STEP.DONE report
adds its core to those done, a drain report is kept until all have come, a service segment joins its message and its credit returns; a
MGMT read is answered with the register's value. -/
def Obligations.ManagementReports : Prop :=
  ∀ (s : State) (k : Packet) (place : Place) (x : Partition),
    let here := Place.mgmt s.activeSouth
    let whole (typ : Byte) := k.typ = typ ∧ wellFormedPkt k = true
    let failed (t : State) (tag cause code where' : Nat) := t.part tag = some { x with failed := some (cause + code * 2 ^ 8) } ∧
      s.raised t 0x7001 ([tag, x.stepIndex.toNat, cause + code * 2 ^ 8, where'].map w64) ∧ ∀ n, n ≠ tag → t.part n = s.part n
    let running (tag : Nat) := s.part tag = some x ∧ x.armed = true ∧ x.failed = none
    let frame := k.addr.toNat
    let id := if k.src = 0xFC then 200 + k.srcUnit.toNat else k.srcUnit.toNat
    (whole 0x26 → running (fld k.aux 0 8) → ∃ t, exec (.pktStepFail here k) s = .next t ∧
      failed t (fld k.aux 0 8) 0x01 (fld k.aux 8 16) frame) ∧
    (whole 0x24 → bit k.aux 16 = false → running k.tag.toNat → ∃ t, exec (.pktAbort here k) s = .next t ∧
      failed t k.tag.toNat 0x05 0x6005 0) ∧
    (whole 0x25 → k.aux = 1 → running k.tag.toNat → k.addr = x.stepIndex → k.src.toNat ∈ x.lcids → x.rel k.src.toNat ∉ x.done →
      exec (.pktMgmt here k) s =
        .next ((s.landed here k).setPart k.tag.toNat (some { x with done := x.done ++ [x.rel k.src.toNat] }))) ∧
    (whole 0x25 → k.aux = 2 → k.src = 0xF0 → place ≠ .mgmt (!s.activeSouth) → (∀ p, place = .stop p → s.quiet p = false) →
      ∃ t f, exec (.pktMgmt place k) s = .next t ∧ t.net = (s.landed place k).net ++ [f] ∧ f.dst = here ∧ f.pkt.typ = 0x25 ∧ f.pkt.aux = 3 ∧
        f.pkt.seq = k.seq ∧ fld (f.pkt.payload.getD 0 ⟨0, false⟩).data 0 64 = ((s.landed place k).unitRead (unitOf place) frame).toNat) ∧
    (whole 0x27 → s.epoch.flippedAt.isSome = true →
      (∃ i ∈ List.range 168 ++ (List.range 28).map (200 + ·), i ≠ id ∧ (frame, i) ∉ s.epoch.reports) →
      exec (.pktDrainReport here k) s = .next { s.landed here k with epoch := { s.epoch with
        reports := if (frame, id) ∈ s.epoch.reports then s.epoch.reports else s.epoch.reports ++ [(frame, id)] } }) ∧
    (∀ f seg, whole 0x08 → k.src = 0xF8 → frameOf k.payload = some f → f.typ = 0x80 → bit f.flags 1 = false → f.arg 4 1 = seg → seg ≤ 2 →
      let msg := BitVec.ofNat 32 (f.arg 0 4)
      let panel := fld f.srcPanel 0 10
      (∀ r ∈ s.reasm, ¬ (r.panel = panel ∧ r.msgId = msg)) →
      ∃ t, exec (.pktTransit here k) s = .next t ∧ t.net.length = (s.landed here k).net.length + 1 ∧
        t.reasm = s.reasm ++ [⟨panel, msg, fld k.aux 0 8 / 2, s.time, [(seg, f.flits)], none⟩] ∧ t.host = s.host)

/-! ## Ihlyx ports -/

/-- R389, R390, R392, R394, R395, R396, R397, R398, R400, R403, R406: on a port with nothing waiting at its egress, IDLE takes credits and acknowledgement, a CRC error
asks for a replay, a replay resends every unacknowledged frame and the sixteenth in succession takes the port DOWN, and an IDLE goes out; a
frame that waited beyond 1 ms is dropped; an IDENT ends training; a service answer addressed here is discarded. -/
def Obligations.IhlyxLinks : Prop :=
  ∀ (s : State) (port : Fin 84) (f : Frame) (me : Nat) (i : Instr),
    let n := port.val
    let u := RegUnit.die (portDie n)
    let x := s.port n
    let counter (off : Nat) := s.rf u (portReg n off) 0 32
    let counted (t : State) (off : Nat) := t.rf u (portReg n off) 0 32 = counter off + 1
    let others (t : State) := ∀ m, m ≠ n → t.port m = s.port m
    let late (e : EgFrame) : Bool := decide (e.since + 100000 < s.time)
    let g := f.payload.getD 0 0
    let lanes := Nat.land (Config.freeNat s.free % 16) (fld g 48 4)
    (s.portUp n = true → f.typ = 0 → f.wellFormed = true → x.egress = [] →
      ∃ t, exec (.frameIdle port f) s = .next t ∧ t.port n = x.linkFields f ∧ others t ∧ t.outbox = s.outbox ∧
        t.reg u (portReg n 0x1108) = s.reg u (portReg n 0x1108) + 1) ∧
    (2 ≤ s.portState n → counter 0x1188 < 0xFFFFFFFF → ∃ t, exec (.frameCrcError port) s = .next t ∧ t.port n = { x with nak := true } ∧
      others t ∧ counted t 0x1188 ∧ t.outbox = s.outbox) ∧
    (s.portUp n = true → x.replayDue = true → x.egress = [] → x.resent < 15 →
      ∃ t, exec (.ihlyxReplay port) s = .next t ∧ t.outbox.length = s.outbox.length + x.replay.length ∧ others t ∧
        (t.port n).replayDue = false ∧ (t.port n).resent = x.resent + 1 ∧ (t.port n).replay = x.replay) ∧
    (s.portUp n = true → x.replayDue = true → 15 ≤ x.resent → ∃ t, exec (.ihlyxReplay port) s = .next t ∧ t.portState n = 1 ∧
      t.rf u (portReg n 0x1000) 11 3 = 3) ∧
    (s.portUp n = true → x.egress = [] → ∃ t, exec (.portIdleSend port) s = .next t ∧ others t ∧
      t.outbox = s.outbox ++ [.frame n (x.dress (mkFrame 0x00 4 0 0 []))]) ∧
    (x.egress.any late = true → counter 0x11A0 < 0xFFFFFFFF → ∃ t, exec (.egressTimeout port) s = .next t ∧
      (t.port n).egress = dropFirst late x.egress ∧ others t ∧ counted t 0x11A0) ∧
    (s.portState n = 2 → f.typ = 0x01 → f.wellFormed = true → f.seq = x.rxSeq + 1 → ∃ t, exec (.frameIdent port f) s = .next t ∧
      (fld g 24 8 = 1 → lanes ≠ 0 → t.portState n = 3 ∧ t.rf u (portReg n 0x1000) 8 3 = widthOf lanes x.limit) ∧
      (fld g 24 8 ≠ 1 ∨ lanes = 0 → t.portState n = 1)) ∧
    ((f.typ, i) ∈ [(0x81, .frameSvcResponse port f), (0x82, .frameSvcOutput port f)] → s.portUp n = true → f.wellFormed = true →
      f.seq = x.rxSeq + 1 → s.isFrozen n 2 (fld f.srcPanel 0 10) = false → s.ownPanel = some me → x.conflict = false →
      fld f.dstPanel 0 10 = me → x.egress = [] → counter 0x11A0 < 0xFFFFFFFF →
      ∃ t, exec i s = .next t ∧ (t.port n).rxSeq = f.seq ∧ (t.port n).freed = x.freed.set 2 (x.freed.getD 2 0 + 1) ∧ counted t 0x11A0 ∧
        others t ∧ t.outbox = s.outbox ∧ t.net = s.net)

/-- R396, R397, R400, R417, R418, R419: loss of lock on an active lane, silence and a training timeout take a port DOWN with their cause; a second later it trains
again; TIME_SYNC goes out with a time stamp kept as T1; a TIME_SYNC received is answered, a TIME_REPLY sets the delay; a lock without an
exchange for 10 ms is lost. -/
def Obligations.PortFailuresAndPodTime : Prop :=
  ∀ (s : State) (port : Fin 84) (lane : BitVec 2) (f : Frame) (die : Fin 42) (up : Nat) (t1 : W64),
    let n := port.val
    let u := RegUnit.die (portDie n)
    let x := s.port n
    let v := s.reg u (portReg n 0x1000)
    let down (t : State) (cause : Nat) := t.portState n = 1 ∧ t.rf u (portReg n 0x1000) 11 3 = cause ∧ (t.port n).egress = [] ∧
      (t.port n).replay = [] ∧ (t.port n).downAt = s.time
    let accepted := s.portUp n = true ∧ f.wellFormed = true ∧ f.seq = x.rxSeq + 1 ∧ x.egress = []
    (s.portUp n = true → laneActive (fld v 17 4) (fld v 8 3) lane.toNat = true →
      ∃ t, exec (.portLossOfLock port lane) s = .next t ∧ down t 1) ∧
    (s.portUp n = true → ∃ t, exec (.portSilent port) s = .next t ∧ down t 2) ∧
    (s.portState n = 2 → x.trainAt + 20000000 ≤ s.time → ∃ t, exec (.portTrainTimeout port) s = .next t ∧ down t 5) ∧
    (s.portState n = 1 → s.rf (.gov (portDie n)) 0 2 1 = 1 → x.downAt + 100000000 ≤ s.time →
      ∃ t, exec (.portRetrainTimer port) s = .next t ∧ t.portState n = 2 ∧ (t.port n).trainAt = s.time ∧ (t.port n).limit = x.limit ∧
        t.net = s.net) ∧
    (s.portUp n = true → x.egress = [] → 0 < x.credits.getD 0 0 → x.credits.length = 4 → x.replayDue = false → x.replay.length < 512 →
      s.controlHeld n < 2048 →
      ∃ t fr, exec (.timeSyncSend port) s = .next t ∧ (t.port n).t1 = some s.stamp ∧ t.outbox = s.outbox ++ [.frame n fr] ∧ fr.typ = 0x02 ∧
        fr.arg 0 8 = s.stamp.toNat ∧ fr.seq = x.txSeq + 1) ∧
    (accepted → f.typ = 0x02 → 0x8000 ≤ f.arg 8 2 → f.arg 10 1 < 63 → ∃ t, exec (.frameTimeSync port f) s = .next t ∧
      (t.port n).adv = some (f.arg 8 2 % 2 ^ 10, f.arg 10 1) ∧ (t.port n).rxSeq = f.seq) ∧
    (accepted → f.typ = 0x03 → x.t1 = some t1 → s.servo.upstream ≠ some n → ∃ t, exec (.frameTimeReply port f) s = .next t ∧
      (t.port n).t1 = none ∧ t.servo = s.servo ∧
      t.rn u (portReg n 0x1018) = ((s.stamp - t1) - (BitVec.ofNat 64 (f.arg 8 8) - BitVec.ofNat 64 (f.arg 0 8))).toNat % 2 ^ 32) ∧
    (s.servo.upstream = some up → up / 2 = die.val → s.servo.lastAt + 1000000 ≤ s.time → s.servo.locked = true →
      ∃ t, exec (.podTimeUnlockTimeout die) s = .next t ∧ t.servo.locked = false ∧ t.servo.good = 0 ∧ t.servo.base = s.servo.base ∧
        s.raised t 0x6008 [1, BitVec.ofInt 64 s.servo.lastError, 0])

/-- R401, R402, R403, R406, R407, R409, R416: a routed frame accepted in order and addressed to another panel leaves the port die for the die of its
egress port, HOPS one less, in a TRANSIT packet with a transit credit, a control frame in an ABORT packet; a permitted service request goes to
the management die, a bulk write to its aperture's stack. -/
def Obligations.RoutedFrames : Prop :=
  ∀ (s : State) (port : Fin 84) (f : Frame) (typ : Byte) (i : Instr) (me e : Nat),
    let n := port.val
    let d := portDie n
    let u := RegUnit.die d
    let x := s.port n
    let c := f.cls
    let src := fld f.srcPanel 0 10
    let dst := fld f.dstPanel 0 10
    let credit (dest : Nat) := Sparse.get 0 (s.dieSt d.val).credits (dest * 4 + c)
    let a := f.arg 0 1
    let ap := s.reg u (0x4000 + 32 * a)
    (typ, i) ∈ [(0x04, .frameAbort port f), (0x40, .frameCollUp port f), (0x41, .frameCollDown port f), (0x80, .frameSvcRequest port f),
      (0xC0, .frameBulkWrite port f)] →
    f.typ = typ → f.wellFormed = true → s.portUp n = true → f.seq = x.rxSeq + 1 → x.egress = [] → (c ≠ 0 → s.isFrozen n c src = false) →
    s.ownPanel = some me → x.conflict = false →
    (dst ≠ me → f.hops - 1 ≠ 0 → f.hops - 1 ≠ 0xFF → s.routeOf d dst = some e → e < 84 → s.portUp e = true → e / 2 ≠ d.val →
      (c ≠ 0 → credit (e / 2) < 32) →
      ∃ t k, exec i s = .next t ∧ t.net = s.net ++ [k] ∧ k.dst = .die (Fin.ofNat 42 (e / 2)) ∧
        k.pkt.typ = (if c = 0 then 0x24 else 0x08) ∧ fld k.pkt.aux 0 8 = e ∧
        (∃ g, frameOf k.pkt.payload = some g ∧ g.typ = f.typ ∧ g.hops = f.hops - 1 ∧ g.args = f.args) ∧
        (t.port n).rxSeq = f.seq ∧ (t.port n).freed = x.freed.set c (x.freed.getD c 0 + 1) ∧ t.outbox = s.outbox) ∧
    (dst = me → typ = 0x80 → bit (s.reg u (0x3000 + 8 * (src / 64))) (src % 64) = true → credit 100 < 32 →
      ∃ t k, exec i s = .next t ∧ t.net = s.net ++ [k] ∧ k.dst = .mgmt s.activeSouth ∧ k.pkt.typ = 0x08 ∧ (t.port n).rxSeq = f.seq) ∧
    (dst = me → typ = 0xC0 → a < 64 → bit ap 63 = true → (bit ap 11 = true ∨ fld ap 0 10 = src) → fld ap 40 5 < 28 →
      f.arg 8 8 + 64 * f.payload.length ≤ s.rf u (0x4008 + 32 * a) 0 36 →
      ∃ t k, exec i s = .next t ∧ t.net = s.net ++ [k] ∧ k.dst = .stack (Fin.ofNat 28 (fld ap 40 5)) ∧ k.pkt.typ = 0x01 ∧
        k.pkt.tag.toNat = fld ap 48 8 ∧ k.pkt.addr = w64 (fld ap 12 24 * 4096 + f.arg 8 8) ∧ k.pkt.payload = f.flits)

/-! ## Clocks -/

/-- R428, R429, R431, R432, R433, R436: a new target or limit that moves the effective fret of a clocked core starts a change toward it; the idle PLL locks and the
switch puts the core at the fret; a live PLL that unlocks puts it on the damper source; a ring-stop whose PLL unlocks stops; a due capo
measurement sets capo less the guard band. Other sites' cores keep their state. -/
def Obligations.CoreClockRows : Prop :=
  ∀ (s : State) (p : Site) (a b : BitVec 4) (f : Nat) (pllB : Bool),
    let u := RegUnit.site p
    let c := s.clk p
    let lim (n : Nat) := s.rf u 0x18600010 n 4
    let others (t : State) := t.scratch = s.scratch ∧ ∀ q, q ≠ p → t.site q = s.site q
    let moves (t : State) (e : Nat) := s.clocked p = true → s.damperHolds (powerRegion p) = false → c.target = none → e ≠ s.fretNow p →
      (t.clk p).target = some e ∧ t.clkBit p 0 = true ∧ t.fretNow p = s.fretNow p
    (∃ t, exec (.clkTargetWrite p a) s = .next t ∧ t.rf u 0x18600008 0 4 = a.toNat ∧ others t ∧
      moves t (min (min a.toNat (lim 0)) (min (lim 8) (lim 16)))) ∧
    (∃ t, exec (.clkLimitsWrite p a b) s = .next t ∧ t.rf u 0x18600010 0 4 = a.toNat ∧ t.rf u 0x18600010 8 4 = b.toNat ∧ others t ∧
      moves t (min (min (s.rf u 0x18600008 0 4) a.toNat) (min b.toNat (lim 16)))) ∧
    (c.target = some f → s.clkBit p 2 = true → ∃ t, exec (.idlePllLocked p) s = .next t ∧ t.clkBit p 2 = false ∧ others t ∧
      (t.clk p).pllFret (s.pllFor p f) = some f ∧ t.fretNow p = s.fretNow p ∧ (t.clk p).target = some f) ∧
    (c.target = some f → f < 16 → s.clkBit p 2 = false → s.clkBit p 3 = false → s.clocked p = true →
      ∃ t, exec (.fretSwitch p) s = .next t ∧ t.fretNow p = f ∧ others t ∧ t.reg u 0x18600020 = s.reg u 0x18600020 + 1 ∧
        t.clkBit p 4 = decide (f = 0) ∧ (s.effFret p = f → (t.clk p).target = none ∧ t.clkBit p 0 = false)) ∧
    (s.livePll p = pllB → s.clkBit p 4 = false → s.clocked p = true → (if pllB then c.unlockA else c.unlockB) = none →
      ∃ t, exec (.pllUnlock p pllB) s = .next t ∧ t.clkBit p 4 = true ∧ t.fretNow p = 0 ∧ (t.clk p).pllFret pllB = none ∧ others t) ∧
    (s.livePll p ≠ pllB → s.rf u 0x18600040 0 32 < 0xFFFFFFFF → ∃ t, exec (.pllUnlock p pllB) s = .next t ∧ t.fretNow p = s.fretNow p ∧
      (t.clk p).pllFret pllB = none ∧ t.rf u 0x18600040 0 32 = s.rf u 0x18600040 0 32 + 1 ∧ others t) ∧
    (∃ t, exec (.fabricPllUnlock p) s = .next t ∧ (t.site p).fabricDown = true ∧ s.raised t 0x4002 [w64 p.val] ∧ others t ∧
      t.rf .mgmt 0x00130010 (siteRow p) 1 = 1 ∧ t.rf .mgmt 0x00130010 (32 + siteCol p) 1 = 1) ∧
    ((s.site p).fabricDown = true → s.rf (.gov (powerRegion p)) 0 2 1 = 1 → ∃ t, exec (.fabricPllRelock p) s = .next t ∧ others t ∧
      ((t.site p).fabricDown = true → ∃ e ∈ stopEdges p, t.rf .mgmt (0x00132000 + 8 * e.1) 61 3 = 3)) ∧
    ((∀ m, c.measuredAt = some m → m + days30 ≤ s.time) → ∃ t, exec (.capoMeasure p a) s = .next t ∧ others t ∧
      (s.contractFret p = none → t.rf .mgmt (siteStateOff p) 32 4 = min fuseMax (a.toNat - 1) ∧
        t.rf u 0x18600010 0 4 = min fuseMax (a.toNat - 1) ∧ (t.clk p).measuredAt = some s.time) ∧
      ((s.contractFret p).isSome = true → t.clkBit p 8 = true ∧ t.clk p = c))

/-- R430, R434, R435, R454, R471, R472: a rail at its set point clears RAIL_WAIT in its region; DROOP puts every clocked core of the region on the damper source
at F0; its end starts the hold, whose expiry lets the cores change; the damper ceiling recovers by one fret. -/
def Obligations.RegionClockRows : Prop :=
  ∀ (s : State) (g : Fin 42) (t0 : Nat),
    let mine (p : Site) := p ∈ regionSites g
    let c := s.rf .mgmt (ceilOff g) 12 4
    (s.railOn g = true → ∃ t, exec (.railSetPointReached g) s = .next t ∧ (t.region g).setPoint = s.railGoal g ∧ t.sites = s.sites ∧
      (∀ p, mine p → t.clkBit p 3 = false) ∧ ∀ h, h ≠ g → t.region h = s.region h) ∧
    (s.railOn g = true → s.rf (.gov g) 0 3 1 = 0 → ∃ t, exec (.droopAssert g) s = .next t ∧ t.rf (.gov g) 0 3 1 = 1 ∧
      (t.region g).holdFrom = none ∧ (∀ p, mine p → s.clocked p = true → t.fretNow p = 0 ∧ t.clkBit p 4 = true ∧ (t.clk p).target = none) ∧
      (∀ p, ¬ mine p → t.site p = s.site p) ∧ t.scratch = s.scratch) ∧
    (s.rf (.gov g) 0 3 1 = 1 → ∃ t, exec (.droopDeassert g) s = .next t ∧ t.rf (.gov g) 0 3 1 = 0 ∧ (t.region g).holdFrom = some s.time ∧
      t.sites = s.sites) ∧
    ((s.region g).holdFrom = some t0 → t0 + 100 * s.rf .mgmt 0x00110010 16 10 ≤ s.time → s.rf (.gov g) 0 3 1 = 0 →
      ∃ t, exec (.damperHoldExpiry g) s = .next t ∧ (t.region g).holdFrom = none ∧ t.scratch = s.scratch ∧
        ∀ p, mine p → s.clocked p = true → (s.clk p).target = none → s.effFret p ≠ s.fretNow p → (t.clk p).target = some (s.effFret p)) ∧
    (c < 15 → (s.region g).droopAt + s.rf .mgmt 0x00110010 0 8 * 10 ^ 8 ≤ s.time → ∃ t, exec (.damperRecoverExpiry g) s = .next t ∧
      t.rf .mgmt (ceilOff g) 12 4 = c + 1 ∧ (t.region g).droopAt = s.time ∧ t.scratch = s.scratch)

/-! ## Power -/

/-- R17, R439, R441, R442, R443, R444, R445, R446, R451: a feed connects and disconnects; a low input brings every ceiling to F0 and its recovery is reported; a LOW of 10 ms, or
an input under 36 V, stops the panel in order; a meter sample adds its energy; an input that is off resets the panel. -/
def Obligations.InputPowerRows : Prop :=
  ∀ (s : State) (b : Bool) (mv : BitVec 17) (ma : BitVec 20),
    let i := b01 b
    let on := s.rf .mgmt 0x00100000 (2 + i) 1
    let volts := s.rf .mgmt (0x00100020 + 8 * i) 0 17
    let single (t : State) := t.rf .mgmt 0x00100000 4 1 = b01 (t.rf .mgmt 0x00100000 2 1 + t.rf .mgmt 0x00100000 3 1 == 1)
    let room (off : Nat) := s.rf .mgmt off 0 32 < 0xFFFFFFFE
    let counted (t : State) (off : Nat) := t.rf .mgmt off 0 32 = s.rf .mgmt off 0 32 + 1
    let e := Sparse.get 0 s.power.carry i + mv.toNat * ma.toNat
    let stopped (t : State) := t.inputState = 3 ∧ t.net = [] ∧ t.spill = [] ∧ ∀ g, t.rf (.gov g) 0 2 1 = 0
    (on = 0 → ∃ t, exec (.feedConnect b) s = .next t ∧ t.rf .mgmt 0x00100000 i 1 = 1 ∧ t.rf .mgmt 0x00100000 (2 + i) 1 = 1 ∧ single t ∧
      s.raised t 0x4011 [w64 i] ∧ s.onlyEvents t [(.mgmt, 0x00100000), (.mgmt, 0x00110000)]) ∧
    (on = 1 → room 0x00100108 → ∃ t, exec (.feedDisconnect b) s = .next t ∧ t.rf .mgmt 0x00100000 i 1 = 0 ∧
      t.rf .mgmt 0x00100000 (2 + i) 1 = 0 ∧ single t ∧ counted t 0x00100108 ∧ (volts < 36000 → s.raised t 0x4010 [w64 i, 0]) ∧
      (60000 < volts → volts ≤ 72000 → s.raised t 0x4010 [w64 i, 1]) ∧ (72000 < volts → s.raised t 0x4010 [w64 i, 2])) ∧
    (s.inputState = 0 → room 0x00100100 → ∃ t, exec .inputLow s = .next t ∧ t.inputState = 1 ∧ t.power.inputF0 = true ∧
      t.power.lowAt = s.time ∧ counted t 0x00100100 ∧ s.raised t 0x4012 [w64 s.vin] ∧ (∀ p, t.rf (.site p) 0x18600010 8 4 = 0) ∧
      t.scratch = s.scratch) ∧
    (s.inputState = 1 → ∃ t, exec .inputRecovered s = .next t ∧ t.inputState = 0 ∧ s.raised t 0x4013 [w64 (s.time - s.power.lowAt)] ∧
      t.sites = s.sites ∧ t.power.waits.any (fun w => w.1 == .inputCeilings) = true) ∧
    (s.inputState < 2 → s.vin < 36000 → ∃ t, exec .inputLowTimeout s = .next t ∧ stopped t) ∧
    (s.inputState = 1 → 36000 ≤ s.vin → s.power.lowAt + 1000000 ≤ s.time → ∃ t, exec .inputLowTimeout s = .next t ∧ stopped t) ∧
    (∃ t, exec .inputOff s = .next t ∧ t.sites = [] ∧ t.scratch = [] ∧ t.spill = [] ∧ t.net = [] ∧ t.parts = [] ∧ t.droneUp = false ∧
      t.eventSeq = 0 ∧ t.flash = { s.flash with coldAt := none } ∧ t.host = s.host) ∧
    (∃ t, exec (.energyMeterSample b mv ma) s = .next t ∧ t.rn .mgmt (0x00100020 + 8 * i) = mv.toNat ∧
      t.rn .mgmt (0x00100030 + 8 * i) = ma.toNat ∧ t.reg .mgmt (0x00100010 + 8 * i) = s.reg .mgmt (0x00100010 + 8 * i) + w64 (e / 10 ^ 5) ∧
      Sparse.get 0 t.power.carry i = e % 10 ^ 5 ∧ (36000 ≤ mv.toNat → mv.toNat ≤ 60000 → t.rf .mgmt 0x00100000 i 1 = 1) ∧
      (mv.toNat < 36000 ∨ 72000 < mv.toNat → t.rf .mgmt 0x00100000 i 1 = 0) ∧ t.sites = s.sites ∧ t.events = s.events)

/-- R405, R455, R456, R457, R458, R459: a failed phase is removed and counted, and below nine healthy ones the region loses its core rail; a connection
fault sets its bit and the cap; clearing faults clears their bits and, with the last, the cap; a lost fabric rail stops its ring-stops. -/
def Obligations.RegulatorRows : Prop :=
  ∀ (s : State) (g : Fin 42) (p : Site) (phase mask : BitVec 4),
    let u := RegUnit.gov g
    let v := RegUnit.gov (powerRegion p)
    let removed := (s.region g).removed
    (phase.toNat ∉ removed → removed.length < 7 → s.rf u 0x0108 0 32 < 0xFFFFFFFE → ∃ t, exec (.phaseFailed g phase) s = .next t ∧
      (t.region g).removed = phase.toNat :: removed ∧ t.rf u 0x0108 0 32 = s.rf u 0x0108 0 32 + 1 ∧
      s.raised t 0x4015 ([g.val, phase.toNat, 15 - removed.length].map w64) ∧ t.rf u 0 8 5 = 15 - removed.length ∧ t.railOn g = s.railOn g) ∧
    (phase.toNat ∉ removed → 7 ≤ removed.length → s.railOn g = true → ∃ t, exec (.phaseFailed g phase) s = .next t ∧ t.rf u 0 0 2 = 2) ∧
    (s.railOn (powerRegion p) = true → s.rf v 0 (32 + regionPlace p) 1 = 0 → s.rf v 0x0110 0 32 < 0xFFFFFFFE →
      ∃ t, exec (.connectionFault p) s = .next t ∧ t.rf v 0 (32 + regionPlace p) 1 = 1 ∧ (t.region (powerRegion p)).connCap = true ∧
        s.raised t 0x4017 [w64 (powerRegion p).val, w64 p.val] ∧ t.rf v 0x0110 0 32 = s.rf v 0x0110 0 32 + 1 ∧ t.scratch = s.scratch) ∧
    (∃ t, exec (.govClearConn g mask) s = .next t ∧ t.sites = s.sites ∧
      (∀ q ∈ regionSites g, t.rf u 0 (32 + regionPlace q) 1 = if bit mask (regionPlace q) then 0 else s.rf u 0 (32 + regionPlace q) 1) ∧
      (mask = 15 → (s.region g).connCap = true → (t.region g).connCap = false)) ∧
    (s.rf u 0 2 1 = 1 → ∃ t, exec (.fabricRailLost g) s = .next t ∧ t.rf u 0 2 1 = 0 ∧
      ∀ q ∈ regionSites g, (t.site q).fabricDown = true)

/-- R449, R463, R467, R468, R469, R470: an average tick keeps the sample and shows both averages; a learning tick fits afresh, to free values; the oldest waiting
rise that needs no projection is granted once the current has had time to move; without headroom a step's cores get their plain caps. -/
def Obligations.CapControllerRows : Prop :=
  ∀ (s : State) (part : BitVec 6) (rise since : Nat) (rest : List (GrantFor × Nat × Nat)) (x : Partition) (tab : Tablature),
    let log := (s.time, s.inputPower) :: s.power.log.filter fun e => decide (s.time < e.1 + 10 ^ 8)
    let slew := s.rf .mgmt 0x00100008 0 8
    let ready := max since s.power.grantAt + (if slew = 0 then 0 else (10 ^ 4 * rise + slew - 1) / slew)
    (∃ t, exec .capAverageTick s = .next t ∧ t.power.log = log ∧ t.rf .mgmt 0x00110000 32 16 = meanPower log s.time (10 ^ 8) / 10 ^ 4 % 2 ^ 16 ∧
      t.rf .mgmt 0x00110000 48 16 = meanPower log s.time (10 ^ 6) / 10 ^ 4 % 2 ^ 16 ∧ t.scratch = s.scratch) ∧
    (∃ t, exec .capLearnTick s = .next t ∧ t.power.baseline = Config.freeNat s.free ∧ t.power.learned.length = s.power.learned.length ∧
      t.power.log = s.power.log ∧ t.sites = s.sites ∧ t.regs = s.regs) ∧
    (s.power.waits = (.inputCeilings, rise, since) :: rest → ready ≤ s.time → ∃ t, exec .capGrant s = .next t ∧ t.power.waits = rest ∧
      t.power.inputF0 = false ∧ t.power.grantAt = s.time ∧ t.grantedNow = (s.grantedNow + rise) % 2 ^ 16 ∧ t.scratch = s.scratch) ∧
    (s.power.waits = (.inputCeilings, rise, since) :: rest → s.time < ready → exec .capGrant s = .next s) ∧
    (s.part part.toNat = some x → s.tabOf x = some tab → x.armed = true → x.mark0.isSome = true → s.rf .mgmt 0x00110000 2 1 = 1 →
      ∃ t, exec (.phaseCeilingIssue part) s = .next t ∧ t.reg .mgmt 0x00110108 = 0 ∧ t.scratch = s.scratch ∧
        ∀ p ∈ s.partSites x, (t.clk p).capCeil = s.plainCap p)

/-! ## Temperature and coolant -/

/-- R474, R475, R476, R478, R480, R481: a reading gives each pair the higher of its values; a hot region's thermal ceiling falls and a cool one's rises; COOL_OK low, or
the rise condition in eight regions, stops the flow, and 60 s later the fabric rails go off. -/
def Obligations.ThermalRows : Prop :=
  ∀ (s : State) (p : Site) (r : SensorReadings) (a b : BitVec 9) (i : Fin 4) (g : Fin 42),
    let dies := (regionSites g).flatMap fun p => (List.range 3).map fun part => (part, s.dieTemp p part)
    let period := if dies.any fun d => decide (warnAt d.1 ≤ d.2) then 10 ^ 5 else 10 ^ 6
    let now := s.rf .mgmt (ceilOff g) 8 4
    let running := s.coolState < 2 ∧ 6 ≤ s.startStep ∧ s.inputState < 2
    let met := ((List.finRange 42).filter fun g => (s.riseOf g).2).length
    ([r.cdA, r.cdB, r.m0, r.m1][i.val]? = some (some a, some b) → -40 ≤ a.toInt → a.toInt ≤ 150 → -40 ≤ b.toInt → b.toInt ≤ 150 →
      ∃ t, exec (.sensorRead p r) s = .next t ∧ t.temp p i.val = min 127 (max a.toInt b.toInt) ∧ t.lost p i.val = false) ∧
    ((s.region g).loopAt + period ≤ s.time → (∃ d ∈ dies, s.thermTarget d.1 ≤ d.2) → ∃ t, exec (.thermalLoopTick g) s = .next t ∧
      t.rf .mgmt (ceilOff g) 8 4 = min now (maxOf ((regionSites g).map s.effFret)) - 1 ∧ (t.region g).loopAt = s.time ∧
      t.scratch = s.scratch) ∧
    (s.time < (s.region g).loopAt + period → exec (.thermalLoopTick g) s = .next s) ∧
    (running → ∃ t, exec .coolOkLow s = .next t ∧ t.coolState = 2 ∧ t.rf .mgmt 0x00120000 7 1 = 0 ∧
      t.power.coolF0 = true ∧ t.power.coolHigh = none ∧ ∀ h, t.railOn h = false) ∧
    (¬ running → ∃ t, exec .coolOkLow s = .next t ∧ t.rf .mgmt 0x00120000 7 1 = 0 ∧ t.power.coolHigh = none ∧ t.sites = s.sites ∧
      t.coolState = s.coolState) ∧
    (∃ t, exec .coolOkHigh s = .next t ∧ t.rf .mgmt 0x00120000 7 1 = 1 ∧ t.power.coolHigh = some (s.power.coolHigh.getD s.time) ∧
      t.sites = s.sites ∧ t.coolState = s.coolState) ∧
    (running → 8 ≤ met → ∃ t, exec .riseConditionTick s = .next t ∧ t.coolState = 2 ∧ ∀ h, t.railOn h = false) ∧
    (met < 8 → ∃ t, exec .riseConditionTick s = .next t ∧ t.regs = s.regs ∧ t.sites = s.sites ∧
      ∀ v, s.hottest g = some v → (t.region g).hottest.head? = some (s.time, v)) ∧
    (s.coolState = 2 → s.power.stopAt + 60 * 10 ^ 8 ≤ s.time → ∃ t, exec .coolantShutdown s = .next t ∧ t.coolState = 3 ∧ t.net = [] ∧
      t.spill = [] ∧ ∀ h, t.rf (.gov h) 0 2 1 = 0)

/-! ## Steps -/

/-- R329, R332, R335, R336, R339, R352, R470, R535: a step is armed once its demand is granted and the projection, a free value, fits, and
otherwise waits; it commits, or the deadline timer
fails it; a failed step is replayed from its start, and after the last replay the fault manager is asked. -/
def Obligations.StepLifecycle : Prop :=
  ∀ (s : State) (part : BitVec 6) (x : Partition) (t : Tablature) (w m : Nat),
    let tag := part.toNat
    s.part tag = some x → s.tabOf x = some t → x.migrate = none →
    (s.armable x = true → s.reservation t ≤ s.budget → x.granted.isSome = true → ∃ u, exec (.stepArm part) s = .next u ∧
      (s.projected ≤ 98 * s.capSust / 100 → ∃ y, u.part tag = some y ∧ y.armed = true ∧ y.start = w64 (s.nextStart x t.image) ∧
        y.mark0 = none ∧ y.done = [] ∧ y.stepIndex = x.stepIndex ∧
        ∀ p, u.reg (.site p) (pctxOff tag + 8) = y.start ∧ bit (u.reg (.site p) (pctxOff tag)) 63 = true) ∧
      (98 * s.capSust / 100 < s.projected → u.part tag = some x ∧ u.power.waits.any (fun z => z.1 == .step tag) = true ∧
        u.rf .mgmt 0x00110000 0 1 = 1)) ∧
    (s.armable x = true → s.reservation t ≤ s.budget → x.granted = none → ∃ u, exec (.stepArm part) s = .next u ∧ u.part tag = some x ∧
      u.power.waits.any (fun z => z.1 == .step tag) = true ∧ u.rf .mgmt 0x00110000 0 1 = 1) ∧
    (s.armable x = true → s.budget < s.reservation t → ∃ u y, exec (.stepArm part) s = .next u ∧ u.part tag = some y ∧ y.armed = false ∧
      y.query = some (s.mgmt.nextQuery, 5, s.time) ∧ s.raised u 0x8026 ([tag, 5, s.mgmt.nextQuery].map w64)) ∧
    (x.armed = true → x.failed = none → (∀ r < x.rows * x.cols, r ∈ x.done) → x.markEnd = some m → m + 200 ≤ s.time →
      ∃ u y, exec (.commitPoint part) s = .next u ∧ u.part tag = some y ∧ y.stepIndex = x.stepIndex + 1 ∧ y.stepsRun = x.stepsRun + 1 ∧
        y.armed = false ∧ y.replays = 0 ∧ (x.stepHash = true → ∃ h, y.hashes = ((x.stepIndex, h) :: x.hashes).take 1024)) ∧
    (x.armed = true → x.failed = none → x.mark0 = some m → m + s.lbOf x ≤ s.time → ∃ u y, exec (.lbTimerExpiry part) s = .next u ∧
      u.part tag = some y ∧ y = { x with failed := some 0x700206 } ∧ s.raised u 0x7001 [w64 tag, w64 x.stepIndex.toNat, 0x700206, 0]) ∧
    (x.state = 0 → x.query = none → x.stage = 0 → x.failed = some w → w % 256 ≠ 5 → x.armed = true → x.replays < bytesAt t.image 51 1 →
      (∀ l ∈ x.lcids, s.coreGone l = false) → s.badCapo x t.image = none →
      ∃ u y, exec (.stepReplay part) s = .next u ∧ u.part tag = some y ∧ y.failed = none ∧ y.armed = false ∧ y.done = [] ∧
        y.replays = x.replays + 1 ∧ y.stepIndex = x.stepIndex ∧ y.stage = 2) ∧
    (x.state = 0 → x.query = none → x.stage = 0 → x.failed = some w → w % 256 ≠ 5 → x.armed = true → bytesAt t.image 51 1 ≤ x.replays →
      ∃ u y, exec (.stepReplay part) s = .next u ∧ u.part tag = some y ∧ y.query = some (s.mgmt.nextQuery, 2, s.time) ∧ y.replays = x.replays)

/-- R192, R231, R233, R247, R274, R276, R329, R535, R536: at a frame mark FRAME_COUNT advances, FRAME_LEN in range and the banks and the epoch due
take effect, and steps start and end; a drain that is slow is reported once; a question without an answer in time ends in a hold or a
release by FM_DEFAULT; a zero-fill that ends frees the core. -/
def Obligations.FrameMarksDrainsAndDecisions : Prop :=
  (∀ (s : State) (tag : Nat) (x : Partition), ∃ u, exec .frameMark s = .next u ∧ u.frameCount = s.frameCount + 1 ∧
     (∀ p, (u.site p).frameLoads = [] ∧ ∀ e ∈ (u.site p).frameEvs, e.code = 0x2005) ∧
     (∀ p, let f := s.rf (.site p) 0x18700008 0 14; u.frameLen p = if 64 ≤ f ∧ f ≤ 8192 then f else s.frameLen p) ∧
     (∀ p, s.reg (.site p) 0x18700018 = s.frameCount + 1 → s.switchPending p = true → u.slotBank p = 1 - s.slotBank p) ∧
     (∀ p, s.reg (.site p) 0x18710008 = s.frameCount + 1 → s.frameCount + 1 ≠ BitVec.allOnes 64 → u.injectEpoch p = 1 - s.injectEpoch p ∧
       u.rf (.site p) 0x18710000 1 1 = 1) ∧
     (s.parts = [(tag, some x)] → x.armed = true → x.failed = none → x.mark0 = none → x.start = s.frameCount + 1 →
       ∃ y, u.part tag = some y ∧ y.mark0 = some s.time ∧ y.lastMark = some (s.frameCount + 1)) ∧
     (s.parts = [(tag, some x)] → x.armed = true → x.failed = none → x.mark0.isSome = true → x.markEnd = none →
       s.frameCount + 1 = x.start + w64 (s.rf (.site 0) (pctxOff tag) 0 16) → ∃ y, u.part tag = some y ∧ y.markEnd = some s.time)) ∧
  (∀ (s : State) (tag : Nat) (x : Partition) (p : Site) (t0 id cause since : Nat),
     (s.epoch.flippedAt = some t0 → s.epoch.slow = false → t0 + 10000 ≤ s.time → ∃ u, exec .epochDrainSlow s = .next u ∧
       u.epoch = { s.epoch with slow := true } ∧ ∃ w, s.raised u 0x2014 [w]) ∧
     (s.epoch.flippedAt = none ∨ s.epoch.slow = true → exec .epochDrainSlow s = .next s) ∧
     (s.parts = [(tag, some x)] → x.state = 0 → x.query = some (id, cause, since) →
       since + s.rf .mgmt 0x00140000 0 8 * 10 ^ 8 ≤ s.time → ∃ u, exec .fmWaitExpiry s = .next u ∧
         (s.rf .mgmt 0x00140000 16 1 = 0 → ∃ y, u.part tag = some y ∧ y.state = 3 ∧ y.tab = none ∧ y.query = some (id, cause, since) ∧
           y.ownerToken = none) ∧
         (s.rf .mgmt 0x00140000 16 1 = 1 → ∀ y, u.part tag = some y → y.state = 4 ∧ y.query = none)) ∧
     (s.coreState p = 6 → ∃ u, exec (.killClearComplete p) s = .next u ∧ u.coreState p = 0 ∧ u.reg (.site p) 0x18500010 = 0 ∧
       ∀ q, q ≠ p → u.coreState q = s.coreState q) ∧
     (s.coreState p ≠ 6 → exec (.killClearComplete p) s = .next s))

/-! ## Service -/

/-- R346, R347, R357, R361, R549: a doorbell's counts are taken, and a producer too far ahead disables its ring; a fetch takes every request that the
doorbell covers and writes HEAD; a response is written with its PHASE and its vector signalled. -/
def Obligations.ServiceRings : Prop :=
  ∀ (s : State) (ring : BitVec 6) (prod cons c : BitVec 32) (l : List (List Byte × List Byte)) (e : List Byte) (rest : List (List Byte)),
    let n := ring.toNat
    let x := s.svcRing n
    let ahead := x.enabled = true ∧ x.reqEntries < (prod - x.consumed).toNat
    let flags := bytesAt e 1 1 % 128 + (1 - x.posted / x.respEntries % 2) * 128
    x.on = true →
    (¬ ahead → ∃ t, exec (.serviceDoorbell ring prod cons) s = .next t ∧ t.svcRing n = { x with producer := prod, consumer := cons } ∧
      t = { s with svcRings := t.svcRings }) ∧
    (ahead → ∃ t, exec (.serviceDoorbell ring prod cons) s = .next t ∧
      t.svcRing n = { x with producer := prod, consumer := cons, enabled := false } ∧
      s.raised t 0x7011 ([n, prod.toNat, x.consumed.toNat].map w64)) ∧
    (x.enabled = true → x.full = false → s.fetchAll x (x.producer - x.consumed).toNat = (l, c) → l ≠ [] →
      ∃ t, exec (.serviceRequestFetch ring) s = .next t ∧ (t.svcRing n).consumed = c ∧
        t.host = s.host.writeBytes x.headAddr (toBytes 8 c.toNat) ∧ t.mgmt.nextReq = s.mgmt.nextReq + l.length) ∧
    (x.enabled = false ∨ x.full = true → exec (.serviceRequestFetch ring) s = .next s) ∧
    (x.waiting = e :: rest → x.full = false → ∃ t, exec (.serviceResponsePost ring) s = .next t ∧
      t.svcRing n = { x with posted := x.posted + 1, waiting := rest } ∧ t.outbox = s.outbox ++ [.msix (64 + n)] ∧
      t.host = s.host.writeBytes (x.respBase + 64 * (x.posted % x.respEntries)) (overwrite e 1 (toBytes 1 flags))) ∧
    (x.full = true → exec (.serviceResponsePost ring) s = .next s)

/-- R348, R349, R350, R353, R358, R359, R406: the head of a queue runs, or is dropped when late; its input goes out on the static channel; each step's
output is appended up to OUT_LIMIT; a deadline that passes is reported; a hold that expires leaves the partition idle. -/
def Obligations.ServiceRequests : Prop :=
  ∀ (s : State) (part : BitVec 6) (x : Partition) (b : SvcBinding) (img : Tablature) (r : SvcReq) (rest : List SvcReq) (p : Site) (i ch req t0 : Nat)
    (due : List Nat) (die : Fin 42) (panel : BitVec 10) (msg : BitVec 32),
    let tag := part.toNat
    let late := reqTimed r.entry = true ∧ reqDropLate r.entry = true ∧ reqDeadline r.entry < s.time + s.charge b img.image r.entry
    let core := x.lcids.getD b.inCore 0xFF
    let head := flitBytes ((s.grants p 3 (b.buffer i) 64).readGrans p 3 (b.buffer i) 1).2
    let len := bytesAt head 0 4
    let kept := min len (reqOutLimit r.entry - r.outLen)
    let good := len ≤ b.outMax ∧ allZero (head.drop 5) = true ∧ bytesAt head 4 1 < 2
    let reads := x.running = some r ∧ r.outDue = i :: due ∧ s.relSite x b.outCore = some p ∧ s.coreRefusal p = none ∧ reqOutKind r.entry ≠ 1
    s.part tag = some x → x.svc = some b → s.tabOf x = some img →
    (x.running = none → x.queue = r :: rest → x.state = 0 → ¬ late → exec (.requestQueueHead part) s =
      .next (s.setPart tag (some { x with running := some r, queue := rest }))) ∧
    (x.running = none → x.queue = r :: rest → x.state = 0 → late → ∃ t, exec (.requestQueueHead part) s = .next t ∧
      t.part tag = some { x with queue := rest, warmAt := x.warmAt.map fun _ => s.time }) ∧
    (x.running = some r → x.armed = false → x.failed = none → r.stepsRun = 0 → r.sentAt = none → reqInKind r.entry ≠ 1 →
      ((s.siteOf core).bind fun q => lowest 256 fun c => (s.recvCh q c).any fun y => y.queue == b.inQueue && y.src == 0xF0) = some ch →
      ∃ t, exec (.serviceInputSend part) s = .next t ∧ t.net.length = s.net.length + (msgAddrs (r.entry ++ r.input).length).length ∧
        t.part tag = some { x with running := some { r with sentAt := some s.time, acks := [] } }) ∧
    (reads → good → ∃ t y, exec (.serviceOutputRead part) s = .next t ∧ t.part tag = some y ∧ y.outBytes = x.outBytes + w64 kept ∧
      ((y.running = none ∧ (bit (BitVec.ofNat 8 (bytesAt head 4 1)) 0 = true ∨ reqSteps r.entry ≤ r.stepsRun)) ∨
        ∃ q, y.running = some q ∧ q.outDue = due ∧ q.outLen = r.outLen + kept ∧ q.clipped = (r.clipped || decide (reqOutLimit r.entry - r.outLen < len)))) ∧
    (reads → ¬ good → ∃ t y, exec (.serviceOutputRead part) s = .next t ∧ t.part tag = some y ∧ y.running = none ∧
      y.outBytes = x.outBytes ∧ y.failCount = sat32 x.failCount) ∧
    (((x.running.toList ++ x.queue).find? fun q => q.id == req) = some r → reqTimed r.entry = true → r.late = false → reqDeadline r.entry ≤ s.time →
      ∃ t y, exec (.requestDeadlineExpiry part req) s = .next t ∧ t.part tag = some y ∧
        (∀ q ∈ y.running.toList ++ y.queue, q.id = req → q.late = true) ∧
        s.raised t 0x7010 ([tag, reqTag r.entry, r.source, reqDeadline r.entry, r.predicted].map w64)) ∧
    (x.running = none → x.queue = [] → x.warmAt = some t0 → t0 + b.warmHold ≤ s.time → ∃ t y, exec (.warmHoldExpiry part) s = .next t ∧
      t.part tag = some y ∧ y.warmAt = none ∧ (x.armed = false → y.granted = none)) ∧
    (∃ t, exec (.svcReassemblyTimeout die panel msg) s = .next t ∧ t = { s with reasm := t.reasm } ∧ ∀ m, m ∈ t.reasm ↔
      m ∈ s.reasm ∧ ¬ (m.die = die.val ∧ m.panel = panel.toNat ∧ m.msgId = msg ∧ m.since + 10000 ≤ s.time))

/-! ## Management dies -/

/-- R544, R545, R546, R556: heartbeats are noted; 10 ms without one, or a firmware fault, makes the standby active, ends the Ethernet sessions and
fails the steps in progress; the journal is applied; an idle session closes. -/
def Obligations.RolesAndSessions : Prop :=
  ∀ (s : State) (id : BitVec 32) (x : Session),
    let takes (t : State) := t.activeSouth = !s.activeSouth ∧ t.mgmt.heartAt = s.time ∧ t.mgmt.applied = s.mgmt.journal ∧
      Out.msix 132 ∈ t.outbox ∧ (∀ y ∈ t.sessions, y.id = 0) ∧
      ∀ tag y, s.part tag = some y → y.armed = true → y.failed = none → ∃ z, t.part tag = some z ∧ z.failed = some 4
    let able := s.booted = true ∧ s.dieDead (!s.activeSouth) = false
    (s.booted = true → exec .heartbeatSend s = .next { s with mgmt.heartAt := s.time }) ∧
    (able → s.mgmt.heartAt + 10 ^ 6 ≤ s.time → ∃ t, exec .heartbeatLoss s = .next t ∧ takes t) ∧
    (s.time < s.mgmt.heartAt + 10 ^ 6 → exec .heartbeatLoss s = .next s) ∧
    (able → ∃ t, exec .firmwareFaultReport s = .next t ∧ takes t) ∧
    (s.dieDead (!s.activeSouth) = true → exec .firmwareFaultReport s = .next s) ∧
    (s.mgmt.applied < s.mgmt.journal → exec .journalRecord s = .next { s with mgmt.applied := s.mgmt.applied + 1 }) ∧
    (s.mgmt.journal ≤ s.mgmt.applied → exec .journalRecord s = .next s) ∧
    (s.session id = some x → id ≠ 0 → x.last + 60 * 10 ^ 8 ≤ s.time → ∃ t, exec (.sessionIdleTimeout id) s = .next t ∧ t.session id = none ∧
      t = { s with sessions := t.sessions } ∧ ∀ j, j ≠ id → t.session j = s.session j) ∧
    (s.session id = some x → s.time < x.last + 60 * 10 ^ 8 → exec (.sessionIdleTimeout id) s = .next s)

/-- R538, R563, R564, R565: the oldest record of an event ring is written to host memory as its 64 bytes and the producer count advances; the host's
consumer count is taken; records go to a subscribed session, again after 20 ms, and are dropped after the fifth sending. -/
def Obligations.EventRecordRows : Prop :=
  ∀ (s : State) (ring : BitVec 2) (cons : BitVec 32) (e : Event) (rest : List Event) (id : BitVec 32) (x : Session) (n : Notice),
    let k := ring.toNat
    let y := s.evRing k
    let prod := s.rf .bar0 (0x50008 + 16 * k) 0 32
    let fresh := (x.notices.filter fun n => n.sends == 0).take 16
    let due := x.notices.filter fun n => n.sends != 0 && decide (n.sentAt + 2 * 10 ^ 6 ≤ s.time)
    let again := (due.filter fun n => decide (n.sends < 5)).take 16
    (y.waiting = e :: rest → y.on = true → s.evUsed k < y.entries → ∃ t, exec (.eventRecordDelivery ring) s = .next t ∧
      t.host = (s.host.writeBytes (y.base + prod % y.entries * 64) (eventBytes e)).writeBytes y.prodAddr (toBytes 8 ((prod + 1) % 2 ^ 32)) ∧
      (t.evRing k).waiting = rest ∧ t.rf .bar0 (0x50008 + 16 * k) 0 32 = (prod + 1) % 2 ^ 32 ∧
      t.outbox = (if ∀ v, y.lastVector = some v → v + 1000 ≤ s.time then s.outbox ++ [.msix (128 + k)] else s.outbox)) ∧
    (y.entries ≤ s.evUsed k → exec (.eventRecordDelivery ring) s = .next s) ∧
    (∃ t, exec (.eventConsumerWrite ring cons) s = .next t ∧ t.rf .bar0 (0x50000 + 16 * k) 0 32 = cons.toNat ∧
      s.onlyRegs t [(.bar0, 0x50000 + 16 * k)]) ∧
    (s.session id = some x → fresh ≠ [] → ∃ t z, exec (.eventNotifySend id) s = .next t ∧ t.outbox.length = s.outbox.length + 1 ∧
      t.session id = some z ∧ z.sent = x.sent + 1 ∧ ∀ n ∈ fresh, { n with sends := 1, sentAt := s.time } ∈ z.notices) ∧
    (s.session id = some x → fresh = [] → exec (.eventNotifySend id) s = .next s) ∧
    (s.session id = some x → again ≠ [] → (∀ n ∈ due, n.sends < 5) → ∃ t z, exec (.eventNotifyResend id) s = .next t ∧
      t.outbox.length = s.outbox.length + 1 ∧ t.session id = some z ∧ z.lost = min 0xFFFFFFFF x.lost ∧
      ∀ n ∈ again, { n with sends := n.sends + 1, sentAt := s.time } ∈ z.notices) ∧
    (s.session id = some x → x.lostRaised = false → (due.filter fun n => decide (5 ≤ n.sends)).head? = some n →
      ∃ t, exec (.eventNotifyResend id) s = .next t ∧ s.raised t 0x9018 [w64 id.toNat, w64 n.ev.seq.toNat])

/-! ## Qualifying spares -/

/-- R525, R526, R528, R529: a spare shadows the next working core of its row at a step boundary; 256 equal frames qualify it, a mismatch is reported and
decided by self-qualification, which retires a spare that fails; a qualification expires after an hour. -/
def Obligations.QualificationRows : Prop :=
  ∀ (s : State) (p q : Site) (c : Nat) (x : Partition) (t : Tablature) (y : Symp) (frame : Nat) (theirs mine : W64) (w : Nat),
    let gap := s.siteMode p = 2 ∧ (s.site p).symp = none ∧ s.qualDue p = true ∧ s.shadowNext p = some (c, q)
    let ended (u : State) := (u.site p).symp = none ∧ u.rf (.site p) 0x18000000 13 1 = 0 ∧ u.coreState p = 0
    let stands := (s.site p).symp = some y ∧ y.work = q.val ∧ p ≠ q ∧ (s.part (s.partOf q)).any (·.armed) = false
    let sound := y.spoiled = false ∧ (s.contractFret q).isSome = true
    let enough := 256 ≤ s.rn (.site p) 0x18000040 - y.since
    (gap → s.part (s.partOf q) = some x → s.tabOf x = some t → x.atGap = true → ∃ u since, exec (.sympQualStart p) s = .next u ∧
      (u.site p).symp = some (Symp.start q.val since) ∧ u.rf (.site p) 0x18000000 13 1 = 1 ∧
      Sparse.get 0 u.mgmt.sympNext (siteRow p) = (c + 1) % 12) ∧
    (s.siteMode p ≠ 2 → exec (.sympQualStart p) s = .next s) ∧
    (stands → sound → enough → y.differ = none → ∃ u, exec (.sympQualEnd p) s = .next u ∧ ended u ∧ u.qualified p = true ∧
      u.reg (.site p) 0x18000038 = w64 s.time) ∧
    (stands → sound → y.differ = some (frame, theirs, mine) → ∃ u, exec (.sympQualEnd p) s = .next u ∧ ended u ∧
      (u.site p).accuses = some q.val ∧ s.raised u 0x8022 [w64 p.val, w64 (s.lcidOf q), w64 frame, theirs, mine]) ∧
    (stands → ¬ sound → ∃ u, exec (.sympQualEnd p) s = .next u ∧ ended u ∧ u.qualified p = s.qualified p) ∧
    (s.siteMode p = 2 → (s.site p).symp = none → (s.site p).accuses = some w → w < 168 → ∃ u, exec (.selfQualification p true) s = .next u ∧
      u.qualified p = true ∧ (u.site p).accuses = none ∧ u.rf (.site (Fin.ofNat 168 w)) 0x18000000 15 1 = 1) ∧
    (s.siteMode p = 2 → (s.site p).symp = none → ∃ u, exec (.selfQualification p false) s = .next u ∧ u.siteMode p = 4 ∧
      u.qualified p = false ∧ p.val ∈ u.flash.retired ∧ s.raised u 0x8020 ([p.val, 1, s.lcidOf p].map w64)) ∧
    (s.qualified p = true → s.rn (.site p) 0x18000038 + hourTicks ≤ s.time → ∃ u, exec (.qualificationExpiry p) s = .next u ∧
      u.qualified p = false ∧ s.onlyRegs u [(.site p, 0x18000000)]) ∧
    (s.qualified p = false → exec (.qualificationExpiry p) s = .next s)

/-! ## Starts, resets and registers -/

/-- R424, R426, R446, R486, R512, R579: what begins a start, and what resets the panel first: a start by power or by a pin, the loss of the drone's
reference and its return, and the restart of a stopped panel. -/
def Obligations.StartsAndPanelResets : Prop :=
  ∀ (s : State) (t0 : Nat),
    let mode (t : State) := t.rf .mgmt 0x00130000 8 2
    let wiped (t : State) := t.sites = [] ∧ t.scratch = [] ∧ t.net = [] ∧ t.parts = [] ∧ t.host = s.host
    let fast := s.flash.mapValid = true ∧ s.flash.coldAt = some t0 ∧ s.time < t0 + days30
    (s.mayStart = true → s.resetLow = false → ∃ t, exec .powerOnStart s = .next t ∧ t.startStep = 1 ∧ (fast → mode t = 2) ∧
      (s.flash.mapValid = false ∨ s.flash.coldAt = none → mode t = 1) ∧ t.reg .mgmt 0x00130100 = s.reg .mgmt 0x00130100 + 1 ∧
      s.onlyRegs t [(.mgmt, 0x00130000), (.mgmt, 0x00130100)]) ∧
    (s.mayStart = false ∨ s.resetLow = true → exec .powerOnStart s = .next s) ∧
    (s.droneUp = false → exec .droneUp s = .next { s with droneUp := true, time := 0, eventSeq := 0 }) ∧
    (s.droneUp = true → exec .droneUp s = .next s) ∧
    (s.droneUp = true → ∃ t, exec .droneRefLost s = .next t ∧ wiped t ∧ t.droneUp = false ∧ t.refValid = false ∧ t.flash.coldAt = none ∧
      s.raised t 0x4003 [w64 s.time]) ∧
    (s.droneUp = false → exec .droneRefLost s = .next s) ∧
    (s.droneUp = true → exec .droneRefValid s = .next { s with refValid := true }) ∧
    (s.droneUp = false → s.mayStart = true → s.resetLow = false → ∃ t, exec .droneRefValid s = .next t ∧ t.droneUp = true ∧ t.refValid = true ∧
      t.time = 0 ∧ t.eventSeq = 0 ∧ t.startStep = 1 ∧ mode t = 1) ∧
    (s.inputState = 3 → s.rf .mgmt 0x00100008 8 1 = 1 → 44000 ≤ s.vin → s.vin ≤ 60000 → s.coolState ≠ 3 → s.resetLow = false →
      ∃ t, exec .stoppedRestart s = .next t ∧ wiped t ∧ t.inputState = 0 ∧ t.startStep = 1) ∧
    (s.inputState ≠ 3 → exec .stoppedRestart s = .next s) ∧
    (s.inputState < 2 → s.coolState ≠ 3 → s.fed = true → ∃ t, exec .panelRstAssert s = .next t ∧ wiped t ∧ t.resetLow = true ∧ t.startStep = 1) ∧
    (2 ≤ s.inputState ∨ s.coolState = 3 → exec .panelRstAssert s = .next { s with resetLow := true }) ∧
    (s.resetLow = true → s.mayStart = true → ∃ t, exec .panelRstRelease s = .next t ∧ t.resetLow = false ∧ t.startStep = 1 ∧ t.sites = s.sites) ∧
    (s.resetLow = false ∨ s.mayStart = false → exec .panelRstRelease s = .next { s with resetLow := false })

/-- R488, R489, R506, R507, R576, R579: the power-on sequence completes a step at a time; a low PANEL_RST_N holds it at step 2 and a low COOL_OK before
step 6; the last step sets READY, stores the map and reports. A start that has failed goes no further. -/
def Obligations.PowerOnSequence : Prop :=
  ∀ s : State,
    let off := 0x00130000
    let live := s.rf .mgmt off 8 2 ≠ 0 ∧ s.rf .mgmt off 10 1 = 0 ∧ s.coolState < 2 ∧ s.inputState < 2
    (live → s.startStep = 1 → s.droneUp = true → s.refValid = true → ∃ t, exec .bringupStepComplete s = .next t ∧ t.startStep = 2 ∧
      s.onlyRegs t [(.mgmt, off)]) ∧
    (live → s.startStep = 2 → s.resetLow = true → exec .bringupStepComplete s = .next s) ∧
    (live → s.startStep = 5 → s.rf .mgmt 0x00120000 7 1 = 0 → exec .bringupStepComplete s = .next s) ∧
    (live → s.startStep = 6 → ∃ t, exec .bringupStepComplete s = .next t ∧ t.startStep = 7) ∧
    (live → s.startStep = 8 → ∃ t, exec .bringupStepComplete s = .next t ∧ t.startStep = 9) ∧
    (live → s.startStep = 11 → (∀ i < 84, s.portState i ≠ 2) → ∃ t, exec .bringupStepComplete s = .next t ∧ t.startStep = 12 ∧
      s.onlyRegs t [(.mgmt, off)]) ∧
    (live → s.startStep = 12 → ∃ t, exec .bringupStepComplete s = .next t ∧ t.startStep = 13 ∧ t.rf .mgmt off 11 1 = 1 ∧
      t.flash.mapValid = true ∧ t.rn .mgmt 0x00130108 = s.time % 2 ^ 64 ∧ t.sites = s.sites ∧ t.scratch = s.scratch ∧
      s.raised t 0x8001 ([s.rf .mgmt off 8 2, s.time, s.rf .mgmt off 48 16, 144 - s.rf .mgmt off 32 8, s.rf .mgmt off 24 8].map w64)) ∧
    (s.rf .mgmt off 10 1 = 1 ∨ 12 < s.startStep → exec .bringupStepComplete s = .next s)

/-- R549, R568, R569, R581: a Function Level Reset, and PERST_N of the active die, reopen session 0, disable the rings and return BAR0 and the mailboxes to
their Reset values; a closed debug port takes BYPASS and IDCODE only; DEBUG_EN low ends an open port with a whole-panel reset. -/
def Obligations.FunctionResetsAndDebugPort : Prop :=
  ∀ (s : State) (k : BitVec 1) (ir : BitVec 8),
    let reset (t : State) := t.sessions = Session.zero s.flash.pcieRights :: s.sessions.filter (fun x => x.id != 0) ∧ t.evRings = [] ∧
      t.svcRings = [] ∧ (∀ m < 64, t.box s.activeSouth m = 0) ∧ t.rf .bar0 0x60010 0 16 = s.rf .mgmt 0x00130000 48 16 ∧
      (∀ o < 0x60010, t.reg .bar0 o = resetOf .bar0 o) ∧ t.parts = s.parts ∧ t.sites = s.sites ∧ t.host = s.host
    let allowed := s.mgmt.jtagOpen = true ∨ ir = 0xFF ∨ ir = Config.tapIdcode
    (∃ t, exec .functionLevelReset s = .next t ∧ reset t ∧ t.perstLow = s.perstLow) ∧
    (∃ t, exec (.perstAssert k) s = .next t ∧ t.perstLow = s.perstLow.set k.toNat true ∧ (k.toNat = b01 s.activeSouth → reset t) ∧
      (k.toNat ≠ b01 s.activeSouth → (∀ m < 64, t.box (!s.activeSouth) m = 0 ∧ t.box s.activeSouth m = s.box s.activeSouth m) ∧
        t.regs = s.regs ∧ t.sessions = s.sessions ∧ t.evRings = s.evRings ∧ t.sites = s.sites)) ∧
    exec (.perstRelease k) s = .next { s with perstLow := s.perstLow.set k.toNat false } ∧
    exec .debugEnAssert s = .next { s with mgmt.debugEn := true } ∧
    (s.mgmt.jtagOpen = false → exec .debugEnDeassert s = .next { s with mgmt.debugEn := false }) ∧
    (s.mgmt.jtagOpen = true → ∃ t, exec .debugEnDeassert s = .next t ∧ t.mgmt.debugEn = false ∧ t.mgmt.jtagOpen = false ∧ t.sites = [] ∧
      t.scratch = []) ∧
    (allowed → exec (.tapInstruction ir) s = .next { s with mgmt.tapIr := ir }) ∧
    (¬ allowed → ∃ t, exec (.tapInstruction ir) s = .next t ∧ t.mgmt.tapIr = 0xFF ∧ s.raised t 0x9017 [w64 ir.toNat] ∧ t.sites = s.sites)

/-- R12, R13, R38, R39, R156, R485: the active management die writes a policy register within its range and no other value; the standby writes nothing, the
host BAR0 alone; a control core that writes another unit's register freezes; a read clears an RC field and leaves a register without one alone. -/
def Obligations.RegisterRows : Prop :=
  ∀ (s : State) (p q : Site) (u : RegUnit) (off : BitVec 29) (v : W64) (r : Fin 4),
    (80 ≤ fld v 0 8 → fld v 0 8 ≤ 105 → ∃ t, exec (.registerWrite .mgmtActive .mgmt 0x00120008 v) s = .next t ∧
      t.rf .mgmt 0x00120008 0 8 = fld v 0 8 ∧ s.onlyRegs t [(.mgmt, 0x00120008)]) ∧
    (fld v 0 8 < 80 ∨ 105 < fld v 0 8 → exec (.registerWrite .mgmtActive .mgmt 0x00120008 v) s = .next s) ∧
    exec (.registerWrite .mgmtStandby u off v) s = .next s ∧
    (u ≠ .bar0 → exec (.registerWrite .host u off v) s = .next s) ∧
    (∃ t, exec (.registerWrite .host .bar0 (BitVec.ofNat 29 (0x50000 + 16 * r.val)) v) s = .next t ∧
      t.rf .bar0 (0x50000 + 16 * r.val) 0 32 = fld v 0 32 ∧ s.onlyRegs t [(.bar0, 0x50000 + 16 * r.val)]) ∧
    (u ≠ .site p → s.coreRuns p = true → ∃ t, exec (.registerWrite (.core p) u off v) s = .next t ∧ t.coreState p = 3 ∧
      (t.cc p).ecause = 0x04 ∧ (t.cc p).einfo = s.panelAddr u off.toNat ∧ t.scratch = s.scratch) ∧
    (s.coreRuns p = false → exec (.registerWrite (.core p) u off v) s = .next s) ∧
    (∃ t, exec (.readClear .mgmtActive (.site q) 0x187001B0) s = .next t ∧ t.rf (.site q) 0x187001B0 0 32 = 0 ∧
      s.onlyRegs t [(.site q, 0x187001B0)]) ∧
    (∃ t, exec (.readClear .host .bar0 (BitVec.ofNat 29 (0x50040 + 8 * r.val))) s = .next t ∧ t.rf .bar0 (0x50040 + 8 * r.val) 0 32 = 0 ∧
      s.onlyRegs t [(.bar0, 0x50040 + 8 * r.val)]) ∧
    exec (.readClear .mgmtActive .mgmt 0x00120008) s = .next s ∧
    (u ≠ .bar0 → exec (.readClear .host u off) s = .next s)

/-! ## MCI commands -/

/-- R446, R490, R541, R544-R546, R550, R551, R554-R559, R563, R565-R569: the commands on identity, start, role, events, sessions, keys, debug access and firmware
complete with their effects and answers; an opcode that is not listed is answered BAD_OPCODE. -/
def Obligations.MciPanelRows : Prop :=
  ∀ (s : State) (c : MciCmd) (m : Fin 64) (pl : List Byte) (op : BitVec 16) (a b : Byte) (w : BitVec 16) (n q : BitVec 32) (u v : W64) (g h : BitVec 128)
    (r : Fin 4) (id res : W32) (counter : W64) (x : Session) (slot rights svn : Nat) (key : List Byte) (ver : W32) (south : Bool),
    let on := s.activeSouth
    let img := s.host.readBytes u.toNat v.toNat
    let ring : EvRing := { EvRing.init with on := true, base := u.toNat, entries := n.toNat, minSev := a.toNat, subsys := w.toNat, prodAddr := v.toNat }
    let read := (s.events.reverse.filter fun e => seqFrom q e.seq).take w.toNat
    let kinds (t : State) := Sparse.get none t.flash.tabKeys b.toNat = none ∧ a = 0 ∨ Sparse.get none t.flash.roleKeys b.toNat = none ∧ a = 1
    (s.boxTakes c m 0 pl → TurnedAway (.mciBadOpcode op c) s m 1 0) ∧
    (s.boxTakes c m 1 [] → Completes (.identify c) s m s
      ([BitVec.ofNat 8 variantCode, 0, BitVec.ofNat 8 (b01 on), 0] ++ toBytes 2 (s.ownPanel.getD 0xFFFF) ++
        toBytes 2 (s.rf .mgmt 0x00130000 48 16) ++ toBytes 4 (s.bar0View 0x60018).toNat ++ toBytes 2 (Sparse.get 0 s.flash.fwSvn 0) ++ [0, 0] ++
        toBytes 16 Config.serial.toNat)) ∧
    (s.boxTakes c m 1 [] → Completes (.status c) s m s ((([0x00130000, 0x00130010, 0x00100000, 0x00110000, 0x00120000] : List Nat).flatMap
      fun o => toBytes 8 (s.unitRead .mgmt o).toNat) ++ toBytes 8 s.time)) ∧
    (s.boxTakes c m 2 (toBytes 1 a.toNat ++ toBytes 7 0) → a.toNat ≤ 1 → s.startable = true → s.fed = true → ∃ t, exec (.start c) s = .next t ∧
      t.sites = [] ∧ t.scratch = [] ∧ t.startStep = 1 ∧ t.flash = s.flash ∧ (a = 1 → t.rf .mgmt 0x00130000 8 2 = 1)) ∧
    (s.boxTakes c m 2 (toBytes 1 a.toNat ++ toBytes 7 0) → a.toNat ≤ 1 → s.startable = false → TurnedAway (.start c) s m 7 0) ∧
    (s.boxTakes c m 2 (toBytes 8 0) → s.dieDead (!on) = false → ∃ t, exec (.roleHandover c) s = .next t ∧ t.activeSouth = !on ∧
      t.parts = s.parts ∧ t.mgmt.heartAt = s.time ∧ (∀ y ∈ t.sessions, y.id = 0) ∧ s.boxDone t m 0 0 [] ∧
      s.raised t 0x9010 ([b01 (!on), 0, 0].map w64)) ∧
    (s.boxTakes c m 2 (toBytes 1 a.toNat ++ toBytes 7 0 ++ toBytes 16 g.toNat ++ toBytes 16 h.toNat) → a.toNat ≤ 128 →
      Completes (.netConfig c) s m
        { s with mgmt.netCfg := Sparse.put [] s.mgmt.netCfg (b01 on) (toBytes 1 a.toNat ++ toBytes 16 g.toNat ++ toBytes 16 h.toNat) } [] ∧
      ∃ t, exec (.netConfig c) s = .next t ∧ t.mgmt.journal = s.mgmt.journal + 1) ∧
    (s.boxTakes c m 2 (toBytes 1 r.val ++ toBytes 1 a.toNat ++ toBytes 2 w.toNat ++ toBytes 4 n.toNat ++ toBytes 8 u.toNat ++ toBytes 8 v.toNat) →
      ringSize n.toNat = true → Completes (.eventRingSet c) s m { s with evRings := Sparse.put EvRing.init s.evRings r.val ring } []) ∧
    (s.boxTakes c m 1 (toBytes 4 q.toNat ++ toBytes 2 w.toNat ++ toBytes 2 0) → 1 ≤ w.toNat → w.toNat ≤ 63 →
      Completes (.eventRead c) s m s (read.flatMap eventBytes)) ∧
    (s.boxTakes c m 2 (toBytes 4 q.toNat ++ toBytes 4 0) →
      Completes (.eventAck c) s m { s with unacked := s.unacked.filter fun y => !seqFrom y q } []) ∧
    (s.wireTakes c 0x0013 1 (toBytes 1 a.toNat ++ toBytes 1 0 ++ toBytes 2 w.toNat ++ toBytes 4 0) id counter x → a ≠ 0xFF →
      ∃ t y, exec (.eventSubscribe c) s = .next t ∧ t.session id = some y ∧ y.sub = some (a.toNat, w.toNat) ∧ y.counter = counter ∧
        y.last = s.time ∧ t.outbox.length = s.outbox.length + 1 ∧ t.sites = s.sites) ∧
    (s.boxTakes c m 1 (toBytes 4 q.toNat ++ toBytes 4 0) → Completes (.eventConfirm c) s m
      (s.updSession 0 fun y => { y with notices := y.notices.filter fun n => !seqFrom n.ev.seq q }) []) ∧
    (c.via = .ether on 0 res counter (tagOf key 0 res counter c 0x0901) → s.booted = true → c.payload.length = 24 → c.length = 24 →
      c.flags.toNat < 2 → c.res3 = 0 → c.session = 0 → c.res24 = 0 → s.roleKey (bytesAt c.payload 0 8) = some (slot, rights, key) →
      Sparse.get 0 s.mgmt.openCounters slot < counter → (s.sessions.filter fun y => y.id != 0).length < 16 →
      ∃ t y, exec (.sessionOpen c) s = .next t ∧ t.sessions = s.sessions ++ [y] ∧ y.id = s.mgmt.nextSession ∧ y.rights = rights ∧
        y.last = s.time ∧ t.mgmt.nextSession = s.mgmt.nextSession + 1 ∧ t.outbox.length = s.outbox.length + 1) ∧
    (s.boxTakes c m 1 [] → Completes (.sessionClose c) s m (s.updSession 0 fun _ => Session.zero s.flash.pcieRights) []) ∧
    (s.boxTakes c m 4 pl → pl.length = 232 → bytesAt pl 20 4 = 0 → ∃ t, exec (.enrol c) s = .next t ∧
      (ecdsaOk Config.tamyutKey (pl.take 136) (pl.drop 136) = true → BitVec.ofNat 128 (bytesAt pl 0 16) = Config.serial →
        (∀ o, s.flash.owner = some o → o.1.toNat < bytesAt pl 16 4) → s.raised t 0x9015 ([0x903, 0, 0].map w64) ∧
          t.flash.owner = some (BitVec.ofNat 32 (bytesAt pl 16 4), (pl.drop 24).take 97)) ∧
      (ecdsaOk Config.tamyutKey (pl.take 136) (pl.drop 136) = false → s.onlyBox t ∧ s.boxDone t m 0xA 1 [])) ∧
    (s.boxTakes c m 4 pl → pl.length = 224 → bytesAt pl 0 1 < 2 → bytesAt pl 1 1 < 16 → bytesAt pl 2 1 < 8 → bytesAt pl 3 5 = 0 →
      ∃ t, exec (.keyInstall c) s = .next t ∧ ((s.flash.owner.any fun o => ecdsaOk o.2 (pl.take 128) (pl.drop 128)) = true →
          (bytesAt pl 0 1 = 0 → Sparse.get none t.flash.tabKeys (bytesAt pl 1 1) = some (bytesAt pl 8 8, (pl.drop 16).take 97)) ∧
          (bytesAt pl 0 1 = 1 →
            Sparse.get none t.flash.roleKeys (bytesAt pl 1 1) = some (bytesAt pl 8 8, bytesAt pl 2 1, (pl.drop 16).take 32))) ∧
        (s.flash.owner = none → s.onlyBox t ∧ s.boxDone t m 0xA 1 [])) ∧
    (s.boxTakes c m 4 (toBytes 1 a.toNat ++ toBytes 1 b.toNat ++ toBytes 6 0) → a.toNat < 2 → b.toNat < 16 →
      (¬ kinds s → ∃ t, exec (.keyRevoke c) s = .next t ∧ kinds t ∧ s.raised t 0x9015 ([0x905, a.toNat, b.toNat].map w64)) ∧
      (kinds s → TurnedAway (.keyRevoke c) s m 8 0)) ∧
    (s.boxTakes c m 4 (toBytes 1 a.toNat ++ toBytes 1 b.toNat ++ toBytes 6 0) → a.toNat ≤ 2 → b.toNat ≤ 7 → ∃ t, exec (.secPolicy c) s = .next t ∧
      t.flash.signedOnly = (if a = 0 then s.flash.signedOnly else a == 2) ∧ t.flash.pcieRights = (if b = 0 then s.flash.pcieRights else b.toNat) ∧
      (b ≠ 0 → ∀ y, t.session 0 = some y → y.rights = b.toNat) ∧ s.raised t 0x9015 ([0x906, 0, 0].map w64)) ∧
    (s.boxTakes c m 4 (toBytes 8 0x4C4C414553415245) → s.mgmt.debugEn = true → ∃ t, exec (.debugUnlock c) s = .next t ∧
      t.mgmt.jtagOpen = true ∧ t.flash.owner = none ∧ t.flash.tabKeys = [] ∧ t.flash.roleKeys = [] ∧ t.spill = []) ∧
    (s.boxTakes c m 4 (toBytes 8 u.toNat) → s.mgmt.debugEn = false → TurnedAway (.debugUnlock c) s m 7 0) ∧
    (s.boxTakes c m 4 (toBytes 1 a.toNat ++ toBytes 7 0 ++ toBytes 8 u.toNat ++ toBytes 8 v.toNat) → a.toNat ≤ 3 →
      v.toNat ≤ Config.fwMax a.toNat → ∃ t, exec (.fwStage c) s = .next t ∧
        (Config.fwSigned img = true → Sparse.get 0 s.flash.fwSvn a.toNat ≤ Config.fwSvn img → Config.fwTarget img = a.toNat →
          Sparse.get none t.flash.fwStaged a.toNat = some (Config.fwVersion img, Config.fwSvn img)) ∧
        (Config.fwSigned img = false → s.onlyBox t ∧ s.boxDone t m 0xA 1 [])) ∧
    (s.boxTakes c m 4 (toBytes 1 a.toNat ++ toBytes 7 0) → a.toNat ≤ 3 → Sparse.get none s.flash.fwStaged a.toNat = some (ver, svn) →
      ∃ t, exec (.fwActivate c) s = .next t ∧ (a ≠ 0 → a.toNat ∈ t.flash.fwPending ∧ t.flash.fwActive = s.flash.fwActive) ∧
        (a = 0 → t.activeSouth = !on ∧ Sparse.get 0 t.flash.fwActive 0 = ver ∨
          t.activeSouth = on ∧ s.raised t 0x9014 ([0, ver.toNat, b01 (!on)].map w64))) ∧
    (s.boxTakes c m 4 (toBytes 1 a.toNat ++ toBytes 7 0) → a.toNat ≤ 3 → Sparse.get none s.flash.fwStaged a.toNat = none →
      TurnedAway (.fwActivate c) s m 7 0) ∧
    (s.boxTakes c m 1 [] → ∃ t p, exec (.fwStatus c) s = .next t ∧ s.onlyBox t ∧ s.boxDone t m 0 0 p ∧ p.length = 64 ∧
      ∀ i < 4, bytesAt p (16 * i + 8) 2 = Sparse.get 0 s.flash.fwSvn i % 2 ^ 16) ∧
    (c.via = .mailbox south m → s.dieDead south = true → s.takesCommands south = true → fld (s.box south m.val) 0 2 ≠ 1 →
      c.payload = toBytes 8 u.toNat ++ toBytes 8 v.toNat → c.length = 16 → c.flags.toNat < 2 → c.res3 = 0 → c.session = 0 → c.res24 = 0 →
      ∃ t, exec (.fwRecover c) s = .next t ∧ (Config.fwSigned img = true → Config.fwTarget img = 0 → t.dieDead south = false ∧
          Sparse.get 0 t.flash.fwActive 0 = Config.fwVersion img) ∧
        (Config.fwSigned img = false → t.flash = s.flash ∧ t.mgmt.dead = s.mgmt.dead))

/-- R246, R324-R328, R364, R383, R530, R536, R537, R559: the commands on tablatures and partitions: loading, unloading and listing; creation at the lowest base
that fits, deletion, binding and unbinding; a kill with clear or with hold, and the release of a hold by its token alone; status and step hashes. -/
def Obligations.MciPartitionRows : Prop :=
  ∀ (s : State) (c : MciCmd) (m : Fin 64) (a b d e : Byte) (l0 l1 l2 w : BitVec 16) (u v : W64) (id : BitVec 128) (x : Partition) (y : Tablature)
    (tag base : Nat),
    let img := s.host.readBytes u.toNat v.toNat
    let named := toBytes 1 a.toNat ++ toBytes 7 0
    let z := s.asked c 0
    let fits := 0 < z.rows ∧ 0 < z.cols ∧ z.row0 + z.rows ≤ 12 ∧ z.col0 + z.cols ≤ 12 ∧ ∀ l ∈ z.lease, l ≤ s.panelF
    let alone := ∀ k ∈ s.partList, ¬ (runsMeet z.row0 z.rows k.2.row0 k.2.rows = true ∧ runsMeet z.col0 z.cols k.2.col0 k.2.cols = true)
    let held := s.part a.toNat = some x
    let quiet := held ∧ x.state = 0 ∧ x.migrate = none
    let live (p : Site) := p ∈ s.partSites x ∧ s.coreState p ≠ 0
    (s.boxTakes c m 2 (toBytes 8 u.toNat ++ toBytes 8 v.toNat) →
      tabLoadRefusal img (s.rf .mgmt 0x00130000 48 16) s.flash.owner.isSome s.flash.signedOnly s.tabKeyList = none →
      (∀ t ∈ s.tabs, t.id ≠ tabId img) → s.tabs.length < 32 → Completes (.tabLoad c) s m
        { s with tabs := s.tabs ++ [⟨tabId img, u.toNat, img, BitVec.ofNat 384 (ofBytes (sha384 img))⟩] }
        (toBytes 16 (tabId img).toNat ++ sha384 img)) ∧
    (s.boxTakes c m 2 (toBytes 16 id.toNat) → s.tablature id.toNat = some y → s.bindings y = 0 →
      Completes (.tabUnload c) s m { s with tabs := s.tabs.filter fun t => t.id != y.id } []) ∧
    (s.boxTakes c m 2 (toBytes 16 id.toNat) → s.tablature id.toNat = none → TurnedAway (.tabUnload c) s m 8 0) ∧
    (s.boxTakes c m 1 [] → s.tabs.length ≤ 32 → Completes (.tabList c) s m s (s.tabs.flatMap fun t => toBytes 16 t.id.toNat ++
      toBytes 1 (s.bindings t) ++ toBytes 1 (bytesAt t.image 36 1 % 4) ++ toBytes 6 0)) ∧
    (s.boxTakes c m 2 ([a, b, d, e] ++ toBytes 2 l0.toNat ++ toBytes 2 l1.toNat ++ toBytes 2 l2.toNat ++ toBytes 2 w.toNat ++ toBytes 4 0) →
      s.lostSites = [] → fits → alone → (lowest 64 fun n => (s.part n).isNone) = some tag → s.holdsAbsent z = false →
      (lowest (min w.toNat s.panelF + 1) fun k => s.baseFits (s.asked c k)) = some base → s.rangesFull z = false →
      ∃ t, exec (.partCreate c) s = .next t ∧ t.part tag = some (s.asked c base) ∧
        s.boxDone t m 0 0 (toBytes 1 tag ++ [0] ++ toBytes 2 base ++ toBytes 4 0)) ∧
    (s.boxTakes c m 2 ([a, b, d, e] ++ toBytes 2 l0.toNat ++ toBytes 2 l1.toNat ++ toBytes 2 l2.toNat ++ toBytes 2 w.toNat ++ toBytes 4 0) →
      s.lostSites = [] → fits → ¬ alone → TurnedAway (.partCreate c) s m 0xA 2) ∧
    (s.boxTakes c m 2 named → quiet → x.tab = none → ∃ t, exec (.partDelete c) s = .next t ∧ t.part a.toNat = none ∧ s.boxDone t m 0 0 [] ∧
      ∀ p ∈ s.partSites x, t.partOf p = 0xFF ∧ t.siteTag p = 0xFF) ∧
    (s.boxTakes c m 2 named → held → x.tab.isSome = true → TurnedAway (.partDelete c) s m 7 0) ∧
    (s.boxTakes c m 2 ([a, b, d] ++ toBytes 5 0 ++ toBytes 16 id.toNat) → b.toNat < 2 → s.lostSites = [] → held → x.state = 0 →
      s.tablature id.toNat = some y → s.bindRefusal a.toNat x y (s.host.readBytes y.addr y.image.length) = none →
      ∃ t z, exec (.partBind c) s = .next t ∧ t.part a.toNat = some z ∧ z.tab = some y.id ∧ z.stepIndex = 0 ∧ z.winTag = d ∧
        z.stepHash = (b == 1) ∧ z.jobAt = s.time) ∧
    (s.boxTakes c m 2 named → quiet → x.tab.isSome = true → ∃ t z, exec (.partUnbind c) s = .next t ∧ t.part a.toNat = some z ∧ z.tab = none ∧
      z.armed = false ∧ z.running = none ∧ z.queue = [] ∧ z.svc = none) ∧
    (s.boxTakes c m 2 named → quiet → x.tab.isSome = true → ∃ t z, exec (.partAbort c) s = .next t ∧ t.part a.toNat = some z ∧ z.tab = none ∧
      z.armed = false ∧ z.running = none ∧ z.queue = []) ∧
    (s.boxTakes c m 2 ([a, 0] ++ toBytes 6 0 ++ toBytes 8 0) → quiet → ∃ t, exec (.partKillClear c) s = .next t ∧
      (∀ z, t.part a.toNat = some z → z.state = 4 ∧ z.tab = none) ∧ ∀ p, live p → t.coreState p = 6) ∧
    (s.boxTakes c m 2 ([a, 1] ++ toBytes 6 0 ++ toBytes 8 u.toNat) → quiet → ∃ t z, exec (.partKillHold c) s = .next t ∧
      t.part a.toNat = some z ∧ z.state = 3 ∧ z.ownerToken = some u ∧ z.tab = none ∧ ∀ p, live p → t.coreState p = 7) ∧
    (s.boxTakes c m 2 (named ++ toBytes 8 u.toNat) → held → x.state = 3 → x.ownerToken = some u → ∃ t, exec (.partRelease c) s = .next t ∧
      (∀ z, t.part a.toNat = some z → z.state = 4 ∧ z.ownerToken = none) ∧ ∀ p, live p → t.coreState p = 6) ∧
    (s.boxTakes c m 2 (named ++ toBytes 8 u.toNat) → held → x.state = 3 → x.ownerToken = some v → u ≠ v → ∃ t z,
      exec (.partRelease c) s = .next t ∧ t.part a.toNat = some x ∧ t.session 0 = some z ∧ z.frozen = true ∧
        s.raised t 0x9007 ([0, 0x207, 1].map w64)) ∧
    (s.boxTakes c m 1 named → held → ∃ p, Completes (.partStatus c) s m
        (s.setPart a.toNat (some { x with rejected := [], lateCount := 0, failCount := 0 })) p ∧ p.length = 84 ∧
      bytesAt p 0 1 = x.statusCode % 256 ∧ bytesAt p 8 8 = x.stepIndex.toNat ∧ bytesAt p 32 8 = x.accepted.toNat ∧
      bytesAt p 40 8 = x.stepsRun.toNat ∧ bytesAt p 48 8 = x.outBytes.toNat ∧ bytesAt p 76 4 = x.lateCount % 2 ^ 32 ∧
      bytesAt p 80 4 = x.failCount % 2 ^ 32) ∧
    (s.boxTakes c m 1 ([a, 0] ++ toBytes 2 w.toNat ++ toBytes 4 0 ++ toBytes 8 u.toNat) → 1 ≤ w.toNat → w.toNat ≤ 64 → held →
      Completes (.stepHashRead c) s m s (((x.hashes.reverse.filter fun h => decide (u.toNat ≤ h.1.toNat)).take w.toNat).flatMap fun h =>
        toBytes 8 h.1.toNat ++ toBytes 8 h.2.toNat))

/-- R13, R36, R182, R193, R383, R407, R537, R560: the commands that move data: registers and scratchpad read and written through their panel addresses as stored
and with their poison marks, held contents under the owner token alone, apertures, and a bulk write that leaves by a port. -/
def Obligations.MciDataRows : Prop :=
  ∀ (s : State) (c : MciCmd) (m : Fin 64) (a b : Byte) (o : BitVec 29) (u v z : W64) (len : BitVec 32) (w : BitVec 16) (p : Site) (off k : Nat)
    (x : Partition) (bytes : List Byte) (e : Nat),
    let n := len.toNat
    let reg := 0xF0 * 2 ^ 43 + o.toNat
    let spot := s.paKind u.toNat = .scratch p off ∧ off % 64 = 0 ∧ n % 64 = 0 ∧ 0 < n ∧ n ≤ 2048 ∧ off + n ≤ 0x18000000
    let reads := spot ∧ s.coreAdmits p off n (s.checkReads p 5 off n) = true
    let writes := spot ∧ s.coreKept p = false ∧ s.coreAdmits p off n (s.checkWrites p 5 off n) = true
    let grans := (granOffs off n).map fun q => (⟨(s.granAt p q).data, (s.granAt p q).poison != 0⟩ : Flit)
    let marks := grans.map (·.poison)
    let port := s.port e
    let granted := Sparse.put (0, 0) s.apertures (a.toNat * 16 + b.toNat) (if v = 0 then (0, 0) else (u.toNat, v.toNat))
    (s.boxTakes c m 2 (toBytes 8 reg ++ toBytes 4 8 ++ toBytes 4 0) → o.toNat % 8 = 0 → Completes (.memRead c) s m (s.regClear .mgmt o.toNat)
      (toBytes 8 0 ++ toBytes 8 (s.unitRead .mgmt o.toNat).toNat)) ∧
    (s.boxTakes c m 2 (toBytes 8 u.toNat ++ toBytes 4 n ++ toBytes 4 0) → reads → s.coreKept p = false → ∃ t, exec (.memRead c) s = .next t ∧
      t.scratch = s.scratch ∧ s.boxDone t m 0 0 (markBytes 8 marks ++ flitBytes grans)) ∧
    (s.boxTakes c m 2 (toBytes 8 u.toNat ++ toBytes 4 n ++ toBytes 4 0) → spot → s.coreKept p = true → TurnedAway (.memRead c) s m 7 0) ∧
    (s.boxTakes c m 2 (toBytes 8 u.toNat ++ toBytes 4 n ++ toBytes 4 0 ++ bytes) → bytes.length = n → writes →
      ∃ t, exec (.memWrite c) s = .next t ∧ t.scratch = (s.writeGrans p off (cleanGrans bytes)).scratch ∧ s.boxDone t m 0 0 [] ∧
        t.cc p = s.cc p) ∧
    (s.boxTakes c m 2 (toBytes 8 v.toNat ++ toBytes 8 u.toNat ++ toBytes 8 n) → writes → ∃ t, exec (.dmaIn c) s = .next t ∧
      t.scratch = (s.writeGrans p off (cleanGrans (s.host.readBytes v.toNat n))).scratch ∧ t.host = s.host ∧ s.boxDone t m 0 0 []) ∧
    (s.boxTakes c m 2 (toBytes 8 v.toNat ++ toBytes 8 u.toNat ++ toBytes 8 n ++ toBytes 8 z.toNat) → reads → s.coreKept p = false →
      ∃ t, exec (.dmaOut c) s = .next t ∧ t.scratch = s.scratch ∧ s.boxDone t m 0 0 [] ∧
        t.host = (s.host.writeBytes v.toNat (flitBytes grans)).writeBytes z.toNat (markBytes ((n + 511) / 512) marks)) ∧
    (s.boxTakes c m 2 ([a] ++ toBytes 3 0 ++ toBytes 4 n ++ toBytes 8 z.toNat ++ toBytes 8 u.toNat) → s.part a.toNat = some x → x.state = 3 →
      x.ownerToken = some z → p ∈ s.partSites x → s.coreState p = 7 → reads → ∃ t, exec (.heldRead c) s = .next t ∧ t.scratch = s.scratch ∧
        s.boxDone t m 0 0 (markBytes 8 marks ++ flitBytes grans)) ∧
    (s.boxTakes c m 2 ([a] ++ toBytes 3 0 ++ toBytes 4 n ++ toBytes 8 z.toNat ++ toBytes 8 u.toNat) → n ≤ 3968 → s.part a.toNat = some x →
      x.state = 3 → x.ownerToken = some v → z ≠ v → ∃ t y, exec (.heldRead c) s = .next t ∧ t.session 0 = some y ∧ y.frozen = true ∧
        t.scratch = s.scratch) ∧
    (s.boxTakes c m 2 ([a, b] ++ toBytes 6 0 ++ toBytes 8 u.toNat ++ toBytes 8 v.toNat) → b.toNat < 16 → s.part a.toNat = some x →
      Completes (.apertureSet c) s m { s with apertures := granted } []) ∧
    (s.boxTakes c m 2 (toBytes 2 w.toNat ++ [a] ++ toBytes 5 0 ++ toBytes 8 u.toNat ++ toBytes 8 v.toNat ++ toBytes 8 64) → w.toNat < 1024 →
      a.toNat < 64 → s.routeOf 0 w.toNat = some e → e < 84 → s.portUp e = true → s.carries e 3 = true → port.egress = [] →
      port.replayDue = false → port.replay.length < 512 → 0 < port.credits.getD 3 0 → (∀ q ∈ s.mgmt.bulk, q.2.1 ≠ e) →
      ∃ t f, exec (.bulkSend c) s = .next t ∧ Out.frame e f ∈ t.outbox ∧ f.typ = 0xC0 ∧ f.dstPanel = w ∧
        f.flits = cleanGrans (s.host.readBytes v.toNat 64) ∧ t.mgmt.bulk = s.mgmt.bulk ∧ s.boxDone t m 0 0 []) ∧
    (s.boxTakes c m 2 (toBytes 2 w.toNat ++ [a] ++ toBytes 5 0 ++ toBytes 8 u.toNat ++ toBytes 8 v.toNat ++ toBytes 8 k) → k < 2 ^ 64 →
      k % 64 ≠ 0 → w.toNat < 1024 → a.toNat < 64 → TurnedAway (.bulkSend c) s m 3 24)

/-- R229, R231, R257, R274, R275, R366, R447, R457, R462, R475, R477, R481, R482, R499, R500, R512-R517, R521, R531, R535, R559, R561: the commands on
power and thermal policy, resets, sites, migration, placement, the fabric and epochs. -/
def Obligations.MciFaultRows : Prop :=
  ∀ (s : State) (c : MciCmd) (m : Fin 64) (a b d e f : Byte) (w w' h : BitVec 16) (p q : Site) (g : Fin 42) (k : Fin 28) (x : Partition) (tag : Nat)
    (id : BitVec 32) (cause since l : Nat),
    let on := s.activeSouth
    let take (v old : Nat) := if v = 0 then old else v
    let lone := s.parts = [(tag, some x)] ∧ x.query = some (id.toNat, cause, since) ∧ x.state = 0
    let live (p : Site) := (s.site p).symp = none ∧ s.coreState p ≠ 0 ∧ s.coreState p ≠ 6 ∧ s.coreState p ≠ 7
    let level (n : Byte) (scope : Nat) := s.boxTakes c m 2 ([n, 0] ++ toBytes 2 scope ++ toBytes 4 0)
    let one (n : Nat) := toBytes 1 n ++ toBytes 7 0
    let jobs := (s.openJobs.map fun j => jobBytes j true) ++ s.jobs.map fun j => jobBytes j false
    let move : Migration := ⟨l, p.val, q.val, s.time, c⟩
    let moves := s.boxTakes c m 2 ([BitVec.ofNat 8 l, BitVec.ofNat 8 q.val] ++ toBytes 6 0) ∧ l < 144 ∧ s.siteOf l = some p ∧ s.siteMode q = 2 ∧
      siteRow q = l / 12 ∧ s.holderOf l = some (tag, x) ∧ s.part tag = some x ∧ x.state = 0 ∧ x.migrate = none
    let unmarked := if a.toNat % 2 = 1 then { s with flash.retired := s.flash.retired.filter fun n => n != p.val } else s
    (s.boxTakes c m 2 (toBytes 2 w.toNat ++ toBytes 2 w'.toNat ++ [a, b, d, e] ++ toBytes 2 h.toNat ++ [f] ++ toBytes 5 0) → s.policyBad c = none →
      ∃ t, exec (.powerPolicy c) s = .next t ∧ s.boxDone t m 0 0 [] ∧
        t.rf .mgmt 0x00110008 0 16 = take w.toNat (s.rf .mgmt 0x00110008 0 16) ∧
        t.rf .mgmt 0x00110008 32 16 = take w'.toNat (s.rf .mgmt 0x00110008 32 16) ∧
        t.rf .mgmt 0x00100008 0 8 = take a.toNat (s.rf .mgmt 0x00100008 0 8) ∧
        t.rf .mgmt 0x00100008 8 1 = (if b = 0 then s.rf .mgmt 0x00100008 8 1 else b.toNat - 1) ∧
        t.rf .mgmt 0x00120008 0 8 = take d.toNat (s.rf .mgmt 0x00120008 0 8) ∧
        t.rf .mgmt 0x00110010 8 4 = take e.toNat (s.rf .mgmt 0x00110010 8 4) ∧
        t.rf .mgmt 0x00110010 16 10 = take h.toNat (s.rf .mgmt 0x00110010 16 10) ∧
        t.rf .mgmt 0x00110010 0 8 = take f.toNat (s.rf .mgmt 0x00110010 0 8)) ∧
    (s.boxTakes c m 2 [] → s.mayResume = true → ∃ t, exec (.coolResume c) s = .next t ∧ t.coolState = 0 ∧
      t.power.waits.any (fun z => z.1 == .coolCeilings) = true ∧ s.raised t 0x5008 [w64 (s.time - s.power.stopAt)]) ∧
    (s.boxTakes c m 2 [] → s.mayResume = false → TurnedAway (.coolResume c) s m 7 0) ∧
    (s.boxTakes c m 2 (one g.val) → s.rf .mgmt (ceilOff g) 4 1 = 1 → 3 ≤ s.rf .mgmt (ceilOff g) 20 4 → ∃ t, exec (.thermalClear c) s = .next t ∧
      t.rf .mgmt (ceilOff g) 20 4 = 0 ∧ (t.region g).heatOffs = [] ∧ s.boxDone t m 0 0 []) ∧
    (s.boxTakes c m 2 (one g.val) → s.rf .mgmt (ceilOff g) 4 1 = 0 → TurnedAway (.thermalClear c) s m 7 0) ∧
    (s.boxTakes c m 1 (toBytes 2 w.toNat ++ toBytes 2 w'.toNat ++ toBytes 4 0) → 1 ≤ w'.toNat → w'.toNat ≤ 16 →
      Completes (.energyRead c) s m s ((jobs.drop w.toNat).take w'.toNat).flatten) ∧
    (level 0 p.val → live p → ∃ t, exec (.mciResetCore c) s = .next t ∧ t.coreState p = 1 ∧ ∀ r, r ≠ p → t.coreState r = s.coreState r) ∧
    (level 1 g.val → ∃ t, exec (.mciResetRegion c) s = .next t ∧ ∀ r ∈ regionSites g, live r → t.coreState r = 1) ∧
    (level 2 w.toNat → s.part w.toNat = some x → x.state = 0 → ∃ t, exec (.mciResetPartition c) s = .next t ∧
      (∀ r ∈ s.partSites x, live r → t.coreState r = 1) ∧
      (x.armed = true ∨ x.tab.isSome = true → x.failed = none → ∃ y, t.part w.toNat = some y ∧ y.failed = some 3)) ∧
    (level 3 w.toNat → ∃ t, exec (.mciResetCompute c) s = .next t ∧ ∀ n y, s.part n = some y → ∀ r ∈ s.partSites y, live r → t.coreState r = 1) ∧
    (level 4 w.toNat → s.fed = true → ∃ t v, exec (.mciResetPanel c) s = .next t ∧ t.sites = [] ∧ t.parts = [] ∧ t.startStep = 1 ∧
      t.flash = s.flash ∧ s.raised t 0x8025 [4, w64 w.toNat, v]) ∧
    (s.boxTakes c m 2 (one p.val) → s.siteMode p ≠ 4 → ∃ t, exec (.retire c) s = .next t ∧ t.siteMode p = 4 ∧ p.val ∈ t.flash.retired) ∧
    (s.boxTakes c m 2 ([BitVec.ofNat 8 p.val, a] ++ toBytes 6 0) → a.toNat ≤ 3 → Completes (.faultClear c) s m
      (if a.toNat / 2 = 1 then unmarked.setRf (.site p) 0x18000000 15 1 0 else unmarked) []) ∧
    (moves → x.armed = true → ∃ t, exec (.migrate c) s = .next t ∧ t.part tag = some { x with migrate := some move } ∧
      fld (t.box on m.val) 0 2 = 1) ∧
    (moves → x.armed = false → x.failed = none → s.epochBusy = false → ∃ t y, exec (.migrate c) s = .next t ∧ t.part tag = some y ∧
      y.stage = 4 ∧ y.migrate = none ∧ t.mgmt.moving = some move ∧ ∀ r, t.reg (.site r) 0x18710008 = s.frameCount + 1) ∧
    (s.boxTakes c m 2 (toBytes 4 id.toNat ++ [0] ++ toBytes 3 0) → lone → cause ≠ 5 → Completes (.placementResume c) s m
      (s.setPart tag (some { x with query := none, stage := 3, failed := some (x.failed.getD 2) })) []) ∧
    (s.boxTakes c m 2 (toBytes 4 id.toNat ++ [0] ++ toBytes 3 0) → lone → cause = 5 → Completes (.placementResume c) s m
      (s.setPart tag (some { x with query := none })) []) ∧
    (s.boxTakes c m 2 (toBytes 4 id.toNat ++ [1] ++ toBytes 3 0) → lone → ∃ t y, exec (.placementHold c) s = .next t ∧ t.part tag = some y ∧
      y.state = 3 ∧ y.tab = none ∧ y.query = x.query ∧ y.ownerToken = none) ∧
    (s.boxTakes c m 2 (toBytes 4 id.toNat ++ [2] ++ toBytes 3 0) → lone → ∃ t, exec (.placementRelease c) s = .next t ∧
      ∀ y, t.part tag = some y → y.state = 4 ∧ y.query = none) ∧
    (s.boxTakes c m 2 ([a, b, d, 0] ++ toBytes 2 w.toNat ++ toBytes 2 0) → a.toNat ≤ 2 → b.toNat ≤ 60 → d.toNat ≤ 60 →
      ∃ t, exec (.faultPolicy c) s = .next t ∧ s.boxDone t m 0 0 [] ∧
        t.rf .mgmt 0x00140000 16 1 = (if a = 0 then s.rf .mgmt 0x00140000 16 1 else a.toNat - 1) ∧
        t.rf .mgmt 0x00140000 8 8 = take b.toNat (s.rf .mgmt 0x00140000 8 8) ∧
        t.rf .mgmt 0x00140000 0 8 = take d.toNat (s.rf .mgmt 0x00140000 0 8) ∧
        t.flash.floor = (if w = 0xFFFF then s.flash.floor else w.toNat)) ∧
    (s.boxTakes c m 2 ([a, b] ++ toBytes 2 w.toNat ++ toBytes 4 0) → a.toNat ≤ 1 → b.toNat < (if a = 0 then 12 else 14) → w.toNat < 2 ^ 14 →
      (s.epochBusy = false → ∃ t, exec (.wayStage c) s = .next t ∧ s.boxDone t m 0 0 [] ∧ ∀ r ∈ bundleSites a.toNat b.toNat,
        t.rf (.site r) (0x18720480 + 0x800 * s.idleVersion) (16 * a.toNat) 14 = w.toNat) ∧
      (s.epochBusy = true → TurnedAway (.wayStage c) s m 0xB 0)) ∧
    (s.boxTakes c m 2 [] → s.epochBusy = false → ∃ t, exec (.epochFlip c) s = .next t ∧ fld (t.box on m.val) 0 2 = 1 ∧
      t.mgmt.flips = s.mgmt.flips ++ [(c, (s.frameCount + 1).toNat)] ∧ ∀ r, t.reg (.site r) 0x18710008 = s.frameCount + 1) ∧
    (s.boxTakes c m 2 [] → s.epochBusy = true → TurnedAway (.epochFlip c) s m 0xB 0) ∧
    (s.boxTakes c m 2 (toBytes 2 w.toNat ++ toBytes 6 0) → 64 ≤ w.toNat → w.toNat ≤ 8192 →
      ((∀ y ∈ s.partList, y.2.tab = none) → ∃ t, exec (.frameLen c) s = .next t ∧ s.boxDone t m 0 0 [] ∧
        ∀ r, t.reg (.site r) 0x18700008 = w64 w.toNat) ∧
      (s.partList.any (fun y => y.2.tab.isSome) = true → TurnedAway (.frameLen c) s m 7 0)) ∧
    (s.boxTakes c m 2 (one g.val) → s.rf (.gov g) 0 2 1 = 0 → 6 ≤ s.startStep → s.coolState ≠ 3 → ∃ t, exec (.fabricRestart c) s = .next t ∧
      t.rf (.gov g) 0 2 1 = 1) ∧
    (s.boxTakes c m 2 (one g.val) → s.rf (.gov g) 0 2 1 = 1 → TurnedAway (.fabricRestart c) s m 7 0) ∧
    (s.boxTakes c m 2 ([BitVec.ofNat 8 k.val, a] ++ toBytes 6 0) → a.toNat ≤ 2 →
      (s.extAny k = false → s.stackState k = 2 → ∃ t, exec (.stackRetrain c) s = .next t ∧ t.rf (.stack k) 8 0 2 = a.toNat ∧
        (t.stackState k = 0 ∨ t.stackState k = 2 ∧ t.rf (.stack k) 0 6 2 = a.toNat)) ∧
      (s.extAny k = true → TurnedAway (.stackRetrain c) s m 7 0)) ∧
    (s.boxTakes c m 2 (one a.toNat) → 6 ≤ a.toNat → a.toNat ≤ 9 →
      (s.tabs = [] → Completes (.hopSet c) s m { s with flash.hopLink := a.toNat } []) ∧
      (s.tabs ≠ [] → TurnedAway (.hopSet c) s m 7 0))

/-- R35, R343-R346, R359, R393, R396, R399-R401, R406, R407, R409, R410, R415, R419, R421, R533, R559, R562: the commands on service and on the Ihlyx ports,
collectives and peers. -/
def Obligations.MciIhlyxAndServiceRows : Prop :=
  ∀ (s : State) (c : MciCmd) (m : Fin 64) (a b d e : Byte) (w w' : BitVec 16) (n n' : BitVec 32) (u v z z' y' : W64) (i : Fin 84) (die : Fin 42)
    (es : List (BitVec 16)) (pl : List Byte) (x : Partition) (img : Tablature) (y : Coll) (index : Nat),
    let one (n : Nat) := toBytes 1 n ++ toBytes 7 0
    let unit := RegUnit.die (portDie i.val)
    let rail := s.rf (.gov (portDie i.val)) 0 2 1 = 1
    let enabled (t : State) := bit (t.reg unit (portReg i.val 0x1008)) 1
    let action (n : Byte) := s.boxTakes c m 2 ([BitVec.ofNat 8 i.val, n, 0, 0, 0] ++ toBytes 3 0)
    let weight (t : State) (lo : Nat) := t.rf unit (portReg i.val 0x1010) lo 4
    let keep (v : Byte) (lo : Nat) := if v = 0 then weight s lo else v.toNat
    let words := es.flatMap fun k => toBytes 2 k.toNat
    let ids := (List.range es.length).foldl (fun (l : Sparse Nat) j => Sparse.put 0 l (w'.toNat + j) ((es.getD j 0).toNat + 1)) y.ids
    let cores := match s.part (bytesAt pl 7 1) with
      | some x => x.rows * x.cols
      | none => 256
    let here := s.colls.filter fun k => k.die == bytesAt pl 6 1
    let found := s.colls.find? (fun k => k.id == w.toNat) = some y
    let num := s.collTarget y
    let ring : SvcRing := { SvcRing.init with
      on := true, reqBase := u.toNat, respBase := v.toNat, reqEntries := n.toNat, respEntries := n'.toNat, dataBase := z.toNat
      dataLen := z'.toNat, headAddr := y'.toNat, enabled := true }
    let bind : SvcBinding := ⟨b.toNat, d.toNat, e.toNat, n.toNat, n'.toNat, w.toNat, 100 * u.toNat⟩
    (s.boxTakes c m 2 (toBytes 2 w.toNat ++ toBytes 6 0) → w.toNat < 1024 →
      (s.ownPanel = none → ∃ t, exec (.panelId c) s = .next t ∧ s.boxDone t m 0 0 [] ∧ t.ownPanel = some w.toNat ∧
        ∀ k, s.rf (.die k) 0 0 1 = 0 → t.rf (.die k) 8 0 10 = w.toNat ∧ t.rf (.die k) 0 0 1 = 1) ∧
      (s.ownPanel.isSome = true → TurnedAway (.panelId c) s m 7 0)) ∧
    (s.boxTakes c m 2 (toBytes 2 w.toNat ++ toBytes 2 es.length ++ toBytes 4 0 ++ words) → 1 ≤ es.length → es.length ≤ 512 →
      w.toNat + es.length ≤ 1024 → (∀ k ∈ es, k.toNat < 512 ∧ (256 ≤ k.toNat → k.toNat - 256 < 84)) → ∃ t, exec (.routeSet c) s = .next t ∧
        s.boxDone t m 0 0 [] ∧ ∀ k j, j < es.length → t.reg (.die k) (0x8000 + 8 * (w.toNat + j)) = w64 (es.getD j 0).toNat) ∧
    (s.boxTakes c m 2 ([BitVec.ofNat 8 i.val, 0, a, b, d] ++ toBytes 3 0) → a.toNat < 16 → b.toNat < 16 → d.toNat < 16 →
      ∃ t, exec (.portControl c) s = .next t ∧ s.boxDone t m 0 0 [] ∧ weight t 0 = keep a 0 ∧ weight t 4 = keep b 4 ∧ weight t 8 = keep d 8 ∧
        t.ports = s.ports) ∧
    (action 1 → enabled s = true → ∃ t, exec (.portDisable c) s = .next t ∧ enabled t = false ∧ t.portState i.val = 0) ∧
    (action 2 → enabled s = false → rail → ∃ t, exec (.portEnable c) s = .next t ∧ enabled t = true ∧ t.portState i.val = 2) ∧
    (action 3 → s.portState i.val ≠ 0 → rail → ∃ t, exec (.portRetrain c) s = .next t ∧ t.portState i.val = 2) ∧
    (s.boxTakes c m 1 ([a, b] ++ toBytes 6 0) → a.toNat < 84 → 1 ≤ b.toNat → b.toNat ≤ 80 → Completes (.topology c) s m s
      ((((List.range 84).drop a.toNat).take b.toNat).flatMap s.portLine)) ∧
    (s.boxTakes c m 2 (one a.toNat) → a.toNat ≤ 1 → ∃ t, exec (.timeMaster c) s = .next t ∧ s.boxDone t m 0 0 [] ∧
      ∀ k, t.rf (.die k) 0x0010 6 1 = a.toNat) ∧
    (s.boxTakes c m 2 pl → pl.length = 32 + 16 * bytesAt pl 18 1 → bytesAt pl 19 1 = 0 → bytesAt pl 28 4 = 0 → collBad c cores = none →
      s.part (bytesAt pl 7 1) = some x → x.tab.isSome = true → (∀ k ∈ s.colls, k.id ≠ bytesAt pl 0 2) →
      (collOf c 0 0 0).footprint + (here.map Coll.footprint).foldl (· + ·) 0 ≤ collMemory →
      (lowest 64 fun j => !(here.any fun k => k.index == j)) = some index → ∃ t inPa goPa, exec (.collBind c) s = .next t ∧
        t.colls = s.colls ++ [collOf c index inPa goPa] ∧ s.boxDone t m 0 0 (toBytes 8 inPa ++ toBytes 8 goPa)) ∧
    (s.boxTakes c m 2 (toBytes 2 w.toNat ++ toBytes 2 w'.toNat ++ toBytes 2 es.length ++ toBytes 2 0 ++ words) → found → w'.toNat < y.members →
      w'.toNat + es.length ≤ y.members → es.length < 2 ^ 16 → (∀ k ∈ es, k.toNat < 1024) → y.ready = true ∨ ({ y with ids := ids } : Coll).ready = false →
      Completes (.collMembers c) s m (s.updColl y.die y.index fun k => { k with ids := ids }) []) ∧
    (s.boxTakes c m 2 (toBytes 2 w.toNat ++ toBytes 6 0) → found → Completes (.collUnbind c) s m (s.collRemove y) []) ∧
    (s.boxTakes c m 2 (toBytes 2 w.toNat ++ toBytes 6 0) → s.colls = [y] → y.id = w.toNat → (y.inv num).aborted = false →
      ∃ t k, exec (.collAbort c) s = .next t ∧ t.colls = [k] ∧ (k.inv num).aborted = true) ∧
    (s.boxTakes c m 2 (toBytes 2 w.toNat ++ toBytes 6 0) → s.colls = [] → TurnedAway (.collAbort c) s m 8 0) ∧
    (s.boxTakes c m 1 (toBytes 2 w.toNat ++ toBytes 2 w'.toNat ++ toBytes 4 0) → 1 ≤ w'.toNat → w'.toNat ≤ 64 → found →
      Completes (.collLateness c) s m s ((y.lateness.take w'.toNat).flatMap fun k => toBytes 4 k.1.toNat ++ toBytes 4 0 ++ toBytes 8 k.2.toNat)) ∧
    (s.boxTakes c m 2 pl → pl.length = 128 → ∃ t, exec (.svcPeers c) s = .next t ∧ s.boxDone t m 0 0 [] ∧
      ∀ k j, j < 16 → t.reg (.die k) (0x3000 + 8 * j) = w64 (bytesAt pl (8 * j) 8)) ∧
    (s.boxTakes c m 2 ([a, b, d, e] ++ toBytes 2 w.toNat ++ toBytes 2 0 ++ toBytes 8 u.toNat ++ toBytes 8 v.toNat) → a.toNat < 64 → b.toNat < 64 →
      d.toNat < 28 → e.toNat ≤ 1 → w.toNat < 1024 → u.toNat % 4096 = 0 → u.toNat < 2 ^ 36 → v.toNat % 4096 = 0 → v.toNat < 2 ^ 36 →
      ∃ t, exec (.bulkAperture c) s = .next t ∧ s.boxDone t m 0 0 [] ∧ ∀ k, t.reg (.die k) (0x4008 + 32 * a.toNat) = v ∧
        t.reg (.die k) (0x4000 + 32 * a.toNat) = if v = 0 then 0 else
          w64 (2 ^ 63 + b.toNat * 2 ^ 48 + d.toNat * 2 ^ 40 + u.toNat + e.toNat * 2 ^ 11 + w.toNat)) ∧
    (s.boxTakes c m 2 ([BitVec.ofNat 8 die.val, a] ++ toBytes 6 0) →
      (a.toNat < 16 → ∃ t, exec (.freezeRelease c) s = .next t ∧ s.boxDone t m 0 0 [] ∧ t.reg (.die die) (0x3800 + 8 * a.toNat) = 0) ∧
      (a = 0xFF → ∃ t, exec (.freezeRelease c) s = .next t ∧ s.boxDone t m 0 0 [] ∧ (∀ j < 16, t.reg (.die die) (0x3800 + 8 * j) = 0) ∧
        (t.port (2 * die.val)).frozenAll = [] ∧ (t.port (2 * die.val + 1)).frozenAll = [])) ∧
    (s.boxTakes c m 2 (one a.toNat ++ toBytes 8 u.toNat ++ toBytes 8 v.toNat ++ toBytes 4 n.toNat ++ toBytes 4 n'.toNat ++ toBytes 8 z.toNat ++
        toBytes 8 z'.toNat ++ toBytes 8 y'.toNat) → a.toNat < 64 →
      (n = 0 → Completes (.svcRingSet c) s m (s.updSvcRing a.toNat fun _ => SvcRing.init) []) ∧
      (ringSize n.toNat = true → ringSize n'.toNat = true → u.toNat % 64 = 0 → v.toNat % 64 = 0 →
        Completes (.svcRingSet c) s m (s.updSvcRing a.toNat fun _ => ring) [])) ∧
    (s.boxTakes c m 2 (one a.toNat) → a.toNat < 64 →
      ((s.svcRing a.toNat).on = true → (s.svcRing a.toNat).enabled = false → Completes (.svcRingEnable c) s m
        (s.updSvcRing a.toNat fun k => { k with enabled := true, producer := k.consumed }) []) ∧
      ((s.svcRing a.toNat).on = false → TurnedAway (.svcRingEnable c) s m 8 0)) ∧
    (s.boxTakes c m 2 ([a, b, d, e] ++ toBytes 4 n.toNat ++ toBytes 4 n'.toNat ++ toBytes 2 w.toNat ++ toBytes 2 0 ++ toBytes 4 u.toNat) →
      u.toNat ≤ 10 ^ 7 → s.part a.toNat = some x → x.state = 0 → s.tabOf x = some img → x.svc = none → b.toNat < x.rows * x.cols → d.toNat ≤ 127 →
      e.toNat < x.rows * x.cols → n.toNat % 64 = 0 → n'.toNat ≤ 65472 → n'.toNat % 64 = 0 → 1 ≤ w.toNat → w.toNat ≤ 1024 →
      bind.refusal img.image s.svcRate = none → Completes (.svcEnable c) s m (s.setPart a.toNat (some { x with svc := some bind })) []) ∧
    (s.boxTakes c m 2 (one a.toNat) → s.part a.toNat = some x → x.svc.isSome = true → ∃ t k, exec (.svcDisable c) s = .next t ∧
      t.part a.toNat = some k ∧ k.svc = none ∧ k.warmAt = none ∧ k.running = none ∧ k.queue = [] ∧ k.tab = x.tab) ∧
    (s.boxTakes c m 2 (toBytes 4 n.toNat ++ [a] ++ toBytes 3 0) → 100 ≤ n.toNat → n.toNat ≤ 100000 → 1 ≤ a.toNat → a.toNat ≤ 64 →
      Completes (.svcPolicy c) s m { s with svcFixed := n.toNat, svcRate := a.toNat } [])

/-! ## Encoding, reset, and one step -/

/-- R136-R139: the control core's encodings lose nothing and admit nothing else. Every well-formed control-core command has a word, which reads
back as that command, every operand at every value; and a word that reads as a command is that command's word, so that two words never read
alike and a word with a bit of a must-be-zero field set, a reserved code or an unlisted opcode reads as none. An instruction word that
reads as none is illegal, and raises ILLEGAL with detail ENCODING. -/
def Obligations.ControlCoreWordsReadBack : Prop :=
  (∀ i : Instr, i.wf = true → ccWord i ≠ 0 → ∃ p, ccDecode p (ccWord i) = some i) ∧
  (∀ (p : Site) (w : W32) (i : Instr), ccDecode p w = some i → ccWord i = w ∧ i.wf = true) ∧
  (∀ (p : Site) (w : W32), w.toNat / 2 ^ 26 ∈ [0x00, 0x0E, 0x0F, 0x1E, 0x1F, 0x27] → ccDecode p w = none) ∧
  (∀ (s : State) (p : Site), s.ccReady p → (s.cc p).ex = false → (s.cc p).evec ≠ 0 →
    let word := Sparse.get 0 (s.site p).imem ((s.cc p).pc.toNat / 4)
    ccDecode p word = none → Traps (.illegalInstruction p false) p 0x0001 (word.zeroExtend 64) s)

/-- What reset leaves: every register at the value in the Reset column of its map (R11), with the fused values of the variant (R428) where the column names
a fuse; every control core at PC 0x0000 with its general registers zero, its predicates false but p0, and its control registers at
their Reset values (R134, R159); the engines empty, their banks EMPTY and their tiles and latch invalid (R100, R131); no command waiting, no
partition open, no packet in flight; session 0 alone open, with every right (R556, R558). That nothing is listed in any memory, so that
every byte reads as zero in the canonical form, is the model's choice (log entry 1). -/
def Obligations.ResetValues : Prop :=
  (∀ (p : Site) (n : Fin 144) (k : Fin 64) (i : Fin 32) (f : Fin 16) (v : Fin 2),
    State.reset.reg (.site p) 0x18000000 = 0x00FFFF0000000000 ∧
    State.reset.reg (.site p) (0x18402000 + 32 * k.val) = 0x000000FF00000000 ∧
    State.reset.reg (.site p) 0x18508008 = 86400 ∧
    State.reset.reg (.site p) 0x18600000 = 0x10 ∧
    State.reset.rn (.site p) 0x18600010 = fuseMax * 2 ^ 16 ∧
    State.reset.rn (.site p) (0x18600100 + 8 * f.val) =
      ([250, 400, 500, 600, 700, 800, 900, 1000, 1100, 1200, 1300, 1350, 1400, 1450, 1500, 1550] : List Nat).getD f.val 0 ∧
    State.reset.reg (.site p) 0x18700008 = 0x400 ∧
    State.reset.reg (.site p) 0x18700018 = 0xFFFFFFFFFFFFFFFF ∧
    State.reset.reg (.site p) 0x18700020 = 6 ∧
    State.reset.reg (.site p) 0x18700028 = 0xFF ∧
    State.reset.reg (.site p) (0x18702000 + 32 * k.val) = 0xFF0000 ∧
    State.reset.reg (.site p) 0x18710008 = 0xFFFFFFFFFFFFFFFF ∧
    State.reset.reg (.site p) (0x18720000 + 2048 * v.val + 8 * n.val) = 0x10 ∧
    State.reset.reg (.site p) (0x18730000 + 64 * i.val) = 0xFF00 ∧
    State.reset.reg (.site p) (0x18730020 + 64 * i.val) = 0xFF) ∧
  (∀ (d : Fin 42) (k : Fin 2),
    State.reset.rf (.die d) 0x0010 0 7 = 63 ∧
    State.reset.reg (.die d) 0x0030 = 0xFFFC000000000000 ∧
    State.reset.reg (.die d) (0x1008 + 0x800 * k.val) = 2 ∧
    State.reset.reg (.die d) (0x1010 + 0x800 * k.val) = 0x248) ∧
  (∀ q : Fin 28, State.reset.reg (.stack q) 0x18 = 64000000000) ∧
  (∀ g : Fin 42, State.reset.reg (.gov g) 0x10 = 0x1928 ∧ State.reset.reg .mgmt (0x111000 + 8 * g.val) = 0xFFF00) ∧
  (∀ p : Site, State.reset.reg .mgmt (0x131000 + 8 * p.val) = 0xFF000000) ∧
  State.reset.reg .mgmt 0x100008 = 0x128 ∧ State.reset.rn .mgmt 0x110008 = capDefaults.1 * 2 ^ 32 + capDefaults.2 ∧
  State.reset.reg .mgmt 0x110010 = 0x14043C ∧ State.reset.reg .mgmt 0x120008 = 100 ∧ State.reset.reg .mgmt 0x140000 = 0xA05 ∧
  State.reset.pending = [] ∧ State.reset.MemOk ∧
  (∀ p : Site, (∀ r, (State.reset.cc p).r r = 0) ∧ (∀ n, (State.reset.cc p).pr n = (n == 0)) ∧ (State.reset.cc p).pc = 0 ∧
    (State.reset.cc p).ex = false ∧ (State.reset.cc p).evec = 0 ∧ (State.reset.cc p).sendBudget = 0 ∧ (State.reset.cc p).fretHint = 0x10 ∧
    (State.reset.cc p).stepDeadline = 0 ∧ (State.reset.cc p).pends = [] ∧
    State.reset.coreState p = 0 ∧ (State.reset.site p).me = Me.init ∧ (State.reset.site p).ve = Ve.init) ∧
  (∀ tag, State.reset.part tag = none) ∧ State.reset.net = [] ∧ State.reset.events = [] ∧ State.reset.eventSeq = 0 ∧
  (∀ x, State.reset.session 0 = some x → x.rights = 7 ∧ x.frozen = false) ∧ (∀ id : W32, id ≠ 0 → State.reset.session id = none)

/-- A step takes the command at the front of the queue and is exec of it with the queue's rest; with no command waiting, one tick of the drone passes while
it is up, and nothing else happens (the tick on an empty queue is the model's choice, log entry 3). The opcode table gives no row bits,
so no word puts a command in front. -/
def Obligations.StepTakesTheFrontCommand : Prop :=
  ∀ (s : State) (c : Instr) (rest : List Instr) (nbits w : Nat),
    step { s with pending := c :: rest } = exec c { s with pending := rest } ∧
    step { s with pending := [] } = .next { s with pending := [], time := if s.droneUp then s.time + 1 else s.time } ∧
    s.withFetchWord nbits w = s

/-- Every step, from every state whose memories are in their canonical form, is carried out: no command faults or is refused; the memories keep their
canonical form; and a command takes itself from the front of the queue and leaves the commands behind it as they are, so that a queue of
well-formed commands stays one. The canonical form, the queue and the tick of an idle step are the model's (log entries 1 and 3). -/
def Obligations.EveryStepIsCarriedOut : Prop :=
  ∀ s : State, s.MemOk → ∃ t, step s = .next t ∧ t.MemOk ∧ t.pending = s.pending.tail ∧ (s.QueueOk → t.QueueOk)
end

