-- ==== Sys2Proof/Laws/Bits.lean ====
section
/-! SUPPORT. Laws of bit fields and byte strings: what a field reads as after a field is set, and bytes of numbers. -/

namespace Sys2Proof.Machine

variable {n : Nat}

/-- A number cut at `lo` and `lo + w`. -/
theorem nat_split (v lo w : Nat) : v = v % 2 ^ lo + v / 2 ^ lo % 2 ^ w * 2 ^ lo + v / 2 ^ (lo + w) * 2 ^ (lo + w) := by
  have h₁ := Nat.mod_add_div v (2 ^ lo)
  have h₂ := Nat.mod_add_div (v / 2 ^ lo) (2 ^ w)
  rw [Nat.div_div_eq_div_mul, ← pow_add] at h₂
  calc v = v % 2 ^ lo + 2 ^ lo * (v / 2 ^ lo % 2 ^ w + 2 ^ w * (v / 2 ^ (lo + w))) := by rw [h₂, h₁]
    _ = _ := by ring

/-- What setting a field does to the number. -/
theorem toNat_setFld (v : BitVec n) (lo w x : Nat) (h : lo + w ≤ n) :
    (setFld v lo w x).toNat = v.toNat % 2 ^ lo + x % 2 ^ w * 2 ^ lo + v.toNat / 2 ^ (lo + w) * 2 ^ (lo + w) := by
  have hv := v.isLt
  have hs := nat_split v.toNat lo w
  have hle : v.toNat / 2 ^ (lo + w) < 2 ^ (n - (lo + w)) := by
    apply Nat.div_lt_of_lt_mul
    rw [← pow_add, Nat.add_sub_cancel' h]
    exact hv
  have hlow : v.toNat % 2 ^ lo < 2 ^ lo := Nat.mod_lt _ (by positivity)
  have hx : x % 2 ^ w < 2 ^ w := Nat.mod_lt _ (by positivity)
  have hlt : v.toNat % 2 ^ lo + x % 2 ^ w * 2 ^ lo + v.toNat / 2 ^ (lo + w) * 2 ^ (lo + w) < 2 ^ n := by
    calc _ < 2 ^ lo + x % 2 ^ w * 2 ^ lo + v.toNat / 2 ^ (lo + w) * 2 ^ (lo + w) := by omega
      _ = (x % 2 ^ w + 1) * 2 ^ lo + v.toNat / 2 ^ (lo + w) * 2 ^ (lo + w) := by ring
      _ ≤ 2 ^ w * 2 ^ lo + v.toNat / 2 ^ (lo + w) * 2 ^ (lo + w) := by gcongr; omega
      _ = (v.toNat / 2 ^ (lo + w) + 1) * 2 ^ (lo + w) := by ring
      _ ≤ 2 ^ (n - (lo + w)) * 2 ^ (lo + w) := by gcongr; omega
      _ = 2 ^ n := by rw [← pow_add, Nat.sub_add_cancel h]
  unfold setFld fld
  rw [BitVec.toNat_ofNat]
  have hsub : v.toNat - v.toNat / 2 ^ lo % 2 ^ w * 2 ^ lo = v.toNat % 2 ^ lo + v.toNat / 2 ^ (lo + w) * 2 ^ (lo + w) := by omega
  rw [hsub, show v.toNat % 2 ^ lo + v.toNat / 2 ^ (lo + w) * 2 ^ (lo + w) + x % 2 ^ w * 2 ^ lo =
    v.toNat % 2 ^ lo + x % 2 ^ w * 2 ^ lo + v.toNat / 2 ^ (lo + w) * 2 ^ (lo + w) by omega]
  exact Nat.mod_eq_of_lt hlt

/-- Bit `i` of a value with one field set. -/
theorem bit_setFld (v : BitVec n) {lo w : Nat} (x i : Nat) (h : lo + w ≤ n) :
    bit (setFld v lo w x) i = if lo ≤ i ∧ i < lo + w then x.testBit (i - lo) else bit v i := by
  unfold bit
  rw [← BitVec.testBit_toNat, ← BitVec.testBit_toNat, toNat_setFld v lo w x h]
  have hlow : v.toNat % 2 ^ lo < 2 ^ lo := Nat.mod_lt _ (by positivity)
  have hx : x % 2 ^ w < 2 ^ w := Nat.mod_lt _ (by positivity)
  have e₁ : v.toNat % 2 ^ lo + x % 2 ^ w * 2 ^ lo + v.toNat / 2 ^ (lo + w) * 2 ^ (lo + w) =
      2 ^ lo * (2 ^ w * (v.toNat / 2 ^ (lo + w)) + x % 2 ^ w) + v.toNat % 2 ^ lo := by rw [pow_add]; ring
  rw [e₁, Nat.testBit_two_pow_mul_add _ hlow, Nat.testBit_two_pow_mul_add _ hx]
  split
  · rename_i hi
    rw [Nat.testBit_mod_two_pow]
    have : ¬ (lo ≤ i ∧ i < lo + w) := by omega
    simp [hi, this]
  · rename_i hi
    split
    · rename_i hw
      rw [Nat.testBit_mod_two_pow]
      have : lo ≤ i ∧ i < lo + w := by omega
      simp [hw, this]
    · rename_i hw
      have : ¬ (lo ≤ i ∧ i < lo + w) := by omega
      simp only [this, if_false, Nat.testBit_div_two_pow]
      congr 1
      omega

/-- A field as its bits. -/
theorem testBit_fld (v : BitVec n) (lo w i : Nat) : (fld v lo w).testBit i = (decide (i < w) && bit v (lo + i)) := by
  unfold fld bit
  rw [Nat.testBit_mod_two_pow, Nat.testBit_div_two_pow, ← BitVec.testBit_toNat, Nat.add_comm]

/-- The field just set reads as what was written. -/
theorem fld_setFld_same (v : BitVec n) {lo w : Nat} (x : Nat) (h : lo + w ≤ n) : fld (setFld v lo w x) lo w = x % 2 ^ w := by
  apply Nat.eq_of_testBit_eq
  intro i
  rw [testBit_fld, bit_setFld v x _ h, Nat.testBit_mod_two_pow]
  by_cases hi : i < w
  · simp [hi]
  · simp [hi]

/-- A field apart from the one set keeps its value. -/
theorem fld_setFld_other (v : BitVec n) {lo w lo' w' : Nat} (x : Nat) (h : lo + w ≤ n) (d : lo' + w' ≤ lo ∨ lo + w ≤ lo') :
    fld (setFld v lo w x) lo' w' = fld v lo' w' := by
  apply Nat.eq_of_testBit_eq
  intro i
  rw [testBit_fld, testBit_fld, bit_setFld v x _ h]
  by_cases hi : i < w'
  · have : ¬ (lo ≤ lo' + i ∧ lo' + i < lo + w) := by omega
    simp [this]
  · simp [hi]

/-- A bit apart from the field set keeps its value. -/
theorem bit_setFld_other (v : BitVec n) {lo w : Nat} (x : Nat) {i : Nat} (h : lo + w ≤ n) (d : i < lo ∨ lo + w ≤ i) :
    bit (setFld v lo w x) i = bit v i := by
  have : ¬ (lo ≤ i ∧ i < lo + w) := by omega
  rw [bit_setFld v x i h, if_neg this]

theorem bit_setBit (v : BitVec n) (i j : Nat) (b : Bool) (h : i < n) : bit (setBit v i b) j = if j = i then b else bit v j := by
  unfold setBit
  rw [bit_setFld v _ _ h]
  by_cases e : j = i
  · subst e
    cases b <;> simp
  · have : ¬ (i ≤ j ∧ j < i + 1) := by omega
    rw [if_neg this, if_neg e]

@[simp] theorem length_toBytes : ∀ (k x : Nat), (toBytes k x).length = k
  | 0, _ => rfl
  | k + 1, x => by simp [toBytes, length_toBytes k]

/-- Byte `i` of a number. -/
theorem getD_toBytes : ∀ (k x i : Nat), i < k → (toBytes k x).getD i 0 = BitVec.ofNat 8 (x / 2 ^ (8 * i))
  | 0, _, _, h => absurd h (Nat.not_lt_zero _)
  | k + 1, x, 0, _ => by simp [toBytes]
  | k + 1, x, i + 1, h => by
    have hi : i < k := by omega
    rw [toBytes, List.getD_cons_succ, getD_toBytes k _ i hi, Nat.div_div_eq_div_mul]
    congr 2
    rw [show (256 : Nat) = 2 ^ 8 by norm_num, ← pow_add]
    congr 1
    omega

theorem ofBytes_lt : ∀ l : List Byte, ofBytes l < 2 ^ (8 * l.length)
  | [] => by simp [ofBytes]
  | b :: t => by
    have h := ofBytes_lt t
    have hb := b.isLt
    rw [ofBytes, List.length_cons, show 8 * (t.length + 1) = 8 + 8 * t.length by omega, pow_add]
    calc _ < 2 ^ 8 + 256 * ofBytes t := by omega
      _ ≤ _ := by nlinarith

/-- The bytes of a number that a byte string spells are the byte string. -/
theorem toBytes_ofBytes : ∀ l : List Byte, toBytes l.length (ofBytes l) = l
  | [] => rfl
  | b :: t => by
    have hb := b.isLt
    have h₁ : BitVec.ofNat 8 (b.toNat + 256 * ofBytes t) = b := by
      apply BitVec.eq_of_toNat_eq
      rw [BitVec.toNat_ofNat]
      omega
    have h₂ : (b.toNat + 256 * ofBytes t) / 256 = ofBytes t := by omega
    rw [List.length_cons, toBytes, ofBytes, h₁, h₂, toBytes_ofBytes t]

/-- A number within k bytes reads back from its bytes. -/
theorem ofBytes_toBytes : ∀ (k x : Nat), x < 2 ^ (8 * k) → ofBytes (toBytes k x) = x
  | 0, x, h => by
    have : x = 0 := by simpa using h
    simp [toBytes, ofBytes, this]
  | k + 1, x, h => by
    have hx : x / 256 < 2 ^ (8 * k) := by
      apply Nat.div_lt_of_lt_mul
      rw [show (256 : Nat) = 2 ^ 8 by norm_num, ← pow_add]
      exact lt_of_lt_of_eq h (by congr 1; omega)
    rw [toBytes, ofBytes, ofBytes_toBytes k _ hx, BitVec.toNat_ofNat]
    omega

end Sys2Proof.Machine
end

