-- ==== Sys2Proof/Laws/Sparse.lean ====
section
/-! SUPPORT. Laws of the sparse tables: a read after a write to the same key gives the value written, a write leaves every other key
alone, and every operation keeps the canonical form. -/

namespace Sys2Proof.Machine

variable {α : Type}

theorem Sparse.get_ins_same (d : α) (m : Sparse α) (i : Nat) (v : α) : Sparse.get d (Sparse.ins m i v) i = v := by
  induction m with
  | nil => simp [Sparse.ins, Sparse.get]
  | cons x t ih =>
    simp only [Sparse.ins]
    split
    · simp [Sparse.get]
    · split
      · simp [Sparse.get]
      · rename_i h₁ h₂
        have : x.1 ≠ i := fun h => h₂ h.symm
        simp [Sparse.get, this, ih]

theorem Sparse.get_ins_other (d : α) (m : Sparse α) {i j : Nat} (v : α) (h : j ≠ i) :
    Sparse.get d (Sparse.ins m i v) j = Sparse.get d m j := by
  induction m with
  | nil => simp [Sparse.ins, Sparse.get, h.symm]
  | cons x t ih =>
    simp only [Sparse.ins]
    split
    · simp [Sparse.get, h.symm]
    · split
      · rename_i h₂
        simp [Sparse.get, h.symm, ← h₂]
      · simp [Sparse.get, ih]

theorem Sparse.get_del_same (d : α) (m : Sparse α) (i : Nat) : Sparse.get d (Sparse.del m i) i = d := by
  induction m with
  | nil => rfl
  | cons x t ih =>
    simp only [Sparse.del]
    split
    · exact ih
    · rename_i h
      simp [Sparse.get, h, ih]

theorem Sparse.get_del_other (d : α) (m : Sparse α) {i j : Nat} (h : j ≠ i) : Sparse.get d (Sparse.del m i) j = Sparse.get d m j := by
  induction m with
  | nil => rfl
  | cons x t ih =>
    simp only [Sparse.del]
    split
    · rename_i hk
      simp [Sparse.get, ih, hk, h.symm]
    · simp [Sparse.get, ih]

variable [DecidableEq α]

@[simp] theorem Sparse.get_put_same (d : α) (m : Sparse α) (i : Nat) (v : α) : Sparse.get d (Sparse.put d m i v) i = v := by
  unfold Sparse.put
  split
  · rename_i h
    rw [h]
    exact Sparse.get_del_same d m i
  · exact Sparse.get_ins_same d m i v

theorem Sparse.get_put_other (d : α) (m : Sparse α) {i j : Nat} (v : α) (h : j ≠ i) :
    Sparse.get d (Sparse.put d m i v) j = Sparse.get d m j := by
  unfold Sparse.put
  split
  · exact Sparse.get_del_other d m h
  · exact Sparse.get_ins_other d m v h

theorem Sparse.get_put (d : α) (m : Sparse α) (i j : Nat) (v : α) :
    Sparse.get d (Sparse.put d m i v) j = if j = i then v else Sparse.get d m j := by
  split
  · rename_i h
    rw [h]
    exact Sparse.get_put_same d m i v
  · rename_i h
    exact Sparse.get_put_other d m v h

theorem Sparse.wfFrom_mono (d : α) {lo hi : Nat} (h : lo ≤ hi) : ∀ {m : Sparse α}, Sparse.wfFrom d hi m = true → Sparse.wfFrom d lo m = true
  | [], _ => rfl
  | _ :: _, w => by
    simp only [Sparse.wfFrom, Bool.and_eq_true, decide_eq_true_eq] at w ⊢
    exact ⟨⟨h.trans w.1.1, w.1.2⟩, w.2⟩

theorem Sparse.wfFrom_ins (d : α) {v : α} (hv : v ≠ d) (i : Nat) :
    ∀ {lo : Nat} {m : Sparse α}, lo ≤ i → Sparse.wfFrom d lo m = true → Sparse.wfFrom d lo (Sparse.ins m i v) = true
  | lo, [], hl, _ => by simp [Sparse.ins, Sparse.wfFrom, hl, hv]
  | lo, x :: t, hl, w => by
    simp only [Sparse.wfFrom, Bool.and_eq_true, decide_eq_true_eq] at w
    simp only [Sparse.ins]
    split
    · rename_i hi
      have : i + 1 ≤ x.1 := hi
      simp [Sparse.wfFrom, hl, hv, w, this]
    · split
      · rename_i he
        subst he
        simp [Sparse.wfFrom, hl, hv, w]
      · rename_i hi he
        have : x.1 + 1 ≤ i := by omega
        simp [Sparse.wfFrom, w, Sparse.wfFrom_ins d hv i this w.2]

theorem Sparse.wfFrom_del (d : α) (i : Nat) :
    ∀ {lo : Nat} {m : Sparse α}, Sparse.wfFrom d lo m = true → Sparse.wfFrom d lo (Sparse.del m i) = true
  | lo, [], _ => rfl
  | lo, x :: t, w => by
    simp only [Sparse.wfFrom, Bool.and_eq_true, decide_eq_true_eq] at w
    simp only [Sparse.del]
    split
    · exact Sparse.wfFrom_del d i (Sparse.wfFrom_mono d (w.1.1.trans (Nat.le_succ _)) w.2)
    · simp [Sparse.wfFrom, w, Sparse.wfFrom_del d i w.2]

/-- Writing a table keeps its canonical form. -/
theorem Sparse.wf_put (d : α) {m : Sparse α} (i : Nat) (v : α) (w : Sparse.wf d m = true) : Sparse.wf d (Sparse.put d m i v) = true := by
  unfold Sparse.wf Sparse.put at *
  split
  · exact Sparse.wfFrom_del d i w
  · rename_i h
    exact Sparse.wfFrom_ins d h i (Nat.zero_le i) w

/-- Keeping some entries of a table keeps its canonical form. -/
theorem Sparse.wfFrom_filter (d : α) (f : Nat × α → Bool) :
    ∀ {lo : Nat} {m : Sparse α}, Sparse.wfFrom d lo m = true → Sparse.wfFrom d lo (m.filter f) = true
  | lo, [], _ => rfl
  | lo, x :: t, w => by
    simp only [Sparse.wfFrom, Bool.and_eq_true, decide_eq_true_eq] at w
    simp only [List.filter]
    split
    · simp [Sparse.wfFrom, w, Sparse.wfFrom_filter d f w.2]
    · exact Sparse.wfFrom_filter d f (Sparse.wfFrom_mono d (w.1.1.trans (Nat.le_succ _)) w.2)

theorem Sparse.wf_filter (d : α) (f : Nat × α → Bool) {m : Sparse α} (w : Sparse.wf d m = true) : Sparse.wf d (m.filter f) = true :=
  Sparse.wfFrom_filter d f w

/-- Two tables in canonical form that read alike are equal: equal memories are equal data. -/
theorem Sparse.get_below (d : α) : ∀ {lo : Nat} {m : Sparse α} {j : Nat}, Sparse.wfFrom d lo m = true → j < lo → Sparse.get d m j = d
  | _, [], _, _, _ => rfl
  | lo, x :: t, j, w, h => by
    simp only [Sparse.wfFrom, Bool.and_eq_true, decide_eq_true_eq] at w
    have hx : x.1 ≠ j := by omega
    have : j < x.1 + 1 := by omega
    simp [Sparse.get, hx, Sparse.get_below d w.2 this]

/-! ## Memory -/

@[simp] theorem Memory.read_write_same (m : Memory) (a : Nat) (b : Byte) : (m.write a b).read a = b := Sparse.get_put_same 0 m a b

theorem Memory.read_write_other (m : Memory) {a x : Nat} (b : Byte) (h : x ≠ a) : (m.write a b).read x = m.read x :=
  Sparse.get_put_other 0 m b h

theorem Memory.wf_write {m : Memory} (a : Nat) (b : Byte) (w : m.wf = true) : (m.write a b).wf = true := Sparse.wf_put 0 a b w

theorem Memory.wf_writeBytes : ∀ (l : List Byte) {m : Memory} (a : Nat), m.wf = true → (m.writeBytes a l).wf = true
  | [], _, _, w => w
  | b :: t, _, a, w => Memory.wf_writeBytes t (a + 1) (Memory.wf_write a b w)

/-- A byte string written leaves every byte outside it alone. -/
theorem Memory.read_writeBytes_other : ∀ (l : List Byte) (m : Memory) (a : Nat) {x : Nat}, (x < a ∨ a + l.length ≤ x) →
    (m.writeBytes a l).read x = m.read x
  | [], _, _, _, _ => rfl
  | b :: t, m, a, x, h => by
    have h₁ : x < a + 1 ∨ a + 1 + t.length ≤ x := by
      simp only [List.length_cons] at h
      omega
    have h₂ : x ≠ a := by
      simp only [List.length_cons] at h
      omega
    rw [Memory.writeBytes, Memory.read_writeBytes_other t _ _ h₁, Memory.read_write_other m b h₂]

/-- A byte string written reads back. -/
theorem Memory.read_writeBytes_in : ∀ (l : List Byte) (m : Memory) (a i : Nat), i < l.length →
    (m.writeBytes a l).read (a + i) = l.getD i 0
  | [], _, _, _, h => absurd h (Nat.not_lt_zero _)
  | b :: t, m, a, 0, _ => by
    rw [Memory.writeBytes, Memory.read_writeBytes_other t _ _ (by omega)]
    simp
  | b :: t, m, a, i + 1, h => by
    have : i < t.length := by simpa using h
    rw [Memory.writeBytes, show a + (i + 1) = a + 1 + i by omega, Memory.read_writeBytes_in t _ _ _ this]
    rfl

@[simp] theorem Memory.length_readBytes : ∀ (n : Nat) (m : Memory) (a : Nat), (m.readBytes a n).length = n
  | 0, _, _ => rfl
  | n + 1, m, a => by simp [Memory.readBytes, Memory.length_readBytes n]

end Sys2Proof.Machine
end

