-- ==== Sys2Proof/Laws/State.lean ====
section
/-! SUPPORT. For each named update of State one lemma per field it leaves alone, true by rfl, and for the field it changes what a read after
it gives. -/

namespace Sys2Proof.Machine

variable (s : State)

/-! ## setReg -/

@[simp] theorem State.setReg_pending (u : RegUnit) (o : Nat) (v : W64) : (s.setReg u o v).pending = s.pending := rfl
@[simp] theorem State.setReg_free (u : RegUnit) (o : Nat) (v : W64) : (s.setReg u o v).free = s.free := rfl
@[simp] theorem State.setReg_time (u : RegUnit) (o : Nat) (v : W64) : (s.setReg u o v).time = s.time := rfl
@[simp] theorem State.setReg_droneUp (u : RegUnit) (o : Nat) (v : W64) : (s.setReg u o v).droneUp = s.droneUp := rfl
@[simp] theorem State.setReg_refValid (u : RegUnit) (o : Nat) (v : W64) : (s.setReg u o v).refValid = s.refValid := rfl
@[simp] theorem State.setReg_eventSeq (u : RegUnit) (o : Nat) (v : W64) : (s.setReg u o v).eventSeq = s.eventSeq := rfl
@[simp] theorem State.setReg_events (u : RegUnit) (o : Nat) (v : W64) : (s.setReg u o v).events = s.events := rfl
@[simp] theorem State.setReg_unacked (u : RegUnit) (o : Nat) (v : W64) : (s.setReg u o v).unacked = s.unacked := rfl
@[simp] theorem State.setReg_sites (u : RegUnit) (o : Nat) (v : W64) : (s.setReg u o v).sites = s.sites := rfl
@[simp] theorem State.setReg_scratch (u : RegUnit) (o : Nat) (v : W64) : (s.setReg u o v).scratch = s.scratch := rfl
@[simp] theorem State.setReg_spill (u : RegUnit) (o : Nat) (v : W64) : (s.setReg u o v).spill = s.spill := rfl
@[simp] theorem State.setReg_stackSts (u : RegUnit) (o : Nat) (v : W64) : (s.setReg u o v).stackSts = s.stackSts := rfl
@[simp] theorem State.setReg_host (u : RegUnit) (o : Nat) (v : W64) : (s.setReg u o v).host = s.host := rfl
@[simp] theorem State.setReg_net (u : RegUnit) (o : Nat) (v : W64) : (s.setReg u o v).net = s.net := rfl
@[simp] theorem State.setReg_courses (u : RegUnit) (o : Nat) (v : W64) : (s.setReg u o v).courses = s.courses := rfl
@[simp] theorem State.setReg_frameCount (u : RegUnit) (o : Nat) (v : W64) : (s.setReg u o v).frameCount = s.frameCount := rfl
@[simp] theorem State.setReg_epoch (u : RegUnit) (o : Nat) (v : W64) : (s.setReg u o v).epoch = s.epoch := rfl
@[simp] theorem State.setReg_parts (u : RegUnit) (o : Nat) (v : W64) : (s.setReg u o v).parts = s.parts := rfl
@[simp] theorem State.setReg_tabs (u : RegUnit) (o : Nat) (v : W64) : (s.setReg u o v).tabs = s.tabs := rfl
@[simp] theorem State.setReg_evRings (u : RegUnit) (o : Nat) (v : W64) : (s.setReg u o v).evRings = s.evRings := rfl
@[simp] theorem State.setReg_sessions (u : RegUnit) (o : Nat) (v : W64) : (s.setReg u o v).sessions = s.sessions := rfl
@[simp] theorem State.setReg_activeSouth (u : RegUnit) (o : Nat) (v : W64) : (s.setReg u o v).activeSouth = s.activeSouth := rfl
@[simp] theorem State.setReg_apertures (u : RegUnit) (o : Nat) (v : W64) : (s.setReg u o v).apertures = s.apertures := rfl
@[simp] theorem State.setReg_colls (u : RegUnit) (o : Nat) (v : W64) : (s.setReg u o v).colls = s.colls := rfl
@[simp] theorem State.setReg_ports (u : RegUnit) (o : Nat) (v : W64) : (s.setReg u o v).ports = s.ports := rfl
@[simp] theorem State.setReg_dies (u : RegUnit) (o : Nat) (v : W64) : (s.setReg u o v).dies = s.dies := rfl
@[simp] theorem State.setReg_reasm (u : RegUnit) (o : Nat) (v : W64) : (s.setReg u o v).reasm = s.reasm := rfl
@[simp] theorem State.setReg_servo (u : RegUnit) (o : Nat) (v : W64) : (s.setReg u o v).servo = s.servo := rfl
@[simp] theorem State.setReg_outbox (u : RegUnit) (o : Nat) (v : W64) : (s.setReg u o v).outbox = s.outbox := rfl
@[simp] theorem State.setReg_regions (u : RegUnit) (o : Nat) (v : W64) : (s.setReg u o v).regions = s.regions := rfl
@[simp] theorem State.setReg_power (u : RegUnit) (o : Nat) (v : W64) : (s.setReg u o v).power = s.power := rfl
@[simp] theorem State.setReg_flash (u : RegUnit) (o : Nat) (v : W64) : (s.setReg u o v).flash = s.flash := rfl
@[simp] theorem State.setReg_jobs (u : RegUnit) (o : Nat) (v : W64) : (s.setReg u o v).jobs = s.jobs := rfl
@[simp] theorem State.setReg_mgmt (u : RegUnit) (o : Nat) (v : W64) : (s.setReg u o v).mgmt = s.mgmt := rfl
@[simp] theorem State.setReg_svcRings (u : RegUnit) (o : Nat) (v : W64) : (s.setReg u o v).svcRings = s.svcRings := rfl
@[simp] theorem State.setReg_svcFixed (u : RegUnit) (o : Nat) (v : W64) : (s.setReg u o v).svcFixed = s.svcFixed := rfl
@[simp] theorem State.setReg_svcRate (u : RegUnit) (o : Nat) (v : W64) : (s.setReg u o v).svcRate = s.svcRate := rfl
@[simp] theorem State.setReg_badSpares (u : RegUnit) (o : Nat) (v : W64) : (s.setReg u o v).badSpares = s.badSpares := rfl
@[simp] theorem State.setReg_groups (u : RegUnit) (o : Nat) (v : W64) : (s.setReg u o v).groups = s.groups := rfl
@[simp] theorem State.setReg_resetLow (u : RegUnit) (o : Nat) (v : W64) : (s.setReg u o v).resetLow = s.resetLow := rfl
@[simp] theorem State.setReg_perstLow (u : RegUnit) (o : Nat) (v : W64) : (s.setReg u o v).perstLow = s.perstLow := rfl

/-! ## setRf -/

@[simp] theorem State.setRf_pending (u : RegUnit) (o l w x : Nat) : (s.setRf u o l w x).pending = s.pending := rfl
@[simp] theorem State.setRf_free (u : RegUnit) (o l w x : Nat) : (s.setRf u o l w x).free = s.free := rfl
@[simp] theorem State.setRf_time (u : RegUnit) (o l w x : Nat) : (s.setRf u o l w x).time = s.time := rfl
@[simp] theorem State.setRf_droneUp (u : RegUnit) (o l w x : Nat) : (s.setRf u o l w x).droneUp = s.droneUp := rfl
@[simp] theorem State.setRf_refValid (u : RegUnit) (o l w x : Nat) : (s.setRf u o l w x).refValid = s.refValid := rfl
@[simp] theorem State.setRf_eventSeq (u : RegUnit) (o l w x : Nat) : (s.setRf u o l w x).eventSeq = s.eventSeq := rfl
@[simp] theorem State.setRf_events (u : RegUnit) (o l w x : Nat) : (s.setRf u o l w x).events = s.events := rfl
@[simp] theorem State.setRf_unacked (u : RegUnit) (o l w x : Nat) : (s.setRf u o l w x).unacked = s.unacked := rfl
@[simp] theorem State.setRf_sites (u : RegUnit) (o l w x : Nat) : (s.setRf u o l w x).sites = s.sites := rfl
@[simp] theorem State.setRf_scratch (u : RegUnit) (o l w x : Nat) : (s.setRf u o l w x).scratch = s.scratch := rfl
@[simp] theorem State.setRf_spill (u : RegUnit) (o l w x : Nat) : (s.setRf u o l w x).spill = s.spill := rfl
@[simp] theorem State.setRf_stackSts (u : RegUnit) (o l w x : Nat) : (s.setRf u o l w x).stackSts = s.stackSts := rfl
@[simp] theorem State.setRf_host (u : RegUnit) (o l w x : Nat) : (s.setRf u o l w x).host = s.host := rfl
@[simp] theorem State.setRf_net (u : RegUnit) (o l w x : Nat) : (s.setRf u o l w x).net = s.net := rfl
@[simp] theorem State.setRf_courses (u : RegUnit) (o l w x : Nat) : (s.setRf u o l w x).courses = s.courses := rfl
@[simp] theorem State.setRf_frameCount (u : RegUnit) (o l w x : Nat) : (s.setRf u o l w x).frameCount = s.frameCount := rfl
@[simp] theorem State.setRf_epoch (u : RegUnit) (o l w x : Nat) : (s.setRf u o l w x).epoch = s.epoch := rfl
@[simp] theorem State.setRf_parts (u : RegUnit) (o l w x : Nat) : (s.setRf u o l w x).parts = s.parts := rfl
@[simp] theorem State.setRf_tabs (u : RegUnit) (o l w x : Nat) : (s.setRf u o l w x).tabs = s.tabs := rfl
@[simp] theorem State.setRf_evRings (u : RegUnit) (o l w x : Nat) : (s.setRf u o l w x).evRings = s.evRings := rfl
@[simp] theorem State.setRf_sessions (u : RegUnit) (o l w x : Nat) : (s.setRf u o l w x).sessions = s.sessions := rfl
@[simp] theorem State.setRf_activeSouth (u : RegUnit) (o l w x : Nat) : (s.setRf u o l w x).activeSouth = s.activeSouth := rfl
@[simp] theorem State.setRf_apertures (u : RegUnit) (o l w x : Nat) : (s.setRf u o l w x).apertures = s.apertures := rfl
@[simp] theorem State.setRf_colls (u : RegUnit) (o l w x : Nat) : (s.setRf u o l w x).colls = s.colls := rfl
@[simp] theorem State.setRf_ports (u : RegUnit) (o l w x : Nat) : (s.setRf u o l w x).ports = s.ports := rfl
@[simp] theorem State.setRf_dies (u : RegUnit) (o l w x : Nat) : (s.setRf u o l w x).dies = s.dies := rfl
@[simp] theorem State.setRf_reasm (u : RegUnit) (o l w x : Nat) : (s.setRf u o l w x).reasm = s.reasm := rfl
@[simp] theorem State.setRf_servo (u : RegUnit) (o l w x : Nat) : (s.setRf u o l w x).servo = s.servo := rfl
@[simp] theorem State.setRf_outbox (u : RegUnit) (o l w x : Nat) : (s.setRf u o l w x).outbox = s.outbox := rfl
@[simp] theorem State.setRf_regions (u : RegUnit) (o l w x : Nat) : (s.setRf u o l w x).regions = s.regions := rfl
@[simp] theorem State.setRf_power (u : RegUnit) (o l w x : Nat) : (s.setRf u o l w x).power = s.power := rfl
@[simp] theorem State.setRf_flash (u : RegUnit) (o l w x : Nat) : (s.setRf u o l w x).flash = s.flash := rfl
@[simp] theorem State.setRf_jobs (u : RegUnit) (o l w x : Nat) : (s.setRf u o l w x).jobs = s.jobs := rfl
@[simp] theorem State.setRf_mgmt (u : RegUnit) (o l w x : Nat) : (s.setRf u o l w x).mgmt = s.mgmt := rfl
@[simp] theorem State.setRf_svcRings (u : RegUnit) (o l w x : Nat) : (s.setRf u o l w x).svcRings = s.svcRings := rfl
@[simp] theorem State.setRf_svcFixed (u : RegUnit) (o l w x : Nat) : (s.setRf u o l w x).svcFixed = s.svcFixed := rfl
@[simp] theorem State.setRf_svcRate (u : RegUnit) (o l w x : Nat) : (s.setRf u o l w x).svcRate = s.svcRate := rfl
@[simp] theorem State.setRf_badSpares (u : RegUnit) (o l w x : Nat) : (s.setRf u o l w x).badSpares = s.badSpares := rfl
@[simp] theorem State.setRf_groups (u : RegUnit) (o l w x : Nat) : (s.setRf u o l w x).groups = s.groups := rfl
@[simp] theorem State.setRf_resetLow (u : RegUnit) (o l w x : Nat) : (s.setRf u o l w x).resetLow = s.resetLow := rfl
@[simp] theorem State.setRf_perstLow (u : RegUnit) (o l w x : Nat) : (s.setRf u o l w x).perstLow = s.perstLow := rfl

/-! ## count64 -/

@[simp] theorem State.count64_pending (u : RegUnit) (o n : Nat) : (s.count64 u o n).pending = s.pending := rfl
@[simp] theorem State.count64_free (u : RegUnit) (o n : Nat) : (s.count64 u o n).free = s.free := rfl
@[simp] theorem State.count64_time (u : RegUnit) (o n : Nat) : (s.count64 u o n).time = s.time := rfl
@[simp] theorem State.count64_droneUp (u : RegUnit) (o n : Nat) : (s.count64 u o n).droneUp = s.droneUp := rfl
@[simp] theorem State.count64_refValid (u : RegUnit) (o n : Nat) : (s.count64 u o n).refValid = s.refValid := rfl
@[simp] theorem State.count64_eventSeq (u : RegUnit) (o n : Nat) : (s.count64 u o n).eventSeq = s.eventSeq := rfl
@[simp] theorem State.count64_events (u : RegUnit) (o n : Nat) : (s.count64 u o n).events = s.events := rfl
@[simp] theorem State.count64_unacked (u : RegUnit) (o n : Nat) : (s.count64 u o n).unacked = s.unacked := rfl
@[simp] theorem State.count64_sites (u : RegUnit) (o n : Nat) : (s.count64 u o n).sites = s.sites := rfl
@[simp] theorem State.count64_scratch (u : RegUnit) (o n : Nat) : (s.count64 u o n).scratch = s.scratch := rfl
@[simp] theorem State.count64_spill (u : RegUnit) (o n : Nat) : (s.count64 u o n).spill = s.spill := rfl
@[simp] theorem State.count64_stackSts (u : RegUnit) (o n : Nat) : (s.count64 u o n).stackSts = s.stackSts := rfl
@[simp] theorem State.count64_host (u : RegUnit) (o n : Nat) : (s.count64 u o n).host = s.host := rfl
@[simp] theorem State.count64_net (u : RegUnit) (o n : Nat) : (s.count64 u o n).net = s.net := rfl
@[simp] theorem State.count64_courses (u : RegUnit) (o n : Nat) : (s.count64 u o n).courses = s.courses := rfl
@[simp] theorem State.count64_frameCount (u : RegUnit) (o n : Nat) : (s.count64 u o n).frameCount = s.frameCount := rfl
@[simp] theorem State.count64_epoch (u : RegUnit) (o n : Nat) : (s.count64 u o n).epoch = s.epoch := rfl
@[simp] theorem State.count64_parts (u : RegUnit) (o n : Nat) : (s.count64 u o n).parts = s.parts := rfl
@[simp] theorem State.count64_tabs (u : RegUnit) (o n : Nat) : (s.count64 u o n).tabs = s.tabs := rfl
@[simp] theorem State.count64_evRings (u : RegUnit) (o n : Nat) : (s.count64 u o n).evRings = s.evRings := rfl
@[simp] theorem State.count64_sessions (u : RegUnit) (o n : Nat) : (s.count64 u o n).sessions = s.sessions := rfl
@[simp] theorem State.count64_activeSouth (u : RegUnit) (o n : Nat) : (s.count64 u o n).activeSouth = s.activeSouth := rfl
@[simp] theorem State.count64_apertures (u : RegUnit) (o n : Nat) : (s.count64 u o n).apertures = s.apertures := rfl
@[simp] theorem State.count64_colls (u : RegUnit) (o n : Nat) : (s.count64 u o n).colls = s.colls := rfl
@[simp] theorem State.count64_ports (u : RegUnit) (o n : Nat) : (s.count64 u o n).ports = s.ports := rfl
@[simp] theorem State.count64_dies (u : RegUnit) (o n : Nat) : (s.count64 u o n).dies = s.dies := rfl
@[simp] theorem State.count64_reasm (u : RegUnit) (o n : Nat) : (s.count64 u o n).reasm = s.reasm := rfl
@[simp] theorem State.count64_servo (u : RegUnit) (o n : Nat) : (s.count64 u o n).servo = s.servo := rfl
@[simp] theorem State.count64_outbox (u : RegUnit) (o n : Nat) : (s.count64 u o n).outbox = s.outbox := rfl
@[simp] theorem State.count64_regions (u : RegUnit) (o n : Nat) : (s.count64 u o n).regions = s.regions := rfl
@[simp] theorem State.count64_power (u : RegUnit) (o n : Nat) : (s.count64 u o n).power = s.power := rfl
@[simp] theorem State.count64_flash (u : RegUnit) (o n : Nat) : (s.count64 u o n).flash = s.flash := rfl
@[simp] theorem State.count64_jobs (u : RegUnit) (o n : Nat) : (s.count64 u o n).jobs = s.jobs := rfl
@[simp] theorem State.count64_mgmt (u : RegUnit) (o n : Nat) : (s.count64 u o n).mgmt = s.mgmt := rfl
@[simp] theorem State.count64_svcRings (u : RegUnit) (o n : Nat) : (s.count64 u o n).svcRings = s.svcRings := rfl
@[simp] theorem State.count64_svcFixed (u : RegUnit) (o n : Nat) : (s.count64 u o n).svcFixed = s.svcFixed := rfl
@[simp] theorem State.count64_svcRate (u : RegUnit) (o n : Nat) : (s.count64 u o n).svcRate = s.svcRate := rfl
@[simp] theorem State.count64_badSpares (u : RegUnit) (o n : Nat) : (s.count64 u o n).badSpares = s.badSpares := rfl
@[simp] theorem State.count64_groups (u : RegUnit) (o n : Nat) : (s.count64 u o n).groups = s.groups := rfl
@[simp] theorem State.count64_resetLow (u : RegUnit) (o n : Nat) : (s.count64 u o n).resetLow = s.resetLow := rfl
@[simp] theorem State.count64_perstLow (u : RegUnit) (o n : Nat) : (s.count64 u o n).perstLow = s.perstLow := rfl

/-! ## setSite -/

@[simp] theorem State.setSite_pending (p : Fin 168) (x : SiteSt) : (s.setSite p x).pending = s.pending := rfl
@[simp] theorem State.setSite_free (p : Fin 168) (x : SiteSt) : (s.setSite p x).free = s.free := rfl
@[simp] theorem State.setSite_time (p : Fin 168) (x : SiteSt) : (s.setSite p x).time = s.time := rfl
@[simp] theorem State.setSite_droneUp (p : Fin 168) (x : SiteSt) : (s.setSite p x).droneUp = s.droneUp := rfl
@[simp] theorem State.setSite_refValid (p : Fin 168) (x : SiteSt) : (s.setSite p x).refValid = s.refValid := rfl
@[simp] theorem State.setSite_eventSeq (p : Fin 168) (x : SiteSt) : (s.setSite p x).eventSeq = s.eventSeq := rfl
@[simp] theorem State.setSite_events (p : Fin 168) (x : SiteSt) : (s.setSite p x).events = s.events := rfl
@[simp] theorem State.setSite_unacked (p : Fin 168) (x : SiteSt) : (s.setSite p x).unacked = s.unacked := rfl
@[simp] theorem State.setSite_regs (p : Fin 168) (x : SiteSt) : (s.setSite p x).regs = s.regs := rfl
@[simp] theorem State.setSite_scratch (p : Fin 168) (x : SiteSt) : (s.setSite p x).scratch = s.scratch := rfl
@[simp] theorem State.setSite_spill (p : Fin 168) (x : SiteSt) : (s.setSite p x).spill = s.spill := rfl
@[simp] theorem State.setSite_stackSts (p : Fin 168) (x : SiteSt) : (s.setSite p x).stackSts = s.stackSts := rfl
@[simp] theorem State.setSite_host (p : Fin 168) (x : SiteSt) : (s.setSite p x).host = s.host := rfl
@[simp] theorem State.setSite_net (p : Fin 168) (x : SiteSt) : (s.setSite p x).net = s.net := rfl
@[simp] theorem State.setSite_courses (p : Fin 168) (x : SiteSt) : (s.setSite p x).courses = s.courses := rfl
@[simp] theorem State.setSite_frameCount (p : Fin 168) (x : SiteSt) : (s.setSite p x).frameCount = s.frameCount := rfl
@[simp] theorem State.setSite_epoch (p : Fin 168) (x : SiteSt) : (s.setSite p x).epoch = s.epoch := rfl
@[simp] theorem State.setSite_parts (p : Fin 168) (x : SiteSt) : (s.setSite p x).parts = s.parts := rfl
@[simp] theorem State.setSite_tabs (p : Fin 168) (x : SiteSt) : (s.setSite p x).tabs = s.tabs := rfl
@[simp] theorem State.setSite_evRings (p : Fin 168) (x : SiteSt) : (s.setSite p x).evRings = s.evRings := rfl
@[simp] theorem State.setSite_sessions (p : Fin 168) (x : SiteSt) : (s.setSite p x).sessions = s.sessions := rfl
@[simp] theorem State.setSite_activeSouth (p : Fin 168) (x : SiteSt) : (s.setSite p x).activeSouth = s.activeSouth := rfl
@[simp] theorem State.setSite_apertures (p : Fin 168) (x : SiteSt) : (s.setSite p x).apertures = s.apertures := rfl
@[simp] theorem State.setSite_colls (p : Fin 168) (x : SiteSt) : (s.setSite p x).colls = s.colls := rfl
@[simp] theorem State.setSite_ports (p : Fin 168) (x : SiteSt) : (s.setSite p x).ports = s.ports := rfl
@[simp] theorem State.setSite_dies (p : Fin 168) (x : SiteSt) : (s.setSite p x).dies = s.dies := rfl
@[simp] theorem State.setSite_reasm (p : Fin 168) (x : SiteSt) : (s.setSite p x).reasm = s.reasm := rfl
@[simp] theorem State.setSite_servo (p : Fin 168) (x : SiteSt) : (s.setSite p x).servo = s.servo := rfl
@[simp] theorem State.setSite_outbox (p : Fin 168) (x : SiteSt) : (s.setSite p x).outbox = s.outbox := rfl
@[simp] theorem State.setSite_regions (p : Fin 168) (x : SiteSt) : (s.setSite p x).regions = s.regions := rfl
@[simp] theorem State.setSite_power (p : Fin 168) (x : SiteSt) : (s.setSite p x).power = s.power := rfl
@[simp] theorem State.setSite_flash (p : Fin 168) (x : SiteSt) : (s.setSite p x).flash = s.flash := rfl
@[simp] theorem State.setSite_jobs (p : Fin 168) (x : SiteSt) : (s.setSite p x).jobs = s.jobs := rfl
@[simp] theorem State.setSite_mgmt (p : Fin 168) (x : SiteSt) : (s.setSite p x).mgmt = s.mgmt := rfl
@[simp] theorem State.setSite_svcRings (p : Fin 168) (x : SiteSt) : (s.setSite p x).svcRings = s.svcRings := rfl
@[simp] theorem State.setSite_svcFixed (p : Fin 168) (x : SiteSt) : (s.setSite p x).svcFixed = s.svcFixed := rfl
@[simp] theorem State.setSite_svcRate (p : Fin 168) (x : SiteSt) : (s.setSite p x).svcRate = s.svcRate := rfl
@[simp] theorem State.setSite_badSpares (p : Fin 168) (x : SiteSt) : (s.setSite p x).badSpares = s.badSpares := rfl
@[simp] theorem State.setSite_groups (p : Fin 168) (x : SiteSt) : (s.setSite p x).groups = s.groups := rfl
@[simp] theorem State.setSite_resetLow (p : Fin 168) (x : SiteSt) : (s.setSite p x).resetLow = s.resetLow := rfl
@[simp] theorem State.setSite_perstLow (p : Fin 168) (x : SiteSt) : (s.setSite p x).perstLow = s.perstLow := rfl

/-! ## updSite -/

@[simp] theorem State.updSite_pending (p : Fin 168) (f : SiteSt → SiteSt) : (s.updSite p f).pending = s.pending := rfl
@[simp] theorem State.updSite_free (p : Fin 168) (f : SiteSt → SiteSt) : (s.updSite p f).free = s.free := rfl
@[simp] theorem State.updSite_time (p : Fin 168) (f : SiteSt → SiteSt) : (s.updSite p f).time = s.time := rfl
@[simp] theorem State.updSite_droneUp (p : Fin 168) (f : SiteSt → SiteSt) : (s.updSite p f).droneUp = s.droneUp := rfl
@[simp] theorem State.updSite_refValid (p : Fin 168) (f : SiteSt → SiteSt) : (s.updSite p f).refValid = s.refValid := rfl
@[simp] theorem State.updSite_eventSeq (p : Fin 168) (f : SiteSt → SiteSt) : (s.updSite p f).eventSeq = s.eventSeq := rfl
@[simp] theorem State.updSite_events (p : Fin 168) (f : SiteSt → SiteSt) : (s.updSite p f).events = s.events := rfl
@[simp] theorem State.updSite_unacked (p : Fin 168) (f : SiteSt → SiteSt) : (s.updSite p f).unacked = s.unacked := rfl
@[simp] theorem State.updSite_regs (p : Fin 168) (f : SiteSt → SiteSt) : (s.updSite p f).regs = s.regs := rfl
@[simp] theorem State.updSite_scratch (p : Fin 168) (f : SiteSt → SiteSt) : (s.updSite p f).scratch = s.scratch := rfl
@[simp] theorem State.updSite_spill (p : Fin 168) (f : SiteSt → SiteSt) : (s.updSite p f).spill = s.spill := rfl
@[simp] theorem State.updSite_stackSts (p : Fin 168) (f : SiteSt → SiteSt) : (s.updSite p f).stackSts = s.stackSts := rfl
@[simp] theorem State.updSite_host (p : Fin 168) (f : SiteSt → SiteSt) : (s.updSite p f).host = s.host := rfl
@[simp] theorem State.updSite_net (p : Fin 168) (f : SiteSt → SiteSt) : (s.updSite p f).net = s.net := rfl
@[simp] theorem State.updSite_courses (p : Fin 168) (f : SiteSt → SiteSt) : (s.updSite p f).courses = s.courses := rfl
@[simp] theorem State.updSite_frameCount (p : Fin 168) (f : SiteSt → SiteSt) : (s.updSite p f).frameCount = s.frameCount := rfl
@[simp] theorem State.updSite_epoch (p : Fin 168) (f : SiteSt → SiteSt) : (s.updSite p f).epoch = s.epoch := rfl
@[simp] theorem State.updSite_parts (p : Fin 168) (f : SiteSt → SiteSt) : (s.updSite p f).parts = s.parts := rfl
@[simp] theorem State.updSite_tabs (p : Fin 168) (f : SiteSt → SiteSt) : (s.updSite p f).tabs = s.tabs := rfl
@[simp] theorem State.updSite_evRings (p : Fin 168) (f : SiteSt → SiteSt) : (s.updSite p f).evRings = s.evRings := rfl
@[simp] theorem State.updSite_sessions (p : Fin 168) (f : SiteSt → SiteSt) : (s.updSite p f).sessions = s.sessions := rfl
@[simp] theorem State.updSite_activeSouth (p : Fin 168) (f : SiteSt → SiteSt) : (s.updSite p f).activeSouth = s.activeSouth := rfl
@[simp] theorem State.updSite_apertures (p : Fin 168) (f : SiteSt → SiteSt) : (s.updSite p f).apertures = s.apertures := rfl
@[simp] theorem State.updSite_colls (p : Fin 168) (f : SiteSt → SiteSt) : (s.updSite p f).colls = s.colls := rfl
@[simp] theorem State.updSite_ports (p : Fin 168) (f : SiteSt → SiteSt) : (s.updSite p f).ports = s.ports := rfl
@[simp] theorem State.updSite_dies (p : Fin 168) (f : SiteSt → SiteSt) : (s.updSite p f).dies = s.dies := rfl
@[simp] theorem State.updSite_reasm (p : Fin 168) (f : SiteSt → SiteSt) : (s.updSite p f).reasm = s.reasm := rfl
@[simp] theorem State.updSite_servo (p : Fin 168) (f : SiteSt → SiteSt) : (s.updSite p f).servo = s.servo := rfl
@[simp] theorem State.updSite_outbox (p : Fin 168) (f : SiteSt → SiteSt) : (s.updSite p f).outbox = s.outbox := rfl
@[simp] theorem State.updSite_regions (p : Fin 168) (f : SiteSt → SiteSt) : (s.updSite p f).regions = s.regions := rfl
@[simp] theorem State.updSite_power (p : Fin 168) (f : SiteSt → SiteSt) : (s.updSite p f).power = s.power := rfl
@[simp] theorem State.updSite_flash (p : Fin 168) (f : SiteSt → SiteSt) : (s.updSite p f).flash = s.flash := rfl
@[simp] theorem State.updSite_jobs (p : Fin 168) (f : SiteSt → SiteSt) : (s.updSite p f).jobs = s.jobs := rfl
@[simp] theorem State.updSite_mgmt (p : Fin 168) (f : SiteSt → SiteSt) : (s.updSite p f).mgmt = s.mgmt := rfl
@[simp] theorem State.updSite_svcRings (p : Fin 168) (f : SiteSt → SiteSt) : (s.updSite p f).svcRings = s.svcRings := rfl
@[simp] theorem State.updSite_svcFixed (p : Fin 168) (f : SiteSt → SiteSt) : (s.updSite p f).svcFixed = s.svcFixed := rfl
@[simp] theorem State.updSite_svcRate (p : Fin 168) (f : SiteSt → SiteSt) : (s.updSite p f).svcRate = s.svcRate := rfl
@[simp] theorem State.updSite_badSpares (p : Fin 168) (f : SiteSt → SiteSt) : (s.updSite p f).badSpares = s.badSpares := rfl
@[simp] theorem State.updSite_groups (p : Fin 168) (f : SiteSt → SiteSt) : (s.updSite p f).groups = s.groups := rfl
@[simp] theorem State.updSite_resetLow (p : Fin 168) (f : SiteSt → SiteSt) : (s.updSite p f).resetLow = s.resetLow := rfl
@[simp] theorem State.updSite_perstLow (p : Fin 168) (f : SiteSt → SiteSt) : (s.updSite p f).perstLow = s.perstLow := rfl

/-! ## updCc -/

@[simp] theorem State.updCc_pending (p : Fin 168) (f : Cc → Cc) : (s.updCc p f).pending = s.pending := rfl
@[simp] theorem State.updCc_free (p : Fin 168) (f : Cc → Cc) : (s.updCc p f).free = s.free := rfl
@[simp] theorem State.updCc_time (p : Fin 168) (f : Cc → Cc) : (s.updCc p f).time = s.time := rfl
@[simp] theorem State.updCc_droneUp (p : Fin 168) (f : Cc → Cc) : (s.updCc p f).droneUp = s.droneUp := rfl
@[simp] theorem State.updCc_refValid (p : Fin 168) (f : Cc → Cc) : (s.updCc p f).refValid = s.refValid := rfl
@[simp] theorem State.updCc_eventSeq (p : Fin 168) (f : Cc → Cc) : (s.updCc p f).eventSeq = s.eventSeq := rfl
@[simp] theorem State.updCc_events (p : Fin 168) (f : Cc → Cc) : (s.updCc p f).events = s.events := rfl
@[simp] theorem State.updCc_unacked (p : Fin 168) (f : Cc → Cc) : (s.updCc p f).unacked = s.unacked := rfl
@[simp] theorem State.updCc_regs (p : Fin 168) (f : Cc → Cc) : (s.updCc p f).regs = s.regs := rfl
@[simp] theorem State.updCc_scratch (p : Fin 168) (f : Cc → Cc) : (s.updCc p f).scratch = s.scratch := rfl
@[simp] theorem State.updCc_spill (p : Fin 168) (f : Cc → Cc) : (s.updCc p f).spill = s.spill := rfl
@[simp] theorem State.updCc_stackSts (p : Fin 168) (f : Cc → Cc) : (s.updCc p f).stackSts = s.stackSts := rfl
@[simp] theorem State.updCc_host (p : Fin 168) (f : Cc → Cc) : (s.updCc p f).host = s.host := rfl
@[simp] theorem State.updCc_net (p : Fin 168) (f : Cc → Cc) : (s.updCc p f).net = s.net := rfl
@[simp] theorem State.updCc_courses (p : Fin 168) (f : Cc → Cc) : (s.updCc p f).courses = s.courses := rfl
@[simp] theorem State.updCc_frameCount (p : Fin 168) (f : Cc → Cc) : (s.updCc p f).frameCount = s.frameCount := rfl
@[simp] theorem State.updCc_epoch (p : Fin 168) (f : Cc → Cc) : (s.updCc p f).epoch = s.epoch := rfl
@[simp] theorem State.updCc_parts (p : Fin 168) (f : Cc → Cc) : (s.updCc p f).parts = s.parts := rfl
@[simp] theorem State.updCc_tabs (p : Fin 168) (f : Cc → Cc) : (s.updCc p f).tabs = s.tabs := rfl
@[simp] theorem State.updCc_evRings (p : Fin 168) (f : Cc → Cc) : (s.updCc p f).evRings = s.evRings := rfl
@[simp] theorem State.updCc_sessions (p : Fin 168) (f : Cc → Cc) : (s.updCc p f).sessions = s.sessions := rfl
@[simp] theorem State.updCc_activeSouth (p : Fin 168) (f : Cc → Cc) : (s.updCc p f).activeSouth = s.activeSouth := rfl
@[simp] theorem State.updCc_apertures (p : Fin 168) (f : Cc → Cc) : (s.updCc p f).apertures = s.apertures := rfl
@[simp] theorem State.updCc_colls (p : Fin 168) (f : Cc → Cc) : (s.updCc p f).colls = s.colls := rfl
@[simp] theorem State.updCc_ports (p : Fin 168) (f : Cc → Cc) : (s.updCc p f).ports = s.ports := rfl
@[simp] theorem State.updCc_dies (p : Fin 168) (f : Cc → Cc) : (s.updCc p f).dies = s.dies := rfl
@[simp] theorem State.updCc_reasm (p : Fin 168) (f : Cc → Cc) : (s.updCc p f).reasm = s.reasm := rfl
@[simp] theorem State.updCc_servo (p : Fin 168) (f : Cc → Cc) : (s.updCc p f).servo = s.servo := rfl
@[simp] theorem State.updCc_outbox (p : Fin 168) (f : Cc → Cc) : (s.updCc p f).outbox = s.outbox := rfl
@[simp] theorem State.updCc_regions (p : Fin 168) (f : Cc → Cc) : (s.updCc p f).regions = s.regions := rfl
@[simp] theorem State.updCc_power (p : Fin 168) (f : Cc → Cc) : (s.updCc p f).power = s.power := rfl
@[simp] theorem State.updCc_flash (p : Fin 168) (f : Cc → Cc) : (s.updCc p f).flash = s.flash := rfl
@[simp] theorem State.updCc_jobs (p : Fin 168) (f : Cc → Cc) : (s.updCc p f).jobs = s.jobs := rfl
@[simp] theorem State.updCc_mgmt (p : Fin 168) (f : Cc → Cc) : (s.updCc p f).mgmt = s.mgmt := rfl
@[simp] theorem State.updCc_svcRings (p : Fin 168) (f : Cc → Cc) : (s.updCc p f).svcRings = s.svcRings := rfl
@[simp] theorem State.updCc_svcFixed (p : Fin 168) (f : Cc → Cc) : (s.updCc p f).svcFixed = s.svcFixed := rfl
@[simp] theorem State.updCc_svcRate (p : Fin 168) (f : Cc → Cc) : (s.updCc p f).svcRate = s.svcRate := rfl
@[simp] theorem State.updCc_badSpares (p : Fin 168) (f : Cc → Cc) : (s.updCc p f).badSpares = s.badSpares := rfl
@[simp] theorem State.updCc_groups (p : Fin 168) (f : Cc → Cc) : (s.updCc p f).groups = s.groups := rfl
@[simp] theorem State.updCc_resetLow (p : Fin 168) (f : Cc → Cc) : (s.updCc p f).resetLow = s.resetLow := rfl
@[simp] theorem State.updCc_perstLow (p : Fin 168) (f : Cc → Cc) : (s.updCc p f).perstLow = s.perstLow := rfl

/-! ## draw -/

@[simp] theorem State.draw_pending : (s.draw).pending = s.pending := rfl
@[simp] theorem State.draw_time : (s.draw).time = s.time := rfl
@[simp] theorem State.draw_droneUp : (s.draw).droneUp = s.droneUp := rfl
@[simp] theorem State.draw_refValid : (s.draw).refValid = s.refValid := rfl
@[simp] theorem State.draw_eventSeq : (s.draw).eventSeq = s.eventSeq := rfl
@[simp] theorem State.draw_events : (s.draw).events = s.events := rfl
@[simp] theorem State.draw_unacked : (s.draw).unacked = s.unacked := rfl
@[simp] theorem State.draw_regs : (s.draw).regs = s.regs := rfl
@[simp] theorem State.draw_sites : (s.draw).sites = s.sites := rfl
@[simp] theorem State.draw_scratch : (s.draw).scratch = s.scratch := rfl
@[simp] theorem State.draw_spill : (s.draw).spill = s.spill := rfl
@[simp] theorem State.draw_stackSts : (s.draw).stackSts = s.stackSts := rfl
@[simp] theorem State.draw_host : (s.draw).host = s.host := rfl
@[simp] theorem State.draw_net : (s.draw).net = s.net := rfl
@[simp] theorem State.draw_courses : (s.draw).courses = s.courses := rfl
@[simp] theorem State.draw_frameCount : (s.draw).frameCount = s.frameCount := rfl
@[simp] theorem State.draw_epoch : (s.draw).epoch = s.epoch := rfl
@[simp] theorem State.draw_parts : (s.draw).parts = s.parts := rfl
@[simp] theorem State.draw_tabs : (s.draw).tabs = s.tabs := rfl
@[simp] theorem State.draw_evRings : (s.draw).evRings = s.evRings := rfl
@[simp] theorem State.draw_sessions : (s.draw).sessions = s.sessions := rfl
@[simp] theorem State.draw_activeSouth : (s.draw).activeSouth = s.activeSouth := rfl
@[simp] theorem State.draw_apertures : (s.draw).apertures = s.apertures := rfl
@[simp] theorem State.draw_colls : (s.draw).colls = s.colls := rfl
@[simp] theorem State.draw_ports : (s.draw).ports = s.ports := rfl
@[simp] theorem State.draw_dies : (s.draw).dies = s.dies := rfl
@[simp] theorem State.draw_reasm : (s.draw).reasm = s.reasm := rfl
@[simp] theorem State.draw_servo : (s.draw).servo = s.servo := rfl
@[simp] theorem State.draw_outbox : (s.draw).outbox = s.outbox := rfl
@[simp] theorem State.draw_regions : (s.draw).regions = s.regions := rfl
@[simp] theorem State.draw_power : (s.draw).power = s.power := rfl
@[simp] theorem State.draw_flash : (s.draw).flash = s.flash := rfl
@[simp] theorem State.draw_jobs : (s.draw).jobs = s.jobs := rfl
@[simp] theorem State.draw_mgmt : (s.draw).mgmt = s.mgmt := rfl
@[simp] theorem State.draw_svcRings : (s.draw).svcRings = s.svcRings := rfl
@[simp] theorem State.draw_svcFixed : (s.draw).svcFixed = s.svcFixed := rfl
@[simp] theorem State.draw_svcRate : (s.draw).svcRate = s.svcRate := rfl
@[simp] theorem State.draw_badSpares : (s.draw).badSpares = s.badSpares := rfl
@[simp] theorem State.draw_groups : (s.draw).groups = s.groups := rfl
@[simp] theorem State.draw_resetLow : (s.draw).resetLow = s.resetLow := rfl
@[simp] theorem State.draw_perstLow : (s.draw).perstLow = s.perstLow := rfl

/-! ## setPart -/

@[simp] theorem State.setPart_pending (t : Nat) (x : Option Partition) : (s.setPart t x).pending = s.pending := rfl
@[simp] theorem State.setPart_free (t : Nat) (x : Option Partition) : (s.setPart t x).free = s.free := rfl
@[simp] theorem State.setPart_time (t : Nat) (x : Option Partition) : (s.setPart t x).time = s.time := rfl
@[simp] theorem State.setPart_droneUp (t : Nat) (x : Option Partition) : (s.setPart t x).droneUp = s.droneUp := rfl
@[simp] theorem State.setPart_refValid (t : Nat) (x : Option Partition) : (s.setPart t x).refValid = s.refValid := rfl
@[simp] theorem State.setPart_eventSeq (t : Nat) (x : Option Partition) : (s.setPart t x).eventSeq = s.eventSeq := rfl
@[simp] theorem State.setPart_events (t : Nat) (x : Option Partition) : (s.setPart t x).events = s.events := rfl
@[simp] theorem State.setPart_unacked (t : Nat) (x : Option Partition) : (s.setPart t x).unacked = s.unacked := rfl
@[simp] theorem State.setPart_regs (t : Nat) (x : Option Partition) : (s.setPart t x).regs = s.regs := rfl
@[simp] theorem State.setPart_sites (t : Nat) (x : Option Partition) : (s.setPart t x).sites = s.sites := rfl
@[simp] theorem State.setPart_scratch (t : Nat) (x : Option Partition) : (s.setPart t x).scratch = s.scratch := rfl
@[simp] theorem State.setPart_spill (t : Nat) (x : Option Partition) : (s.setPart t x).spill = s.spill := rfl
@[simp] theorem State.setPart_stackSts (t : Nat) (x : Option Partition) : (s.setPart t x).stackSts = s.stackSts := rfl
@[simp] theorem State.setPart_host (t : Nat) (x : Option Partition) : (s.setPart t x).host = s.host := rfl
@[simp] theorem State.setPart_net (t : Nat) (x : Option Partition) : (s.setPart t x).net = s.net := rfl
@[simp] theorem State.setPart_courses (t : Nat) (x : Option Partition) : (s.setPart t x).courses = s.courses := rfl
@[simp] theorem State.setPart_frameCount (t : Nat) (x : Option Partition) : (s.setPart t x).frameCount = s.frameCount := rfl
@[simp] theorem State.setPart_epoch (t : Nat) (x : Option Partition) : (s.setPart t x).epoch = s.epoch := rfl
@[simp] theorem State.setPart_tabs (t : Nat) (x : Option Partition) : (s.setPart t x).tabs = s.tabs := rfl
@[simp] theorem State.setPart_evRings (t : Nat) (x : Option Partition) : (s.setPart t x).evRings = s.evRings := rfl
@[simp] theorem State.setPart_sessions (t : Nat) (x : Option Partition) : (s.setPart t x).sessions = s.sessions := rfl
@[simp] theorem State.setPart_activeSouth (t : Nat) (x : Option Partition) : (s.setPart t x).activeSouth = s.activeSouth := rfl
@[simp] theorem State.setPart_apertures (t : Nat) (x : Option Partition) : (s.setPart t x).apertures = s.apertures := rfl
@[simp] theorem State.setPart_colls (t : Nat) (x : Option Partition) : (s.setPart t x).colls = s.colls := rfl
@[simp] theorem State.setPart_ports (t : Nat) (x : Option Partition) : (s.setPart t x).ports = s.ports := rfl
@[simp] theorem State.setPart_dies (t : Nat) (x : Option Partition) : (s.setPart t x).dies = s.dies := rfl
@[simp] theorem State.setPart_reasm (t : Nat) (x : Option Partition) : (s.setPart t x).reasm = s.reasm := rfl
@[simp] theorem State.setPart_servo (t : Nat) (x : Option Partition) : (s.setPart t x).servo = s.servo := rfl
@[simp] theorem State.setPart_outbox (t : Nat) (x : Option Partition) : (s.setPart t x).outbox = s.outbox := rfl
@[simp] theorem State.setPart_regions (t : Nat) (x : Option Partition) : (s.setPart t x).regions = s.regions := rfl
@[simp] theorem State.setPart_power (t : Nat) (x : Option Partition) : (s.setPart t x).power = s.power := rfl
@[simp] theorem State.setPart_flash (t : Nat) (x : Option Partition) : (s.setPart t x).flash = s.flash := rfl
@[simp] theorem State.setPart_jobs (t : Nat) (x : Option Partition) : (s.setPart t x).jobs = s.jobs := rfl
@[simp] theorem State.setPart_mgmt (t : Nat) (x : Option Partition) : (s.setPart t x).mgmt = s.mgmt := rfl
@[simp] theorem State.setPart_svcRings (t : Nat) (x : Option Partition) : (s.setPart t x).svcRings = s.svcRings := rfl
@[simp] theorem State.setPart_svcFixed (t : Nat) (x : Option Partition) : (s.setPart t x).svcFixed = s.svcFixed := rfl
@[simp] theorem State.setPart_svcRate (t : Nat) (x : Option Partition) : (s.setPart t x).svcRate = s.svcRate := rfl
@[simp] theorem State.setPart_badSpares (t : Nat) (x : Option Partition) : (s.setPart t x).badSpares = s.badSpares := rfl
@[simp] theorem State.setPart_groups (t : Nat) (x : Option Partition) : (s.setPart t x).groups = s.groups := rfl
@[simp] theorem State.setPart_resetLow (t : Nat) (x : Option Partition) : (s.setPart t x).resetLow = s.resetLow := rfl
@[simp] theorem State.setPart_perstLow (t : Nat) (x : Option Partition) : (s.setPart t x).perstLow = s.perstLow := rfl

/-! ## setCoreState -/

@[simp] theorem State.setCoreState_pending (p : Fin 168) (v : Nat) : (s.setCoreState p v).pending = s.pending := rfl
@[simp] theorem State.setCoreState_free (p : Fin 168) (v : Nat) : (s.setCoreState p v).free = s.free := rfl
@[simp] theorem State.setCoreState_time (p : Fin 168) (v : Nat) : (s.setCoreState p v).time = s.time := rfl
@[simp] theorem State.setCoreState_droneUp (p : Fin 168) (v : Nat) : (s.setCoreState p v).droneUp = s.droneUp := rfl
@[simp] theorem State.setCoreState_refValid (p : Fin 168) (v : Nat) : (s.setCoreState p v).refValid = s.refValid := rfl
@[simp] theorem State.setCoreState_eventSeq (p : Fin 168) (v : Nat) : (s.setCoreState p v).eventSeq = s.eventSeq := rfl
@[simp] theorem State.setCoreState_events (p : Fin 168) (v : Nat) : (s.setCoreState p v).events = s.events := rfl
@[simp] theorem State.setCoreState_unacked (p : Fin 168) (v : Nat) : (s.setCoreState p v).unacked = s.unacked := rfl
@[simp] theorem State.setCoreState_sites (p : Fin 168) (v : Nat) : (s.setCoreState p v).sites = s.sites := rfl
@[simp] theorem State.setCoreState_scratch (p : Fin 168) (v : Nat) : (s.setCoreState p v).scratch = s.scratch := rfl
@[simp] theorem State.setCoreState_spill (p : Fin 168) (v : Nat) : (s.setCoreState p v).spill = s.spill := rfl
@[simp] theorem State.setCoreState_stackSts (p : Fin 168) (v : Nat) : (s.setCoreState p v).stackSts = s.stackSts := rfl
@[simp] theorem State.setCoreState_host (p : Fin 168) (v : Nat) : (s.setCoreState p v).host = s.host := rfl
@[simp] theorem State.setCoreState_net (p : Fin 168) (v : Nat) : (s.setCoreState p v).net = s.net := rfl
@[simp] theorem State.setCoreState_courses (p : Fin 168) (v : Nat) : (s.setCoreState p v).courses = s.courses := rfl
@[simp] theorem State.setCoreState_frameCount (p : Fin 168) (v : Nat) : (s.setCoreState p v).frameCount = s.frameCount := rfl
@[simp] theorem State.setCoreState_epoch (p : Fin 168) (v : Nat) : (s.setCoreState p v).epoch = s.epoch := rfl
@[simp] theorem State.setCoreState_parts (p : Fin 168) (v : Nat) : (s.setCoreState p v).parts = s.parts := rfl
@[simp] theorem State.setCoreState_tabs (p : Fin 168) (v : Nat) : (s.setCoreState p v).tabs = s.tabs := rfl
@[simp] theorem State.setCoreState_evRings (p : Fin 168) (v : Nat) : (s.setCoreState p v).evRings = s.evRings := rfl
@[simp] theorem State.setCoreState_sessions (p : Fin 168) (v : Nat) : (s.setCoreState p v).sessions = s.sessions := rfl
@[simp] theorem State.setCoreState_activeSouth (p : Fin 168) (v : Nat) : (s.setCoreState p v).activeSouth = s.activeSouth := rfl
@[simp] theorem State.setCoreState_apertures (p : Fin 168) (v : Nat) : (s.setCoreState p v).apertures = s.apertures := rfl
@[simp] theorem State.setCoreState_colls (p : Fin 168) (v : Nat) : (s.setCoreState p v).colls = s.colls := rfl
@[simp] theorem State.setCoreState_ports (p : Fin 168) (v : Nat) : (s.setCoreState p v).ports = s.ports := rfl
@[simp] theorem State.setCoreState_dies (p : Fin 168) (v : Nat) : (s.setCoreState p v).dies = s.dies := rfl
@[simp] theorem State.setCoreState_reasm (p : Fin 168) (v : Nat) : (s.setCoreState p v).reasm = s.reasm := rfl
@[simp] theorem State.setCoreState_servo (p : Fin 168) (v : Nat) : (s.setCoreState p v).servo = s.servo := rfl
@[simp] theorem State.setCoreState_outbox (p : Fin 168) (v : Nat) : (s.setCoreState p v).outbox = s.outbox := rfl
@[simp] theorem State.setCoreState_regions (p : Fin 168) (v : Nat) : (s.setCoreState p v).regions = s.regions := rfl
@[simp] theorem State.setCoreState_power (p : Fin 168) (v : Nat) : (s.setCoreState p v).power = s.power := rfl
@[simp] theorem State.setCoreState_flash (p : Fin 168) (v : Nat) : (s.setCoreState p v).flash = s.flash := rfl
@[simp] theorem State.setCoreState_jobs (p : Fin 168) (v : Nat) : (s.setCoreState p v).jobs = s.jobs := rfl
@[simp] theorem State.setCoreState_mgmt (p : Fin 168) (v : Nat) : (s.setCoreState p v).mgmt = s.mgmt := rfl
@[simp] theorem State.setCoreState_svcRings (p : Fin 168) (v : Nat) : (s.setCoreState p v).svcRings = s.svcRings := rfl
@[simp] theorem State.setCoreState_svcFixed (p : Fin 168) (v : Nat) : (s.setCoreState p v).svcFixed = s.svcFixed := rfl
@[simp] theorem State.setCoreState_svcRate (p : Fin 168) (v : Nat) : (s.setCoreState p v).svcRate = s.svcRate := rfl
@[simp] theorem State.setCoreState_badSpares (p : Fin 168) (v : Nat) : (s.setCoreState p v).badSpares = s.badSpares := rfl
@[simp] theorem State.setCoreState_groups (p : Fin 168) (v : Nat) : (s.setCoreState p v).groups = s.groups := rfl
@[simp] theorem State.setCoreState_resetLow (p : Fin 168) (v : Nat) : (s.setCoreState p v).resetLow = s.resetLow := rfl
@[simp] theorem State.setCoreState_perstLow (p : Fin 168) (v : Nat) : (s.setCoreState p v).perstLow = s.perstLow := rfl

/-! ## putRaw -/

@[simp] theorem State.putRaw_pending (p : Fin 168) (o : Nat) (d : W512) (c : W64) : (s.putRaw p o d c).pending = s.pending := rfl
@[simp] theorem State.putRaw_free (p : Fin 168) (o : Nat) (d : W512) (c : W64) : (s.putRaw p o d c).free = s.free := rfl
@[simp] theorem State.putRaw_time (p : Fin 168) (o : Nat) (d : W512) (c : W64) : (s.putRaw p o d c).time = s.time := rfl
@[simp] theorem State.putRaw_droneUp (p : Fin 168) (o : Nat) (d : W512) (c : W64) : (s.putRaw p o d c).droneUp = s.droneUp := rfl
@[simp] theorem State.putRaw_refValid (p : Fin 168) (o : Nat) (d : W512) (c : W64) : (s.putRaw p o d c).refValid = s.refValid := rfl
@[simp] theorem State.putRaw_eventSeq (p : Fin 168) (o : Nat) (d : W512) (c : W64) : (s.putRaw p o d c).eventSeq = s.eventSeq := rfl
@[simp] theorem State.putRaw_events (p : Fin 168) (o : Nat) (d : W512) (c : W64) : (s.putRaw p o d c).events = s.events := rfl
@[simp] theorem State.putRaw_unacked (p : Fin 168) (o : Nat) (d : W512) (c : W64) : (s.putRaw p o d c).unacked = s.unacked := rfl
@[simp] theorem State.putRaw_regs (p : Fin 168) (o : Nat) (d : W512) (c : W64) : (s.putRaw p o d c).regs = s.regs := rfl
@[simp] theorem State.putRaw_sites (p : Fin 168) (o : Nat) (d : W512) (c : W64) : (s.putRaw p o d c).sites = s.sites := rfl
@[simp] theorem State.putRaw_spill (p : Fin 168) (o : Nat) (d : W512) (c : W64) : (s.putRaw p o d c).spill = s.spill := rfl
@[simp] theorem State.putRaw_stackSts (p : Fin 168) (o : Nat) (d : W512) (c : W64) : (s.putRaw p o d c).stackSts = s.stackSts := rfl
@[simp] theorem State.putRaw_host (p : Fin 168) (o : Nat) (d : W512) (c : W64) : (s.putRaw p o d c).host = s.host := rfl
@[simp] theorem State.putRaw_net (p : Fin 168) (o : Nat) (d : W512) (c : W64) : (s.putRaw p o d c).net = s.net := rfl
@[simp] theorem State.putRaw_courses (p : Fin 168) (o : Nat) (d : W512) (c : W64) : (s.putRaw p o d c).courses = s.courses := rfl
@[simp] theorem State.putRaw_frameCount (p : Fin 168) (o : Nat) (d : W512) (c : W64) : (s.putRaw p o d c).frameCount = s.frameCount := rfl
@[simp] theorem State.putRaw_epoch (p : Fin 168) (o : Nat) (d : W512) (c : W64) : (s.putRaw p o d c).epoch = s.epoch := rfl
@[simp] theorem State.putRaw_parts (p : Fin 168) (o : Nat) (d : W512) (c : W64) : (s.putRaw p o d c).parts = s.parts := rfl
@[simp] theorem State.putRaw_tabs (p : Fin 168) (o : Nat) (d : W512) (c : W64) : (s.putRaw p o d c).tabs = s.tabs := rfl
@[simp] theorem State.putRaw_evRings (p : Fin 168) (o : Nat) (d : W512) (c : W64) : (s.putRaw p o d c).evRings = s.evRings := rfl
@[simp] theorem State.putRaw_sessions (p : Fin 168) (o : Nat) (d : W512) (c : W64) : (s.putRaw p o d c).sessions = s.sessions := rfl
@[simp] theorem State.putRaw_activeSouth (p : Fin 168) (o : Nat) (d : W512) (c : W64) : (s.putRaw p o d c).activeSouth = s.activeSouth := rfl
@[simp] theorem State.putRaw_apertures (p : Fin 168) (o : Nat) (d : W512) (c : W64) : (s.putRaw p o d c).apertures = s.apertures := rfl
@[simp] theorem State.putRaw_colls (p : Fin 168) (o : Nat) (d : W512) (c : W64) : (s.putRaw p o d c).colls = s.colls := rfl
@[simp] theorem State.putRaw_ports (p : Fin 168) (o : Nat) (d : W512) (c : W64) : (s.putRaw p o d c).ports = s.ports := rfl
@[simp] theorem State.putRaw_dies (p : Fin 168) (o : Nat) (d : W512) (c : W64) : (s.putRaw p o d c).dies = s.dies := rfl
@[simp] theorem State.putRaw_reasm (p : Fin 168) (o : Nat) (d : W512) (c : W64) : (s.putRaw p o d c).reasm = s.reasm := rfl
@[simp] theorem State.putRaw_servo (p : Fin 168) (o : Nat) (d : W512) (c : W64) : (s.putRaw p o d c).servo = s.servo := rfl
@[simp] theorem State.putRaw_outbox (p : Fin 168) (o : Nat) (d : W512) (c : W64) : (s.putRaw p o d c).outbox = s.outbox := rfl
@[simp] theorem State.putRaw_regions (p : Fin 168) (o : Nat) (d : W512) (c : W64) : (s.putRaw p o d c).regions = s.regions := rfl
@[simp] theorem State.putRaw_power (p : Fin 168) (o : Nat) (d : W512) (c : W64) : (s.putRaw p o d c).power = s.power := rfl
@[simp] theorem State.putRaw_flash (p : Fin 168) (o : Nat) (d : W512) (c : W64) : (s.putRaw p o d c).flash = s.flash := rfl
@[simp] theorem State.putRaw_jobs (p : Fin 168) (o : Nat) (d : W512) (c : W64) : (s.putRaw p o d c).jobs = s.jobs := rfl
@[simp] theorem State.putRaw_mgmt (p : Fin 168) (o : Nat) (d : W512) (c : W64) : (s.putRaw p o d c).mgmt = s.mgmt := rfl
@[simp] theorem State.putRaw_svcRings (p : Fin 168) (o : Nat) (d : W512) (c : W64) : (s.putRaw p o d c).svcRings = s.svcRings := rfl
@[simp] theorem State.putRaw_svcFixed (p : Fin 168) (o : Nat) (d : W512) (c : W64) : (s.putRaw p o d c).svcFixed = s.svcFixed := rfl
@[simp] theorem State.putRaw_svcRate (p : Fin 168) (o : Nat) (d : W512) (c : W64) : (s.putRaw p o d c).svcRate = s.svcRate := rfl
@[simp] theorem State.putRaw_badSpares (p : Fin 168) (o : Nat) (d : W512) (c : W64) : (s.putRaw p o d c).badSpares = s.badSpares := rfl
@[simp] theorem State.putRaw_groups (p : Fin 168) (o : Nat) (d : W512) (c : W64) : (s.putRaw p o d c).groups = s.groups := rfl
@[simp] theorem State.putRaw_resetLow (p : Fin 168) (o : Nat) (d : W512) (c : W64) : (s.putRaw p o d c).resetLow = s.resetLow := rfl
@[simp] theorem State.putRaw_perstLow (p : Fin 168) (o : Nat) (d : W512) (c : W64) : (s.putRaw p o d c).perstLow = s.perstLow := rfl

/-! ## landed -/

@[simp] theorem State.landed_pending (h : Place) (k : Packet) : (s.landed h k).pending = s.pending := rfl
@[simp] theorem State.landed_free (h : Place) (k : Packet) : (s.landed h k).free = s.free := rfl
@[simp] theorem State.landed_time (h : Place) (k : Packet) : (s.landed h k).time = s.time := rfl
@[simp] theorem State.landed_droneUp (h : Place) (k : Packet) : (s.landed h k).droneUp = s.droneUp := rfl
@[simp] theorem State.landed_refValid (h : Place) (k : Packet) : (s.landed h k).refValid = s.refValid := rfl
@[simp] theorem State.landed_eventSeq (h : Place) (k : Packet) : (s.landed h k).eventSeq = s.eventSeq := rfl
@[simp] theorem State.landed_events (h : Place) (k : Packet) : (s.landed h k).events = s.events := rfl
@[simp] theorem State.landed_unacked (h : Place) (k : Packet) : (s.landed h k).unacked = s.unacked := rfl
@[simp] theorem State.landed_regs (h : Place) (k : Packet) : (s.landed h k).regs = s.regs := rfl
@[simp] theorem State.landed_sites (h : Place) (k : Packet) : (s.landed h k).sites = s.sites := rfl
@[simp] theorem State.landed_scratch (h : Place) (k : Packet) : (s.landed h k).scratch = s.scratch := rfl
@[simp] theorem State.landed_spill (h : Place) (k : Packet) : (s.landed h k).spill = s.spill := rfl
@[simp] theorem State.landed_stackSts (h : Place) (k : Packet) : (s.landed h k).stackSts = s.stackSts := rfl
@[simp] theorem State.landed_host (h : Place) (k : Packet) : (s.landed h k).host = s.host := rfl
@[simp] theorem State.landed_courses (h : Place) (k : Packet) : (s.landed h k).courses = s.courses := rfl
@[simp] theorem State.landed_frameCount (h : Place) (k : Packet) : (s.landed h k).frameCount = s.frameCount := rfl
@[simp] theorem State.landed_epoch (h : Place) (k : Packet) : (s.landed h k).epoch = s.epoch := rfl
@[simp] theorem State.landed_parts (h : Place) (k : Packet) : (s.landed h k).parts = s.parts := rfl
@[simp] theorem State.landed_tabs (h : Place) (k : Packet) : (s.landed h k).tabs = s.tabs := rfl
@[simp] theorem State.landed_evRings (h : Place) (k : Packet) : (s.landed h k).evRings = s.evRings := rfl
@[simp] theorem State.landed_sessions (h : Place) (k : Packet) : (s.landed h k).sessions = s.sessions := rfl
@[simp] theorem State.landed_activeSouth (h : Place) (k : Packet) : (s.landed h k).activeSouth = s.activeSouth := rfl
@[simp] theorem State.landed_apertures (h : Place) (k : Packet) : (s.landed h k).apertures = s.apertures := rfl
@[simp] theorem State.landed_colls (h : Place) (k : Packet) : (s.landed h k).colls = s.colls := rfl
@[simp] theorem State.landed_ports (h : Place) (k : Packet) : (s.landed h k).ports = s.ports := rfl
@[simp] theorem State.landed_dies (h : Place) (k : Packet) : (s.landed h k).dies = s.dies := rfl
@[simp] theorem State.landed_reasm (h : Place) (k : Packet) : (s.landed h k).reasm = s.reasm := rfl
@[simp] theorem State.landed_servo (h : Place) (k : Packet) : (s.landed h k).servo = s.servo := rfl
@[simp] theorem State.landed_outbox (h : Place) (k : Packet) : (s.landed h k).outbox = s.outbox := rfl
@[simp] theorem State.landed_regions (h : Place) (k : Packet) : (s.landed h k).regions = s.regions := rfl
@[simp] theorem State.landed_power (h : Place) (k : Packet) : (s.landed h k).power = s.power := rfl
@[simp] theorem State.landed_flash (h : Place) (k : Packet) : (s.landed h k).flash = s.flash := rfl
@[simp] theorem State.landed_jobs (h : Place) (k : Packet) : (s.landed h k).jobs = s.jobs := rfl
@[simp] theorem State.landed_mgmt (h : Place) (k : Packet) : (s.landed h k).mgmt = s.mgmt := rfl
@[simp] theorem State.landed_svcRings (h : Place) (k : Packet) : (s.landed h k).svcRings = s.svcRings := rfl
@[simp] theorem State.landed_svcFixed (h : Place) (k : Packet) : (s.landed h k).svcFixed = s.svcFixed := rfl
@[simp] theorem State.landed_svcRate (h : Place) (k : Packet) : (s.landed h k).svcRate = s.svcRate := rfl
@[simp] theorem State.landed_badSpares (h : Place) (k : Packet) : (s.landed h k).badSpares = s.badSpares := rfl
@[simp] theorem State.landed_groups (h : Place) (k : Packet) : (s.landed h k).groups = s.groups := rfl
@[simp] theorem State.landed_resetLow (h : Place) (k : Packet) : (s.landed h k).resetLow = s.resetLow := rfl
@[simp] theorem State.landed_perstLow (h : Place) (k : Packet) : (s.landed h k).perstLow = s.perstLow := rfl

/-! ## Registers -/

/-- Registers at offsets that differ below 2^29 have different homes, whatever their units. -/
theorem regKey_ne {u v : RegUnit} {a b : Nat} (h : a % 2 ^ 29 ≠ b % 2 ^ 29) : regKey u a ≠ regKey v b := by
  unfold regKey
  omega

/-- Registers of different units have different homes. -/
theorem regKey_unit_ne {u v : RegUnit} {a b : Nat} (h : unitCode u ≠ unitCode v) : regKey u a ≠ regKey v b := by
  unfold regKey
  omega

theorem unitCode_site (p : Fin 168) : unitCode (.site p) = p.val := rfl

@[simp] theorem State.reg_setReg_same (u : RegUnit) (o : Nat) (v : W64) : (s.setReg u o v).reg u o = v := by
  simp [State.reg, State.setReg]

theorem State.reg_setReg_other {u u' : RegUnit} {o o' : Nat} (v : W64) (h : regKey u' o' ≠ regKey u o) :
    (s.setReg u o v).reg u' o' = s.reg u' o' := by
  unfold State.reg State.setReg
  rw [Sparse.get_put_other 0 s.regs _ h]

/-- A register at another offset keeps its value. -/
theorem State.reg_setReg_off {u u' : RegUnit} {o o' : Nat} (v : W64) (h : o' % 2 ^ 29 ≠ o % 2 ^ 29) :
    (s.setReg u o v).reg u' o' = s.reg u' o' := s.reg_setReg_other v (regKey_ne h)

theorem State.reg_setRf_off {u u' : RegUnit} {o o' l w x : Nat} (h : o' % 2 ^ 29 ≠ o % 2 ^ 29) :
    (s.setRf u o l w x).reg u' o' = s.reg u' o' := s.reg_setReg_off _ h

@[simp] theorem State.reg_setRf_same (u : RegUnit) (o l w x : Nat) : (s.setRf u o l w x).reg u o = setFld (s.reg u o) l w x :=
  s.reg_setReg_same u o _

theorem State.reg_count64_off {u u' : RegUnit} {o o' n : Nat} (h : o' % 2 ^ 29 ≠ o % 2 ^ 29) :
    (s.count64 u o n).reg u' o' = s.reg u' o' := s.reg_setReg_off _ h

@[simp] theorem State.reg_count64_same (u : RegUnit) (o n : Nat) : (s.count64 u o n).reg u o = s.reg u o + w64 n := s.reg_setReg_same u o _

@[simp] theorem State.reg_setSite (p : Fin 168) (x : SiteSt) (u : RegUnit) (o : Nat) : (s.setSite p x).reg u o = s.reg u o := rfl
@[simp] theorem State.reg_updSite (p : Fin 168) (f : SiteSt → SiteSt) (u : RegUnit) (o : Nat) : (s.updSite p f).reg u o = s.reg u o := rfl
@[simp] theorem State.reg_updCc (p : Fin 168) (f : Cc → Cc) (u : RegUnit) (o : Nat) : (s.updCc p f).reg u o = s.reg u o := rfl
@[simp] theorem State.reg_draw (u : RegUnit) (o : Nat) : s.draw.reg u o = s.reg u o := rfl
@[simp] theorem State.reg_setPart (t : Nat) (x : Option Partition) (u : RegUnit) (o : Nat) : (s.setPart t x).reg u o = s.reg u o := rfl
@[simp] theorem State.reg_putRaw (p : Fin 168) (a : Nat) (d : W512) (c : W64) (u : RegUnit) (o : Nat) :
    (s.putRaw p a d c).reg u o = s.reg u o := rfl
@[simp] theorem State.reg_landed (h : Place) (k : Packet) (u : RegUnit) (o : Nat) : (s.landed h k).reg u o = s.reg u o := rfl

/-! ## Sites and their control cores -/

@[simp] theorem State.site_setSite_same (p : Fin 168) (x : SiteSt) : (s.setSite p x).site p = x := by simp [State.site, State.setSite]

theorem State.site_setSite_other {p q : Fin 168} (x : SiteSt) (h : q ≠ p) : (s.setSite p x).site q = s.site q := by
  have : q.val ≠ p.val := fun e => h (Fin.ext e)
  simp [State.site, State.setSite, Sparse.get_put_other _ _ _ this]

@[simp] theorem State.site_updSite_same (p : Fin 168) (f : SiteSt → SiteSt) : (s.updSite p f).site p = f (s.site p) := s.site_setSite_same p _

theorem State.site_updSite_other {p q : Fin 168} (f : SiteSt → SiteSt) (h : q ≠ p) : (s.updSite p f).site q = s.site q :=
  s.site_setSite_other _ h

@[simp] theorem State.site_updCc_same (p : Fin 168) (f : Cc → Cc) : (s.updCc p f).site p = { s.site p with cc := f (s.site p).cc } :=
  s.site_updSite_same p _

theorem State.site_updCc_other {p q : Fin 168} (f : Cc → Cc) (h : q ≠ p) : (s.updCc p f).site q = s.site q := s.site_updSite_other _ h

@[simp] theorem State.cc_updCc_same (p : Fin 168) (f : Cc → Cc) : (s.updCc p f).cc p = f (s.cc p) := by simp [State.cc]

theorem State.cc_updCc_other {p q : Fin 168} (f : Cc → Cc) (h : q ≠ p) : (s.updCc p f).cc q = s.cc q := by
  simp [State.cc, s.site_updCc_other f h]

@[simp] theorem State.site_setReg (u : RegUnit) (o : Nat) (v : W64) (p : Fin 168) : (s.setReg u o v).site p = s.site p := rfl
@[simp] theorem State.site_setRf (u : RegUnit) (o l w x : Nat) (p : Fin 168) : (s.setRf u o l w x).site p = s.site p := rfl
@[simp] theorem State.site_draw (p : Fin 168) : s.draw.site p = s.site p := rfl
@[simp] theorem State.site_setPart (t : Nat) (x : Option Partition) (p : Fin 168) : (s.setPart t x).site p = s.site p := rfl
@[simp] theorem State.site_putRaw (q : Fin 168) (o : Nat) (d : W512) (c : W64) (p : Fin 168) : (s.putRaw q o d c).site p = s.site p := rfl
@[simp] theorem State.cc_setReg (u : RegUnit) (o : Nat) (v : W64) (p : Fin 168) : (s.setReg u o v).cc p = s.cc p := rfl
@[simp] theorem State.cc_setRf (u : RegUnit) (o l w x : Nat) (p : Fin 168) : (s.setRf u o l w x).cc p = s.cc p := rfl
@[simp] theorem State.cc_draw (p : Fin 168) : s.draw.cc p = s.cc p := rfl
@[simp] theorem State.cc_setPart (t : Nat) (x : Option Partition) (p : Fin 168) : (s.setPart t x).cc p = s.cc p := rfl
@[simp] theorem State.cc_putRaw (q : Fin 168) (o : Nat) (d : W512) (c : W64) (p : Fin 168) : (s.putRaw q o d c).cc p = s.cc p := rfl
@[simp] theorem State.cc_setCoreState (q : Fin 168) (v : Nat) (p : Fin 168) : (s.setCoreState q v).cc p = s.cc p := rfl

/-! ## Partitions -/

@[simp] theorem State.part_setPart_same (t : Nat) (x : Option Partition) : (s.setPart t x).part t = x := by simp [State.part, State.setPart]

theorem State.part_setPart_other {t u : Nat} (x : Option Partition) (h : u ≠ t) : (s.setPart t x).part u = s.part u := by
  simp [State.part, State.setPart, Sparse.get_put_other _ _ _ h]

/-! ## Scratchpad -/

/-- Writing a granule's cells keeps the canonical form of scratchpad. -/
theorem State.scratch_wf_putRaw (p : Fin 168) (o : Nat) (d : W512) (c : W64) (w : s.scratch.wf = true) :
    (s.putRaw p o d c).scratch.wf = true := Memory.wf_writeBytes _ _ (Memory.wf_writeBytes _ _ w)

/-- Switching a segment off keeps the canonical form of scratchpad. -/
theorem State.scratch_wf_wipeSeg (p : Fin 168) (g : Nat) (w : s.scratch.wf = true) : (s.wipeSeg p g).scratch.wf = true :=
  Sparse.wf_filter 0 _ w

/-! ## Reset -/

theorem State.reg_reset (u : RegUnit) (o : Nat) : State.reset.reg u o = resetOf u o := by
  simp [State.reg, State.reset, Sparse.get]

theorem State.site_reset (p : Fin 168) : State.reset.site p = SiteSt.init := rfl

theorem State.scratch_reset_wf : State.reset.scratch.wf = true := rfl

end Sys2Proof.Machine
end

