-- ==== Sys2Proof/Laws/ControlCore.lean ====
section
/-! SUPPORT. Laws of the control core: registers and predicates, what executing an instruction does, and the spec lemmas of completing one,
jumping, and taking an exception. -/

namespace Sys2Proof.Machine

variable (s : State) (c : Cc) (p : Fin 168)

/-! ## Registers and predicates (R132) -/

@[simp] theorem Cc.r_zero : c.r 0 = 0 := rfl

@[simp] theorem Cc.setR_zero (v : W64) : c.setR 0 v = c := rfl

theorem Cc.r_setR_same (n : BitVec 5) (v : W64) : (c.setR n v).r n = if n = 0 then 0 else v := by
  unfold Cc.r Cc.setR
  split
  · rfl
  · exact Sparse.get_put_same 0 c.g n.toNat v

theorem Cc.r_setR_other {n m : BitVec 5} (v : W64) (h : m ≠ n) : (c.setR n v).r m = c.r m := by
  unfold Cc.r Cc.setR
  split
  · rfl
  · split
    · rfl
    · exact Sparse.get_put_other 0 c.g v fun e => h (BitVec.eq_of_toNat_eq e)

theorem Cc.setR_eq (n : BitVec 5) (v : W64) : c.setR n v = { c with g := (c.setR n v).g } := by
  unfold Cc.setR
  split <;> rfl

theorem Cc.setPr_eq (n : BitVec 3) (b : Bool) : c.setPr n b = { c with preds := (c.setPr n b).preds } := by
  unfold Cc.setPr
  split <;> rfl

@[simp] theorem Cc.preds_setR (n : BitVec 5) (v : W64) : (c.setR n v).preds = c.preds := by
  unfold Cc.setR
  split <;> rfl

@[simp] theorem Cc.g_setPr (n : BitVec 3) (b : Bool) : (c.setPr n b).g = c.g := by
  unfold Cc.setPr
  split <;> rfl

theorem Cc.pr_setPr_same (n : BitVec 3) (b : Bool) : (c.setPr n b).pr n = (n == 0 || b) := by
  have h8 : n.toNat < 8 := n.isLt
  unfold Cc.pr Cc.setPr
  split
  · rename_i h
    simp [h]
  · rename_i h
    simp [bit_setBit _ _ _ _ h8]

theorem Cc.pr_setPr_other {n m : BitVec 3} (b : Bool) (h : m ≠ n) : (c.setPr n b).pr m = c.pr m := by
  have h8 : n.toNat < 8 := n.isLt
  have hm : m.toNat ≠ n.toNat := fun e => h (BitVec.eq_of_toNat_eq e)
  unfold Cc.pr Cc.setPr
  split
  · rfl
  · simp [bit_setBit _ _ _ _ h8, hm]

/-! ## Executing an instruction -/

variable {s c p}

theorem ccExec_ready {body : Cc → State} (h : s.ccReady p) : s.ccExec p body = .next (body (s.cc p)) := by
  unfold State.ccExec
  simp [h.1, h.2]

/-- Changing a control core changes nothing else. -/
theorem onlyCc_updCc (f : Cc → Cc) : s.onlyCc (s.updCc p f) p := by
  refine ⟨rfl, fun q h => s.site_updCc_other f h, ?_⟩
  simp [State.cc]

theorem State.onlyCc.rfl : s.onlyCc s p := ⟨Eq.refl _, fun _ _ => Eq.refl _, Eq.refl _⟩

theorem State.onlyCc.trans {t u : State} (h : s.onlyCc t p) (k : t.onlyCc u p) : s.onlyCc u p := by
  obtain ⟨h₁, h₂, h₃⟩ := h
  obtain ⟨k₁, k₂, k₃⟩ := k
  refine ⟨?_, fun q hq => (k₂ q hq).trans (h₂ q hq), ?_⟩
  · conv_rhs => rw [← h₁, ← k₁]
  · conv_rhs => rw [← h₃, ← k₃]

/-- What completing an instruction does to the rest of the control core. -/
theorem retired_of {f : Cc → Cc} {clocks : Nat} {pc : W16} (h : ∀ c : Cc, f c = { c with g := (f c).g, preds := (f c).preds }) :
    (s.cc p).retired ((s.ccDone p clocks pc f).cc p) clocks pc := by
  unfold Cc.retired State.ccDone
  rw [State.cc_updCc_same]
  conv_lhs => rw [h (s.cc p)]

/-- Completing an instruction that writes a general register. -/
theorem ccDone_writes {i : Instr} {rd : BitVec 5} {v : W64} {clocks : Nat} {pc : W16}
    (h : exec i s = .next (s.ccDone p clocks pc fun c => c.setR rd v)) : WritesRegAt i p clocks pc rd v s := by
  refine ⟨_, h, onlyCc_updCc _, retired_of fun c => ?_, ?_, fun r hr => ?_, ?_⟩
  · conv_lhs => rw [c.setR_eq rd v]
    unfold Cc.setR
    split <;> rfl
  · unfold State.ccDone
    rw [State.cc_updCc_same]
    exact (s.cc p).r_setR_same rd v
  · unfold State.ccDone
    rw [State.cc_updCc_same]
    exact (s.cc p).r_setR_other v hr
  · unfold State.ccDone
    rw [State.cc_updCc_same]
    exact (s.cc p).preds_setR rd v

theorem ccWrite_writes {i : Instr} {rd : BitVec 5} {v : W64} (h : exec i s = .next (s.ccWrite p rd v)) : WritesReg i p rd v s :=
  ccDone_writes h

/-- Completing an instruction that writes a predicate. -/
theorem ccPred_writes {i : Instr} {pd : BitVec 3} {b : Bool} (h : exec i s = .next (s.ccPred p pd b)) : WritesPred i p pd b s := by
  refine ⟨_, h, onlyCc_updCc _, retired_of fun c => ?_, ?_, fun r hr => ?_, ?_⟩
  · conv_lhs => rw [c.setPr_eq pd b]
    unfold Cc.setPr
    split <;> rfl
  · unfold State.ccPred State.ccNext State.ccDone
    rw [State.cc_updCc_same]
    exact (s.cc p).pr_setPr_same pd b
  · unfold State.ccPred State.ccNext State.ccDone
    rw [State.cc_updCc_same]
    exact (s.cc p).pr_setPr_other b hr
  · unfold State.ccPred State.ccNext State.ccDone
    rw [State.cc_updCc_same]
    exact (s.cc p).g_setPr pd b

/-- Completing an instruction that writes neither. -/
theorem ccDone_goes {i : Instr} {clocks : Nat} {pc : W16} (h : exec i s = .next (s.ccDone p clocks pc id)) : GoesTo i p clocks pc s := by
  refine ⟨_, h, onlyCc_updCc _, retired_of fun c => by simp, ?_, ?_⟩ <;>
  · unfold State.ccDone
    rw [State.cc_updCc_same]
    rfl

/-- Taking an exception that has a handler, outside one. -/
theorem takeException_traps {ecause : W16} {einfo : W64} (hx : (s.cc p).ex = false) (hv : (s.cc p).evec ≠ 0) :
    s.takeException p ecause einfo = s.updCc p fun c => c.trapped ecause einfo := by
  unfold State.takeException
  have : ((s.cc p).ex || decide ((s.cc p).evec = 0)) = false := by
    rw [hx, decide_eq_false hv]
    rfl
  simp only [this, Bool.false_eq_true, if_false]
  rfl

theorem takeException_of {i : Instr} {ecause : W16} {einfo : W64} (hx : (s.cc p).ex = false) (hv : (s.cc p).evec ≠ 0)
    (h : exec i s = .next (s.takeException p ecause einfo)) : Traps i p ecause einfo s := by
  rw [takeException_traps hx hv] at h
  refine ⟨_, h, onlyCc_updCc _, ?_⟩
  rw [State.cc_updCc_same]

end Sys2Proof.Machine
end

