-- ==== Sys2Proof/Laws/Exec.lean ====
section
/-! SUPPORT. One equation per command: exec is the command's meaning. Proofs rewrite with these and never unfold exec. -/

namespace Sys2Proof.Machine

variable (st : State)

@[simp] theorem exec_add (p : Site) (rd rs1 rs2 : BitVec 5) : exec (.add p rd rs1 rs2) st = execAdd p rd rs1 rs2 st := rfl
@[simp] theorem exec_sub (p : Site) (rd rs1 rs2 : BitVec 5) : exec (.sub p rd rs1 rs2) st = execSub p rd rs1 rs2 st := rfl
@[simp] theorem exec_mul (p : Site) (rd rs1 rs2 : BitVec 5) : exec (.mul p rd rs1 rs2) st = execMul p rd rs1 rs2 st := rfl
@[simp] theorem exec_mulhu (p : Site) (rd rs1 rs2 : BitVec 5) : exec (.mulhu p rd rs1 rs2) st = execMulhu p rd rs1 rs2 st := rfl
@[simp] theorem exec_and (p : Site) (rd rs1 rs2 : BitVec 5) : exec (.and p rd rs1 rs2) st = execAnd p rd rs1 rs2 st := rfl
@[simp] theorem exec_or (p : Site) (rd rs1 rs2 : BitVec 5) : exec (.or p rd rs1 rs2) st = execOr p rd rs1 rs2 st := rfl
@[simp] theorem exec_xor (p : Site) (rd rs1 rs2 : BitVec 5) : exec (.xor p rd rs1 rs2) st = execXor p rd rs1 rs2 st := rfl
@[simp] theorem exec_shl (p : Site) (rd rs1 rs2 : BitVec 5) : exec (.shl p rd rs1 rs2) st = execShl p rd rs1 rs2 st := rfl
@[simp] theorem exec_shr (p : Site) (rd rs1 rs2 : BitVec 5) : exec (.shr p rd rs1 rs2) st = execShr p rd rs1 rs2 st := rfl
@[simp] theorem exec_sar (p : Site) (rd rs1 rs2 : BitVec 5) : exec (.sar p rd rs1 rs2) st = execSar p rd rs1 rs2 st := rfl
@[simp] theorem exec_cmp (p : Site) (pd : BitVec 3) (rs1 rs2 : BitVec 5) (cond : Cond) : exec (.cmp p pd rs1 rs2 cond) st = execCmp p pd rs1 rs2 cond st := rfl
@[simp] theorem exec_sel (p : Site) (rd rs1 rs2 : BitVec 5) (ps : BitVec 3) : exec (.sel p rd rs1 rs2 ps) st = execSel p rd rs1 rs2 ps st := rfl
@[simp] theorem exec_pset (p : Site) (pd pa pb : BitVec 3) (op : PredOp) : exec (.pset p pd pa pb op) st = execPset p pd pa pb op st := rfl
@[simp] theorem exec_addi (p : Site) (rd rs1 : BitVec 5) (imm : BitVec 16) : exec (.addi p rd rs1 imm) st = execAddi p rd rs1 imm st := rfl
@[simp] theorem exec_andi (p : Site) (rd rs1 : BitVec 5) (imm : BitVec 16) : exec (.andi p rd rs1 imm) st = execAndi p rd rs1 imm st := rfl
@[simp] theorem exec_ori (p : Site) (rd rs1 : BitVec 5) (imm : BitVec 16) : exec (.ori p rd rs1 imm) st = execOri p rd rs1 imm st := rfl
@[simp] theorem exec_xori (p : Site) (rd rs1 : BitVec 5) (imm : BitVec 16) : exec (.xori p rd rs1 imm) st = execXori p rd rs1 imm st := rfl
@[simp] theorem exec_shli (p : Site) (rd rs1 : BitVec 5) (sh : BitVec 6) : exec (.shli p rd rs1 sh) st = execShli p rd rs1 sh st := rfl
@[simp] theorem exec_shri (p : Site) (rd rs1 : BitVec 5) (sh : BitVec 6) : exec (.shri p rd rs1 sh) st = execShri p rd rs1 sh st := rfl
@[simp] theorem exec_sari (p : Site) (rd rs1 : BitVec 5) (sh : BitVec 6) : exec (.sari p rd rs1 sh) st = execSari p rd rs1 sh st := rfl
@[simp] theorem exec_cmpi (p : Site) (pd : BitVec 3) (rs1 : BitVec 5) (imm : BitVec 16) (cond : CondI) : exec (.cmpi p pd rs1 imm cond) st = execCmpi p pd rs1 imm cond st := rfl
@[simp] theorem exec_lui (p : Site) (rd : BitVec 5) (imm : BitVec 21) : exec (.lui p rd imm) st = execLui p rd imm st := rfl
@[simp] theorem exec_jal (p : Site) (rd : BitVec 5) (imm : BitVec 21) : exec (.jal p rd imm) st = execJal p rd imm st := rfl
@[simp] theorem exec_jalr (p : Site) (rd rs1 : BitVec 5) (imm : BitVec 16) : exec (.jalr p rd rs1 imm) st = execJalr p rd rs1 imm st := rfl
@[simp] theorem exec_bp (p : Site) (ps : BitVec 3) (imm : BitVec 16) : exec (.bp p ps imm) st = execBp p ps imm st := rfl
@[simp] theorem exec_bnp (p : Site) (ps : BitVec 3) (imm : BitVec 16) : exec (.bnp p ps imm) st = execBnp p ps imm st := rfl
@[simp] theorem exec_bs (p : Site) (test : SumTest) (sum : BitVec 4) (imm : BitVec 16) : exec (.bs p test sum imm) st = execBs p test sum imm st := rfl
@[simp] theorem exec_ld8u (p : Site) (rd rs1 : BitVec 5) (imm : BitVec 16) : exec (.ld8u p rd rs1 imm) st = execLd8u p rd rs1 imm st := rfl
@[simp] theorem exec_ld8s (p : Site) (rd rs1 : BitVec 5) (imm : BitVec 16) : exec (.ld8s p rd rs1 imm) st = execLd8s p rd rs1 imm st := rfl
@[simp] theorem exec_ld16u (p : Site) (rd rs1 : BitVec 5) (imm : BitVec 16) : exec (.ld16u p rd rs1 imm) st = execLd16u p rd rs1 imm st := rfl
@[simp] theorem exec_ld16s (p : Site) (rd rs1 : BitVec 5) (imm : BitVec 16) : exec (.ld16s p rd rs1 imm) st = execLd16s p rd rs1 imm st := rfl
@[simp] theorem exec_ld32u (p : Site) (rd rs1 : BitVec 5) (imm : BitVec 16) : exec (.ld32u p rd rs1 imm) st = execLd32u p rd rs1 imm st := rfl
@[simp] theorem exec_ld32s (p : Site) (rd rs1 : BitVec 5) (imm : BitVec 16) : exec (.ld32s p rd rs1 imm) st = execLd32s p rd rs1 imm st := rfl
@[simp] theorem exec_ld64 (p : Site) (rd rs1 : BitVec 5) (imm : BitVec 16) : exec (.ld64 p rd rs1 imm) st = execLd64 p rd rs1 imm st := rfl
@[simp] theorem exec_st8 (p : Site) (rs2 rs1 : BitVec 5) (imm : BitVec 16) : exec (.st8 p rs2 rs1 imm) st = execSt8 p rs2 rs1 imm st := rfl
@[simp] theorem exec_st16 (p : Site) (rs2 rs1 : BitVec 5) (imm : BitVec 16) : exec (.st16 p rs2 rs1 imm) st = execSt16 p rs2 rs1 imm st := rfl
@[simp] theorem exec_st32 (p : Site) (rs2 rs1 : BitVec 5) (imm : BitVec 16) : exec (.st32 p rs2 rs1 imm) st = execSt32 p rs2 rs1 imm st := rfl
@[simp] theorem exec_st64 (p : Site) (rs2 rs1 : BitVec 5) (imm : BitVec 16) : exec (.st64 p rs2 rs1 imm) st = execSt64 p rs2 rs1 imm st := rfl
@[simp] theorem exec_crr (p : Site) (rd : BitVec 5) (num : BitVec 12) : exec (.crr p rd num) st = execCrr p rd num st := rfl
@[simp] theorem exec_crw (p : Site) (rs1 : BitVec 5) (num : BitVec 12) : exec (.crw p rs1 num) st = execCrw p rs1 num st := rfl
@[simp] theorem exec_eret (p : Site) : exec (.eret p) st = execEret p st := rfl
@[simp] theorem exec_fence (p : Site) : exec (.fence p) st = execFence p st := rfl
@[simp] theorem exec_issueMe (p : Site) (rd rs1 : BitVec 5) : exec (.issueMe p rd rs1) st = execIssueMe p rd rs1 st := rfl
@[simp] theorem exec_issueVe (p : Site) (rd rs1 : BitVec 5) : exec (.issueVe p rd rs1) st = execIssueVe p rd rs1 st := rfl
@[simp] theorem exec_issueMv (p : Site) (rd rs1 : BitVec 5) (ring : BitVec 3) : exec (.issueMv p rd rs1 ring) st = execIssueMv p rd rs1 ring st := rfl
@[simp] theorem exec_wait (p : Site) (pd : BitVec 3) (rs1 : BitVec 5) (eng : Engine) (ring : BitVec 3) : exec (.wait p pd rs1 eng ring) st = execWait p pd rs1 eng ring st := rfl
@[simp] theorem exec_chanOpen (p : Site) (rd rs1 : BitVec 5) : exec (.chanOpen p rd rs1) st = execChanOpen p rd rs1 st := rfl
@[simp] theorem exec_chanSend (p : Site) (rd rs1 rs2 : BitVec 5) : exec (.chanSend p rd rs1 rs2) st = execChanSend p rd rs1 rs2 st := rfl
@[simp] theorem exec_chanSendBlock (p : Site) (rd rs1 rs2 : BitVec 5) : exec (.chanSendBlock p rd rs1 rs2) st = execChanSendBlock p rd rs1 rs2 st := rfl
@[simp] theorem exec_chanClose (p : Site) (rd rs1 : BitVec 5) : exec (.chanClose p rd rs1) st = execChanClose p rd rs1 st := rfl
@[simp] theorem exec_winOpen (p : Site) (rd rs1 rs2 : BitVec 5) (win : BitVec 6) : exec (.winOpen p rd rs1 rs2 win) st = execWinOpen p rd rs1 rs2 win st := rfl
@[simp] theorem exec_winClose (p : Site) (rd : BitVec 5) (win : BitVec 6) : exec (.winClose p rd win) st = execWinClose p rd win st := rfl
@[simp] theorem exec_qWp (p : Site) (rd : BitVec 5) (q : BitVec 7) (wait : Bool) : exec (.qWp p rd q wait) st = execQWp p rd q wait st := rfl
@[simp] theorem exec_qAdv (p : Site) (rs1 : BitVec 5) (q : BitVec 7) : exec (.qAdv p rs1 q) st = execQAdv p rs1 q st := rfl
@[simp] theorem exec_barArrive (p : Site) (rd : BitVec 5) (inst : BitVec 5) : exec (.barArrive p rd inst) st = execBarArrive p rd inst st := rfl
@[simp] theorem exec_barWait (p : Site) (rs1 : BitVec 5) (inst : BitVec 5) : exec (.barWait p rs1 inst) st = execBarWait p rs1 inst st := rfl
@[simp] theorem exec_fretHint (p : Site) (clear : Bool) (fret : BitVec 4) : exec (.fretHint p clear fret) st = execFretHint p clear fret st := rfl
@[simp] theorem exec_dlSetSendBudget (p : Site) (rs1 : BitVec 5) : exec (.dlSetSendBudget p rs1) st = execDlSetSendBudget p rs1 st := rfl
@[simp] theorem exec_dlSetStepDeadline (p : Site) (rs1 : BitVec 5) : exec (.dlSetStepDeadline p rs1) st = execDlSetStepDeadline p rs1 st := rfl
@[simp] theorem exec_stepWait (p : Site) (rd : BitVec 5) : exec (.stepWait p rd) st = execStepWait p rd st := rfl
@[simp] theorem exec_stepDone (p : Site) : exec (.stepDone p) st = execStepDone p st := rfl
@[simp] theorem exec_illegalInstruction (p : Site) (uncorrectable : Bool) : exec (.illegalInstruction p uncorrectable) st = execIllegalInstruction p uncorrectable st := rfl
@[simp] theorem exec_exceptionEntry (p : Site) : exec (.exceptionEntry p) st = execExceptionEntry p st := rfl
@[simp] theorem exec_ccStepDeadlineExpiry (p : Site) : exec (.ccStepDeadlineExpiry p) st = execCcStepDeadlineExpiry p st := rfl
@[simp] theorem exec_meLoadTile (p : Site) : exec (.meLoadTile p) st = execMeLoadTile p st := rfl
@[simp] theorem exec_meGemmWs (p : Site) : exec (.meGemmWs p) st = execMeGemmWs p st := rfl
@[simp] theorem exec_meGemvStream (p : Site) : exec (.meGemvStream p) st = execMeGemvStream p st := rfl
@[simp] theorem exec_meDrain (p : Site) : exec (.meDrain p) st = execMeDrain p st := rfl
@[simp] theorem exec_meSync (p : Site) : exec (.meSync p) st = execMeSync p st := rfl
@[simp] theorem exec_meDescComplete (p : Site) : exec (.meDescComplete p) st = execMeDescComplete p st := rfl
@[simp] theorem exec_meAbort (p : Site) : exec (.meAbort p) st = execMeAbort p st := rfl
@[simp] theorem exec_meClearFault (p : Site) : exec (.meClearFault p) st = execMeClearFault p st := rfl
@[simp] theorem exec_veFill (p : Site) : exec (.veFill p) st = execVeFill p st := rfl
@[simp] theorem exec_veEvict (p : Site) : exec (.veEvict p) st = execVeEvict p st := rfl
@[simp] theorem exec_veChain (p : Site) : exec (.veChain p) st = execVeChain p st := rfl
@[simp] theorem exec_veLoadTable (p : Site) : exec (.veLoadTable p) st = execVeLoadTable p st := rfl
@[simp] theorem exec_veSync (p : Site) : exec (.veSync p) st = execVeSync p st := rfl
@[simp] theorem exec_veDescComplete (p : Site) : exec (.veDescComplete p) st = execVeDescComplete p st := rfl
@[simp] theorem exec_veAbort (p : Site) : exec (.veAbort p) st = execVeAbort p st := rfl
@[simp] theorem exec_veClearFault (p : Site) : exec (.veClearFault p) st = execVeClearFault p st := rfl
@[simp] theorem exec_veSumWrite (p : Site) (n : BitVec 4) (v : BitVec 64) : exec (.veSumWrite p n v) st = execVeSumWrite p n v st := rfl
@[simp] theorem exec_mvCopyOut (p : Site) (ring : Fin 9) : exec (.mvCopyOut p ring) st = execMvCopyOut p ring st := rfl
@[simp] theorem exec_mvCopyIn (p : Site) (ring : Fin 9) : exec (.mvCopyIn p ring) st = execMvCopyIn p ring st := rfl
@[simp] theorem exec_mvHostOut (p : Site) (ring : Fin 9) : exec (.mvHostOut p ring) st = execMvHostOut p ring st := rfl
@[simp] theorem exec_mvHostIn (p : Site) (ring : Fin 9) : exec (.mvHostIn p ring) st = execMvHostIn p ring st := rfl
@[simp] theorem exec_mvFill (p : Site) (ring : Fin 9) : exec (.mvFill p ring) st = execMvFill p ring st := rfl
@[simp] theorem exec_mvZero (p : Site) (ring : Fin 9) : exec (.mvZero p ring) st = execMvZero p ring st := rfl
@[simp] theorem exec_mvRowCopy (p : Site) (ring : Fin 9) : exec (.mvRowCopy p ring) st = execMvRowCopy p ring st := rfl
@[simp] theorem exec_mvSync (p : Site) (ring : Fin 9) : exec (.mvSync p ring) st = execMvSync p ring st := rfl
@[simp] theorem exec_mvDescComplete (p : Site) (ring : Fin 9) : exec (.mvDescComplete p ring) st = execMvDescComplete p ring st := rfl
@[simp] theorem exec_mvMgmtIssue (p : Site) (offset : BitVec 29) : exec (.mvMgmtIssue p offset) st = execMvMgmtIssue p offset st := rfl
@[simp] theorem exec_mvAbort (p : Site) (ring : Fin 9) : exec (.mvAbort p ring) st = execMvAbort p ring st := rfl
@[simp] theorem exec_mvClearFault (p : Site) (ring : Fin 9) : exec (.mvClearFault p ring) st = execMvClearFault p ring st := rfl
@[simp] theorem exec_mvResend (p : Site) (ring : Fin 9) : exec (.mvResend p ring) st = execMvResend p ring st := rfl
@[simp] theorem exec_regAdv (p : Site) (region : BitVec 6) (head : Bool) (amount : BitVec 32) : exec (.regAdv p region head amount) st = execRegAdv p region head amount st := rfl
@[simp] theorem exec_scrubLineRead (p : Site) : exec (.scrubLineRead p) st = execScrubLineRead p st := rfl
@[simp] theorem exec_scrubBehind (p : Site) : exec (.scrubBehind p) st = execScrubBehind p st := rfl
@[simp] theorem exec_writeBack (p : Site) : exec (.writeBack p) st = execWriteBack p st := rfl
@[simp] theorem exec_watchEntryExpiry (p : Site) (n : BitVec 5) : exec (.watchEntryExpiry p n) st = execWatchEntryExpiry p n st := rfl
@[simp] theorem exec_remapAdd (p : Site) (die : BitVec 1) (bank : BitVec 5) (row : BitVec 14) : exec (.remapAdd p die bank row) st = execRemapAdd p die bank row st := rfl
@[simp] theorem exec_killClearComplete (p : Site) : exec (.killClearComplete p) st = execKillClearComplete p st := rfl
@[simp] theorem exec_frameMark : exec (.frameMark) st = execFrameMark st := rfl
@[simp] theorem exec_slotPass (p : Site) (course : Fin 12) (slot : BitVec 13) (crcError : Bool) : exec (.slotPass p course slot crcError) st = execSlotPass p course slot crcError st := rfl
@[simp] theorem exec_slotInject (p : Site) (course : Fin 12) (slot : BitVec 13) (crcError : Bool) : exec (.slotInject p course slot crcError) st = execSlotInject p course slot crcError st := rfl
@[simp] theorem exec_slotExtract (p : Site) (course : Fin 12) (slot : BitVec 13) (crcError : Bool) : exec (.slotExtract p course slot crcError) st = execSlotExtract p course slot crcError st := rfl
@[simp] theorem exec_slotDropContinue (p : Site) (course : Fin 12) (slot : BitVec 13) (crcError : Bool) : exec (.slotDropContinue p course slot crcError) st = execSlotDropContinue p course slot crcError st := rfl
@[simp] theorem exec_slotReduceAdd (p : Site) (course : Fin 12) (slot : BitVec 13) (crcError : Bool) : exec (.slotReduceAdd p course slot crcError) st = execSlotReduceAdd p course slot crcError st := rfl
@[simp] theorem exec_slotTurn (p : Site) (course : Fin 12) (slot : BitVec 13) (crcError : Bool) : exec (.slotTurn p course slot crcError) st = execSlotTurn p course slot crcError st := rfl
@[simp] theorem exec_slotTurnIn (p : Site) (course : Fin 12) (slot : BitVec 13) (crcError : Bool) : exec (.slotTurnIn p course slot crcError) st = execSlotTurnIn p course slot crcError st := rfl
@[simp] theorem exec_feedLineFetch (p : Site) (buf : BitVec 6) : exec (.feedLineFetch p buf) st = execFeedLineFetch p buf st := rfl
@[simp] theorem exec_landFlitWrite (p : Site) (buf : BitVec 6) : exec (.landFlitWrite p buf) st = execLandFlitWrite p buf st := rfl
@[simp] theorem exec_linkNakReplay (p : Site) (track : BitVec 3) (ackSeq : BitVec 7) : exec (.linkNakReplay p track ackSeq) st = execLinkNakReplay p track ackSeq st := rfl
@[simp] theorem exec_pktWrite (here : Place) (pkt : Packet) : exec (.pktWrite here pkt) st = execPktWrite here pkt st := rfl
@[simp] theorem exec_pktReadReq (here : Place) (pkt : Packet) : exec (.pktReadReq here pkt) st = execPktReadReq here pkt st := rfl
@[simp] theorem exec_pktPut (here : Place) (pkt : Packet) : exec (.pktPut here pkt) st = execPktPut here pkt st := rfl
@[simp] theorem exec_pktMsg (here : Place) (pkt : Packet) : exec (.pktMsg here pkt) st = execPktMsg here pkt st := rfl
@[simp] theorem exec_pktReduce (here : Place) (pkt : Packet) : exec (.pktReduce here pkt) st = execPktReduce here pkt st := rfl
@[simp] theorem exec_pktChanOpen (here : Place) (pkt : Packet) : exec (.pktChanOpen here pkt) st = execPktChanOpen here pkt st := rfl
@[simp] theorem exec_pktChanClose (here : Place) (pkt : Packet) : exec (.pktChanClose here pkt) st = execPktChanClose here pkt st := rfl
@[simp] theorem exec_pktTransit (here : Place) (pkt : Packet) : exec (.pktTransit here pkt) st = execPktTransit here pkt st := rfl
@[simp] theorem exec_pktRowWrite (here : Place) (pkt : Packet) : exec (.pktRowWrite here pkt) st = execPktRowWrite here pkt st := rfl
@[simp] theorem exec_pktReadResp (here : Place) (pkt : Packet) : exec (.pktReadResp here pkt) st = execPktReadResp here pkt st := rfl
@[simp] theorem exec_pktAck (here : Place) (pkt : Packet) : exec (.pktAck here pkt) st = execPktAck here pkt st := rfl
@[simp] theorem exec_pktChanAccept (here : Place) (pkt : Packet) : exec (.pktChanAccept here pkt) st = execPktChanAccept here pkt st := rfl
@[simp] theorem exec_pktChanClosed (here : Place) (pkt : Packet) : exec (.pktChanClosed here pkt) st = execPktChanClosed here pkt st := rfl
@[simp] theorem exec_pktNack (here : Place) (pkt : Packet) : exec (.pktNack here pkt) st = execPktNack here pkt st := rfl
@[simp] theorem exec_pktBarArrive (here : Place) (pkt : Packet) : exec (.pktBarArrive here pkt) st = execPktBarArrive here pkt st := rfl
@[simp] theorem exec_pktBarRelease (here : Place) (pkt : Packet) : exec (.pktBarRelease here pkt) st = execPktBarRelease here pkt st := rfl
@[simp] theorem exec_pktBarReport (here : Place) (pkt : Packet) : exec (.pktBarReport here pkt) st = execPktBarReport here pkt st := rfl
@[simp] theorem exec_pktAbort (here : Place) (pkt : Packet) : exec (.pktAbort here pkt) st = execPktAbort here pkt st := rfl
@[simp] theorem exec_pktMgmt (here : Place) (pkt : Packet) : exec (.pktMgmt here pkt) st = execPktMgmt here pkt st := rfl
@[simp] theorem exec_pktStepFail (here : Place) (pkt : Packet) : exec (.pktStepFail here pkt) st = execPktStepFail here pkt st := rfl
@[simp] theorem exec_pktDrainReport (here : Place) (pkt : Packet) : exec (.pktDrainReport here pkt) st = execPktDrainReport here pkt st := rfl
@[simp] theorem exec_wormTruncate (p : Site) : exec (.wormTruncate p) st = execWormTruncate p st := rfl
@[simp] theorem exec_epochDrainSlow : exec (.epochDrainSlow) st = execEpochDrainSlow st := rfl
@[simp] theorem exec_msgAbandoned (p : Site) (ch : BitVec 8) : exec (.msgAbandoned p ch) st = execMsgAbandoned p ch st := rfl
@[simp] theorem exec_channelResend (p : Site) (ctx : BitVec 8) : exec (.channelResend p ctx) st = execChannelResend p ctx st := rfl
@[simp] theorem exec_sendBudgetExpiry (p : Site) (ctx : BitVec 8) : exec (.sendBudgetExpiry p ctx) st = execSendBudgetExpiry p ctx st := rfl
@[simp] theorem exec_stepArm (part : BitVec 6) : exec (.stepArm part) st = execStepArm part st := rfl
@[simp] theorem exec_commitPoint (part : BitVec 6) : exec (.commitPoint part) st = execCommitPoint part st := rfl
@[simp] theorem exec_lbTimerExpiry (part : BitVec 6) : exec (.lbTimerExpiry part) st = execLbTimerExpiry part st := rfl
@[simp] theorem exec_stepReplay (part : BitVec 6) : exec (.stepReplay part) st = execStepReplay part st := rfl
@[simp] theorem exec_serviceDoorbell (ring : BitVec 6) (prod cons : BitVec 32) : exec (.serviceDoorbell ring prod cons) st = execServiceDoorbell ring prod cons st := rfl
@[simp] theorem exec_serviceRequestFetch (ring : BitVec 6) : exec (.serviceRequestFetch ring) st = execServiceRequestFetch ring st := rfl
@[simp] theorem exec_serviceInputSend (part : BitVec 6) : exec (.serviceInputSend part) st = execServiceInputSend part st := rfl
@[simp] theorem exec_serviceOutputRead (part : BitVec 6) : exec (.serviceOutputRead part) st = execServiceOutputRead part st := rfl
@[simp] theorem exec_serviceResponsePost (ring : BitVec 6) : exec (.serviceResponsePost ring) st = execServiceResponsePost ring st := rfl
@[simp] theorem exec_requestDeadlineExpiry (part : BitVec 6) (req : Nat) : exec (.requestDeadlineExpiry part req) st = execRequestDeadlineExpiry part req st := rfl
@[simp] theorem exec_requestQueueHead (part : BitVec 6) : exec (.requestQueueHead part) st = execRequestQueueHead part st := rfl
@[simp] theorem exec_warmHoldExpiry (part : BitVec 6) : exec (.warmHoldExpiry part) st = execWarmHoldExpiry part st := rfl
@[simp] theorem exec_svcReassemblyTimeout (die : Fin 42) (panel : BitVec 10) (msgId : BitVec 32) : exec (.svcReassemblyTimeout die panel msgId) st = execSvcReassemblyTimeout die panel msgId st := rfl
@[simp] theorem exec_stackTempReadout (s : Fin 28) (temp : BitVec 8) : exec (.stackTempReadout s temp) st = execStackTempReadout s temp st := rfl
@[simp] theorem exec_stackRecalFailure (s : Fin 28) : exec (.stackRecalFailure s) st = execStackRecalFailure s st := rfl
@[simp] theorem exec_stackRefresh (s : Fin 28) : exec (.stackRefresh s) st = execStackRefresh s st := rfl
@[simp] theorem exec_spillRemapComplete (s : Fin 28) (n : BitVec 5) : exec (.spillRemapComplete s n) st = execSpillRemapComplete s n st := rfl
@[simp] theorem exec_spillWriteBack (s : Fin 28) : exec (.spillWriteBack s) st = execSpillWriteBack s st := rfl
@[simp] theorem exec_spillClearComplete (s : Fin 28) (n : BitVec 8) : exec (.spillClearComplete s n) st = execSpillClearComplete s n st := rfl
@[simp] theorem exec_frameIdle (port : Fin 84) (f : Frame) : exec (.frameIdle port f) st = execFrameIdle port f st := rfl
@[simp] theorem exec_frameIdent (port : Fin 84) (f : Frame) : exec (.frameIdent port f) st = execFrameIdent port f st := rfl
@[simp] theorem exec_frameTimeSync (port : Fin 84) (f : Frame) : exec (.frameTimeSync port f) st = execFrameTimeSync port f st := rfl
@[simp] theorem exec_frameTimeReply (port : Fin 84) (f : Frame) : exec (.frameTimeReply port f) st = execFrameTimeReply port f st := rfl
@[simp] theorem exec_frameAbort (port : Fin 84) (f : Frame) : exec (.frameAbort port f) st = execFrameAbort port f st := rfl
@[simp] theorem exec_frameCollUp (port : Fin 84) (f : Frame) : exec (.frameCollUp port f) st = execFrameCollUp port f st := rfl
@[simp] theorem exec_frameCollDown (port : Fin 84) (f : Frame) : exec (.frameCollDown port f) st = execFrameCollDown port f st := rfl
@[simp] theorem exec_frameSvcRequest (port : Fin 84) (f : Frame) : exec (.frameSvcRequest port f) st = execFrameSvcRequest port f st := rfl
@[simp] theorem exec_frameSvcResponse (port : Fin 84) (f : Frame) : exec (.frameSvcResponse port f) st = execFrameSvcResponse port f st := rfl
@[simp] theorem exec_frameSvcOutput (port : Fin 84) (f : Frame) : exec (.frameSvcOutput port f) st = execFrameSvcOutput port f st := rfl
@[simp] theorem exec_frameBulkWrite (port : Fin 84) (f : Frame) : exec (.frameBulkWrite port f) st = execFrameBulkWrite port f st := rfl
@[simp] theorem exec_ihlyxReplay (port : Fin 84) : exec (.ihlyxReplay port) st = execIhlyxReplay port st := rfl
@[simp] theorem exec_portLossOfLock (port : Fin 84) (lane : BitVec 2) : exec (.portLossOfLock port lane) st = execPortLossOfLock port lane st := rfl
@[simp] theorem exec_portSilent (port : Fin 84) : exec (.portSilent port) st = execPortSilent port st := rfl
@[simp] theorem exec_portTrainTimeout (port : Fin 84) : exec (.portTrainTimeout port) st = execPortTrainTimeout port st := rfl
@[simp] theorem exec_portRetrainTimer (port : Fin 84) : exec (.portRetrainTimer port) st = execPortRetrainTimer port st := rfl
@[simp] theorem exec_portIdleSend (port : Fin 84) : exec (.portIdleSend port) st = execPortIdleSend port st := rfl
@[simp] theorem exec_timeSyncSend (port : Fin 84) : exec (.timeSyncSend port) st = execTimeSyncSend port st := rfl
@[simp] theorem exec_podTimeUnlockTimeout (die : Fin 42) : exec (.podTimeUnlockTimeout die) st = execPodTimeUnlockTimeout die st := rfl
@[simp] theorem exec_egressTimeout (port : Fin 84) : exec (.egressTimeout port) st = execEgressTimeout port st := rfl
@[simp] theorem exec_clkTargetWrite (p : Site) (fret : BitVec 4) : exec (.clkTargetWrite p fret) st = execClkTargetWrite p fret st := rfl
@[simp] theorem exec_clkLimitsWrite (p : Site) (capo ceiling : BitVec 4) : exec (.clkLimitsWrite p capo ceiling) st = execClkLimitsWrite p capo ceiling st := rfl
@[simp] theorem exec_railSetPointReached (g : Fin 42) : exec (.railSetPointReached g) st = execRailSetPointReached g st := rfl
@[simp] theorem exec_idlePllLocked (p : Site) : exec (.idlePllLocked p) st = execIdlePllLocked p st := rfl
@[simp] theorem exec_fretSwitch (p : Site) : exec (.fretSwitch p) st = execFretSwitch p st := rfl
@[simp] theorem exec_droopAssert (g : Fin 42) : exec (.droopAssert g) st = execDroopAssert g st := rfl
@[simp] theorem exec_droopDeassert (g : Fin 42) : exec (.droopDeassert g) st = execDroopDeassert g st := rfl
@[simp] theorem exec_damperHoldExpiry (g : Fin 42) : exec (.damperHoldExpiry g) st = execDamperHoldExpiry g st := rfl
@[simp] theorem exec_damperRecoverExpiry (g : Fin 42) : exec (.damperRecoverExpiry g) st = execDamperRecoverExpiry g st := rfl
@[simp] theorem exec_pllUnlock (p : Site) (pllB : Bool) : exec (.pllUnlock p pllB) st = execPllUnlock p pllB st := rfl
@[simp] theorem exec_fabricPllUnlock (p : Site) : exec (.fabricPllUnlock p) st = execFabricPllUnlock p st := rfl
@[simp] theorem exec_droneRefLost : exec (.droneRefLost) st = execDroneRefLost st := rfl
@[simp] theorem exec_droneRefValid : exec (.droneRefValid) st = execDroneRefValid st := rfl
@[simp] theorem exec_capoMeasure (p : Site) (capo : BitVec 4) : exec (.capoMeasure p capo) st = execCapoMeasure p capo st := rfl
@[simp] theorem exec_feedConnect (b : Bool) : exec (.feedConnect b) st = execFeedConnect b st := rfl
@[simp] theorem exec_feedDisconnect (b : Bool) : exec (.feedDisconnect b) st = execFeedDisconnect b st := rfl
@[simp] theorem exec_inputLow : exec (.inputLow) st = execInputLow st := rfl
@[simp] theorem exec_inputRecovered : exec (.inputRecovered) st = execInputRecovered st := rfl
@[simp] theorem exec_inputLowTimeout : exec (.inputLowTimeout) st = execInputLowTimeout st := rfl
@[simp] theorem exec_inputOff : exec (.inputOff) st = execInputOff st := rfl
@[simp] theorem exec_stoppedRestart : exec (.stoppedRestart) st = execStoppedRestart st := rfl
@[simp] theorem exec_energyMeterSample (b : Bool) (mv : BitVec 17) (ma : BitVec 20) : exec (.energyMeterSample b mv ma) st = execEnergyMeterSample b mv ma st := rfl
@[simp] theorem exec_phaseFailed (g : Fin 42) (phase : BitVec 4) : exec (.phaseFailed g phase) st = execPhaseFailed g phase st := rfl
@[simp] theorem exec_connectionFault (p : Site) : exec (.connectionFault p) st = execConnectionFault p st := rfl
@[simp] theorem exec_govClearConn (g : Fin 42) (mask : BitVec 4) : exec (.govClearConn g mask) st = execGovClearConn g mask st := rfl
@[simp] theorem exec_fabricRailLost (g : Fin 42) : exec (.fabricRailLost g) st = execFabricRailLost g st := rfl
@[simp] theorem exec_capAverageTick : exec (.capAverageTick) st = execCapAverageTick st := rfl
@[simp] theorem exec_capLearnTick : exec (.capLearnTick) st = execCapLearnTick st := rfl
@[simp] theorem exec_capGrant : exec (.capGrant) st = execCapGrant st := rfl
@[simp] theorem exec_phaseCeilingIssue (part : BitVec 6) : exec (.phaseCeilingIssue part) st = execPhaseCeilingIssue part st := rfl
@[simp] theorem exec_sensorRead (p : Site) (r : SensorReadings) : exec (.sensorRead p r) st = execSensorRead p r st := rfl
@[simp] theorem exec_thermalLoopTick (g : Fin 42) : exec (.thermalLoopTick g) st = execThermalLoopTick g st := rfl
@[simp] theorem exec_coolOkLow : exec (.coolOkLow) st = execCoolOkLow st := rfl
@[simp] theorem exec_riseConditionTick : exec (.riseConditionTick) st = execRiseConditionTick st := rfl
@[simp] theorem exec_coolantShutdown : exec (.coolantShutdown) st = execCoolantShutdown st := rfl
@[simp] theorem exec_powerOnStart : exec (.powerOnStart) st = execPowerOnStart st := rfl
@[simp] theorem exec_bringupStepComplete : exec (.bringupStepComplete) st = execBringupStepComplete st := rfl
@[simp] theorem exec_panelRstAssert : exec (.panelRstAssert) st = execPanelRstAssert st := rfl
@[simp] theorem exec_panelRstRelease : exec (.panelRstRelease) st = execPanelRstRelease st := rfl
@[simp] theorem exec_perstAssert (k : BitVec 1) : exec (.perstAssert k) st = execPerstAssert k st := rfl
@[simp] theorem exec_functionLevelReset : exec (.functionLevelReset) st = execFunctionLevelReset st := rfl
@[simp] theorem exec_coreReset (p : Site) : exec (.coreReset p) st = execCoreReset p st := rfl
@[simp] theorem exec_coreRestart (p : Site) : exec (.coreRestart p) st = execCoreRestart p st := rfl
@[simp] theorem exec_coreQuiesce (p : Site) : exec (.coreQuiesce p) st = execCoreQuiesce p st := rfl
@[simp] theorem exec_coreUnquiesce (p : Site) : exec (.coreUnquiesce p) st = execCoreUnquiesce p st := rfl
@[simp] theorem exec_sympQualStart (p : Site) : exec (.sympQualStart p) st = execSympQualStart p st := rfl
@[simp] theorem exec_sympQualEnd (p : Site) : exec (.sympQualEnd p) st = execSympQualEnd p st := rfl
@[simp] theorem exec_selfQualification (p : Site) (pass : Bool) : exec (.selfQualification p pass) st = execSelfQualification p pass st := rfl
@[simp] theorem exec_fmWaitExpiry : exec (.fmWaitExpiry) st = execFmWaitExpiry st := rfl
@[simp] theorem exec_heartbeatSend : exec (.heartbeatSend) st = execHeartbeatSend st := rfl
@[simp] theorem exec_heartbeatLoss : exec (.heartbeatLoss) st = execHeartbeatLoss st := rfl
@[simp] theorem exec_journalRecord : exec (.journalRecord) st = execJournalRecord st := rfl
@[simp] theorem exec_sessionIdleTimeout (session : BitVec 32) : exec (.sessionIdleTimeout session) st = execSessionIdleTimeout session st := rfl
@[simp] theorem exec_eventRecordDelivery (ring : BitVec 2) : exec (.eventRecordDelivery ring) st = execEventRecordDelivery ring st := rfl
@[simp] theorem exec_eventConsumerWrite (ring : BitVec 2) (cons : BitVec 32) : exec (.eventConsumerWrite ring cons) st = execEventConsumerWrite ring cons st := rfl
@[simp] theorem exec_eventNotifySend (session : BitVec 32) : exec (.eventNotifySend session) st = execEventNotifySend session st := rfl
@[simp] theorem exec_eventNotifyResend (session : BitVec 32) : exec (.eventNotifyResend session) st = execEventNotifyResend session st := rfl
@[simp] theorem exec_debugEnDeassert : exec (.debugEnDeassert) st = execDebugEnDeassert st := rfl
@[simp] theorem exec_tapInstruction (ir : BitVec 8) : exec (.tapInstruction ir) st = execTapInstruction ir st := rfl
@[simp] theorem exec_registerWrite (m : Master) (u : RegUnit) (off : BitVec 29) (v : BitVec 64) : exec (.registerWrite m u off v) st = execRegisterWrite m u off v st := rfl
@[simp] theorem exec_readClear (m : Master) (u : RegUnit) (off : BitVec 29) : exec (.readClear m u off) st = execReadClear m u off st := rfl
@[simp] theorem exec_identify (c : MciCmd) : exec (.identify c) st = execIdentify c st := rfl
@[simp] theorem exec_status (c : MciCmd) : exec (.status c) st = execStatus c st := rfl
@[simp] theorem exec_start (c : MciCmd) : exec (.start c) st = execStart c st := rfl
@[simp] theorem exec_roleHandover (c : MciCmd) : exec (.roleHandover c) st = execRoleHandover c st := rfl
@[simp] theorem exec_netConfig (c : MciCmd) : exec (.netConfig c) st = execNetConfig c st := rfl
@[simp] theorem exec_eventRingSet (c : MciCmd) : exec (.eventRingSet c) st = execEventRingSet c st := rfl
@[simp] theorem exec_eventRead (c : MciCmd) : exec (.eventRead c) st = execEventRead c st := rfl
@[simp] theorem exec_eventAck (c : MciCmd) : exec (.eventAck c) st = execEventAck c st := rfl
@[simp] theorem exec_eventSubscribe (c : MciCmd) : exec (.eventSubscribe c) st = execEventSubscribe c st := rfl
@[simp] theorem exec_eventConfirm (c : MciCmd) : exec (.eventConfirm c) st = execEventConfirm c st := rfl
@[simp] theorem exec_tabLoad (c : MciCmd) : exec (.tabLoad c) st = execTabLoad c st := rfl
@[simp] theorem exec_tabUnload (c : MciCmd) : exec (.tabUnload c) st = execTabUnload c st := rfl
@[simp] theorem exec_tabList (c : MciCmd) : exec (.tabList c) st = execTabList c st := rfl
@[simp] theorem exec_partCreate (c : MciCmd) : exec (.partCreate c) st = execPartCreate c st := rfl
@[simp] theorem exec_partDelete (c : MciCmd) : exec (.partDelete c) st = execPartDelete c st := rfl
@[simp] theorem exec_partBind (c : MciCmd) : exec (.partBind c) st = execPartBind c st := rfl
@[simp] theorem exec_partUnbind (c : MciCmd) : exec (.partUnbind c) st = execPartUnbind c st := rfl
@[simp] theorem exec_partAbort (c : MciCmd) : exec (.partAbort c) st = execPartAbort c st := rfl
@[simp] theorem exec_partKillClear (c : MciCmd) : exec (.partKillClear c) st = execPartKillClear c st := rfl
@[simp] theorem exec_partKillHold (c : MciCmd) : exec (.partKillHold c) st = execPartKillHold c st := rfl
@[simp] theorem exec_partRelease (c : MciCmd) : exec (.partRelease c) st = execPartRelease c st := rfl
@[simp] theorem exec_heldRead (c : MciCmd) : exec (.heldRead c) st = execHeldRead c st := rfl
@[simp] theorem exec_partStatus (c : MciCmd) : exec (.partStatus c) st = execPartStatus c st := rfl
@[simp] theorem exec_stepHashRead (c : MciCmd) : exec (.stepHashRead c) st = execStepHashRead c st := rfl
@[simp] theorem exec_svcRingSet (c : MciCmd) : exec (.svcRingSet c) st = execSvcRingSet c st := rfl
@[simp] theorem exec_svcRingEnable (c : MciCmd) : exec (.svcRingEnable c) st = execSvcRingEnable c st := rfl
@[simp] theorem exec_svcEnable (c : MciCmd) : exec (.svcEnable c) st = execSvcEnable c st := rfl
@[simp] theorem exec_svcDisable (c : MciCmd) : exec (.svcDisable c) st = execSvcDisable c st := rfl
@[simp] theorem exec_svcPolicy (c : MciCmd) : exec (.svcPolicy c) st = execSvcPolicy c st := rfl
@[simp] theorem exec_memRead (c : MciCmd) : exec (.memRead c) st = execMemRead c st := rfl
@[simp] theorem exec_memWrite (c : MciCmd) : exec (.memWrite c) st = execMemWrite c st := rfl
@[simp] theorem exec_dmaIn (c : MciCmd) : exec (.dmaIn c) st = execDmaIn c st := rfl
@[simp] theorem exec_dmaOut (c : MciCmd) : exec (.dmaOut c) st = execDmaOut c st := rfl
@[simp] theorem exec_apertureSet (c : MciCmd) : exec (.apertureSet c) st = execApertureSet c st := rfl
@[simp] theorem exec_bulkSend (c : MciCmd) : exec (.bulkSend c) st = execBulkSend c st := rfl
@[simp] theorem exec_powerPolicy (c : MciCmd) : exec (.powerPolicy c) st = execPowerPolicy c st := rfl
@[simp] theorem exec_coolResume (c : MciCmd) : exec (.coolResume c) st = execCoolResume c st := rfl
@[simp] theorem exec_thermalClear (c : MciCmd) : exec (.thermalClear c) st = execThermalClear c st := rfl
@[simp] theorem exec_energyRead (c : MciCmd) : exec (.energyRead c) st = execEnergyRead c st := rfl
@[simp] theorem exec_mciResetCore (c : MciCmd) : exec (.mciResetCore c) st = execMciResetCore c st := rfl
@[simp] theorem exec_mciResetRegion (c : MciCmd) : exec (.mciResetRegion c) st = execMciResetRegion c st := rfl
@[simp] theorem exec_mciResetPartition (c : MciCmd) : exec (.mciResetPartition c) st = execMciResetPartition c st := rfl
@[simp] theorem exec_mciResetCompute (c : MciCmd) : exec (.mciResetCompute c) st = execMciResetCompute c st := rfl
@[simp] theorem exec_mciResetPanel (c : MciCmd) : exec (.mciResetPanel c) st = execMciResetPanel c st := rfl
@[simp] theorem exec_retire (c : MciCmd) : exec (.retire c) st = execRetire c st := rfl
@[simp] theorem exec_faultClear (c : MciCmd) : exec (.faultClear c) st = execFaultClear c st := rfl
@[simp] theorem exec_migrate (c : MciCmd) : exec (.migrate c) st = execMigrate c st := rfl
@[simp] theorem exec_placementResume (c : MciCmd) : exec (.placementResume c) st = execPlacementResume c st := rfl
@[simp] theorem exec_placementHold (c : MciCmd) : exec (.placementHold c) st = execPlacementHold c st := rfl
@[simp] theorem exec_placementRelease (c : MciCmd) : exec (.placementRelease c) st = execPlacementRelease c st := rfl
@[simp] theorem exec_faultPolicy (c : MciCmd) : exec (.faultPolicy c) st = execFaultPolicy c st := rfl
@[simp] theorem exec_wayStage (c : MciCmd) : exec (.wayStage c) st = execWayStage c st := rfl
@[simp] theorem exec_epochFlip (c : MciCmd) : exec (.epochFlip c) st = execEpochFlip c st := rfl
@[simp] theorem exec_frameLen (c : MciCmd) : exec (.frameLen c) st = execFrameLen c st := rfl
@[simp] theorem exec_fabricRestart (c : MciCmd) : exec (.fabricRestart c) st = execFabricRestart c st := rfl
@[simp] theorem exec_stackRetrain (c : MciCmd) : exec (.stackRetrain c) st = execStackRetrain c st := rfl
@[simp] theorem exec_hopSet (c : MciCmd) : exec (.hopSet c) st = execHopSet c st := rfl
@[simp] theorem exec_panelId (c : MciCmd) : exec (.panelId c) st = execPanelId c st := rfl
@[simp] theorem exec_routeSet (c : MciCmd) : exec (.routeSet c) st = execRouteSet c st := rfl
@[simp] theorem exec_portControl (c : MciCmd) : exec (.portControl c) st = execPortControl c st := rfl
@[simp] theorem exec_portDisable (c : MciCmd) : exec (.portDisable c) st = execPortDisable c st := rfl
@[simp] theorem exec_portEnable (c : MciCmd) : exec (.portEnable c) st = execPortEnable c st := rfl
@[simp] theorem exec_portRetrain (c : MciCmd) : exec (.portRetrain c) st = execPortRetrain c st := rfl
@[simp] theorem exec_topology (c : MciCmd) : exec (.topology c) st = execTopology c st := rfl
@[simp] theorem exec_timeMaster (c : MciCmd) : exec (.timeMaster c) st = execTimeMaster c st := rfl
@[simp] theorem exec_collBind (c : MciCmd) : exec (.collBind c) st = execCollBind c st := rfl
@[simp] theorem exec_collMembers (c : MciCmd) : exec (.collMembers c) st = execCollMembers c st := rfl
@[simp] theorem exec_collUnbind (c : MciCmd) : exec (.collUnbind c) st = execCollUnbind c st := rfl
@[simp] theorem exec_collAbort (c : MciCmd) : exec (.collAbort c) st = execCollAbort c st := rfl
@[simp] theorem exec_collLateness (c : MciCmd) : exec (.collLateness c) st = execCollLateness c st := rfl
@[simp] theorem exec_svcPeers (c : MciCmd) : exec (.svcPeers c) st = execSvcPeers c st := rfl
@[simp] theorem exec_bulkAperture (c : MciCmd) : exec (.bulkAperture c) st = execBulkAperture c st := rfl
@[simp] theorem exec_freezeRelease (c : MciCmd) : exec (.freezeRelease c) st = execFreezeRelease c st := rfl
@[simp] theorem exec_sessionOpen (c : MciCmd) : exec (.sessionOpen c) st = execSessionOpen c st := rfl
@[simp] theorem exec_sessionClose (c : MciCmd) : exec (.sessionClose c) st = execSessionClose c st := rfl
@[simp] theorem exec_enrol (c : MciCmd) : exec (.enrol c) st = execEnrol c st := rfl
@[simp] theorem exec_keyInstall (c : MciCmd) : exec (.keyInstall c) st = execKeyInstall c st := rfl
@[simp] theorem exec_keyRevoke (c : MciCmd) : exec (.keyRevoke c) st = execKeyRevoke c st := rfl
@[simp] theorem exec_secPolicy (c : MciCmd) : exec (.secPolicy c) st = execSecPolicy c st := rfl
@[simp] theorem exec_debugUnlock (c : MciCmd) : exec (.debugUnlock c) st = execDebugUnlock c st := rfl
@[simp] theorem exec_fwStage (c : MciCmd) : exec (.fwStage c) st = execFwStage c st := rfl
@[simp] theorem exec_fwActivate (c : MciCmd) : exec (.fwActivate c) st = execFwActivate c st := rfl
@[simp] theorem exec_fwStatus (c : MciCmd) : exec (.fwStatus c) st = execFwStatus c st := rfl
@[simp] theorem exec_fwRecover (c : MciCmd) : exec (.fwRecover c) st = execFwRecover c st := rfl
@[simp] theorem exec_mciBadOpcode (opcode : BitVec 16) (c : MciCmd) : exec (.mciBadOpcode opcode c) st = execMciBadOpcode opcode c st := rfl
@[simp] theorem exec_coolOkHigh : exec (.coolOkHigh) st = execCoolOkHigh st := rfl
@[simp] theorem exec_fabricPllRelock (p : Site) : exec (.fabricPllRelock p) st = execFabricPllRelock p st := rfl
@[simp] theorem exec_rqFlitCrcError (p : Site) (track : BitVec 3) : exec (.rqFlitCrcError p track) st = execRqFlitCrcError p track st := rfl
@[simp] theorem exec_frameCrcError (port : Fin 84) : exec (.frameCrcError port) st = execFrameCrcError port st := rfl
@[simp] theorem exec_firmwareFaultReport : exec (.firmwareFaultReport) st = execFirmwareFaultReport st := rfl
@[simp] theorem exec_debugEnAssert : exec (.debugEnAssert) st = execDebugEnAssert st := rfl
@[simp] theorem exec_qualificationExpiry (p : Site) : exec (.qualificationExpiry p) st = execQualificationExpiry p st := rfl
@[simp] theorem exec_droneUp : exec (.droneUp) st = execDroneUp st := rfl
@[simp] theorem exec_perstRelease (k : BitVec 1) : exec (.perstRelease k) st = execPerstRelease k st := rfl

end Sys2Proof.Machine
end

section
/-! O59: one step of the block. -/

namespace Sys2Proof.Machine

/-- Settles O59: each clause is a branch of `step` or of `State.withFetchWord` on its own. -/
theorem stepTakesTheFrontCommand : Obligations.StepTakesTheFrontCommand := by
  intro s c rest nbits w
  have hfront : step { s with pending := c :: rest } = exec c { s with pending := rest } := rfl
  have hidle : step { s with pending := [] } = .next (State.tick { s with pending := [] }) := rfl
  have hword : decodeTableWord nbits w = none := rfl
  exact ⟨hfront, hidle, by rw [State.withFetchWord, hword]⟩

end Sys2Proof.Machine
end

section
/-! SUPPORT. Laws of register fields, and what raising events and counting errors leave unchanged. -/

namespace Sys2Proof.Machine

variable {s t r : State}

/-! ## Fields of registers -/

@[simp] theorem State.rf_setRf_same (u : RegUnit) {o lo w : Nat} (x : Nat) (h : lo + w ≤ 64) :
    (s.setRf u o lo w x).rf u o lo w = x % 2 ^ w := by
  rw [State.rf, State.reg_setRf_same, fld_setFld_same _ _ h]

/-- Another field of the register set keeps its value. -/
theorem State.rf_setRf_field (u : RegUnit) {o lo w lo' w' : Nat} (x : Nat) (h : lo + w ≤ 64) (d : lo' + w' ≤ lo ∨ lo + w ≤ lo') :
    (s.setRf u o lo w x).rf u o lo' w' = s.rf u o lo' w' := by
  rw [State.rf, State.reg_setRf_same, fld_setFld_other _ _ h d]
  rfl

/-- A field of a register at another offset keeps its value. -/
theorem State.rf_setRf_off {u u' : RegUnit} {o o' lo w lo' w' x : Nat} (h : o' % 2 ^ 29 ≠ o % 2 ^ 29) :
    (s.setRf u o lo w x).rf u' o' lo' w' = s.rf u' o' lo' w' := by
  rw [State.rf, State.reg_setRf_off s h]
  rfl

theorem State.rf_setReg_off {u u' : RegUnit} {o o' lo' w' : Nat} {v : W64} (h : o' % 2 ^ 29 ≠ o % 2 ^ 29) :
    (s.setReg u o v).rf u' o' lo' w' = s.rf u' o' lo' w' := by
  rw [State.rf, State.reg_setReg_off s v h]
  rfl

/-- A field reads from the register it stands in. -/
theorem State.rf_of_reg {u : RegUnit} {o : Nat} (h : t.reg u o = s.reg u o) (lo w : Nat) : t.rf u o lo w = s.rf u o lo w := by
  rw [State.rf, h]
  rfl

theorem fld_lt {n : Nat} (v : BitVec n) (lo w : Nat) : fld v lo w < 2 ^ w := Nat.mod_lt _ (by positivity)

theorem State.rf_lt (u : RegUnit) (o lo w : Nat) : s.rf u o lo w < 2 ^ w := fld_lt _ _ _

/-- Units have numbers of their own. -/
theorem unitCode_inj {u v : RegUnit} (h : unitCode u = unitCode v) : u = v := by
  cases u <;> cases v <;> simp only [unitCode, RegUnit.site.injEq, RegUnit.stack.injEq, RegUnit.die.injEq, RegUnit.gov.injEq] at h ⊢ <;> omega

/-- Registers of two units have different homes. -/
theorem regKey_ne_of_unit {u v : RegUnit} {a b : Nat} (h : u ≠ v) : regKey u a ≠ regKey v b :=
  regKey_unit_ne fun e => h (unitCode_inj e)

/-- A register of another unit keeps its value. -/
theorem State.reg_setReg_unit {u u' : RegUnit} {o o' : Nat} {v : W64} (h : u' ≠ u) : (s.setReg u o v).reg u' o' = s.reg u' o' :=
  s.reg_setReg_other v (regKey_ne_of_unit h)

theorem State.reg_setRf_unit {u u' : RegUnit} {o o' lo w x : Nat} (h : u' ≠ u) : (s.setRf u o lo w x).reg u' o' = s.reg u' o' :=
  State.reg_setReg_unit h

/-! ## What changes named registers only -/

theorem onlyRegs_setReg (u : RegUnit) (o : Nat) (v : W64) : s.onlyRegs (s.setReg u o v) [(u, o)] :=
  ⟨rfl, fun _ _ h => s.reg_setReg_other v (h (u, o) (List.mem_singleton.2 rfl))⟩

/-- The loss counters of the event rings, which raising an event may count (R564). -/
def lossRegs : List (RegUnit × Nat) := [(.bar0, 0x50040), (.bar0, 0x50048), (.bar0, 0x50050), (.bar0, 0x50058)]

namespace State.onlyEvents

variable {ks ls : List (RegUnit × Nat)}

theorem rfl' : s.onlyEvents s ks := ⟨rfl, fun _ _ _ => rfl⟩

theorem trans (h : s.onlyEvents t ks) (k : t.onlyEvents r ls) : s.onlyEvents r (ks ++ ls) := by
  obtain ⟨h₁, h₂⟩ := h
  obtain ⟨k₁, k₂⟩ := k
  refine ⟨?_, fun u off ho => (k₂ u off fun x hx => ho x ?_).trans (h₂ u off fun x hx => ho x ?_)⟩
  · conv_rhs => rw [← h₁, ← k₁]
  · simp only [List.mem_append] at hx ⊢
    tauto
  · simp only [List.mem_append] at hx ⊢
    tauto

/-- Naming more registers claims less. -/
theorem mono (h : s.onlyEvents t ks) (hk : ks ⊆ ls) : s.onlyEvents t ls :=
  ⟨h.1, fun u off ho => h.2 u off fun x hx => ho x <| by
    simp only [List.mem_append] at hx ⊢
    exact hx.imp_left (hk ·)⟩

theorem ofRegs (h : s.onlyRegs t ks) : s.onlyEvents t ks := by
  obtain ⟨h₁, h₂⟩ := h
  refine ⟨?_, fun u off ho => h₂ u off fun x hx => ho x (List.mem_append_left _ hx)⟩
  conv_rhs => rw [← h₁]
  rw [← h₁]

/-- A register of a unit other than BAR0 keeps its value unless it is named. -/
theorem reg (h : s.onlyEvents t ks) {u : RegUnit} {off : Nat} (hu : u ≠ .bar0) (hk : ∀ k ∈ ks, regKey u off ≠ regKey k.1 k.2) :
    t.reg u off = s.reg u off := by
  refine h.2 u off fun k hk' => ?_
  rcases List.mem_append.1 hk' with hk' | hk'
  · exact hk k hk'
  · have : k.1 = .bar0 := by
      simp only [List.mem_cons, List.not_mem_nil, or_false] at hk'
      rcases hk' with rfl | rfl | rfl | rfl <;> rfl
    exact regKey_ne_of_unit (this ▸ hu)

theorem rf (h : s.onlyEvents t ks) {u : RegUnit} {off : Nat} (lo w : Nat) (hu : u ≠ .bar0)
    (hk : ∀ k ∈ ks, regKey u off ≠ regKey k.1 k.2) : t.rf u off lo w = s.rf u off lo w :=
  State.rf_of_reg (h.reg hu hk) lo w

theorem sites (h : s.onlyEvents t ks) : t.sites = s.sites := (congrArg State.sites h.1 :)
theorem scratch (h : s.onlyEvents t ks) : t.scratch = s.scratch := (congrArg State.scratch h.1 :)
theorem host (h : s.onlyEvents t ks) : t.host = s.host := (congrArg State.host h.1 :)
theorem mgmt (h : s.onlyEvents t ks) : t.mgmt = s.mgmt := (congrArg State.mgmt h.1 :)
theorem power (h : s.onlyEvents t ks) : t.power = s.power := (congrArg State.power h.1 :)
theorem time (h : s.onlyEvents t ks) : t.time = s.time := (congrArg State.time h.1 :)

end State.onlyEvents

/-! ## Raising events (R538, R563, R564) -/

/-- One ring is offered a record, and a record that it drops is counted. -/
def State.offerRing (e : Event) (s : State) (i : Nat) : State :=
  let o := (Sparse.get EvRing.init s.evRings i).offer e
  let s := { s with evRings := Sparse.put EvRing.init s.evRings i o.1 }
  if o.2 then s.setReg .bar0 (0x50040 + 8 * i) (w64 (sat32 (s.rn .bar0 (0x50040 + 8 * i)))) else s

/-- A record is written to the log and offered to the sessions. -/
def State.logEvent (s : State) (e : Event) : State :=
  { s with
    events := (e :: s.events).take 4096
    eventSeq := s.eventSeq + 1
    unacked := if e.severity = 4 then s.unacked ++ [e.seq] else s.unacked
    sessions := s.sessions.map (Session.offer e) }

theorem State.writeEvent_eq (e : Event) :
    s.writeEvent e = [0, 1, 2, 3].foldl (State.offerRing { e with seq := s.eventSeq }) (s.logEvent { e with seq := s.eventSeq }) := rfl

theorem onlyEvents_offerRing (e : Event) {i : Nat} (hi : (RegUnit.bar0, 0x50040 + 8 * i) ∈ lossRegs) :
    s.onlyEvents (State.offerRing e s i) [] := by
  unfold State.offerRing
  dsimp only
  split
  · exact ⟨rfl, fun u off h => State.reg_setReg_other _ _ (h (.bar0, 0x50040 + 8 * i) hi)⟩
  · exact ⟨rfl, fun _ _ _ => rfl⟩

theorem onlyEvents_writeEvent (e : Event) : s.onlyEvents (s.writeEvent e) [] := by
  have hlog : s.onlyEvents (s.logEvent { e with seq := s.eventSeq }) [] := ⟨rfl, fun _ _ _ => rfl⟩
  rw [State.writeEvent_eq]
  refine List.foldlRecOn (motive := fun t => s.onlyEvents t []) [0, 1, 2, 3] _ hlog fun t ht i hi => ht.trans (onlyEvents_offerRing _ ?_)
  fin_cases hi <;> simp [lossRegs]

@[simp] theorem State.offerRing_events (e : Event) (i : Nat) : (State.offerRing e s i).events = s.events := by
  unfold State.offerRing
  dsimp only
  split <;> rfl

theorem State.events_writeEvent (e : Event) : (s.writeEvent e).events = ({ e with seq := s.eventSeq } :: s.events).take 4096 := by
  rw [State.writeEvent_eq]
  simp [State.logEvent]

/-- Raising an event writes its record, then one for each loss counter that it saturates, then at most one EVENTS_LOST. -/
theorem State.raise_writes (e : Event) : ∃ l : List Event, l.length ≤ 5 ∧ s.raise e = l.foldl State.writeEvent (s.writeEvent e) := by
  let full (st : State) (i : Nat) : Bool := st.rn .bar0 (0x50040 + 8 * i) == 0xFFFFFFFF
  let sat := ([0, 1, 2, 3].filter fun i => full (s.writeEvent e) i && !full s i).map fun i =>
    (⟨0x9FFF, 1, 0, 0, 0xFF, 0, e.time, 0, 0xFF, [0, 2, w64 (0x50040 + 8 * i)]⟩ : Event)
  have hsat : sat.length ≤ 4 := by
    rw [List.length_map]
    exact List.length_filter_le _ _
  unfold State.raise
  dsimp only
  split
  next i _ =>
    refine ⟨sat ++ [⟨0x9018, 1, 0, 0, 0xFF, 0, e.time, 0, 0xFF, [w64 i, w64 s.eventSeq.toNat]⟩], by simpa using Nat.succ_le_succ hsat, ?_⟩
    rw [List.foldl_append, List.foldl_map]
    rfl
  next => exact ⟨sat, by omega, by rw [List.foldl_map]⟩

theorem onlyEvents_raise (e : Event) : s.onlyEvents (s.raise e) [] := by
  obtain ⟨l, _, h⟩ := State.raise_writes (s := s) e
  rw [h]
  exact List.foldlRecOn (motive := fun t => s.onlyEvents t []) l _ (onlyEvents_writeEvent e) fun t ht f _ => ht.trans (onlyEvents_writeEvent f)

theorem onlyEvents_event (code kind id part lcid : Nat) (detail : List Nat) :
    s.onlyEvents (s.event code kind id part lcid detail) [] := onlyEvents_raise _

/-- A record that stands among the first `n` of the log. -/
def State.logs (s : State) (n : Nat) (e : Event) : Prop := ∃ i, i < n ∧ s.events[i]? = some e

theorem State.logs_writeEvent_new (e : Event) : (s.writeEvent e).logs 1 { e with seq := s.eventSeq } :=
  ⟨0, Nat.one_pos, by simp [State.events_writeEvent]⟩

/-- Another record moves one back. -/
theorem State.logs.writeEvent {n : Nat} {e : Event} (h : s.logs n e) (hn : n < 4096) (f : Event) : (s.writeEvent f).logs (n + 1) e := by
  obtain ⟨i, hi, he⟩ := h
  refine ⟨i + 1, by omega, ?_⟩
  have hi' : i + 1 < 4096 := by omega
  rw [State.events_writeEvent, List.getElem?_take_of_lt hi', List.getElem?_cons_succ, he]

theorem State.logs.writeAll {e : Event} : ∀ (l : List Event) {s : State} {n : Nat}, s.logs n e → n + l.length ≤ 4096 →
    (l.foldl State.writeEvent s).logs (n + l.length) e
  | [], _, _, h, _ => h
  | f :: l, _, n, h, hn => by
    simp only [List.length_cons] at hn ⊢
    rw [show n + (l.length + 1) = n + 1 + l.length by omega]
    exact State.logs.writeAll l (h.writeEvent (by omega) f) (by omega)

/-- What is raised stands in the log with the sequence number of the moment. -/
theorem State.mem_raise (e : Event) : { e with seq := s.eventSeq } ∈ (s.raise e).events := by
  obtain ⟨l, hl, h⟩ := State.raise_writes (s := s) e
  obtain ⟨_, _, hi⟩ := (State.logs_writeEvent_new (s := s) e).writeAll l (by omega)
  rw [h]
  exact List.mem_of_getElem? hi

theorem raised_event (code kind id part lcid : Nat) (detail : List Nat) :
    s.raised (s.event code kind id part lcid detail) (BitVec.ofNat 16 code) ((detail.take 5).map w64) :=
  ⟨_, State.mem_raise _, rfl, rfl, rfl, rfl⟩

/-- An event raised after changes that raise none. -/
theorem State.raised.of_eq {code : W16} {detail : List W64} (h : t.raised r code detail) (hseq : t.eventSeq = s.eventSeq)
    (htime : t.time = s.time) : s.raised r code detail := by
  obtain ⟨e, he, hcode, hs, ht, hd⟩ := h
  exact ⟨e, he, hcode, hs.trans hseq, ht.trans (by rw [htime]), hd⟩

/-! ## Error counters (R16) -/

theorem onlyEvents_saturated (u : RegUnit) (off : Nat) : s.onlyEvents (s.saturated u off) [] := by
  cases u <;> exact onlyEvents_event ..

theorem onlyEvents_setRf (u : RegUnit) (o lo w x : Nat) : s.onlyEvents (s.setRf u o lo w x) [(u, o)] :=
  .ofRegs (onlyRegs_setReg ..)

theorem onlyEvents_setReg (u : RegUnit) (o : Nat) (v : W64) : s.onlyEvents (s.setReg u o v) [(u, o)] :=
  .ofRegs (onlyRegs_setReg ..)

theorem onlyEvents_count32 (u : RegUnit) (off : Nat) : s.onlyEvents (s.count32 u off) [(u, off)] := by
  unfold State.count32
  dsimp only
  split
  · split
    · exact (onlyEvents_setRf ..).trans (onlyEvents_saturated ..)
    · exact onlyEvents_setRf ..
  · exact .rfl'

theorem onlyEvents_count32n (u : RegUnit) (off : Nat) : ∀ (n : Nat) {s : State}, s.onlyEvents (s.count32n u off n) [(u, off)]
  | 0, _ => .rfl'
  | n + 1, _ => ((onlyEvents_count32 u off).trans (onlyEvents_count32n u off n)).mono (by simp)

/-- A counter below saturation takes one more, and nothing else happens. -/
theorem State.count32_room {u : RegUnit} {off : Nat} (h : s.rf u off 0 32 < 0xFFFFFFFE) :
    s.count32 u off = s.setRf u off 0 32 (s.rf u off 0 32 + 1) := by
  have h₁ : s.rf u off 0 32 < 0xFFFFFFFF := by omega
  have h₂ : s.rf u off 0 32 + 1 ≠ 0xFFFFFFFF := by omega
  unfold State.count32
  rw [if_pos h₁, if_neg h₂]

theorem State.rf_count32_room {u : RegUnit} {off : Nat} (h : s.rf u off 0 32 < 0xFFFFFFFE) :
    (s.count32 u off).rf u off 0 32 = s.rf u off 0 32 + 1 := by
  rw [State.count32_room h, State.rf_setRf_same _ _ (by omega)]
  omega

end Sys2Proof.Machine
end

section
/-! SUPPORT. What a packet's way counts, what failing a partition's step changes, and the freeze of a core (R156, R335, R518). -/

namespace Sys2Proof.Machine

variable {s t r : State}

/-! ## Routes -/

/-- A hop of a leg leaves on one of two tracks of one of two courses. -/
theorem legHops_bounds {a b : Nat} {long : Bool} {h : Nat × Nat × Nat} (hh : h ∈ legHops a b long) : h.2.1 ≤ 1 ∧ h.2.2 ≤ 1 := by
  have hleg : ∀ {f : Nat → Nat} {l : List Nat} {track course : Nat}, track ≤ 1 → course ≤ 1 →
      h ∈ l.map (fun i => (f i, track, course)) → h.2.1 ≤ 1 ∧ h.2.2 ≤ 1 := by
    intro f l track course ht hc hm
    obtain ⟨i, _, rfl⟩ := List.mem_map.1 hm
    exact ⟨ht, hc⟩
  unfold legHops at hh
  dsimp only at hh
  split_ifs at hh
  · cases hh
  · rcases List.mem_append.1 hh with hh | hh
    · rcases List.mem_append.1 hh with hh | hh <;> exact hleg (by omega) (by omega) hh
    · exact hleg (by omega) (by omega) hh
  · exact hleg (by omega) (by omega) hh
  · rcases List.mem_append.1 hh with hh | hh
    · rcases List.mem_append.1 hh with hh | hh <;> exact hleg (by omega) (by omega) hh
    · exact hleg (by omega) (by omega) hh
  · exact hleg (by omega) (by omega) hh

/-- The tracks of a route are numbered below 8, as RQ_FLITSt are. -/
theorem State.path_track_lt {src dst : Place} {v : Nat} {h : Fin 168 × Nat} (hh : h ∈ s.path src dst v) : h.2 < 8 := by
  have hrow : ∀ {row a b : Nat} {long : Bool}, h ∈ (legHops a b long).map (fun x => (siteAt row x.1, x.2.2 * 2 + x.2.1)) → h.2 < 8 := by
    intro row a b long hm
    obtain ⟨x, hx, rfl⟩ := List.mem_map.1 hm
    have := legHops_bounds hx
    dsimp only
    omega
  have hcol : ∀ {col a b : Nat} {long : Bool}, h ∈ (legHops a b long).filterMap (fun x =>
      if 1 ≤ x.1 && x.1 ≤ 12 then some (siteAt (x.1 - 1) col, 4 + x.2.2 * 2 + x.2.1) else none) → h.2 < 8 := by
    intro col a b long hm
    obtain ⟨x, hx, he⟩ := List.mem_filterMap.1 hm
    have := legHops_bounds hx
    split at he
    · obtain rfl := Option.some.inj he
      dsimp only
      omega
    · cases he
  unfold State.path at hh
  dsimp only at hh
  split at hh
  · exact (List.mem_append.1 hh).elim hcol hrow
  · exact (List.mem_append.1 hh).elim hrow hcol

/-! ## Failing a step -/

/-- The second state differs from the first in what failing a partition's step changes: events, partitions, packets in flight, and the counters of the
tracks that the packets cross. -/
def State.onlyStepFail (s t : State) : Prop :=
  { t with regs := s.regs, eventSeq := s.eventSeq, events := s.events, unacked := s.unacked, evRings := s.evRings, sessions := s.sessions,
           parts := s.parts, net := s.net } = s ∧
    ∀ u off, u ≠ .bar0 → (off % 2 ^ 29 < 0x18710100 ∨ 0x18710140 ≤ off % 2 ^ 29) → t.reg u off = s.reg u off

namespace State.onlyStepFail

theorem rfl' : s.onlyStepFail s := ⟨rfl, fun _ _ _ _ => rfl⟩

theorem trans (h : s.onlyStepFail t) (k : t.onlyStepFail r) : s.onlyStepFail r := by
  obtain ⟨h₁, h₂⟩ := h
  obtain ⟨k₁, k₂⟩ := k
  refine ⟨?_, fun u off hu ho => (k₂ u off hu ho).trans (h₂ u off hu ho)⟩
  conv_rhs => rw [← h₁, ← k₁]

theorem ofEvents (h : s.onlyEvents t []) : s.onlyStepFail t :=
  ⟨(congrArg (fun x : State => { x with parts := s.parts, net := s.net }) h.1 :), fun _ _ hu _ => h.reg hu (by simp)⟩

theorem sites (h : s.onlyStepFail t) : t.sites = s.sites := (congrArg State.sites h.1 :)
theorem scratch (h : s.onlyStepFail t) : t.scratch = s.scratch := (congrArg State.scratch h.1 :)

end State.onlyStepFail

/-- Counting the flits of a route changes the counters of its tracks alone. -/
theorem onlyStepFail_countPath {hops : List (Fin 168 × Nat)} (hh : ∀ h ∈ hops, h.2 < 8) (flits : Nat) :
    s.onlyStepFail (s.countPath hops flits) := by
  refine List.foldlRecOn (motive := fun t => s.onlyStepFail t) hops _ .rfl' fun t ht h hm => ht.trans ⟨rfl, fun u off _ ho => ?_⟩
  have := hh h hm
  exact State.reg_count64_off t (by omega)

theorem onlyStepFail_inject (src : Place) (k : Packet) : s.onlyStepFail (s.inject src k) := by
  have hnet : ∀ (t : State) (l : List Flight), t.onlyStepFail { t with net := l } := fun _ _ => ⟨rfl, fun _ _ _ _ => rfl⟩
  unfold State.inject
  dsimp only
  split
  · split
    · exact hnet _ _
    · exact .rfl'
  · split
    · exact (onlyStepFail_countPath (fun h hm => State.path_track_lt hm) _).trans (hnet _ _)
    · exact hnet _ _

theorem onlyStepFail_setPart (tag : Nat) (x : Option Partition) : s.onlyStepFail (s.setPart tag x) := ⟨rfl, fun _ _ _ _ => rfl⟩

theorem onlyStepFail_failStep (tag cause code w lb : Nat) : s.onlyStepFail (s.failStep tag cause code w lb) := by
  unfold State.failStep
  split
  · split
    · dsimp only
      refine List.foldlRecOn (motive := fun t => s.onlyStepFail t) _ _ ?_ fun t ht c _ => ht.trans (onlyStepFail_inject _ _)
      exact ((onlyStepFail_setPart _ _).trans (.ofEvents (onlyEvents_event ..))).trans (.ofEvents (onlyEvents_event ..))
    · exact .rfl'
  · exact .rfl'

theorem onlyStepFail_failCoreStep (p : Fin 168) (code : Nat) : s.onlyStepFail (s.failCoreStep p code) := by
  unfold State.failCoreStep
  split
  · exact onlyStepFail_failStep ..
  · exact .rfl'

/-! ## Violations of a core -/

/-- The registers that recording a violation fills: VIOL_COUNT and the three FREEZE registers (R519). -/
def violRegs (p : Fin 168) : List (RegUnit × Nat) :=
  [(.site p, 0x18000028), (.site p, 0x18000010), (.site p, 0x18000018), (.site p, 0x18000020)]

theorem onlyEvents_recordViolation (p : Fin 168) (master detector target unit code detId addr : Nat) :
    s.onlyEvents (s.recordViolation p master detector target unit code detId addr) (violRegs p) := by
  unfold State.recordViolation
  dsimp only
  split
  · exact (((onlyEvents_count32 ..).trans (onlyEvents_setReg ..)).trans (onlyEvents_setReg ..)).trans (onlyEvents_setReg ..)
  · exact (onlyEvents_count32 ..).mono (by simp [violRegs])

/-- An access violation of a running core freezes it, with the address in EINFO (R156). -/
theorem accessViolation_freezes (p : Fin 168) (addr : W64) (word : W32) (h : s.coreRuns p = true) :
    let t := s.accessViolation p addr word
    t.coreState p = 3 ∧ (t.cc p).ecause = 0x04 ∧ (t.cc p).einfo = addr ∧ t.scratch = s.scratch := by
  let s₁ := s.updCc p fun c => { c with epc := c.pc, ecause := 0x04, einfo := addr }
  let s₂ := s₁.recordViolation p 1 0 (s₁.lcidOf p) 0 0x9001 p.val addr.toNat
  let s₃ := s₂.coreEvent p 0x9001 [1, addr.toNat, word.toNat]
  have h₃ : s₁.onlyEvents s₃ (violRegs p) := ((onlyEvents_recordViolation ..).trans (onlyEvents_event ..)).mono (by simp)
  have hstate : s₃.coreState p = s.coreState p := by
    refine h₃.rf (s := s₁) 0 4 (by simp) fun k hk => ?_
    simp only [violRegs, List.mem_cons, List.not_mem_nil, or_false] at hk
    rcases hk with rfl | rfl | rfl | rfl <;> exact regKey_ne (by norm_num)
  have hruns : s₃.coreRuns p = true := by rwa [State.coreRuns, hstate]
  have hfail := onlyStepFail_failCoreStep (s := s₃.setCoreState p 3) p 0x9001
  have ht : s.accessViolation p addr word = (s₃.setCoreState p 3).failCoreStep p 0x9001 := by
    show s₃.freezeCore p 0x9001 = _
    rw [State.freezeCore, if_pos hruns]
  have hcc : (s.accessViolation p addr word).cc p = s₁.cc p := by
    simp only [ht, State.cc, State.site, hfail.sites, State.setCoreState_sites, h₃.sites]
  refine ⟨?_, by rw [hcc, State.cc_updCc_same], by rw [hcc, State.cc_updCc_same], ?_⟩
  · rw [ht, State.coreState, State.rf_of_reg (hfail.2 (.site p) 0x18000000 (by simp) (by norm_num))]
    exact State.rf_setRf_same _ _ (by norm_num)
  · rw [ht, hfail.scratch, State.setCoreState_scratch, h₃.scratch]
    rfl

end Sys2Proof.Machine
end

section
/-! O51: register accesses of each master. -/

namespace Sys2Proof.Machine

variable {s : State}

/-! ## One register with one field -/

/-- A write of a register whose only field is RW sets that field, and nothing else happens. -/
theorem plainWrite_rw {u : RegUnit} {off w : Nat} (hf : regFields u off = [⟨0, w, .rw⟩]) (hw : w ≤ 64) (locked : Bool) (v : W64) :
    (s.plainWrite u off locked v).rf u off 0 w = fld v 0 w ∧ s.onlyRegs (s.plainWrite u off locked v) [(u, off)] := by
  have he : s.plainWrite u off locked v = s.setRf u off 0 w (fld v 0 w) := by
    unfold State.plainWrite
    rw [hf]
    rfl
  rw [he, State.rf_setRf_same u _ (by omega)]
  exact ⟨Nat.mod_eq_of_lt (fld_lt _ _ _), onlyRegs_setReg ..⟩

/-- A read of a register whose only field is RC clears that field, and nothing else happens. -/
theorem regClear_rc {u : RegUnit} {off w : Nat} (hf : regFields u off = [⟨0, w, .rc⟩]) (hw : w ≤ 64) :
    (s.regClear u off).rf u off 0 w = 0 ∧ s.onlyRegs (s.regClear u off) [(u, off)] := by
  have he : s.regClear u off = s.setRf u off 0 w 0 := by
    unfold State.regClear
    rw [hf]
    rfl
  rw [he, State.rf_setRf_same u _ (by omega)]
  exact ⟨Nat.zero_mod _, onlyRegs_setReg ..⟩

/-- A read of a register without an RC field leaves it alone. -/
theorem regClear_none {u : RegUnit} {off : Nat} (hf : ((regFields u off).any fun f => f.acc == .rc) = false) : s.regClear u off = s := by
  unfold State.regClear
  rw [hf]
  rfl

/-- A register with fields stands in its unit's map. -/
theorem regRow_isSome {u : RegUnit} {off : Nat} (hf : regFields u off ≠ []) : (regRow u off).isNone = false := by
  unfold regFields at hf
  split at hf
  next h => rw [h]; rfl
  next => exact absurd rfl hf

/-! ## Maps -/

theorem regFields_thermPolicy : regFields .mgmt 0x00120008 = [⟨0, 8, .rw⟩] := by decide

theorem regFields_rqCrcCount (p : Fin 168) : regFields (.site p) 0x187001B0 = [⟨0, 32, .rc⟩] := by
  rw [show regFields (.site p) 0x187001B0 = regFields (.site 0) 0x187001B0 from rfl]
  decide

/-- EVRr_CONS. -/
theorem regFields_evrCons (r : Fin 4) : regFields .bar0 (0x50000 + 16 * r.val) = [⟨0, 32, .rw⟩] := by
  fin_cases r <;> decide

/-- EVRr_LOST. -/
theorem regFields_evrLost (r : Fin 4) : regFields .bar0 (0x50040 + 8 * r.val) = [⟨0, 32, .rc⟩] := by
  fin_cases r <;> decide

/-! ## The masters -/

theorem policyOk_therm (v : W64) : policyOk 0x00120008 v = true ↔ 80 ≤ fld v 0 8 ∧ fld v 0 8 ≤ 105 := by
  simp [policyOk]

/-- The active management die writes THERM_POLICY within its range. -/
theorem mgmtWrite_therm {v : W64} (h : policyOk 0x00120008 v = true) :
    s.mgmtWrite .mgmt 0x00120008 v = s.plainWrite .mgmt 0x00120008 false v := by
  unfold State.mgmtWrite State.mgmtRegWrite
  simp [regRow_isSome (u := .mgmt) (off := 0x00120008) (by simp [regFields_thermPolicy]), h]

theorem mgmtWrite_therm_bad {v : W64} (h : policyOk 0x00120008 v = false) : s.mgmtWrite .mgmt 0x00120008 v = s := by
  unfold State.mgmtWrite State.mgmtRegWrite
  simp [h]

/-- A core that runs and writes a register of another unit freezes (R39, R156). -/
theorem execRegisterWrite_foreign {p : Site} {u : RegUnit} (hu : u ≠ .site p) (off : BitVec 29) (v : W64) :
    execRegisterWrite (.core p) u off v s = .next (s.regViolation p u off.toNat) := by
  simp [execRegisterWrite, hu]

theorem regViolation_freezes {p : Fin 168} (u : RegUnit) (off : Nat) (h : s.coreRuns p = true) :
    let t := s.regViolation p u off
    t.coreState p = 3 ∧ (t.cc p).ecause = 0x04 ∧ (t.cc p).einfo = s.panelAddr u off ∧ t.scratch = s.scratch := by
  unfold State.regViolation
  rw [if_pos h]
  exact accessViolation_freezes (s := s.draw) p _ _ h

/-- A core that does not run makes no access. -/
theorem execRegisterWrite_stopped {p : Site} (u : RegUnit) (off : BitVec 29) (v : W64) (h : s.coreRuns p = false) :
    execRegisterWrite (.core p) u off v s = .next s := by
  have hviol : s.regViolation p u off.toNat = s := by simp [State.regViolation, h]
  unfold execRegisterWrite
  dsimp only
  split
  · split
    · simp [h]
    · rw [hviol]
  · rw [hviol]

/-- Settles O51: each master's accesses, one register of each kind. -/
theorem registerRows : Obligations.RegisterRows := by
  intro s p q u off v r
  have hcons : (BitVec.ofNat 29 (0x50000 + 16 * r.val)).toNat = 0x50000 + 16 * r.val := by simp; omega
  have hlost : (BitVec.ofNat 29 (0x50040 + 8 * r.val)).toNat = 0x50040 + 8 * r.val := by simp; omega
  refine ⟨fun h₁ h₂ => ?_, fun h => ?_, rfl, fun hu => ?_, ?_, fun hu h => ?_, fun h => ?_, ?_, ?_, ?_, fun hu => ?_⟩
  · obtain ⟨hrf, honly⟩ := plainWrite_rw (s := s) regFields_thermPolicy (by omega) false v
    refine ⟨_, ?_, hrf, honly⟩
    rw [← mgmtWrite_therm ((policyOk_therm v).2 ⟨h₁, h₂⟩)]
    rfl
  · have hbad : policyOk 0x00120008 v = false := by
      rw [← Bool.not_eq_true, policyOk_therm]
      omega
    exact congrArg _ (mgmtWrite_therm_bad hbad)
  · simp [execRegisterWrite, hu]
  · obtain ⟨hrf, honly⟩ := plainWrite_rw (s := s) (regFields_evrCons r) (by omega) false v
    have hrow : (regRow .bar0 (0x50000 + 16 * r.val)).isNone = false := regRow_isSome (by simp [regFields_evrCons])
    refine ⟨_, ?_, hrf, honly⟩
    simp only [exec_registerWrite, execRegisterWrite, hcons, State.hostWrite, hrow, if_true, Bool.false_eq_true, if_false]
  · exact ⟨_, execRegisterWrite_foreign hu off v, regViolation_freezes u off.toNat h⟩
  · exact execRegisterWrite_stopped u off v h
  · obtain ⟨hrf, honly⟩ := regClear_rc (s := s) (regFields_rqCrcCount q) (by omega)
    exact ⟨_, rfl, hrf, honly⟩
  · obtain ⟨hrf, honly⟩ := regClear_rc (s := s) (regFields_evrLost r) (by omega)
    refine ⟨_, ?_, hrf, honly⟩
    simp [execReadClear, hlost]
  · have := regClear_none (s := s) (u := .mgmt) (off := 0x00120008) (by simp [regFields_thermPolicy])
    exact congrArg _ this
  · simp [execReadClear, hu]

end Sys2Proof.Machine
end

section
/-! SUPPORT. Ceilings and the clock control: what they leave unchanged, and that an input at LOW brings every ceiling to F0 (R428, R443, R464). -/

namespace Sys2Proof.Machine

variable {s t r : State}

/-! ## Folds -/

/-- What the step at one element establishes, and every other step keeps, holds once the element has been passed; `I` may be assumed of every state on
the way. -/
theorem foldl_of_mem {α β : Type} {I P : β → Prop} {f : β → α → β} {a : α} (hI : ∀ t b, I t → I (f t b)) (hset : ∀ t, I t → P (f t a))
    (hkeep : ∀ t b, I t → P t → P (f t b)) {l : List α} (ha : a ∈ l) {s : β} (hs : I s) : P (l.foldl f s) := by
  induction l generalizing s with
  | nil => cases ha
  | cons b l ih =>
    rcases List.mem_cons.1 ha with rfl | ha
    · have : I (l.foldl f (f s a)) ∧ P (l.foldl f (f s a)) :=
        List.foldlRecOn (motive := fun t => I t ∧ P t) l f ⟨hI _ _ hs, hset _ hs⟩ fun t ht b _ => ⟨hI _ _ ht.1, hkeep _ _ ht.1 ht.2⟩
      exact this.2
    · exact ih ha (hI _ _ hs)

/-! ## What the clock control changes -/

/-- The second state differs from the first in registers at some offsets below 2^29 and in structures of sites. -/
def State.onlyClocks (s t : State) (offs : List Nat) : Prop :=
  { t with regs := s.regs, sites := s.sites } = s ∧ ∀ u off, (∀ o ∈ offs, off % 2 ^ 29 ≠ o) → t.reg u off = s.reg u off

namespace State.onlyClocks

variable {as bs : List Nat}

theorem rfl' : s.onlyClocks s as := ⟨rfl, fun _ _ _ => rfl⟩

theorem trans (h : s.onlyClocks t as) (k : t.onlyClocks r as) : s.onlyClocks r as := by
  obtain ⟨h₁, h₂⟩ := h
  obtain ⟨k₁, k₂⟩ := k
  refine ⟨?_, fun u off ho => (k₂ u off ho).trans (h₂ u off ho)⟩
  conv_rhs => rw [← h₁, ← k₁]

/-- Naming more offsets claims less. -/
theorem mono (h : s.onlyClocks t as) (hs : as ⊆ bs) : s.onlyClocks t bs := ⟨h.1, fun u off ho => h.2 u off fun o hm => ho o (hs hm)⟩

theorem scratch (h : s.onlyClocks t as) : t.scratch = s.scratch := (congrArg State.scratch h.1 :)
theorem power (h : s.onlyClocks t as) : t.power = s.power := (congrArg State.power h.1 :)
theorem time (h : s.onlyClocks t as) : t.time = s.time := (congrArg State.time h.1 :)
theorem eventSeq (h : s.onlyClocks t as) : t.eventSeq = s.eventSeq := (congrArg State.eventSeq h.1 :)

end State.onlyClocks

/-- CLK_STATUS of a site. -/
abbrev clkOffs : List Nat := [0x18600000]

theorem onlyClocks_updClk (p : Fin 168) (f : ClkSt → ClkSt) : s.onlyClocks (s.updClk p f) clkOffs := ⟨rfl, fun _ _ _ => rfl⟩

theorem onlyClocks_setRf {u : RegUnit} {o lo w x : Nat} {offs : List Nat} (h : o % 2 ^ 29 ∈ offs) : s.onlyClocks (s.setRf u o lo w x) offs :=
  ⟨rfl, fun _ _ ho => State.reg_setRf_off s (ho _ h)⟩

theorem onlyClocks_setClk (p : Fin 168) (b : Nat) (v : Bool) : s.onlyClocks (s.setClk p b v) clkOffs :=
  onlyClocks_setRf (by simp)

theorem onlyClocks_setPll (p : Fin 168) (pllB : Bool) (f : Option Nat) : s.onlyClocks (s.setPll p pllB f) clkOffs :=
  (onlyClocks_updClk ..).trans (onlyClocks_setClk ..)

theorem onlyClocks_startChange (p : Fin 168) (f : Nat) : s.onlyClocks (s.startChange p f) clkOffs := by
  have hstart : s.onlyClocks ((s.updClk p fun x => { x with target := some f }).setClk p 0 true) clkOffs :=
    (onlyClocks_updClk ..).trans (onlyClocks_setClk ..)
  unfold State.startChange
  dsimp only
  split
  · exact (hstart.trans (onlyClocks_setClk ..)).trans (onlyClocks_setClk ..)
  · split
    · exact (hstart.trans (onlyClocks_setClk ..)).trans (onlyClocks_setClk ..)
    · exact ((hstart.trans (onlyClocks_setPll ..)).trans (onlyClocks_setClk ..)).trans (onlyClocks_setClk ..)

theorem onlyClocks_clockEval (p : Fin 168) : s.onlyClocks (s.clockEval p) clkOffs := by
  unfold State.clockEval
  dsimp only
  split
  · exact .rfl'
  · split <;> split
    · exact .rfl'
    · exact onlyClocks_startChange ..
    · exact .rfl'
    · exact onlyClocks_startChange ..

/-! ## Ceilings -/

/-- The ceiling of one core is written. -/
def State.setCeiling (s : State) (p : Fin 168) : State := (s.setRf (.site p) 0x18600010 8 4 (s.ceiling p)).clockEval p

theorem State.setCeilings_eq (ps : List (Fin 168)) : s.setCeilings ps = ps.foldl State.setCeiling s := rfl

theorem onlyClocks_setCeiling (p : Fin 168) : s.onlyClocks (s.setCeiling p) [0x18600000, 0x18600010] :=
  (onlyClocks_setRf (o := 0x18600010) (by simp)).trans ((onlyClocks_clockEval p).mono (by simp))

theorem onlyClocks_setCeilings (ps : List (Fin 168)) : s.onlyClocks (s.setCeilings ps) [0x18600000, 0x18600010] :=
  List.foldlRecOn (motive := fun t => s.onlyClocks t [0x18600000, 0x18600010]) ps State.setCeiling .rfl'
    fun _ ht p _ => ht.trans (onlyClocks_setCeiling p)

/-- A ceiling stands as it is written. -/
theorem State.rf_setCeiling_same (p : Fin 168) : (s.setCeiling p).rf (.site p) 0x18600010 8 4 = s.ceiling p % 2 ^ 4 := by
  rw [State.setCeiling, State.rf_of_reg ((onlyClocks_clockEval p).2 _ _ (by simp)), State.rf_setRf_same _ _ (by norm_num)]

theorem State.rf_setCeiling_other {p q : Fin 168} (h : q ≠ p) :
    (s.setCeiling p).rf (.site q) 0x18600010 8 4 = s.rf (.site q) 0x18600010 8 4 := by
  have hu : RegUnit.site q ≠ .site p := by simpa using h
  rw [State.setCeiling, State.rf_of_reg ((onlyClocks_clockEval p).2 _ _ (by simp)), State.rf_of_reg (State.reg_setRf_unit hu)]

/-- While the input keeps the ceilings at F0, every ceiling that is written is F0. -/
theorem State.rf_allCeilings_zero (h : s.power.inputF0 = true) (p : Fin 168) : s.allCeilings.rf (.site p) 0x18600010 8 4 = 0 := by
  have hzero : ∀ (t : State) (q : Fin 168), t.power.inputF0 = true → (t.setCeiling q).rf (.site q) 0x18600010 8 4 = 0 := by
    intro t q ht
    rw [State.rf_setCeiling_same, State.ceiling, ht]
    rfl
  refine foldl_of_mem (I := fun t => t.power.inputF0 = true) (P := fun t => t.rf (.site p) 0x18600010 8 4 = 0) (f := State.setCeiling) ?_ ?_ ?_
    (List.mem_finRange p) h
  · intro t q ht
    rwa [(onlyClocks_setCeiling q).power]
  · exact fun t ht => hzero t p ht
  · intro t q ht hp
    by_cases hq : p = q
    · rw [← hq]
      exact hzero t p ht
    · rwa [State.rf_setCeiling_other hq]

end Sys2Proof.Machine
end

section
/-! O37: the feeds, the input and its meters. -/

namespace Sys2Proof.Machine

variable {s t : State}

/-! ## Feeds (R439, R441) -/

/-- SINGLE_FEED agrees with the connected feeds (R441). -/
def State.singleFeedOk (t : State) : Prop :=
  t.rf .mgmt 0x00100000 4 1 = b01 (t.rf .mgmt 0x00100000 2 1 + t.rf .mgmt 0x00100000 3 1 == 1)

/-- Noting the feeds leaves the other fields of IN_STATUS alone. -/
theorem State.rf_noteFeeds {lo w : Nat} (h : lo + w ≤ 4 ∨ 5 ≤ lo) : s.noteFeeds.rf .mgmt 0x00100000 lo w = s.rf .mgmt 0x00100000 lo w := by
  unfold State.noteFeeds
  rw [State.rf_setRf_off (by norm_num), State.rf_setRf_field _ _ (by norm_num) h]

theorem State.singleFeedOk_noteFeeds : s.noteFeeds.singleFeedOk := by
  have hbit : s.noteFeeds.rf .mgmt 0x00100000 4 1 = b01 (s.rf .mgmt 0x00100000 2 1 + s.rf .mgmt 0x00100000 3 1 == 1) := by
    unfold State.noteFeeds
    dsimp only
    rw [State.rf_setRf_off (by norm_num), State.rf_setRf_same _ _ (by norm_num)]
    exact Nat.mod_eq_of_lt (Bool.toNat_lt _)
  rw [State.singleFeedOk, hbit, State.rf_noteFeeds (by omega), State.rf_noteFeeds (by omega)]

/-- SINGLE_FEED is a matter of IN_STATUS alone. -/
theorem State.singleFeedOk.of_reg (h : s.singleFeedOk) (hr : t.reg .mgmt 0x00100000 = s.reg .mgmt 0x00100000) : t.singleFeedOk := by
  unfold State.singleFeedOk at *
  rwa [State.rf_of_reg hr, State.rf_of_reg hr, State.rf_of_reg hr]

theorem onlyEvents_noteFeeds : s.onlyEvents s.noteFeeds [(.mgmt, 0x00100000), (.mgmt, 0x00110000)] :=
  (onlyEvents_setRf ..).trans (onlyEvents_setRf ..)

/-- IN_STATUS with VALID and CONNECTED of a feed set to one value. -/
def State.setFeed (s : State) (i v : Nat) : State := (s.setRf .mgmt 0x00100000 i 1 v).setRf .mgmt 0x00100000 (2 + i) 1 v

theorem State.rf_setFeed {i v : Nat} (hi : i < 2) (hv : v < 2) :
    (s.setFeed i v).rf .mgmt 0x00100000 i 1 = v ∧ (s.setFeed i v).rf .mgmt 0x00100000 (2 + i) 1 = v := by
  unfold State.setFeed
  rw [State.rf_setRf_field _ _ (by omega) (by omega), State.rf_setRf_same _ _ (by omega), State.rf_setRf_same _ _ (by omega)]
  exact ⟨Nat.mod_eq_of_lt hv, Nat.mod_eq_of_lt hv⟩

theorem b01_lt (b : Bool) : b01 b < 2 := Bool.toNat_lt b

/-- A feed connects: it is CONNECTED and VALID, and FEED_CONNECTED is raised. -/
theorem feedConnect_effect {b : Bool} (h : s.rf .mgmt 0x00100000 (2 + b01 b) 1 = 0) :
    ∃ t, execFeedConnect b s = .next t ∧ t.rf .mgmt 0x00100000 (b01 b) 1 = 1 ∧ t.rf .mgmt 0x00100000 (2 + b01 b) 1 = 1 ∧ t.singleFeedOk ∧
      s.raised t 0x4011 [w64 (b01 b)] ∧ s.onlyEvents t [(.mgmt, 0x00100000), (.mgmt, 0x00110000)] := by
  have hb := b01_lt b
  have hev := onlyEvents_event (s := (s.setFeed (b01 b) 1).noteFeeds) 0x4011 0 0 0xFF 0xFF [b01 b]
  have hreg := hev.reg (u := .mgmt) (off := 0x00100000) (by simp) (by simp)
  obtain ⟨hvalid, hconn⟩ := State.rf_setFeed (s := s) hb (v := 1) (by omega)
  refine ⟨((s.setFeed (b01 b) 1).noteFeeds).event 0x4011 0 0 0xFF 0xFF [b01 b], ?_, ?_, ?_, State.singleFeedOk_noteFeeds.of_reg hreg, ?_, ?_⟩
  · rw [execFeedConnect, if_neg (by omega)]
    rfl
  · rw [State.rf_of_reg hreg, State.rf_noteFeeds (by omega), hvalid]
  · rw [State.rf_of_reg hreg, State.rf_noteFeeds (by omega), hconn]
  · exact (raised_event ..).of_eq rfl rfl
  · exact ((((onlyEvents_setRf ..).trans (onlyEvents_setRf ..)).trans onlyEvents_noteFeeds).trans hev).mono (by simp)

/-- The cause that a disconnected feed's last sample shows (R439), else a free value. -/
def State.lossCause (s : State) (mv : Nat) : Nat :=
  if mv < 36000 then 0 else if 72000 < mv then 2 else if 60000 < mv then 1 else Config.freeNat s.free % 3

/-- A feed disconnects: it is neither CONNECTED nor VALID, and FEED_LOST is counted and raised with its cause. -/
theorem feedDisconnect_effect {b : Bool} (h : s.rf .mgmt 0x00100000 (2 + b01 b) 1 = 1) (room : s.rf .mgmt 0x00100108 0 32 < 0xFFFFFFFE) :
    ∃ t, execFeedDisconnect b s = .next t ∧ t.rf .mgmt 0x00100000 (b01 b) 1 = 0 ∧ t.rf .mgmt 0x00100000 (2 + b01 b) 1 = 0 ∧ t.singleFeedOk ∧
      t.rf .mgmt 0x00100108 0 32 = s.rf .mgmt 0x00100108 0 32 + 1 ∧
      s.raised t 0x4010 [w64 (b01 b), w64 (s.lossCause (s.rf .mgmt (0x00100020 + 8 * b01 b) 0 17))] := by
  have hb := b01_lt b
  let cause := s.lossCause (s.rf .mgmt (0x00100020 + 8 * b01 b) 0 17)
  let s₁ := (s.draw.setFeed (b01 b) 0).noteFeeds
  have hn : s₁.rf .mgmt 0x00100108 0 32 = s.rf .mgmt 0x00100108 0 32 := by
    simp only [s₁, State.noteFeeds, State.setFeed]
    rw [State.rf_setRf_off (by norm_num), State.rf_setRf_off (by norm_num), State.rf_setRf_off (by norm_num), State.rf_setRf_off (by norm_num)]
    rfl
  have room₁ : s₁.rf .mgmt 0x00100108 0 32 < 0xFFFFFFFE := by omega
  have hev := onlyEvents_event (s := s₁.count32 .mgmt 0x00100108) 0x4010 0 0 0xFF 0xFF [b01 b, cause]
  have hreg := ((onlyEvents_count32 (s := s₁) .mgmt 0x00100108).trans hev).reg (u := .mgmt) (off := 0x00100000) (by simp)
    (fun k hk => by simp only [List.append_nil, List.mem_singleton] at hk; subst hk; exact regKey_ne (by norm_num))
  obtain ⟨hvalid, hconn⟩ := State.rf_setFeed (s := s.draw) hb (v := 0) (by omega)
  refine ⟨(s₁.count32 .mgmt 0x00100108).event 0x4010 0 0 0xFF 0xFF [b01 b, cause], ?_, ?_, ?_, State.singleFeedOk_noteFeeds.of_reg hreg, ?_, ?_⟩
  · rw [execFeedDisconnect, if_neg (by omega)]
    rfl
  · rw [State.rf_of_reg hreg, State.rf_noteFeeds (by omega), hvalid]
  · rw [State.rf_of_reg hreg, State.rf_noteFeeds (by omega), hconn]
  · rw [hev.rf _ _ (by simp) (by simp), State.rf_count32_room room₁, hn]
  · refine (raised_event ..).of_eq ?_ ?_ <;> rw [State.count32_room room₁] <;> rfl

/-! ## A low input (R443-R445) -/

/-- The power input's registers stand apart from those of the clock control. -/
theorem State.onlyClocks.mgmtReg {offs : List Nat} {off : Nat} (h : s.onlyClocks t offs) (ho : ∀ o ∈ offs, off % 2 ^ 29 ≠ o) (lo w : Nat) :
    t.rf .mgmt off lo w = s.rf .mgmt off lo w := State.rf_of_reg (h.2 _ _ ho) lo w

/-- Vin does not depend on STATE, nor on a register apart from the meters'. -/
theorem State.vin_congr (hin : ∀ lo, lo < 5 → t.rf .mgmt 0x00100000 lo 1 = s.rf .mgmt 0x00100000 lo 1)
    (ha : t.reg .mgmt 0x00100020 = s.reg .mgmt 0x00100020) (hb : t.reg .mgmt 0x00100028 = s.reg .mgmt 0x00100028) : t.vin = s.vin := by
  rw [State.vin, hin 2 (by norm_num), hin 3 (by norm_num), State.rf_of_reg ha, State.rf_of_reg hb]
  rfl

@[simp] theorem State.rf_updPower (f : PowerSt → PowerSt) (u : RegUnit) (o lo w : Nat) : (s.updPower f).rf u o lo w = s.rf u o lo w := rfl

/-- The input goes LOW: counted and raised, and every ceiling goes to F0. -/
theorem inputLow_effect (h : s.inputState = 0) (room : s.rf .mgmt 0x00100100 0 32 < 0xFFFFFFFE) :
    ∃ t, execInputLow s = .next t ∧ t.inputState = 1 ∧ t.power.inputF0 = true ∧ t.power.lowAt = s.time ∧
      t.rf .mgmt 0x00100100 0 32 = s.rf .mgmt 0x00100100 0 32 + 1 ∧ s.raised t 0x4012 [w64 s.vin] ∧
      (∀ p, t.rf (.site p) 0x18600010 8 4 = 0) ∧ t.scratch = s.scratch := by
  let n := s.rf .mgmt 0x00100100 0 32
  let s₁ := s.setRf .mgmt 0x00100000 5 2 1
  let s₂ := s₁.setRf .mgmt 0x00100100 0 32 (n + 1)
  let s₃ := s₂.updPower fun y => { y with inputF0 := true, lowAt := s.time }
  have hn : s₁.rf .mgmt 0x00100100 0 32 = n := State.rf_setRf_off (by norm_num)
  have hcount : s₁.count32 .mgmt 0x00100100 = s₂ := by
    rw [State.count32_room (hn ▸ room), hn]
  have hvin : s₃.vin = s.vin := by
    refine State.vin_congr (fun lo hlo => ?_) ?_ ?_
    · rw [State.rf_of_reg (show s₃.reg .mgmt 0x00100000 = s₁.reg .mgmt 0x00100000 from State.reg_setRf_off s₁ (by norm_num))]
      exact State.rf_setRf_field _ _ (by norm_num) (by omega)
    · exact (State.reg_setRf_off s₁ (by norm_num)).trans (State.reg_setRf_off s (by norm_num))
    · exact (State.reg_setRf_off s₁ (by norm_num)).trans (State.reg_setRf_off s (by norm_num))
  have hclk : s₃.onlyClocks s₃.allCeilings _ := onlyClocks_setCeilings _
  have hev := onlyEvents_event (s := s₃.allCeilings) 0x4012 0 0 0xFF 0xFF [s.vin]
  refine ⟨s₃.allCeilings.event 0x4012 0 0 0xFF 0xFF [s.vin], ?_, ?_, ?_, ?_, ?_, ?_, fun p => ?_, ?_⟩
  · have : execInputLow s = .next (s₃.allCeilings.event 0x4012 0 0 0xFF 0xFF [s₃.vin]) := by
      rw [execInputLow, if_neg (by omega), hcount]
      rfl
    rw [this, hvin]
  · rw [State.inputState, hev.rf _ _ (by simp) (by simp), hclk.mgmtReg (by simp)]
    rw [State.rf_updPower, State.rf_setRf_off (by norm_num), State.rf_setRf_same _ _ (by norm_num)]
    norm_num
  · rw [hev.power, hclk.power]
    rfl
  · rw [hev.power, hclk.power]
    rfl
  · rw [hev.rf _ _ (by simp) (by simp), hclk.mgmtReg (by simp)]
    rw [State.rf_updPower, State.rf_setRf_same _ _ (by norm_num)]
    omega
  · exact (raised_event ..).of_eq hclk.eventSeq hclk.time
  · rw [hev.rf _ _ (by simp) (by simp)]
    exact State.rf_allCeilings_zero rfl p
  · rw [hev.scratch, hclk.scratch]
    rfl

/-- A demand that has been made waits for its share. -/
theorem State.waitGrant_waits (what : GrantFor) (rise : Nat) :
    (s.waitGrant what rise).power.waits.any (fun w => w.1 == what) = true := by
  unfold State.waitGrant
  split
  next h => exact h
  next => simp [State.updPower]

/-- What waiting for a share leaves alone. -/
theorem State.waitGrant_frame (what : GrantFor) (rise : Nat) : { s.waitGrant what rise with power := s.power } = s := by
  unfold State.waitGrant
  split <;> rfl

/-- The input recovers: it is NORMAL, INPUT_RECOVERED tells how long it was LOW, and the ceilings wait for their share. -/
theorem inputRecovered_effect (h : s.inputState = 1) :
    ∃ t, execInputRecovered s = .next t ∧ t.inputState = 0 ∧ s.raised t 0x4013 [w64 (s.time - s.power.lowAt)] ∧
      t.sites = s.sites ∧ t.power.waits.any (fun w => w.1 == .inputCeilings) = true := by
  let s₁ := (s.setRf .mgmt 0x00100000 5 2 0).event 0x4013 0 0 0xFF 0xFF [s.time - s.power.lowAt]
  have hev : (s.setRf .mgmt 0x00100000 5 2 0).onlyEvents s₁ [] := onlyEvents_event ..
  have hframe := s₁.waitGrant_frame .inputCeilings 0
  refine ⟨s₁.waitGrant .inputCeilings 0, ?_, ?_, ?_, ?_, State.waitGrant_waits ..⟩
  · rw [execInputRecovered, if_neg (by omega)]
  · have hregs : (s₁.waitGrant .inputCeilings 0).regs = s₁.regs := (congrArg State.regs hframe :)
    have hin : (s₁.waitGrant .inputCeilings 0).inputState = s₁.inputState := by
      simp only [State.inputState, State.rf, State.reg, hregs]
    rw [hin, State.inputState, hev.rf _ _ (by simp) (by simp)]
    exact State.rf_setRf_same _ _ (by norm_num)
  · obtain ⟨e, he, hrest⟩ := (raised_event (s := s.setRf .mgmt 0x00100000 5 2 0) 0x4013 0 0 0xFF 0xFF [s.time - s.power.lowAt]).of_eq
      (s := s) rfl rfl
    have hevents : (s₁.waitGrant .inputCeilings 0).events = s₁.events := (congrArg State.events hframe :)
    exact ⟨e, hevents ▸ he, hrest⟩
  · have hsites : (s₁.waitGrant .inputCeilings 0).sites = s₁.sites := (congrArg State.sites hframe :)
    rw [hsites, hev.sites]
    rfl

/-! ## The orderly stop (R445) -/

theorem reg_stackDown_gov (k : Fin 28) (f : StackSt → StackSt) {g : Fin 42} {o v : Nat} :
    ((s.setStackState k v).updStack k f).reg (.gov g) o = s.reg (.gov g) o := by
  show (s.setStackState k v).reg (.gov g) o = _
  rw [State.setStackState, State.reg_setRf_unit (by simp)]

/-- With every rail but the always-on supply off, no region's fabric rail is on. -/
theorem State.rf_fabricOff_gov (g : Fin 42) : s.fabricOff.rf (.gov g) 0 2 1 = 0 := by
  unfold State.fabricOff
  extract_lets a b c d
  have hb : b.rf (.gov g) 0 2 1 = 0 := by
    refine foldl_of_mem (I := fun _ => True) (P := fun t : State => t.rf (.gov g) 0 2 1 = 0) (a := g) (fun _ _ _ => trivial) ?_ ?_
      (List.mem_finRange g) trivial
    · exact fun t _ => State.rf_setRf_same _ _ (by norm_num)
    · intro t h _ ht
      by_cases hg : g = h
      · rw [hg]
        exact State.rf_setRf_same _ _ (by norm_num)
      · rwa [State.rf_of_reg (State.reg_setRf_unit (by simpa using hg))]
  have hc : c.reg (.gov g) 0 = b.reg (.gov g) 0 :=
    List.foldlRecOn (motive := fun t : State => t.reg (.gov g) 0 = b.reg (.gov g) 0) _ _ rfl fun _ ht _ _ => ht
  have hd : d.reg (.gov g) 0 = b.reg (.gov g) 0 :=
    List.foldlRecOn (motive := fun t : State => t.reg (.gov g) 0 = b.reg (.gov g) 0) _ _ hc fun t ht k _ =>
      (reg_stackDown_gov k _).trans ht
  have hlost : ∀ t : State, ({ t with spill := [], net := [], courses := [] } : State).rf (.gov g) 0 2 1 = t.rf (.gov g) 0 2 1 := fun _ => rfl
  rw [hlost, State.rf_of_reg hd, hb]

/-- After an orderly stop the input is STOPPED, nothing is in flight, spill memory is lost, and every fabric rail is off. -/
theorem State.orderlyStop_stopped (cause : Nat) :
    let t := s.orderlyStop cause
    t.inputState = 3 ∧ t.net = [] ∧ t.spill = [] ∧ ∀ g, t.rf (.gov g) 0 2 1 = 0 := by
  unfold State.orderlyStop
  extract_lets a b c d
  refine ⟨State.rf_setRf_same _ _ (by norm_num), rfl, rfl, fun g => ?_⟩
  rw [State.rf_of_reg (State.reg_setRf_unit (by simp))]
  exact State.rf_fabricOff_gov g

/-! ## Meters (R17, R451) -/

/-- A feed's meter shows a sample, and its counter takes whole microjoules. -/
def State.metered (s : State) (i mv ma uJ : Nat) : State :=
  ((s.setReg .mgmt (0x00100020 + 8 * i) (w64 mv)).setReg .mgmt (0x00100030 + 8 * i) (w64 ma)).count64 .mgmt (0x00100010 + 8 * i) uJ

/-- What a sample does to the feed's registers and to its remainder, and when it leaves the feed VALID for certain (R439). -/
theorem execEnergyMeterSample_eq (b : Bool) (mv : BitVec 17) (ma : BitVec 20) :
    let i := b01 b
    let e := Sparse.get 0 s.power.carry i + mv.toNat * ma.toNat
    ∃ f valid, execEnergyMeterSample b mv ma s =
        .next (((s.metered i mv.toNat ma.toNat (e / 10 ^ 5)).updPower f).setRf .mgmt 0x00100000 i 1 (b01 valid)) ∧
      Sparse.get 0 (f s.power).carry i = e % 10 ^ 5 ∧ (36000 ≤ mv.toNat → mv.toNat ≤ 60000 → valid = true) ∧
      (mv.toNat < 36000 ∨ 72000 < mv.toNat → valid = false) := by
  refine ⟨_, _, rfl, Sparse.get_put_same .., fun h₁ h₂ => by simp [h₁, h₂], fun h => ?_⟩
  simp only [Bool.or_eq_false_iff, Bool.and_eq_false_iff, decide_eq_false_iff_not]
  omega

theorem toNat_w64 {x : Nat} (h : x < 2 ^ 64) : (w64 x).toNat = x := by
  rw [w64, BitVec.toNat_ofNat, Nat.mod_eq_of_lt h]

/-- The feed's VALID bit and the controller's own state are apart from the meters. -/
theorem State.reg_validBit {f : PowerSt → PowerSt} {i v o : Nat} (ho : o % 2 ^ 29 ≠ 0x00100000) :
    ((s.updPower f).setRf .mgmt 0x00100000 i 1 v).reg .mgmt o = s.reg .mgmt o := by
  rw [State.reg_setRf_off _ (by omega)]
  rfl

theorem State.metered_regs {i mv ma uJ : Nat} (_ : i < 2) (hmv : mv < 2 ^ 64) (hma : ma < 2 ^ 64) :
    (s.metered i mv ma uJ).rn .mgmt (0x00100020 + 8 * i) = mv ∧ (s.metered i mv ma uJ).rn .mgmt (0x00100030 + 8 * i) = ma ∧
      (s.metered i mv ma uJ).reg .mgmt (0x00100010 + 8 * i) = s.reg .mgmt (0x00100010 + 8 * i) + w64 uJ := by
  unfold State.metered State.rn
  refine ⟨?_, ?_, ?_⟩
  · rw [State.reg_count64_off _ (by omega), State.reg_setReg_off _ _ (by omega), State.reg_setReg_same, toNat_w64 hmv]
  · rw [State.reg_count64_off _ (by omega), State.reg_setReg_same, toNat_w64 hma]
  · rw [State.reg_count64_same, State.reg_setReg_off _ _ (by omega), State.reg_setReg_off _ _ (by omega)]

@[simp] theorem State.metered_sites (i mv ma uJ : Nat) : (s.metered i mv ma uJ).sites = s.sites := rfl
@[simp] theorem State.metered_events (i mv ma uJ : Nat) : (s.metered i mv ma uJ).events = s.events := rfl
@[simp] theorem State.updPower_sites (f : PowerSt → PowerSt) : (s.updPower f).sites = s.sites := rfl
@[simp] theorem State.updPower_events (f : PowerSt → PowerSt) : (s.updPower f).events = s.events := rfl

/-- A meter sample is shown, and its energy counted in whole microjoules with the rest carried. -/
theorem energyMeterSample_effect (b : Bool) (mv : BitVec 17) (ma : BitVec 20) :
    let i := b01 b
    let e := Sparse.get 0 s.power.carry i + mv.toNat * ma.toNat
    ∃ t, execEnergyMeterSample b mv ma s = .next t ∧ t.rn .mgmt (0x00100020 + 8 * i) = mv.toNat ∧
      t.rn .mgmt (0x00100030 + 8 * i) = ma.toNat ∧ t.reg .mgmt (0x00100010 + 8 * i) = s.reg .mgmt (0x00100010 + 8 * i) + w64 (e / 10 ^ 5) ∧
      Sparse.get 0 t.power.carry i = e % 10 ^ 5 ∧ (36000 ≤ mv.toNat → mv.toNat ≤ 60000 → t.rf .mgmt 0x00100000 i 1 = 1) ∧
      (mv.toNat < 36000 ∨ 72000 < mv.toNat → t.rf .mgmt 0x00100000 i 1 = 0) ∧ t.sites = s.sites ∧ t.events = s.events := by
  have hi := b01_lt b
  obtain ⟨f, valid, hx, hcarry, hyes, hno⟩ := execEnergyMeterSample_eq (s := s) b mv ma
  obtain ⟨hmv, hma, huJ⟩ := State.metered_regs (s := s) (uJ := (Sparse.get 0 s.power.carry (b01 b) + mv.toNat * ma.toNat) / 10 ^ 5) hi
    (mv.isLt.trans (by norm_num)) (ma.isLt.trans (by norm_num))
  have hbit : ∀ (t : State), (t.setRf .mgmt 0x00100000 (b01 b) 1 (b01 valid)).rf .mgmt 0x00100000 (b01 b) 1 = b01 valid := fun t => by
    rw [State.rf_setRf_same _ _ (by omega)]
    exact Nat.mod_eq_of_lt (b01_lt _)
  refine ⟨_, hx, ?_, ?_, ?_, hcarry, fun h₁ h₂ => ?_, fun h₁ => ?_, by simp, by simp⟩
  · rw [State.rn, State.reg_validBit (by omega)]
    exact hmv
  · rw [State.rn, State.reg_validBit (by omega)]
    exact hma
  · rw [State.reg_validBit (by omega)]
    exact huJ
  · rw [hbit, hyes h₁ h₂]
    rfl
  · rw [hbit, hno h₁]
    rfl

/-- Settles O37: each row's effect, as stated above for its row. -/
theorem inputPowerRows : Obligations.InputPowerRows := by
  intro s b mv ma
  refine ⟨feedConnect_effect, fun h room => ?_, inputLow_effect, inputRecovered_effect, fun h₁ h₂ => ?_, fun h₁ h₂ h₃ => ?_, ?_,
    energyMeterSample_effect b mv ma⟩
  · obtain ⟨t, hx, hvalid, hconn, hsingle, hcount, hraised⟩ := feedDisconnect_effect h room
    refine ⟨t, hx, hvalid, hconn, hsingle, hcount, fun h₁ => ?_, fun h₁ h₂ => ?_, fun h₁ => ?_⟩
    · rwa [State.lossCause, if_pos h₁] at hraised
    · rwa [State.lossCause, if_neg (by omega), if_neg (by omega), if_pos h₁] at hraised
    · rwa [State.lossCause, if_neg (by omega), if_pos h₁] at hraised
  · refine ⟨s.orderlyStop 1, ?_, State.orderlyStop_stopped 1⟩
    rw [exec_inputLowTimeout, execInputLowTimeout, if_neg (by omega), if_pos h₂]
  · refine ⟨s.orderlyStop 0, ?_, State.orderlyStop_stopped 0⟩
    rw [exec_inputLowTimeout, execInputLowTimeout, if_neg (by omega), if_neg (by omega), if_pos (by simp [h₁, h₃])]
  · exact ⟨_, rfl, rfl, rfl, rfl, rfl, rfl, rfl, rfl, rfl, rfl⟩

end Sys2Proof.Machine
end

section
/-! SUPPORT. Byte strings and memory: the fields of a byte string, and what a written one reads back as. -/

namespace Sys2Proof.Machine

/-! ## Fields of byte strings -/

theorem bytesAt_skip {k x off : Nat} (h : k ≤ off) (r : List Byte) (n : Nat) : bytesAt (toBytes k x ++ r) off n = bytesAt r (off - k) n := by
  unfold bytesAt
  rw [List.drop_append, List.drop_eq_nil_of_le (by simpa using h), List.nil_append, length_toBytes]

theorem bytesAt_cons_skip {off : Nat} (h : 0 < off) (a : Byte) (r : List Byte) (n : Nat) :
    bytesAt (a :: r) off n = bytesAt r (off - 1) n := by
  obtain ⟨k, rfl⟩ := Nat.exists_eq_succ_of_ne_zero h.ne'
  rfl

@[simp] theorem bytesAt_cons_one (a : Byte) (r : List Byte) : bytesAt (a :: r) 0 1 = a.toNat := by
  simp [bytesAt, ofBytes]

/-- A number at the front of a byte string. -/
theorem bytesAt_here {k x : Nat} (h : x < 2 ^ (8 * k)) (r : List Byte) : bytesAt (toBytes k x ++ r) 0 k = x := by
  unfold bytesAt
  rw [List.drop_zero, List.take_left' (length_toBytes k x), ofBytes_toBytes k x h]

theorem bytesAt_last {k x : Nat} (h : x < 2 ^ (8 * k)) : bytesAt (toBytes k x) 0 k = x := by
  simpa using bytesAt_here h []

/-! ## Memory -/

theorem Memory.getElem_readBytes : ∀ (n : Nat) (m : Memory) (a i : Nat) (h : i < (m.readBytes a n).length),
    (m.readBytes a n)[i] = m.read (a + i)
  | 0, _, _, _, h => absurd h (Nat.not_lt_zero _)
  | _ + 1, _, _, 0, _ => rfl
  | n + 1, m, a, i + 1, h => by
    have h' : i < (m.readBytes (a + 1) n).length := by simpa [Memory.readBytes] using h
    have := Memory.getElem_readBytes n m (a + 1) i h'
    rw [show a + (i + 1) = a + 1 + i by omega, ← this]
    rfl

/-- A part of a byte string written reads back. -/
theorem Memory.readBytes_part {l pre mid post : List Byte} (m : Memory) (a : Nat) (hl : l = pre ++ mid ++ post) {off n : Nat}
    (hoff : off = pre.length) (hn : n = mid.length) : (m.writeBytes a l).readBytes (a + off) n = mid := by
  subst hl hoff hn
  refine List.ext_getElem (by simp) fun i hi hm => ?_
  have hi' : pre.length + i < (pre ++ mid ++ post).length := by
    simp only [List.length_append]
    omega
  rw [Memory.getElem_readBytes, Nat.add_assoc, Memory.read_writeBytes_in _ _ _ _ hi', List.getD_eq_getElem _ _ hi']
  simp [hm]

end Sys2Proof.Machine
end

section
/-! SUPPORT. MCI commands through a mailbox of the active die: what taking one and answering it change, and the three ends that a command can
come to (R544, R550, R551). -/

namespace Sys2Proof.Machine

variable {s t u v : State}

/-! ## Mailboxes alone -/

namespace State.onlyBox

theorem rfl' : s.onlyBox s := rfl

theorem trans (h : s.onlyBox t) (k : t.onlyBox u) : s.onlyBox u := by
  unfold State.onlyBox at *
  conv_rhs => rw [← h, ← k]

theorem scratch (h : s.onlyBox t) : t.scratch = s.scratch := (congrArg State.scratch h :)
theorem host (h : s.onlyBox t) : t.host = s.host := (congrArg State.host h :)
theorem sites (h : s.onlyBox t) : t.sites = s.sites := (congrArg State.sites h :)
theorem sessions (h : s.onlyBox t) : t.sessions = s.sessions := (congrArg State.sessions h :)
theorem bulk (h : s.onlyBox t) : t.mgmt.bulk = s.mgmt.bulk := (congrArg (fun x : State => x.mgmt.bulk) h :)

end State.onlyBox

/-- A command has been taken from a mailbox of the active die: its page holds it, and the mailbox is BUSY. -/
def State.taken (s : State) (c : MciCmd) (op : Nat) (m : Fin 64) : State :=
  { s with
    mgmt.pages := s.mgmt.pages.writeBytes (pageAt s.activeSouth m.val) (cmdBytes c op)
    mgmt.boxes := Sparse.put 0 s.mgmt.boxes (boxKey s.activeSouth m.val) (setFld (s.box s.activeSouth m.val) 0 2 1) }

theorem onlyBox_taken (c : MciCmd) (op : Nat) (m : Fin 64) : s.onlyBox (s.taken c op m) := rfl

/-- Taking a command keeps COMPLETED. -/
theorem State.completed_taken (c : MciCmd) (op : Nat) (m : Fin 64) :
    fld ((s.taken c op m).box s.activeSouth m.val) 32 32 = fld (s.box s.activeSouth m.val) 32 32 := by
  rw [State.box, State.taken, Sparse.get_put_same, fld_setFld_other _ _ (by omega) (by omega)]

/-! ## Answers -/

section answers

variable {c : MciCmd} {m : Fin 64} {south : Bool} (hvia : c.via = .mailbox south m)

include hvia

theorem onlyBox_mciReply (op st det : Nat) (payload : List Byte) : s.onlyBox (s.mciReply c op st det payload) := by
  simp only [State.mciReply, hvia, State.sendAnswer]
  split <;> rfl

/-- The pages and mailboxes after bytes have gone back. -/
theorem sendAnswer_mgmt (bytes : List Byte) :
    (s.sendAnswer c bytes).mgmt.pages = s.mgmt.pages.writeBytes (pageAt south m.val) bytes ∧
      (s.sendAnswer c bytes).mgmt.boxes =
        Sparse.put 0 s.mgmt.boxes (boxKey south m.val) (w64 ((fld (s.box south m.val) 32 32 + 1) % 2 ^ 32 * 2 ^ 32 + 2)) := by
  simp only [State.sendAnswer, hvia]
  split <;> exact ⟨rfl, rfl⟩

theorem mciReply_eq (op st det : Nat) (payload : List Byte) :
    s.mciReply c op st det payload =
      s.draw.sendAnswer c (mciHeader c op (Config.free32 s.free).toNat st det payload.length ++ payload) := by
  simp only [State.mciReply, hvia]
  rfl

end answers

/-- An answer stands in its mailbox. -/
theorem boxDone_mciReply {c : MciCmd} {m : Fin 64} (hvia : c.via = .mailbox s.activeSouth m)
    (hbox : fld (u.box s.activeSouth m.val) 32 32 = fld (s.box s.activeSouth m.val) 32 32) (op st det : Nat) (payload : List Byte) :
    s.boxDone (u.mciReply c op st det payload) m st det payload := by
  obtain ⟨hpages, hstate⟩ := sendAnswer_mgmt (s := u.draw) hvia (mciHeader c op (Config.free32 u.free).toNat st det payload.length ++ payload)
  have hdraw : u.draw.box s.activeSouth m.val = u.box s.activeSouth m.val := rfl
  unfold State.boxDone
  dsimp only
  rw [mciReply_eq hvia, hpages, State.box, hstate, Sparse.get_put_same, hdraw, hbox]
  let front := toBytes 2 op ++ [c.flags, 0] ++ toBytes 4 c.tag.toNat ++ toBytes 4 (Config.free32 u.free).toNat ++ toBytes 4 c.session.toNat
  refine ⟨rfl, ?_, ?_, ?_, ?_⟩
  · exact Memory.readBytes_part (pre := front) (mid := toBytes 2 st) (post := toBytes 2 det ++ toBytes 4 payload.length ++ toBytes 8 0 ++ payload)
      _ _ (by simp [mciHeader, front]) (by simp [front]) (by simp)
  · exact Memory.readBytes_part (pre := front ++ toBytes 2 st) (mid := toBytes 2 det) (post := toBytes 4 payload.length ++ toBytes 8 0 ++ payload)
      _ _ (by simp [mciHeader, front]) (by simp [front]) (by simp)
  · exact Memory.readBytes_part (pre := front ++ toBytes 2 st ++ toBytes 2 det) (mid := toBytes 4 payload.length) (post := toBytes 8 0 ++ payload)
      _ _ (by simp [mciHeader, front]) (by simp [front]) (by simp)
  · exact Memory.readBytes_part (pre := front ++ toBytes 2 st ++ toBytes 2 det ++ toBytes 4 payload.length ++ toBytes 8 0) (mid := payload)
      (post := []) _ _ (by simp [mciHeader, front]) (by simp [front]) rfl

/-! ## The way of a command -/

/-- A payload has the size of its form, and its reserved fields are zero. -/
def MciForm.fits (f : MciForm) (payload : List Byte) : Prop :=
  payload.length = (f.fields.map Prod.fst).foldl (· + ·) 0 + f.tail payload ∧ badReserved payload 0 f.fields = none ∧ f.wire = false

/-- What follows the execution of a command of session 0: a wrong owner token freezes the session, a change is journalled, and the command is answered
unless its answer comes later. -/
def State.mciEnd (c : MciCmd) (f : MciForm) (a : MciAns) : State :=
  let s := if a.status = 5 then a.s.freezeSession 0 f.op 1 else a.s
  let s := if 2 ≤ f.right && a.status == 0 then { s with mgmt.journal := s.mgmt.journal + 1, mgmt.applied := s.mgmt.applied + 1 } else s
  if a.later then s else a.next (s.mciReply c f.op a.status a.detail a.payload)

/-- Nothing in a fitting command is refused before it is executed. -/
theorem mciCheck_none {c : MciCmd} {m : Fin 64} {f : MciForm} {pl : List Byte} {x : Session} (h : s.boxTakes c m f.right pl)
    (hx : s.session 0 = some x) (hf : f.fits pl) : mciCheck c f x = none := by
  obtain ⟨hvia, hpl, hlen, hmax, hflags, hres3, hsession, hres24, -, -, -, y, hy, hfrozen, hright⟩ := h
  obtain ⟨hsize, hres, hwire⟩ := hf
  obtain rfl : y = x := Option.some.inj (hy.symm.trans hx)
  have hrights : (f.right != 0 && y.rights / f.right % 2 == 0) = false := by
    rcases hright with h | h <;> simp [h]
  have hheader : badHeaderField c (cmdSession c) = none := by
    simp [badHeaderField, firstBad, hflags, hres3, hsession, hres24, cmdSession, hvia]
  have hlimit : (mciLimit c.via < c.payload.length || c.length.toNat != c.payload.length ||
      c.payload.length < (f.fields.map Prod.fst).foldl (· + ·) 0 ||
      c.payload.length != (f.fields.map Prod.fst).foldl (· + ·) 0 + f.tail c.payload) = false := by
    simp only [mciLimit, hvia, hpl, hlen, Bool.or_eq_false_iff, decide_eq_false_iff_not, bne_eq_false_iff_eq, not_lt]
    exact ⟨⟨⟨hmax, trivial⟩, by omega⟩, hsize⟩
  unfold mciCheck
  dsimp only
  rw [hfrozen, hrights, hlimit, hheader, hpl, hres, hwire]
  simp [onWire, hvia]

/-- A fitting command through a mailbox is executed in the state that has taken it. -/
theorem mci_of_boxTakes {c : MciCmd} {m : Fin 64} {f : MciForm} {pl : List Byte} (h : s.boxTakes c m f.right pl) (hf : f.fits pl)
    (go : State → MciAns) : s.mci c f go = .next (State.mciEnd c f (go (s.taken c f.op m))) := by
  have hcheck := fun x hx => mciCheck_none (x := x) h hx hf
  obtain ⟨hvia, -, -, -, -, -, -, -, htakes, halive, hidle, x, hx, -⟩ := h
  have hid : x.id = 0 := by simpa using List.find?_some hx
  have hidle' : (!s.takesCommands s.activeSouth || fld (s.box s.activeSouth m.val) 0 2 == 1) = false := by simp [htakes, hidle]
  have htake : (s.taken c f.op m).mciTake c f go = State.mciEnd c f (go (s.taken c f.op m)) := by
    have hkept : (x.kept.find? fun k => onWire c && k.1 == c.tag) = none := by simp [onWire, hvia]
    have hx' : (s.taken c f.op m).session 0 = some x := hx
    simp only [State.mciTake, cmdSession, hvia, hx', hkept, State.mciRun, hcheck x hx, hid]
    rfl
  have halive' : (s.taken c f.op m).dieDead s.activeSouth = false := halive
  have hactive : (s.activeSouth != (s.taken c f.op m).activeSouth) = false := bne_self_eq_false _
  unfold State.mci State.takeBox
  simp only [hvia, hidle', Bool.false_eq_true, if_false]
  show Host.Outcome.next (if (s.taken c f.op m).dieDead s.activeSouth = true then _ else
    if (s.activeSouth != (s.taken c f.op m).activeSouth) = true then _ else (s.taken c f.op m).mciTake c f go) = _
  rw [halive', hactive, htake]
  rfl

/-! ## Ends of commands -/

section ends

variable {c : MciCmd} {m : Fin 64} {f : MciForm} {pl payload : List Byte} {op : Nat} {go : State → MciAns}

/-- A command that is done and answered at once. -/
theorem mci_give (h : s.boxTakes c m f.right pl) (hf : f.fits pl) (hop : f.op = op) (hgo : go (s.taken c op m) = .give v payload)
    (hbox : v.mgmt = (s.taken c op m).mgmt) : ∃ t, s.mci c f go = .next t ∧ v.onlyBox t ∧ s.boxDone t m 0 0 payload := by
  subst hop
  let w : State := if 2 ≤ f.right then { v with mgmt.journal := v.mgmt.journal + 1, mgmt.applied := v.mgmt.applied + 1 } else v
  have hend : State.mciEnd c f (.give v payload) = w.mciReply c f.op 0 0 payload := by simp [State.mciEnd, MciAns.give, w]
  have hw : v.onlyBox w := by
    simp only [w]
    split <;> rfl
  have hwbox : w.box s.activeSouth m.val = (s.taken c f.op m).box s.activeSouth m.val := by
    have : w.mgmt.boxes = v.mgmt.boxes := by
      simp only [w]
      split <;> rfl
    rw [State.box, this, hbox]
    rfl
  refine ⟨_, (mci_of_boxTakes h hf go).trans (by rw [hgo, hend]), hw.trans (onlyBox_mciReply h.1 ..), boxDone_mciReply h.1 ?_ ..⟩
  rw [hwbox, State.completed_taken]

/-- A command whose effect touches no mailbox completes. -/
theorem completes_of_give {i : Instr} (hi : exec i s = s.mci c f go) (h : s.boxTakes c m f.right pl) (hf : f.fits pl)
    (hop : f.op = op) (hgo : go (s.taken c op m) = .give v payload) (hbox : v.mgmt = (s.taken c op m).mgmt) (hu : u.onlyBox v) :
    Completes i s m u payload := by
  obtain ⟨t, hx, honly, hdone⟩ := mci_give h hf hop hgo hbox
  exact ⟨t, hi.trans hx, hu.trans honly, hdone⟩

/-- A command that is refused without effect. -/
theorem turnedAway_of {i : Instr} {st det : Nat} (hi : exec i s = s.mci c f go) (h : s.boxTakes c m f.right pl) (hf : f.fits pl)
    (hop : f.op = op) (hgo : go (s.taken c op m) = ⟨s.taken c op m, st, det, [], false, id⟩) (h₀ : st ≠ 0) (h₅ : st ≠ 5) : TurnedAway i s m st det := by
  subst hop
  have hend : State.mciEnd c f ⟨s.taken c f.op m, st, det, [], false, id⟩ = (s.taken c f.op m).mciReply c f.op st det [] := by
    simp [State.mciEnd, h₀, h₅]
  refine ⟨_, (hi.trans (mci_of_boxTakes h hf go)).trans (by rw [hgo, hend]), (onlyBox_taken c f.op m).trans (onlyBox_mciReply h.1 ..),
    boxDone_mciReply h.1 (State.completed_taken ..) ..⟩

end ends

end Sys2Proof.Machine
end

section
/-! SUPPORT. Scratchpad as the management die moves it: reading leaves the cells and their layout alone, and writing depends on nothing but the cells
and their layout (R165, R199-R202, R211). -/

namespace Sys2Proof.Machine

variable {s t r : State}

/-! ## Lists -/

theorem lowest_lt {n k : Nat} {f : Nat → Bool} (h : lowest n f = some k) : k < n := List.mem_range.1 (List.mem_of_find?_eq_some h)

theorem lowest_congr {n : Nat} {f g : Nat → Bool} (h : ∀ k < n, f k = g k) : lowest n f = lowest n g :=
  List.find?_congr fun k hk => h k (List.mem_range.1 hk)

theorem length_chunks {α : Type} (k : Nat) : ∀ (n : Nat) (l : List α), (chunks k n l).length = n
  | 0, _ => rfl
  | n + 1, _ => congrArg Nat.succ (length_chunks k n _)

/-! ## Layout -/

/-- The remap entries stand alike in both states (R211). -/
def State.sameRemaps (s t : State) : Prop :=
  ∀ (p : Fin 168) (d e : Nat), d < 2 → e < 8 → t.reg (.site p) (0x18508100 + 64 * d + 8 * e) = s.reg (.site p) (0x18508100 + 64 * d + 8 * e)

theorem State.sameRemaps.rawRow (h : s.sameRemaps t) (p : Fin 168) (off : Nat) : t.rawRow p off = s.rawRow p off := by
  have hd : offDie off < 2 := Nat.mod_lt _ (by norm_num)
  have hfind : ((List.range 8).find? fun e =>
      bit (t.reg (.site p) (0x18508100 + 64 * offDie off + 8 * e)) 63 &&
        fld (t.reg (.site p) (0x18508100 + 64 * offDie off + 8 * e)) 14 5 == offBank off &&
        fld (t.reg (.site p) (0x18508100 + 64 * offDie off + 8 * e)) 0 14 == offRow off) =
      (List.range 8).find? fun e =>
      bit (s.reg (.site p) (0x18508100 + 64 * offDie off + 8 * e)) 63 &&
        fld (s.reg (.site p) (0x18508100 + 64 * offDie off + 8 * e)) 14 5 == offBank off &&
        fld (s.reg (.site p) (0x18508100 + 64 * offDie off + 8 * e)) 0 14 == offRow off :=
    List.find?_congr fun e he => by rw [h p _ e hd (List.mem_range.1 he)]
  unfold State.rawRow State.remapRow
  dsimp only
  rw [hfind]
  split
  next e he => rw [State.rf_of_reg (h p _ e hd (List.mem_range.1 (List.mem_of_find?_eq_some he)))]
  next => rfl

/-- Whether a register is no remap entry. -/
def offRemaps (o : Nat) : Prop := o % 2 ^ 29 < 0x18508100 ∨ 0x18508180 ≤ o % 2 ^ 29

theorem sameRemaps_of_reg (h : ∀ (p : Fin 168) o, 0x18508100 ≤ o → o < 0x18508180 → t.reg (.site p) o = s.reg (.site p) o) : s.sameRemaps t :=
  fun p d e hd he => h p _ (by omega) (by omega)

/-! ## What a read of scratchpad keeps -/

/-- Scratchpad with its layout, host memory and the management dies are as they were. -/
def State.sameCells (s t : State) : Prop := t.scratch = s.scratch ∧ t.host = s.host ∧ t.mgmt = s.mgmt ∧ s.sameRemaps t

namespace State.sameCells

theorem rfl' : s.sameCells s := ⟨rfl, rfl, rfl, fun _ _ _ _ _ => rfl⟩

theorem trans (h : s.sameCells t) (k : t.sameCells r) : s.sameCells r := by
  obtain ⟨h₁, h₂, h₃, h₄⟩ := h
  obtain ⟨k₁, k₂, k₃, k₄⟩ := k
  exact ⟨k₁.trans h₁, k₂.trans h₂, k₃.trans h₃, fun p d e hd he => (k₄ p d e hd he).trans (h₄ p d e hd he)⟩

theorem ofEvents {ks : List (RegUnit × Nat)} (h : s.onlyEvents t ks) (hk : ∀ k ∈ ks, offRemaps k.2) : s.sameCells t :=
  ⟨h.scratch, h.host, h.mgmt, sameRemaps_of_reg fun _ _ h₁ h₂ => h.reg (by simp) fun k hm => regKey_ne <| by
    have := hk k hm
    unfold offRemaps at this
    omega⟩

theorem ofSetReg (u : RegUnit) (o : Nat) (v : W64) (ho : offRemaps o) : s.sameCells (s.setReg u o v) :=
  .ofEvents (onlyEvents_setReg u o v) (by simpa using ho)

theorem ofUpdSite (p : Fin 168) (f : SiteSt → SiteSt) : s.sameCells (s.updSite p f) := ⟨rfl, rfl, rfl, fun _ _ _ _ _ => rfl⟩

/-- Granules decode alike where cells and layout are alike. -/
theorem granAt (h : s.sameCells t) (p : Fin 168) (off : Nat) : t.granAt p off = s.granAt p off := by
  obtain ⟨hcells, -, -, hremaps⟩ := h
  unfold State.granAt State.rawGran State.cellOf
  rw [hcells, hremaps.rawRow]

end State.sameCells

/-! ## Reading granules (R199-R202, R210) -/

theorem State.watchSlot_lt (p : Fin 168) (die bank row : Nat) : s.watchSlot p die bank row < 32 := by
  unfold State.watchSlot
  dsimp only
  split
  next h => exact lowest_lt h
  next =>
    split
    next h => exact lowest_lt h
    next =>
      refine List.foldlRecOn (motive := fun b => b < 32) (List.range 32) _ (by norm_num) fun b hb n hn => ?_
      split
      · exact List.mem_range.1 hn
      · exact hb

theorem onlyEvents_watch (p : Fin 168) (die bank row weight : Nat) :
    s.onlyEvents (s.watch p die bank row weight) [(.site p, 0x18508200 + 8 * s.watchSlot p die bank row), (.site p, 0x18508000)] := by
  unfold State.watch
  extract_lets n off v same old count first s₁ s₂
  have hrow : s.onlyEvents s₁ [(.site p, off)] := onlyEvents_setReg ..
  have hmsg : s.onlyEvents s₂ [(.site p, off)] := hrow.trans (onlyEvents_event ..)
  by_cases hfull : (decide (old < 3) && decide (count = 3)) = true
  · rw [if_pos hfull]
    split
    · exact (hmsg.trans (onlyEvents_setRf ..)).trans (onlyEvents_event ..)
    · exact hmsg.mono (by simp [off, n])
  · rw [if_neg hfull]
    exact hrow.mono (by simp [off, n])

theorem sameCells_watch (p : Fin 168) (die bank row weight : Nat) : s.sameCells (s.watch p die bank row weight) := by
  refine .ofEvents (onlyEvents_watch ..) fun k hk => ?_
  have := s.watchSlot_lt p die bank row
  simp only [List.mem_cons, List.not_mem_nil, or_false] at hk
  unfold offRemaps
  rcases hk with rfl | rfl <;> omega

theorem sameCells_queueWriteBack (p : Fin 168) (gran : Nat) : s.sameCells (s.queueWriteBack p gran) := by
  unfold State.queueWriteBack
  dsimp only
  split
  · exact .rfl'
  · split
    · exact .ofUpdSite ..
    · exact .ofEvents (onlyEvents_count32 ..) (by simp [offRemaps])

theorem sameCells_recordOrigin (p : Fin 168) (off client : Nat) (classS : Bool) : s.sameCells (s.recordOrigin p off client classS) := by
  unfold State.recordOrigin
  extract_lets t n s₁ s₂
  have hn : n < 16 := by
    simp only [n]
    split
    next h => exact lowest_lt h
    next =>
      refine List.foldlRecOn (motive := fun b => b < 16) (List.range 16) _ (by norm_num) fun b hb k hk => ?_
      split
      · exact List.mem_range.1 hk
      · exact hb
  have h₁ : s.sameCells s₁ := .ofSetReg _ _ _ (by unfold offRemaps; omega)
  have h₂ : s₁.sameCells s₂ := .ofSetReg _ _ _ (by unfold offRemaps; omega)
  exact (h₁.trans h₂).trans (.ofEvents (onlyEvents_event ..) (by simp))

theorem sameCells_noteRead (p : Fin 168) (off client : Nat) (words : List Nat) (g : GranRead) : s.sameCells (s.noteRead p off client words g) := by
  have hd : offDie off < 2 := Nat.mod_lt _ (by norm_num)
  unfold State.noteRead
  extract_lets o die s₁ s₂ s₃ s₄
  have h₁ : s.sameCells s₁ := .ofEvents (onlyEvents_count32n ..) (by simp only [List.mem_singleton, forall_eq, offRemaps]; omega)
  have h₂ : s₁.sameCells s₂ := .ofEvents (onlyEvents_count32n ..) (by simp only [List.mem_singleton, forall_eq, offRemaps]; omega)
  have h₃ : s₂.sameCells s₃ := by
    simp only [s₃]
    split
    · exact .rfl'
    · exact sameCells_watch ..
  have h₄ := ((h₁.trans h₂).trans h₃).trans (sameCells_queueWriteBack p (off / 64))
  split
  · exact .rfl'
  · split
    · exact h₄
    · exact h₄.trans (sameCells_recordOrigin ..)

/-- The granules of a span as a read delivers them. -/
def State.delivered (s : State) (p : Fin 168) (off n : Nat) : List Flit :=
  (List.range n).map fun i => ⟨(s.granAt p (off + 64 * i)).data, (s.granAt p (off + 64 * i)).poison != 0⟩

theorem State.sameCells.delivered (h : s.sameCells t) (p : Fin 168) (off n : Nat) : t.delivered p off n = s.delivered p off n := by
  unfold State.delivered
  simp only [h.granAt]

theorem State.delivered_succ (p : Fin 168) (off n : Nat) : s.delivered p off (n + 1) =
    ⟨(s.granAt p off).data, (s.granAt p off).poison != 0⟩ :: s.delivered p (off + 64) n := by
  have hshift : ∀ i, off + 64 + 64 * i = off + 64 * (i + 1) := fun i => by omega
  simp [State.delivered, List.range_succ_eq_map, hshift]

/-- Reading granules delivers them as they stand, and keeps the cells. -/
theorem readGrans_spec (p : Fin 168) (client : Nat) : ∀ (n : Nat) (s : State) (off : Nat),
    s.sameCells (s.readGrans p client off n).1 ∧ (s.readGrans p client off n).2 = s.delivered p off n
  | 0, _, _ => ⟨.rfl', rfl⟩
  | n + 1, s, off => by
    have hnote : s.sameCells (s.readWide p client off).1 := sameCells_noteRead ..
    obtain ⟨hkeep, hread⟩ := readGrans_spec p client n (s.readWide p client off).1 (off + 64)
    refine ⟨hnote.trans hkeep, ?_⟩
    rw [State.delivered_succ, ← hnote.delivered, ← hread]
    rfl

end Sys2Proof.Machine
end

section
/-! SUPPORT. Scratchpad as the management die moves it: a packet of at most 32 granules read from a core and one written to it (R173, R177-R182, R560). -/

namespace Sys2Proof.Machine

variable {s t r : State}

/-! ## What a write of scratchpad rests on and what it keeps -/

/-- The layout of scratchpad is alike in both states: the remap entries (R211) and the regions (R175). -/
def State.sameMap (s t : State) : Prop := s.sameRemaps t ∧ ∀ (p : Fin 168) (n : Nat), n < 64 → t.regionCfg p n = s.regionCfg p n

/-- Layout, control cores, host memory and the management dies are as they were. -/
def State.keepsRest (s t : State) : Prop := s.sameMap t ∧ t.host = s.host ∧ t.mgmt = s.mgmt ∧ ∀ p, t.cc p = s.cc p

theorem State.sameMap.ofRegs (h : t.regs = s.regs) : s.sameMap t := by
  have hreg : ∀ u o, t.reg u o = s.reg u o := fun u o => by rw [State.reg, State.reg, h]
  exact ⟨fun _ _ _ _ _ => hreg _ _, fun _ _ _ => hreg _ _⟩

theorem State.sameMap.classSAt (h : s.sameMap t) (p : Fin 168) (off : Nat) : t.classSAt p off = s.classSAt p off := by
  have hof : t.regionOf p off = s.regionOf p off := by
    refine lowest_congr fun n hn => ?_
    have hmode : t.regionMode p n = s.regionMode p n := by rw [State.regionMode, h.2 p n hn, State.regionMode]
    have hbase : t.regionBase p n = s.regionBase p n := by rw [State.regionBase, h.2 p n hn, State.regionBase]
    have hsize : t.regionSize p n = s.regionSize p n := by rw [State.regionSize, h.2 p n hn, State.regionSize]
    rw [hmode, hbase, hsize]
  unfold State.classSAt
  rw [hof]
  split
  next n hn => rw [h.2 p n (lowest_lt hn)]
  next => rfl

namespace State.keepsRest

theorem rfl' : s.keepsRest s := ⟨.ofRegs rfl, rfl, rfl, fun _ => rfl⟩

theorem trans (h : s.keepsRest t) (k : t.keepsRest r) : s.keepsRest r := by
  obtain ⟨⟨hmap, hcfg⟩, hhost, hmgmt, hcc⟩ := h
  obtain ⟨⟨kmap, kcfg⟩, khost, kmgmt, kcc⟩ := k
  exact ⟨⟨fun p d e hd he => (kmap p d e hd he).trans (hmap p d e hd he), fun p n hn => (kcfg p n hn).trans (hcfg p n hn)⟩,
    khost.trans hhost, kmgmt.trans hmgmt, fun p => (kcc p).trans (hcc p)⟩

/-- A register that is no remap entry and no REGn_CFG. -/
theorem ofSetReg (u : RegUnit) {o : Nat} (v : W64) (ho : offRemaps o) (hc : ∀ n < 64, o % 2 ^ 29 ≠ 0x18501000 + 32 * n) : s.keepsRest (s.setReg u o v) :=
  ⟨⟨(State.sameCells.ofSetReg u o v ho).2.2.2, fun _ n hn => State.reg_setReg_other _ _ (regKey_ne (by have := hc n hn; omega))⟩, rfl, rfl,
    fun _ => rfl⟩

end State.keepsRest

theorem keepsRest_grants (p : Fin 168) (off len : Nat) : s.keepsRest (s.grants p 3 off len) := by
  unfold State.grants
  split
  · exact .rfl'
  · exact .ofSetReg _ _ (by simp [offRemaps]) (by omega)

theorem keepsRest_advanceHeads (p : Fin 168) (ends : List (Nat × Nat)) : s.keepsRest (s.advanceHeads p ends) := by
  refine List.foldlRecOn (motive := s.keepsRest) ends _ .rfl' fun t ht e _ => ?_
  split
  · exact ht.trans (.ofSetReg _ _ (by unfold offRemaps; omega) (by omega))
  · exact ht

theorem State.scratch_advanceHeads (p : Fin 168) (ends : List (Nat × Nat)) : (s.advanceHeads p ends).scratch = s.scratch := by
  refine List.foldlRecOn (motive := fun t : State => t.scratch = s.scratch) ends _ rfl fun t ht e _ => ?_
  split <;> exact ht

/-! ## Writing granules -/

theorem State.cc_dropWriteBack (p q : Fin 168) (off : Nat) : (s.dropWriteBack p off).cc q = s.cc q := by
  unfold State.dropWriteBack
  split
  · by_cases h : q = p
    · subst h
      simp [State.cc]
    · rw [State.cc, State.site_updSite_other _ _ h, State.cc]
  · rfl

theorem State.dropWriteBack_frame (p : Fin 168) (off : Nat) : { s.dropWriteBack p off with sites := s.sites } = s := by
  unfold State.dropWriteBack
  split <;> rfl

theorem keepsRest_writeWide (p : Fin 168) (off : Nat) (f : Flit) : s.keepsRest (s.writeWide p off f) := by
  have hframe := State.dropWriteBack_frame (s := s.putRaw p off f.data (checkOf (s.classSAt p off) f.data (if f.poison then 15 else 0))) p off
  exact ⟨.ofRegs (congrArg State.regs hframe :), (congrArg State.host hframe :), (congrArg State.mgmt hframe :), fun q => State.cc_dropWriteBack ..⟩

theorem keepsRest_writeGrans (p : Fin 168) : ∀ (l : List Flit) (s : State) (off : Nat), s.keepsRest (s.writeGrans p off l)
  | [], _, _ => .rfl'
  | f :: l, _, off => (keepsRest_writeWide p off f).trans (keepsRest_writeGrans p l _ (off + 64))

theorem scratch_writeWide_congr (h : s.sameMap t) (hs : t.scratch = s.scratch) (p : Fin 168) (off : Nat) (f : Flit) :
    (t.writeWide p off f).scratch = (s.writeWide p off f).scratch := by
  have hdrop : ∀ x : State, (x.dropWriteBack p off).scratch = x.scratch := fun x => (congrArg State.scratch (State.dropWriteBack_frame (s := x) p off) :)
  rw [State.writeWide, State.writeWide, hdrop, hdrop, h.classSAt]
  simp only [State.putRaw, State.cellOf, h.1.rawRow, hs]

/-- What the cells hold after a write depends on the cells and their layout alone. -/
theorem scratch_writeGrans_congr (p : Fin 168) : ∀ (l : List Flit) {s t : State} (off : Nat), s.sameMap t → t.scratch = s.scratch →
    (t.writeGrans p off l).scratch = (s.writeGrans p off l).scratch
  | [], _, _, _, _, hs => hs
  | f :: l, s, t, off, h, hs => by
    refine scratch_writeGrans_congr p l (off + 64) ?_ (scratch_writeWide_congr h hs p off f)
    have hregs : ∀ x : State, (x.writeWide p off f).regs = x.regs := fun x => (congrArg State.regs (State.dropWriteBack_frame
      (s := x.putRaw p off f.data (checkOf (x.classSAt p off) f.data (if f.poison then 15 else 0))) p off) :)
    have hreg : ∀ (x : State) u o, (x.writeWide p off f).reg u o = x.reg u o := fun x u o => by rw [State.reg, State.reg, hregs]
    exact ⟨fun q d e hd he => by rw [hreg, hreg, h.1 q d e hd he], fun q n hn => by rw [State.regionCfg, State.regionCfg, hreg, hreg]; exact h.2 q n hn⟩

/-! ## One packet -/

theorem sameCells_grants (p : Fin 168) (off len : Nat) : s.sameCells (s.grants p 3 off len) := by
  unfold State.grants
  split
  · exact .rfl'
  · exact .ofSetReg _ _ _ (by simp [offRemaps])

theorem sameCells_advanceTails (p : Fin 168) (ends : List (Nat × Nat)) : s.sameCells (s.advanceTails p ends) := by
  refine List.foldlRecOn (motive := s.sameCells) ends _ .rfl' fun t ht e _ => ?_
  split
  · exact ht.trans (.ofSetReg _ _ _ (by unfold offRemaps; omega))
  · exact ht

theorem State.readCore_zero (p : Fin 168) (off : Nat) : ∀ fuel, s.readCore p off 0 fuel = (s, some [])
  | 0 => rfl
  | _ + 1 => rfl

theorem State.writeCore_nil (p : Fin 168) (off : Nat) : ∀ fuel, s.writeCore p off [] fuel = (s, true)
  | 0 => rfl
  | _ + 1 => rfl

/-- An admitted packet delivers the granules as they stand. -/
theorem readCore_packet {p : Fin 168} {off n : Nat} (hpos : 0 < n) (hmax : n ≤ 2048) (hok : s.coreAdmits p off n (s.checkReads p 5 off n) = true)
    (fuel : Nat) : ∃ t, s.readCore p off n (fuel + 1) = (t, some (s.delivered p off (n / 64))) ∧ s.sameCells t := by
  obtain ⟨hkeep, hread⟩ := readGrans_spec p 3 (n / 64) (s.grants p 3 off n) off
  have hgrants := sameCells_grants (s := s) p off n
  refine ⟨_, ?_, (hgrants.trans hkeep).trans (sameCells_advanceTails p (s.regionEnds p false 5 off n))⟩
  rw [State.readCore]
  dsimp only
  rw [Nat.min_eq_left hmax, if_neg hpos.ne', if_pos hok, Nat.sub_self, State.readCore_zero, hread, hgrants.delivered]
  simp

/-- An admitted packet writes its granules and nothing else. -/
theorem writeCore_packet {p : Fin 168} {off n : Nat} {l : List Flit} (hlen : n = 64 * l.length) (hpos : 0 < n) (hmax : n ≤ 2048)
    (hok : s.coreAdmits p off n (s.checkWrites p 5 off n) = true) (fuel : Nat) :
    ∃ t, s.writeCore p off l (fuel + 1) = (t, true) ∧ t.scratch = (s.writeGrans p off l).scratch ∧ s.keepsRest t := by
  have htake : l.take 32 = l := List.take_of_length_le (by omega)
  have hdrop : l.drop 32 = [] := List.drop_eq_nil_of_le (by omega)
  have hgrants := keepsRest_grants (s := s) p off n
  have hcells := (sameCells_grants (s := s) p off n).1
  refine ⟨((s.grants p 3 off n).writeGrans p off l).advanceHeads p (s.regionEnds p true 5 off n), ?_, ?_,
    (hgrants.trans (keepsRest_writeGrans ..)).trans (keepsRest_advanceHeads ..)⟩
  · rw [State.writeCore]
    dsimp only
    rw [htake, hdrop, ← hlen, if_neg hpos.ne', if_pos hok, State.writeCore_nil]
  · rw [State.scratch_advanceHeads, scratch_writeGrans_congr p l off hgrants.1 hcells]

/-! ## Panel addresses of a core -/

/-- A panel address names a run of granules of a core that one packet holds. -/
def State.spot (s : State) (pa n : Nat) (p : Fin 168) (off : Nat) : Prop :=
  s.paKind pa = .scratch p off ∧ off % 64 = 0 ∧ n % 64 = 0 ∧ 0 < n ∧ n ≤ 2048 ∧ off + n ≤ 0x18000000

namespace State.spot

variable {pa n off : Nat} {p : Fin 168} (h : s.spot pa n p off)

include h

theorem accessBad (a b : Nat) : s.accessBad pa n a b = none := by
  obtain ⟨hkind, hoff, hn, -, -, hend⟩ := h
  simp [State.accessBad, hkind, firstBad, hoff, hn, hend]

theorem accessStatus : s.accessStatus pa n = if s.coreKept p then some 7 else none := by
  rw [State.accessStatus, h.1]

/-- A read of the panel delivers the granules as they stand, with their marks, and keeps the cells. -/
theorem readPanel (hok : s.coreAdmits p off n (s.checkReads p 5 off n) = true) :
    ∃ t, s.readPanel pa n = (t, some (flitData (s.delivered p off (n / 64)))) ∧ s.sameCells t := by
  obtain ⟨hkind, -, -, hpos, hmax, -⟩ := h
  obtain ⟨t, hread, hkeep⟩ := readCore_packet hpos hmax hok (n / 2048)
  refine ⟨t.corePoison p off (s.delivered p off (n / 64)), by rw [State.readPanel, hkind]; dsimp only; rw [hread]; rfl, hkeep.trans ?_⟩
  unfold State.corePoison
  split
  · exact .ofEvents ((onlyEvents_count32 (.site p) 0x18508040).trans (onlyEvents_raise _)) (by simp [offRemaps])
  · exact .rfl'

/-- A write of the panel writes the granules. -/
theorem writePanel {bytes : List Byte} (hlen : bytes.length = n) (hok : s.coreAdmits p off n (s.checkWrites p 5 off n) = true) :
    ∃ t, s.writePanel pa bytes = (t, true) ∧ t.scratch = (s.writeGrans p off (cleanGrans bytes)).scratch ∧ s.keepsRest t := by
  obtain ⟨hkind, -, hn, hpos, hmax, -⟩ := h
  have hgrans : n = 64 * (cleanGrans bytes).length := by
    simp only [cleanGrans, bytesToGrans, List.length_map, length_chunks, hlen]
    omega
  obtain ⟨t, hwrite, hrest⟩ := writeCore_packet hgrans hpos hmax hok (bytes.length / 2048)
  exact ⟨t, by rw [State.writePanel, hkind]; exact hwrite, hrest⟩

end State.spot

/-- The granules of a span of whole granules. -/
theorem map_granOffs {off n : Nat} (hn : n % 64 = 0) (p : Fin 168) :
    ((granOffs off n).map fun q => (⟨(s.granAt p q).data, (s.granAt p q).poison != 0⟩ : Flit)) = s.delivered p off (n / 64) := by
  rw [granOffs, List.map_map, State.delivered, show (n + 63) / 64 = n / 64 by omega]
  rfl

end Sys2Proof.Machine
end

section
/-! O54, registers and scratchpad: what MEM_READ, MEM_WRITE, DMA_IN, DMA_OUT and HELD_READ do with panel addresses (R193, R383, R537, R560). -/

namespace Sys2Proof.Machine

variable {s t : State} {c : MciCmd} {m : Fin 64} {p : Fin 168} {pa n off op : Nat}

/-! ## In the state that has taken the command -/

theorem State.spot.taken (h : s.spot pa n p off) (c : MciCmd) (op : Nat) (m : Fin 64) : (s.taken c op m).spot pa n p off := by
  obtain ⟨x, hx⟩ : ∃ x, s.taken c op m = { s with mgmt := x } := ⟨_, rfl⟩
  rw [hx]
  exact h

theorem State.coreKept_taken (c : MciCmd) (op : Nat) (m : Fin 64) (p : Fin 168) : (s.taken c op m).coreKept p = s.coreKept p := rfl

/-- What a read of a core gives while a command is executed. -/
theorem State.spot.readPanel_taken (h : s.spot pa n p off) (hok : s.coreAdmits p off n (s.checkReads p 5 off n) = true) (c : MciCmd) (op : Nat)
    (m : Fin 64) : ∃ t, (s.taken c op m).readPanel pa n = (t, some (flitData (s.delivered p off (n / 64)))) ∧ t.scratch = s.scratch ∧
      t.host = s.host ∧ t.mgmt = (s.taken c op m).mgmt := by
  obtain ⟨x, hx⟩ : ∃ x, s.taken c op m = { s with mgmt := x } := ⟨_, rfl⟩
  rw [hx]
  obtain ⟨t, hread, hcells, hhost, hmgmt, -⟩ := State.spot.readPanel (s := { s with mgmt := x }) h hok
  exact ⟨t, hread, hcells, hhost, hmgmt⟩

/-- What a write of a core does while a command is executed. -/
theorem State.spot.writePanel_taken (h : s.spot pa n p off) (hok : s.coreAdmits p off n (s.checkWrites p 5 off n) = true) {bytes : List Byte}
    (hlen : bytes.length = n) (c : MciCmd) (op : Nat) (m : Fin 64) : ∃ t, (s.taken c op m).writePanel pa bytes = (t, true) ∧
      t.scratch = (s.writeGrans p off (cleanGrans bytes)).scratch ∧ t.host = s.host ∧ t.mgmt = (s.taken c op m).mgmt ∧ t.cc p = s.cc p := by
  obtain ⟨x, hx⟩ : ∃ x, s.taken c op m = { s with mgmt := x } := ⟨_, rfl⟩
  rw [hx]
  obtain ⟨t, hwrite, hcells, -, hhost, hmgmt, hcc⟩ := State.spot.writePanel (s := { s with mgmt := x }) h hlen hok
  exact ⟨t, hwrite, hcells.trans (scratch_writeGrans_congr p _ off (.ofRegs rfl) rfl), hhost, hmgmt, hcc p⟩

theorem moveLimit_mailbox {south : Bool} (h : c.via = .mailbox south m) : moveLimit c = 3968 := by
  simp [moveLimit, onWire, h]

/-! ## MEM_READ -/

theorem memRead_fits (a n : Nat) : (mciForm 0x0401 2 [fd 8, fd 4, rs 4]).fits (toBytes 8 a ++ toBytes 4 n ++ toBytes 4 0) := by
  refine ⟨by simp [mciForm, fd, rs], ?_, rfl⟩
  simp (disch := omega) [badReserved, mciForm, fd, rs, List.append_assoc, bytesAt_skip, bytesAt_last]

theorem memRead_args {a n : Nat} {rest : List Byte} (hpl : c.payload = toBytes 8 a ++ toBytes 4 n ++ rest) (ha : a < 2 ^ 64) (hn : n < 2 ^ 32) :
    arg c 0 8 = a ∧ arg c 8 4 = n := by
  simp (disch := omega) [arg, hpl, List.append_assoc, bytesAt_skip, bytesAt_here]

/-- MEM_READ of what nothing forbids gives what the panel delivers. -/
theorem memRead_effect {a : Nat} {d : List Byte × List Bool} {u : State} (h : s.boxTakes c m 2 (toBytes 8 a ++ toBytes 4 n ++ toBytes 4 0))
    (ha : a < 2 ^ 64) (hn : n ≤ 2048) (hbad : (s.taken c 0x0401 m).accessBad a n 0 8 = none) (hst : (s.taken c 0x0401 m).accessStatus a n = none)
    (hread : (s.taken c 0x0401 m).readPanel a n = (t, some d)) (hmgmt : t.mgmt = (s.taken c 0x0401 m).mgmt) (hu : u.onlyBox t) :
    Completes (.memRead c) s m u (markBytes 8 d.2 ++ d.1) := by
  obtain ⟨harg₀, harg₈⟩ := memRead_args (rest := toBytes 4 0) h.2.1 ha (by omega)
  refine completes_of_give (op := 0x0401) (exec_memRead ..) h (memRead_fits a n) rfl ?_ hmgmt hu
  have hlimit : ¬ 3968 < n := by omega
  dsimp only
  rw [harg₀, harg₈, moveLimit_mailbox h.1, if_neg hlimit, hbad, hst, hread]

/-- The panel address of a register of the active management die. -/
theorem State.paKind_mgmt (s : State) (o : BitVec 29) : s.paKind (0xF0 * 2 ^ 43 + o.toNat) = .reg .mgmt o.toNat := by
  have hpanel : ¬ 2 ^ 52 ≤ 0xF0 * 2 ^ 43 + o.toNat := by omega
  have hspill : (0xF0 * 2 ^ 43 + o.toNat) / 2 ^ 51 ≠ 1 := by omega
  have hgap : (0xF0 * 2 ^ 43 + o.toNat) / 2 ^ 29 % 2 ^ 14 = 0 := by omega
  have htarget : (0xF0 * 2 ^ 43 + o.toNat) / 2 ^ 43 % 256 = 0xF0 := by omega
  have hoff : (0xF0 * 2 ^ 43 + o.toNat) % 2 ^ 29 = o.toNat := by omega
  unfold State.paKind
  dsimp only
  rw [if_neg hpanel, if_neg hspill, hgap, htarget, hoff]
  rfl

/-- MEM_READ of a register. -/
theorem memRead_mgmtReg {o : BitVec 29} (h : s.boxTakes c m 2 (toBytes 8 (0xF0 * 2 ^ 43 + o.toNat) ++ toBytes 4 8 ++ toBytes 4 0))
    (ho : o.toNat % 8 = 0) : Completes (.memRead c) s m (s.regClear .mgmt o.toNat) (toBytes 8 0 ++ toBytes 8 (s.unitRead .mgmt o.toNat).toNat) := by
  have hend : ¬ regEnd .mgmt < o.toNat + 8 := by
    have : regEnd .mgmt = 2 ^ 29 := rfl
    omega
  have hclear : (s.taken c 0x0401 m).regClear .mgmt o.toNat = { s.regClear .mgmt o.toNat with mgmt := (s.taken c 0x0401 m).mgmt } := by
    unfold State.regClear
    split <;> rfl
  have hmgmt : (s.regClear .mgmt o.toNat).mgmt = s.mgmt := by
    unfold State.regClear
    split <;> rfl
  refine memRead_effect h (by omega) (by omega) ?_ ?_ (d := (toBytes 8 (s.unitRead .mgmt o.toNat).toNat, []))
    (t := (s.taken c 0x0401 m).regClear .mgmt o.toNat) ?_ ?_ ?_
  · rw [State.accessBad, State.paKind_mgmt]
    simp [firstBad, ho, hend]
  · rw [State.accessStatus, State.paKind_mgmt]
  · rw [State.readPanel, State.paKind_mgmt]
    rfl
  · rw [hclear]
  · rw [hclear]
    unfold State.onlyBox
    rw [State.taken]
    dsimp only
    rw [← hmgmt]

/-- MEM_READ of scratchpad. -/
theorem memRead_scratch (h : s.boxTakes c m 2 (toBytes 8 pa ++ toBytes 4 n ++ toBytes 4 0)) (hpa : pa < 2 ^ 64) (hspot : s.spot pa n p off)
    (hok : s.coreAdmits p off n (s.checkReads p 5 off n) = true) (hkept : s.coreKept p = false) : ∃ t, exec (.memRead c) s = .next t ∧
      t.scratch = s.scratch ∧ s.boxDone t m 0 0 (markBytes 8 ((s.delivered p off (n / 64)).map (·.poison)) ++ flitBytes (s.delivered p off (n / 64))) := by
  obtain ⟨t, hread, hcells, -, hmgmt⟩ := hspot.readPanel_taken hok c 0x0401 m
  have htaken := hspot.taken c 0x0401 m
  obtain ⟨-, -, -, -, hn, -⟩ := hspot
  obtain ⟨r, hx, hbox, hdone⟩ := memRead_effect h hpa hn (htaken.accessBad 0 8)
    (by rw [htaken.accessStatus, State.coreKept_taken, hkept]; rfl) hread hmgmt .rfl'
  exact ⟨r, hx, hbox.scratch.trans hcells, hdone⟩

/-- MEM_READ of a core that is held or clearing. -/
theorem memRead_kept (h : s.boxTakes c m 2 (toBytes 8 pa ++ toBytes 4 n ++ toBytes 4 0)) (hpa : pa < 2 ^ 64) (hspot : s.spot pa n p off)
    (hkept : s.coreKept p = true) : TurnedAway (.memRead c) s m 7 0 := by
  have htaken := hspot.taken c 0x0401 m
  obtain ⟨-, -, -, -, hn, -⟩ := hspot
  obtain ⟨harg₀, harg₈⟩ := memRead_args (rest := toBytes 4 0) h.2.1 hpa (by omega)
  refine turnedAway_of (op := 0x0401) (exec_memRead ..) h (memRead_fits pa n) rfl ?_ (by norm_num) (by norm_num)
  have hlimit : ¬ 3968 < n := by omega
  dsimp only
  rw [harg₀, harg₈, moveLimit_mailbox h.1, if_neg hlimit, htaken.accessBad 0 8, htaken.accessStatus, State.coreKept_taken, hkept]
  rfl

/-! ## MEM_WRITE -/

theorem memWrite_fits {a : Nat} {bytes : List Byte} (hlen : bytes.length = n) (hn : n < 2 ^ 32) :
    ({ mciForm 0x0402 2 [fd 8, fd 4, rs 4] with tail := fun p => bytesAt p 8 4 } : MciForm).fits
      (toBytes 8 a ++ toBytes 4 n ++ toBytes 4 0 ++ bytes) := by
  refine ⟨?_, ?_, rfl⟩
  · simp (disch := omega) [mciForm, fd, rs, List.append_assoc, bytesAt_skip, bytesAt_here, hlen]
    omega
  · simp (disch := omega) [badReserved, mciForm, fd, rs, List.append_assoc, bytesAt_skip, bytesAt_here]

/-- MEM_WRITE of scratchpad. -/
theorem memWrite_scratch {bytes : List Byte} (h : s.boxTakes c m 2 (toBytes 8 pa ++ toBytes 4 n ++ toBytes 4 0 ++ bytes)) (hpa : pa < 2 ^ 64)
    (hlen : bytes.length = n) (hspot : s.spot pa n p off) (hok : s.coreAdmits p off n (s.checkWrites p 5 off n) = true)
    (hkept : s.coreKept p = false) : ∃ t, exec (.memWrite c) s = .next t ∧ t.scratch = (s.writeGrans p off (cleanGrans bytes)).scratch ∧
      s.boxDone t m 0 0 [] ∧ t.cc p = s.cc p := by
  obtain ⟨t, hwrite, hcells, -, hmgmt, hcc⟩ := hspot.writePanel_taken hok hlen c 0x0402 m
  have htaken := hspot.taken c 0x0402 m
  obtain ⟨-, -, -, -, hn, -⟩ := hspot
  have hpl := h.2.1
  obtain ⟨harg₀, harg₈⟩ := memRead_args (n := n) (rest := toBytes 4 0 ++ bytes) (by rw [hpl]; simp only [List.append_assoc]) hpa (by omega)
  have hdrop : c.payload.drop 16 = bytes := by
    rw [hpl]
    exact List.drop_left' (by simp)
  obtain ⟨r, hx, hbox, hdone⟩ := completes_of_give (v := t) (payload := []) (op := 0x0402) (exec_memWrite ..) h (memWrite_fits hlen (by omega)) rfl (by
    have hlimit : ¬ 3968 < n := by omega
    dsimp only
    rw [harg₀, harg₈, moveLimit_mailbox h.1, if_neg hlimit, htaken.accessBad 0 8, htaken.accessStatus, State.coreKept_taken, hkept, hdrop, hwrite]
    rfl) hmgmt .rfl'
  refine ⟨r, hx, hbox.scratch.trans hcells, hdone, ?_⟩
  rw [← hcc, State.cc, State.site, hbox.sites]
  rfl

/-! ## DMA_IN and DMA_OUT -/

theorem dmaIn_fits (a b n : Nat) : (mciBus 0x0403 2 [fd 8, fd 8, fd 8]).fits (toBytes 8 a ++ toBytes 8 b ++ toBytes 8 n) :=
  ⟨by simp [mciBus, fd], by simp [badReserved, mciBus, fd], rfl⟩

theorem dmaOut_fits (a b n d : Nat) :
    (mciBus 0x0404 2 [fd 8, fd 8, fd 8, fd 8]).fits (toBytes 8 a ++ toBytes 8 b ++ toBytes 8 n ++ toBytes 8 d) :=
  ⟨by simp [mciBus, fd], by simp [badReserved, mciBus, fd], rfl⟩

theorem dma_args {a b : Nat} {rest : List Byte} (hpl : c.payload = toBytes 8 a ++ toBytes 8 b ++ toBytes 8 n ++ rest) (ha : a < 2 ^ 64)
    (hb : b < 2 ^ 64) (hn : n < 2 ^ 64) : arg c 0 8 = a ∧ arg c 8 8 = b ∧ arg c 16 8 = n := by
  simp (disch := omega) [arg, hpl, List.append_assoc, bytesAt_skip, bytesAt_here]

/-- DMA_IN to scratchpad. -/
theorem dmaIn_scratch {a : Nat} (h : s.boxTakes c m 2 (toBytes 8 a ++ toBytes 8 pa ++ toBytes 8 n)) (ha : a < 2 ^ 64) (hpa : pa < 2 ^ 64)
    (hspot : s.spot pa n p off) (hok : s.coreAdmits p off n (s.checkWrites p 5 off n) = true) (hkept : s.coreKept p = false) :
    ∃ t, exec (.dmaIn c) s = .next t ∧ t.scratch = (s.writeGrans p off (cleanGrans (s.host.readBytes a n))).scratch ∧ t.host = s.host ∧
      s.boxDone t m 0 0 [] := by
  obtain ⟨t, hwrite, hcells, hhost, hmgmt, -⟩ := hspot.writePanel_taken hok (Memory.length_readBytes n s.host a) c 0x0403 m
  have htaken := hspot.taken c 0x0403 m
  obtain ⟨-, -, -, -, hn, -⟩ := hspot
  have hsource : (s.taken c 0x0403 m).host = s.host := rfl
  obtain ⟨harg₀, harg₈, harg₁₆⟩ := dma_args (rest := []) (by rw [h.2.1, List.append_nil]) ha hpa (by omega : n < 2 ^ 64)
  obtain ⟨r, hx, hbox, hdone⟩ := completes_of_give (v := t) (payload := []) (op := 0x0403) (exec_dmaIn ..) h (dmaIn_fits a pa n) rfl (by
    have hlimit : ¬ 2 ^ 32 < n := by omega
    dsimp only
    rw [harg₀, harg₈, harg₁₆, if_neg hlimit, htaken.accessBad 8 16, htaken.accessStatus, State.coreKept_taken, hkept, hsource, hwrite]
    rfl) hmgmt .rfl'
  exact ⟨r, hx, hbox.scratch.trans hcells, hbox.host.trans hhost, hdone⟩

/-- DMA_OUT from scratchpad. -/
theorem dmaOut_scratch {a d : Nat} (h : s.boxTakes c m 2 (toBytes 8 a ++ toBytes 8 pa ++ toBytes 8 n ++ toBytes 8 d)) (ha : a < 2 ^ 64)
    (hpa : pa < 2 ^ 64) (hd : d < 2 ^ 64) (hspot : s.spot pa n p off) (hok : s.coreAdmits p off n (s.checkReads p 5 off n) = true)
    (hkept : s.coreKept p = false) : ∃ t, exec (.dmaOut c) s = .next t ∧ t.scratch = s.scratch ∧ s.boxDone t m 0 0 [] ∧
      t.host = (s.host.writeBytes a (flitBytes (s.delivered p off (n / 64)))).writeBytes d
        (markBytes ((n + 511) / 512) ((s.delivered p off (n / 64)).map (·.poison))) := by
  obtain ⟨t, hread, hcells, hhost, hmgmt⟩ := hspot.readPanel_taken hok c 0x0404 m
  have htaken := hspot.taken c 0x0404 m
  obtain ⟨-, -, -, -, hn, -⟩ := hspot
  have hpl := h.2.1
  obtain ⟨harg₀, harg₈, harg₁₆⟩ := dma_args (rest := toBytes 8 d) hpl ha hpa (by omega : n < 2 ^ 64)
  have harg₂₄ : arg c 24 8 = d := by simp (disch := omega) [arg, hpl, List.append_assoc, bytesAt_skip, bytesAt_last]
  obtain ⟨r, hx, hbox, hdone⟩ := completes_of_give (payload := []) (op := 0x0404) (exec_dmaOut ..) h (dmaOut_fits a pa n d) rfl
    (v := { t with
      host := (t.host.writeBytes a (flitBytes (s.delivered p off (n / 64)))).writeBytes d
        (markBytes ((n + 511) / 512) ((s.delivered p off (n / 64)).map (·.poison))) }) (by
    have hlimit : ¬ 2 ^ 32 < n := by omega
    dsimp only
    rw [harg₀, harg₈, harg₁₆, harg₂₄, if_neg hlimit, htaken.accessBad 8 16, htaken.accessStatus, State.coreKept_taken, hkept, hread]
    rfl) hmgmt .rfl'
  exact ⟨r, hx, hbox.scratch.trans hcells, hdone, by rw [hbox.host, ← hhost]⟩

end Sys2Proof.Machine
end

section
/-! O54, held contents and apertures: HELD_READ under the owner token and under another (R193, R383, R537), and APERTURE_SET (R186, R560). -/

namespace Sys2Proof.Machine

variable {s t : State} {c : MciCmd} {m : Fin 64} {p : Fin 168} {pa n off : Nat} {x : Partition}

/-! ## Freezing session 0 (R557) -/

/-- A session stands frozen. -/
def State.sessionFrozen (s : State) (id : W32) : Prop := ∃ y, s.session id = some y ∧ y.frozen = true

@[simp] theorem Session.offer_id (e : Event) (y : Session) : (y.offer e).id = y.id := by
  unfold Session.offer
  split
  · split <;> rfl
  · rfl

@[simp] theorem Session.offer_frozen (e : Event) (y : Session) : (y.offer e).frozen = y.frozen := by
  unfold Session.offer
  split
  · split <;> rfl
  · rfl

@[simp] theorem State.offerRing_sessions (e : Event) (i : Nat) : (State.offerRing e s i).sessions = s.sessions := by
  unfold State.offerRing
  dsimp only
  split <;> rfl

theorem State.sessionFrozen.writeEvent {id : W32} (h : s.sessionFrozen id) (e : Event) : (s.writeEvent e).sessionFrozen id := by
  obtain ⟨y, hy, hfrozen⟩ := h
  refine ⟨y.offer { e with seq := s.eventSeq }, ?_, by simpa using hfrozen⟩
  have hid : (fun z : Session => z.id == id) ∘ Session.offer { e with seq := s.eventSeq } = fun z => z.id == id := by
    funext z
    simp
  have hsessions : (s.writeEvent e).sessions = s.sessions.map (Session.offer { e with seq := s.eventSeq }) := by
    rw [State.writeEvent_eq]
    simp [State.logEvent]
  rw [State.session, hsessions, List.find?_map, hid, show s.sessions.find? _ = some y from hy]
  rfl

theorem State.sessionFrozen.raise {id : W32} (h : s.sessionFrozen id) (e : Event) : (s.raise e).sessionFrozen id := by
  obtain ⟨l, -, hl⟩ := State.raise_writes (s := s) e
  rw [hl]
  exact List.foldlRecOn (motive := fun t : State => t.sessionFrozen id) l _ (h.writeEvent e) fun t ht f _ => ht.writeEvent f

/-- The first element that has the predicate, changed. -/
theorem find?_mapFirst {α : Type} {q : α → Bool} {f : α → α} (hq : ∀ z, q z = true → q (f z) = true) :
    ∀ l : List α, (mapFirst q f l).find? q = (l.find? q).map f
  | [] => rfl
  | z :: l => by
    rw [mapFirst]
    by_cases h : q z = true
    · simp [h, hq z h]
    · simp [h, find?_mapFirst hq l]

theorem State.sessionFrozen_freezeSession {id : W32} {y : Session} (h : s.session id = some y) (op cause : Nat) :
    (s.freezeSession id op cause).sessionFrozen id := by
  have hupd : (s.updSession id fun z => { z with frozen := true }).sessionFrozen id := by
    refine ⟨{ y with frozen := true }, ?_, rfl⟩
    rw [State.session, State.updSession]
    dsimp only
    rw [find?_mapFirst (q := fun z : Session => z.id == id) (f := fun z : Session => { z with frozen := true }) fun _ hz => hz, show s.sessions.find? _ = some y from h]
    rfl
  exact hupd.raise _

theorem State.scratch_freezeSession (id : W32) (op cause : Nat) : (s.freezeSession id op cause).scratch = s.scratch :=
  (onlyEvents_event ..).scratch

/-- A command that names a wrong owner token freezes session 0 and moves nothing. -/
theorem mci_wrongToken {i : Instr} {f : MciForm} {pl : List Byte} {op : Nat} {go : State → MciAns} (hi : exec i s = s.mci c f go)
    (h : s.boxTakes c m f.right pl) (hf : f.fits pl) (hop : f.op = op) (hgo : go (s.taken c op m) = .fail (s.taken c op m) 5) :
    ∃ t, exec i s = .next t ∧ t.sessionFrozen 0 ∧ t.scratch = s.scratch := by
  subst hop
  have hmci := mci_of_boxTakes h hf go
  obtain ⟨hvia, -, -, -, -, -, -, -, -, -, -, y, hy, -⟩ := h
  have hend : State.mciEnd c f (.fail (s.taken c f.op m) 5) = ((s.taken c f.op m).freezeSession 0 f.op 1).mciReply c f.op 5 0 [] := by
    simp [State.mciEnd, MciAns.fail]
  have hbox := onlyBox_mciReply (s := (s.taken c f.op m).freezeSession 0 f.op 1) hvia f.op 5 0 []
  obtain ⟨z, hz, hfrozen⟩ := State.sessionFrozen_freezeSession (s := s.taken c f.op m) (id := 0) (y := y) hy f.op 1
  refine ⟨_, (hi.trans hmci).trans (by rw [hgo, hend]), ⟨z, ?_, hfrozen⟩, hbox.scratch.trans (State.scratch_freezeSession ..)⟩
  rw [State.session, hbox.sessions]
  exact hz

/-! ## HELD_READ -/

theorem heldRead_fits (a : Byte) (n z b : Nat) :
    (mciForm 0x0208 2 [fd 1, rs 3, fd 4, fd 8, fd 8]).fits ([a] ++ toBytes 3 0 ++ toBytes 4 n ++ toBytes 8 z ++ toBytes 8 b) := by
  refine ⟨by simp [mciForm, fd, rs], ?_, rfl⟩
  simp (disch := omega) [badReserved, mciForm, fd, rs, List.append_assoc, bytesAt_cons_skip, bytesAt_here]

theorem heldRead_args {a : Byte} {z b : Nat} (hpl : c.payload = [a] ++ toBytes 3 0 ++ toBytes 4 n ++ toBytes 8 z ++ toBytes 8 b) (hn : n < 2 ^ 32)
    (hz : z < 2 ^ 64) (hb : b < 2 ^ 64) : arg c 0 1 = a.toNat ∧ arg c 4 4 = n ∧ arg c 8 8 = z ∧ arg c 16 8 = b := by
  simp (disch := omega) [arg, hpl, List.append_assoc, bytesAt_skip, bytesAt_cons_skip, bytesAt_here, bytesAt_last]

/-- What a command does with a partition, while it is executed. -/
theorem onPart_taken {a : Byte} (harg : arg c 0 1 = a.toNat) (hx : s.part a.toNat = some x) (op : Nat) (go : Nat → Partition → MciAns) :
    (s.taken c op m).onPart c go = go a.toNat x := by
  have hpart : (s.taken c op m).part a.toNat = some x := hx
  rw [State.onPart, harg, hpart]

/-- A held core of the partition. -/
theorem withinHeld_taken (hspot : s.spot pa n p off) (hmem : p ∈ s.partSites x) (hheld : s.coreState p = 7) (tag op : Nat) :
    (s.taken c op m).withinHeld tag x pa n = true := by
  obtain ⟨y, hy⟩ : ∃ y, s.taken c op m = { s with mgmt := y } := ⟨_, rfl⟩
  have hkind : ({ s with mgmt := y } : State).paKind pa = .scratch p off := hspot.1
  have hsites : ({ s with mgmt := y } : State).partSites x = s.partSites x := rfl
  have hstate : ({ s with mgmt := y } : State).coreState p = 7 := hheld
  rw [hy, State.withinHeld, hkind]
  simp [hsites, hstate, hmem]

/-- HELD_READ under the owner token. -/
theorem heldRead_scratch {a : Byte} {z : W64} (h : s.boxTakes c m 2 ([a] ++ toBytes 3 0 ++ toBytes 4 n ++ toBytes 8 z.toNat ++ toBytes 8 pa))
    (hpa : pa < 2 ^ 64) (hx : s.part a.toNat = some x) (hstate : x.state = 3) (htoken : x.ownerToken = some z) (hmem : p ∈ s.partSites x)
    (hheld : s.coreState p = 7) (hspot : s.spot pa n p off) (hok : s.coreAdmits p off n (s.checkReads p 5 off n) = true) :
    ∃ t, exec (.heldRead c) s = .next t ∧ t.scratch = s.scratch ∧
      s.boxDone t m 0 0 (markBytes 8 ((s.delivered p off (n / 64)).map (·.poison)) ++ flitBytes (s.delivered p off (n / 64))) := by
  obtain ⟨t, hread, hcells, -, hmgmt⟩ := hspot.readPanel_taken hok c 0x0208 m
  have htaken := hspot.taken c 0x0208 m
  have hwithin := withinHeld_taken (c := c) (m := m) hspot hmem hheld a.toNat 0x0208
  obtain ⟨-, -, -, -, hn, -⟩ := hspot
  obtain ⟨harg₀, harg₄, harg₈, harg₁₆⟩ := heldRead_args h.2.1 (by omega) z.isLt hpa
  obtain ⟨r, hr, hbox, hdone⟩ := completes_of_give (op := 0x0208) (exec_heldRead ..) h (heldRead_fits a n z.toNat pa) rfl (v := t)
    (payload := markBytes 8 ((s.delivered p off (n / 64)).map (·.poison)) ++ flitBytes (s.delivered p off (n / 64))) (by
    have hlimit : ¬ 3968 < n := by omega
    have hkey : (z != w64 z.toNat) = false := by simp [w64]
    dsimp only
    rw [harg₄, moveLimit_mailbox h.1, if_neg hlimit, onPart_taken harg₀ hx, hstate, htoken]
    show (if (z != w64 (arg c 8 8)) = true then _ else _) = _
    rw [harg₈, harg₁₆, hkey, htaken.accessBad, hwithin, hread]
    rfl) hmgmt .rfl'
  exact ⟨r, hr, hbox.scratch.trans hcells, hdone⟩

/-- HELD_READ under another token. -/
theorem heldRead_wrongToken {a : Byte} {z v : W64} {b : Nat}
    (h : s.boxTakes c m 2 ([a] ++ toBytes 3 0 ++ toBytes 4 n ++ toBytes 8 z.toNat ++ toBytes 8 b)) (hb : b < 2 ^ 64) (hn : n ≤ 3968)
    (hx : s.part a.toNat = some x) (hstate : x.state = 3) (htoken : x.ownerToken = some v) (hne : z ≠ v) :
    ∃ t y, exec (.heldRead c) s = .next t ∧ t.session 0 = some y ∧ y.frozen = true ∧ t.scratch = s.scratch := by
  obtain ⟨harg₀, harg₄, harg₈, -⟩ := heldRead_args h.2.1 (by omega) z.isLt hb
  obtain ⟨t, ht, ⟨y, hy, hfrozen⟩, hcells⟩ := mci_wrongToken (op := 0x0208) (exec_heldRead ..) h (heldRead_fits a n z.toNat b) rfl (by
    have hlimit : ¬ 3968 < n := by omega
    have hkey : (v != w64 z.toNat) = true := by simpa [w64] using hne.symm
    dsimp only
    rw [harg₄, moveLimit_mailbox h.1, if_neg hlimit, onPart_taken harg₀ hx, hstate, htoken]
    show (if (v != w64 (arg c 8 8)) = true then _ else _) = _
    rw [harg₈, hkey]
    rfl)
  exact ⟨t, y, ht, hy, hfrozen, hcells⟩

/-! ## APERTURE_SET -/

theorem apertureSet_fits (a b : Byte) (u v : Nat) :
    (mciBus 0x0405 2 [fd 1, fd 1, rs 6, fd 8, fd 8]).fits ([a, b] ++ toBytes 6 0 ++ toBytes 8 u ++ toBytes 8 v) := by
  refine ⟨by simp [mciBus, fd, rs], ?_, rfl⟩
  simp (disch := omega) [badReserved, mciBus, fd, rs, List.append_assoc, bytesAt_cons_skip, bytesAt_here]

/-- An aperture as APERTURE_SET leaves it: LENGTH 0 revokes. -/
def State.grantAperture (s : State) (i : Nat) (u v : W64) : State :=
  { s with apertures := Sparse.put (0, 0) s.apertures i (if v = 0 then (0, 0) else (u.toNat, v.toNat)) }

theorem apertureSet_effect {a b : Byte} {u v : W64} (h : s.boxTakes c m 2 ([a, b] ++ toBytes 6 0 ++ toBytes 8 u.toNat ++ toBytes 8 v.toNat))
    (hb : b.toNat < 16) (hx : s.part a.toNat = some x) :
    Completes (.apertureSet c) s m (s.grantAperture (a.toNat * 16 + b.toNat) u v) [] := by
  have hu := u.isLt
  have hv := v.isLt
  have hpl := h.2.1
  have harg₀ : arg c 0 1 = a.toNat := by simp [arg, hpl]
  have harg₁ : arg c 1 1 = b.toNat := by simp [arg, hpl, bytesAt_cons_skip]
  have harg₈ : arg c 8 8 = u.toNat := by simp (disch := omega) [arg, hpl, List.append_assoc, bytesAt_skip, bytesAt_cons_skip, bytesAt_here]
  have harg₁₆ : arg c 16 8 = v.toNat := by simp (disch := omega) [arg, hpl, List.append_assoc, bytesAt_skip, bytesAt_cons_skip, bytesAt_last]
  have honly : (s.grantAperture (a.toNat * 16 + b.toNat) u v).onlyBox ((s.taken c 0x0405 m).grantAperture (a.toNat * 16 + b.toNat) u v) := by
    unfold State.grantAperture
    rfl
  refine completes_of_give (v := (s.taken c 0x0405 m).grantAperture (a.toNat * 16 + b.toNat) u v) (op := 0x0405) (exec_apertureSet ..) h
    (apertureSet_fits a b u.toNat v.toNat) rfl ?_ rfl honly
  have hunit : ¬ 15 < b.toNat := by omega
  have hlength : (if v.toNat = 0 then ((0, 0) : Nat × Nat) else (u.toNat, v.toNat)) = if v = 0 then (0, 0) else (u.toNat, v.toNat) :=
    if_congr (by simp [BitVec.toNat_eq]) rfl rfl
  rw [harg₁, if_neg hunit, onPart_taken harg₀ hx, harg₈, harg₁₆, hlength]
  rfl

end Sys2Proof.Machine
end

section
/-! O54, BULK_SEND: a frame of this panel's own leaves by a port that is up and free, and answers its command (R393-R395, R401, R402, R407). -/

namespace Sys2Proof.Machine

variable {s t : State} {c : MciCmd} {m : Fin 64} {e : Nat}

/-! ## One frame through a free port -/

/-- A port whose one waiting frame is bulk, with a credit for it, sends that class. -/
theorem PortSt.nextClass_bulk {x : PortSt} {g : EgFrame} (hone : x.egress = [g]) (hcls : g.frame.cls = 3) (hcredit : 0 < x.credits.getD 3 0)
    (w : List Nat) : ∃ round, x.nextClass w = some (3, round) := by
  have hno : ∀ k, k < 3 → x.sendable k = false := fun k hk => by
    have : (3 == k) = false := beq_false_of_ne (by omega)
    simp [PortSt.sendable, hone, hcls, this]
  have hyes : x.sendable 3 = true := by
    rw [PortSt.sendable, hone]
    simpa [hcls] using hcredit
  unfold PortSt.nextClass
  simp only [hno 0 (by norm_num), hno 1 (by norm_num), hno 2 (by norm_num), hyes, List.find?, Bool.false_and, Bool.true_and]
  by_cases hround : 0 < x.round.getD (3 - 1) 0
  · rw [decide_eq_true hround]
    exact ⟨_, rfl⟩
  · rw [decide_eq_false hround]
    exact ⟨_, rfl⟩

/-- A port after it has taken a frame of a class for sending: the frame is in the replay buffer and a credit is used. -/
def PortSt.afterSend (x : PortSt) (k : Nat) (round : List Nat) (f : Frame) : PortSt :=
  { x with
    txSeq := x.txSeq + 1, round := round, replay := x.replay ++ [f]
    credits := x.credits.set k (x.credits.getD k 0 - 1)
    egress := dropFirst (fun e => e.frame.cls == k) x.egress }

/-- A frame as a port numbers it. -/
def PortSt.numbered (x : PortSt) (f : Frame) : Frame := { f with seq := x.txSeq + 1 }

/-- A port that is up, replays nothing and has room sends its one waiting frame. -/
theorem State.send_one {i k : Nat} {round : List Nat} {g : EgFrame} (hup : s.portUp i = true) (hreplay : (s.port i).replayDue = false)
    (hroom : (s.port i).replay.length < 512) (hone : (s.port i).egress = [g]) (hnext : (s.port i).nextClass (s.weights i) = some (k, round))
    (hcls : g.frame.cls = k) :
    s.send i = ((s.updPort i fun x => x.afterSend k round ((s.port i).numbered g.frame)).emit i ((s.port i).numbered g.frame)).egressDone i g := by
  have hready : (!s.portUp i || (s.port i).replayDue || decide (512 ≤ (s.port i).replay.length)) = false := by simp [hup, hreplay, hroom]
  have hfind : ((s.port i).egress.find? fun a => a.frame.cls == k) = some g := by simp [hone, hcls]
  rw [State.send, hone, List.length_singleton, State.pump]
  dsimp only
  rw [hready, hnext]
  dsimp only
  rw [hfind]
  rfl

theorem State.port_updPort_same (i : Nat) (F : PortSt → PortSt) : (s.updPort i F).port i = F (s.port i) := by
  simp [State.port, State.updPort]

/-- A frame that goes out changes only counters among the registers. -/
theorem State.reg_emit (i : Nat) (f : Frame) {o : Nat} (ho : o < 0x1000) (d : Fin 42) : (s.emit i f).reg (.die d) o = s.reg (.die d) o := by
  have hcount : ∀ (r : State) (off n : Nat), 0x1000 ≤ off → off < 0x2000 →
      (r.count64 (.die (portDie i)) (portReg i off) n).reg (.die d) o = r.reg (.die d) o := fun r off n h₁ h₂ =>
    State.reg_setReg_other _ _ (regKey_ne (by unfold portReg; omega))
  have hregs : (s.emit i f).regs = ((s.count64 (.die (portDie i)) (portReg i 0x1100) 1).count64 (.die (portDie i)) (portReg i 0x1110)
    ((s.port i).dress f).size).regs := rfl
  rw [State.reg, hregs, ← State.reg, hcount _ _ _ (by norm_num) (by norm_num), hcount _ _ _ (by norm_num) (by norm_num)]

theorem State.ownPanel_congr (h : ∀ o < 0x1000, t.reg (.die 0) o = s.reg (.die 0) o) : t.ownPanel = s.ownPanel := by
  rw [State.ownPanel, State.rf_of_reg (h 0 (by norm_num)), State.rf_of_reg (h 8 (by norm_num)), State.ownPanel]

/-! ## The answer to a BULK_SEND -/

theorem dropFirst_append_last {α : Type} {q : α → Bool} {z : α} (hz : q z = true) : ∀ {l : List α}, (∀ y ∈ l, q y = false) → dropFirst q (l ++ [z]) = l
  | [], _ => by simp [dropFirst, hz]
  | y :: l, h => by
    have hy := h y (by simp)
    have hrest := dropFirst_append_last hz (l := l) fun a ha => h a (by simp [ha])
    simp [dropFirst, hy, hrest]

/-- The last frame of the one BULK_SEND that a port carries answers it. -/
theorem State.bulkLeft_last {old : List (MciCmd × Nat × Nat)} (hbulk : s.mgmt.bulk = old ++ [(c, e, 1)]) (hold : ∀ q ∈ old, q.2.1 ≠ e) :
    s.bulkLeft e = ({ s with mgmt.bulk := old } : State).mciReply c 0x0406 0 0 [] := by
  have hmine : ∀ q ∈ old, (q.2.1 == e) = false := fun q hq => beq_false_of_ne (hold q hq)
  have hfind : s.mgmt.bulk.find? (fun b => b.2.1 == e) = some (c, e, 1) := by
    rw [hbulk, List.find?_append, List.find?_eq_none.2 fun q hq => by simp [hmine q hq]]
    simp
  unfold State.bulkLeft
  rw [hfind]
  dsimp only
  rw [if_pos le_rfl, hbulk, dropFirst_append_last (by simp) hmine]

/-! ## A frame of this panel's own -/

theorem State.ownPanel_lt {n : Nat} (h : s.ownPanel = some n) : n < 2 ^ 10 := by
  unfold State.ownPanel at h
  split at h
  · cases h
    exact State.rf_lt ..
  · cases h

/-- A bulk frame of this panel's own that leaves a port counts for its command. -/
theorem State.egressDone_own {g : EgFrame} {n : Nat} (htyp : g.frame.typ = 0xC0) (hseq : g.frame.seq = 0) (hown : s.ownPanel = some n)
    (hsrc : g.frame.srcPanel = BitVec.ofNat 16 n) (hholder : g.holder = none) : s.egressDone e g = s.bulkLeft e := by
  have hn := State.ownPanel_lt hown
  have hpanel : fld g.frame.srcPanel 0 10 = n := by
    rw [hsrc]
    simp [fld]
    omega
  unfold State.egressDone State.returnCredit
  dsimp only
  rw [hholder, hown, hpanel, htyp, hseq]
  simp

/-- A bulk frame of this panel's own joins the egress of an open port of the same die and is sent. -/
theorem State.originate_open {f : Frame} (he : e < 84) (hup : s.portUp e = true) (hcarries : s.carries e 3 = true) (htyp : f.typ = 0xC0)
    (hclean : f.poison = 0) : ∃ g : EgFrame, s.originate (portDie e) e f = (s.updPort e fun x => { x with egress := x.egress ++ [g] }).send e ∧
      g.holder = none ∧ g.frame = { f with
        srcPanel := BitVec.ofNat 16 (s.ownPanel.getD 0), hops := BitVec.ofNat 8 (s.maxHops (portDie e)) } := by
  let g : Frame := { f with srcPanel := BitVec.ofNat 16 (s.ownPanel.getD 0), hops := BitVec.ofNat 8 (s.maxHops (portDie e)) }
  have hcls : g.cls = 3 := by
    show fld f.typ 6 2 = 3
    rw [htyp]
    decide
  have hdie : e / 2 = (portDie e).val := by
    show e / 2 = e / 2 % 42
    omega
  have hshut : (!s.portUp e) = false := by rw [hup]; rfl
  have hopen : (!s.carries e g.cls || (g.cls == 0 && decide (2048 ≤ s.controlHeld e))) = false := by
    rw [hcls, hcarries]
    rfl
  have hforward : s.forward (portDie e) e g none = s.toEgress e g none := if_pos hdie
  have hleaves : s.poisonLeaves (portDie e) g = s := if_pos hclean
  refine ⟨⟨g, s.time, none⟩, ?_, rfl, rfl⟩
  show (s.poisonLeaves (portDie e) g).forward (portDie e) e g none = _
  rw [hleaves, hforward, State.toEgress, hshut, hopen]
  rfl

/-- A bulk frame that the panel originates at a free port of the same die goes out, and answers its command. -/
theorem originate_bulk {f : Frame} {old : List (MciCmd × Nat × Nat)} (he : e < 84) (hup : s.portUp e = true) (hcarries : s.carries e 3 = true)
    (hegress : (s.port e).egress = []) (hreplay : (s.port e).replayDue = false) (hroom : (s.port e).replay.length < 512)
    (hcredit : 0 < (s.port e).credits.getD 3 0) (htyp : f.typ = 0xC0) (hseq : f.seq = 0) (hclean : f.poison = 0)
    (hbulk : s.mgmt.bulk = old ++ [(c, e, 1)]) (hold : ∀ q ∈ old, q.2.1 ≠ e) :
    ∃ (r : State) (f' : Frame), s.originate (portDie e) e f = ({ r with mgmt.bulk := old } : State).mciReply c 0x0406 0 0 [] ∧ r.mgmt = s.mgmt ∧
      Out.frame e f' ∈ r.outbox ∧ f'.typ = f.typ ∧ f'.dstPanel = f.dstPanel ∧ f'.flits = f.flits := by
  obtain ⟨g, hjoin, hholder, hg⟩ := State.originate_open he hup hcarries htyp hclean
  obtain ⟨n, hown⟩ : ∃ n, s.ownPanel = some n := by
    rw [← Option.isSome_iff_exists]
    simp only [State.carries, Bool.or_eq_true, Bool.and_eq_true] at hcarries
    exact hcarries.resolve_left (by decide) |>.1
  have hcls : g.frame.cls = 3 := by
    rw [hg, Frame.cls, htyp]
    decide
  generalize hu : s.updPort e (fun x => { x with egress := x.egress ++ [g] }) = u at hjoin
  have hport : u.port e = { s.port e with egress := [g] } := by
    rw [← hu, State.port_updPort_same, hegress]
    rfl
  have hmgmt : u.mgmt = s.mgmt := by rw [← hu]; rfl
  have hupU : u.portUp e = true := by rw [← hu]; exact hup
  have hownU : u.ownPanel = some n := by rw [← hu]; exact hown
  obtain ⟨round, hnext⟩ := PortSt.nextClass_bulk (x := u.port e) (g := g) (by rw [hport]) hcls (by rw [hport]; exact hcredit) (u.weights e)
  have hsend := State.send_one hupU (by rw [hport]; exact hreplay) (by rw [hport]; exact hroom) (by rw [hport]) hnext hcls
  generalize hv : u.updPort e (fun x => x.afterSend 3 round ((u.port e).numbered g.frame)) = v at hsend
  have hmgmtV : (v.emit e ((u.port e).numbered g.frame)).mgmt = s.mgmt := by rw [← hmgmt, ← hv]; rfl
  have hownV : (v.emit e ((u.port e).numbered g.frame)).ownPanel = some n := by
    rw [State.ownPanel_congr fun o ho => State.reg_emit e _ ho 0, ← hownU, ← hv]
    rfl
  refine ⟨v.emit e ((u.port e).numbered g.frame), (v.port e).dress ((u.port e).numbered g.frame), ?_, hmgmtV, List.mem_append_right _ (by simp), ?_, ?_, ?_⟩
  · rw [hjoin, hsend, State.egressDone_own (by rw [hg]; exact htyp) (by rw [hg]; exact hseq) hownV (by rw [hg, hown]; rfl) hholder]
    exact State.bulkLeft_last (by rw [hmgmtV, hbulk]) hold
  all_goals
    rw [hg]
    rfl

/-! ## BULK_SEND -/

theorem poisonMap_cleanGrans (l : List Byte) : poisonMap (cleanGrans l) = 0 := by
  unfold poisonMap cleanGrans
  have hzero : ∀ (k : List (Flit × Nat)) (a : Nat), (∀ x ∈ k, x.1.poison = false) → k.foldl (fun a x => a + b01 x.1.poison * 2 ^ x.2) a = a := by
    intro k a hk
    refine List.foldlRecOn (motive := fun b => b = a) k _ rfl fun b hb x hx => ?_
    simp [hk x hx, b01, hb]
  rw [hzero _ _ fun x hx => ?_]
  · rfl
  · obtain ⟨y, -, hy⟩ := List.mem_map.1 (List.of_mem_zip hx).1
    rw [← hy]

/-- A frame built from clean granules carries them. -/
theorem flits_mkFrame_clean (typ flags dst args : Nat) (l : List Byte) : (mkFrame typ flags dst args (cleanGrans l)).flits = cleanGrans l := by
  have hpoison : (mkFrame typ flags dst args (cleanGrans l)).poison = 0 := poisonMap_cleanGrans l
  have hbit : ∀ k, bit (0 : W32) k = false := fun k => by simp [bit]
  have hdata : (mkFrame typ flags dst args (cleanGrans l)).payload = bytesToGrans l := by simp [mkFrame, cleanGrans, Function.comp_def]
  unfold Frame.flits
  simp only [hpoison, hbit, hdata]
  calc ((bytesToGrans l).zip (List.range (bytesToGrans l).length)).map (fun x => (⟨x.1, false⟩ : Flit))
      = (((bytesToGrans l).zip (List.range (bytesToGrans l).length)).map Prod.fst).map fun d => ⟨d, false⟩ := by rw [List.map_map]; rfl
    _ = cleanGrans l := by rw [List.map_fst_zip (by simp)]; rfl

theorem bulkSend_fits (w k : Nat) (a : Byte) (u v : Nat) : (mciBus 0x0406 2 [fd 2, fd 1, rs 5, fd 8, fd 8, fd 8]).fits
    (toBytes 2 w ++ [a] ++ toBytes 5 0 ++ toBytes 8 u ++ toBytes 8 v ++ toBytes 8 k) := by
  refine ⟨by simp [mciBus, fd, rs], ?_, rfl⟩
  simp (disch := omega) [badReserved, mciBus, fd, rs, List.append_assoc, bytesAt_skip, bytesAt_cons_skip, bytesAt_here]

theorem bulkSend_args {w k u v : Nat} {a : Byte} (hpl : c.payload = toBytes 2 w ++ [a] ++ toBytes 5 0 ++ toBytes 8 u ++ toBytes 8 v ++ toBytes 8 k)
    (hw : w < 2 ^ 16) (hu : u < 2 ^ 64) (hv : v < 2 ^ 64) (hk : k < 2 ^ 64) :
    arg c 0 2 = w ∧ arg c 2 1 = a.toNat ∧ arg c 8 8 = u ∧ arg c 16 8 = v ∧ arg c 24 8 = k := by
  simp (disch := omega) [arg, hpl, List.append_assoc, bytesAt_skip, bytesAt_cons_skip, bytesAt_here, bytesAt_last]

/-- BULK_SEND of a length that is no multiple of 64. -/
theorem bulkSend_badLength {w : BitVec 16} {a : Byte} {u v : W64} {k : Nat}
    (h : s.boxTakes c m 2 (toBytes 2 w.toNat ++ [a] ++ toBytes 5 0 ++ toBytes 8 u.toNat ++ toBytes 8 v.toNat ++ toBytes 8 k)) (hk : k < 2 ^ 64)
    (hodd : k % 64 ≠ 0) (hw : w.toNat < 1024) (ha : a.toNat < 64) : TurnedAway (.bulkSend c) s m 3 24 := by
  obtain ⟨harg₀, harg₂, -, -, harg₂₄⟩ := bulkSend_args h.2.1 (by omega) u.isLt v.isLt hk
  have hbad : firstBad [(decide (1023 < w.toNat), 0), (decide (63 < a.toNat), 2), (k % 64 != 0, 24)] = some 24 := by
    have h₀ : ¬ 1023 < w.toNat := by omega
    have h₂ : ¬ 63 < a.toNat := by omega
    simp [firstBad, h₀, h₂, hodd]
  refine turnedAway_of (op := 0x0406) (exec_bulkSend ..) h (bulkSend_fits ..) rfl ?_ (by norm_num) (by norm_num)
  dsimp only
  rw [harg₀, harg₂, harg₂₄, hbad]
  rfl

/-- A span of one granule makes one frame. -/
theorem bulkFrames_one {bytes : List Byte} (h : bytes.length = 64) (panel ap off : Nat) :
    ∃ args, bulkFrames panel ap off bytes = [mkFrame 0xC0 0 panel args (cleanGrans bytes)] := by
  refine ⟨ap + (off + 1984 * 0) % 2 ^ 64 * 2 ^ 64, ?_⟩
  rw [bulkFrames, h, show (64 + 1983) / 1984 = 1 from rfl, List.range_one, List.map_singleton, Nat.mul_zero, List.drop_zero,
    List.take_of_length_le (by omega)]

/-- An answer leaves what is in the outbox there. -/
theorem mem_outbox_mciReply {south : Bool} (hvia : c.via = .mailbox south m) {o : Out} (h : o ∈ s.outbox) (op st det : Nat) (payload : List Byte) :
    o ∈ (s.mciReply c op st det payload).outbox := by
  rw [mciReply_eq hvia]
  simp only [State.sendAnswer, hvia]
  split
  · exact List.mem_append_left _ h
  · exact h

/-- A command whose answer comes later. -/
theorem exec_of_wait {i : Instr} {f : MciForm} {pl : List Byte} {op : Nat} {go : State → MciAns} (hi : exec i s = s.mci c f go)
    (h : s.boxTakes c m f.right pl) (hf : f.fits pl) (hop : f.op = op) (hright : 2 ≤ f.right) (hgo : go (s.taken c op m) = .wait t) :
    exec i s = .next { t with mgmt.journal := t.mgmt.journal + 1, mgmt.applied := t.mgmt.applied + 1 } := by
  subst hop
  rw [hi, mci_of_boxTakes h hf, hgo]
  simp [State.mciEnd, MciAns.wait, hright]

/-- BULK_SEND of one granule through a free port of its die. -/
theorem bulkSend_leaves {w : BitVec 16} {a : Byte} {u v : W64}
    (h : s.boxTakes c m 2 (toBytes 2 w.toNat ++ [a] ++ toBytes 5 0 ++ toBytes 8 u.toNat ++ toBytes 8 v.toNat ++ toBytes 8 64))
    (hw : w.toNat < 1024) (ha : a.toNat < 64) (hroute : s.routeOf 0 w.toNat = some e) (he : e < 84) (hup : s.portUp e = true)
    (hcarries : s.carries e 3 = true) (hegress : (s.port e).egress = []) (hreplay : (s.port e).replayDue = false)
    (hroom : (s.port e).replay.length < 512) (hcredit : 0 < (s.port e).credits.getD 3 0) (hfree : ∀ q ∈ s.mgmt.bulk, q.2.1 ≠ e) :
    ∃ t f, exec (.bulkSend c) s = .next t ∧ Out.frame e f ∈ t.outbox ∧ f.typ = 0xC0 ∧ f.dstPanel = w ∧
      f.flits = cleanGrans (s.host.readBytes v.toNat 64) ∧ t.mgmt.bulk = s.mgmt.bulk ∧ s.boxDone t m 0 0 [] := by
  obtain ⟨harg₀, harg₂, harg₈, harg₁₆, harg₂₄⟩ := bulkSend_args h.2.1 (by omega) u.isLt v.isLt (by norm_num)
  obtain ⟨args, hframes⟩ := bulkFrames_one (Memory.length_readBytes 64 s.host v.toNat) w.toNat a.toNat u.toNat
  generalize hf : mkFrame 0xC0 0 w.toNat args (cleanGrans (s.host.readBytes v.toNat 64)) = f at hframes
  let y : MgmtSt := { (s.taken c 0x0406 m).mgmt with bulk := s.mgmt.bulk ++ [(c, e, 1)] }
  obtain ⟨r, f', hsent, hmgmt, hout, htyp, hdst, hflits⟩ := originate_bulk (s := { s with mgmt := y }) (c := c) (f := f) he hup hcarries hegress
    hreplay hroom hcredit (by rw [← hf]; rfl) (by rw [← hf]; rfl) (by rw [← hf]; exact poisonMap_cleanGrans _) rfl hfree
  have hgood : firstBad [(decide (1023 < w.toNat), 0), (decide (63 < a.toNat), 2), (64 % 64 != 0, 24)] = none := by
    have h₀ : ¬ 1023 < w.toNat := by omega
    have h₂ : ¬ 63 < a.toNat := by omega
    simp [firstBad, h₀, h₂]
  have hport : ¬ 84 ≤ e := by omega
  have hrouteT : (s.taken c 0x0406 m).routeOf 0 w.toNat = some e := hroute
  have hhost : (s.taken c 0x0406 m).host = s.host := rfl
  have hexec := exec_of_wait (op := 0x0406) (t := ({ s with mgmt := y } : State).originate (portDie e) e f) (exec_bulkSend ..) h (bulkSend_fits ..) rfl
    (le_refl 2) (by
      rw [harg₀, harg₂, harg₈, harg₁₆, harg₂₄]
      dsimp only
      rw [hgood, hhost, hframes, hrouteT]
      dsimp only
      rw [if_neg (by simp), if_neg hport]
      rfl)
  have hboxes : ({ r with mgmt.bulk := s.mgmt.bulk } : State).mgmt.boxes = (s.taken c 0x0406 m).mgmt.boxes := by
    show r.mgmt.boxes = _
    rw [hmgmt]
  have hbox : fld (({ r with mgmt.bulk := s.mgmt.bulk } : State).box s.activeSouth m.val) 32 32 = fld (s.box s.activeSouth m.val) 32 32 := by
    rw [State.box, hboxes]
    exact State.completed_taken c 0x0406 m
  have hdone := boxDone_mciReply h.1 hbox 0x0406 0 0 []
  have hleft := mem_outbox_mciReply h.1 (s := { r with mgmt.bulk := s.mgmt.bulk }) hout 0x0406 0 0 []
  have hbulk := (onlyBox_mciReply (s := { r with mgmt.bulk := s.mgmt.bulk }) h.1 0x0406 0 0 []).bulk
  rw [hsent] at hexec
  generalize ({ r with mgmt.bulk := s.mgmt.bulk } : State).mciReply c 0x0406 0 0 [] = t at hexec hdone hleft hbulk
  exact ⟨_, f', hexec, hleft, htyp.trans (by rw [← hf]; rfl), hdst.trans (by simp [← hf, mkFrame]),
    hflits.trans (by rw [← hf]; exact flits_mkFrame_clean ..), hbulk, hdone⟩

end Sys2Proof.Machine
end

section
/-! O54: the commands that move data. -/

namespace Sys2Proof.Machine

/-- Settles O54: each clause is the effect of one row, with the granules of a span read as `State.delivered`. -/
theorem mciDataRows : Obligations.MciDataRows := by
  intro s c m a b o u v z len w p off k x bytes e n reg spot reads writes grans marks port granted
  have hgrans : spot → grans = s.delivered p off (n / 64) := fun hspot => map_granOffs hspot.2.2.1 p
  refine ⟨memRead_mgmtReg, fun h hreads hkept => ?_, fun h hspot hkept => memRead_kept h u.isLt hspot hkept,
    fun h hlen hwrites => memWrite_scratch h u.isLt hlen hwrites.1 hwrites.2.2 hwrites.2.1,
    fun h hwrites => dmaIn_scratch h v.isLt u.isLt hwrites.1 hwrites.2.2 hwrites.2.1, fun h hreads hkept => ?_,
    fun h hx hstate htoken hmem hheld hreads => ?_, fun h hn hx hstate htoken hne => heldRead_wrongToken h u.isLt hn hx hstate htoken hne,
    apertureSet_effect, bulkSend_leaves, bulkSend_badLength⟩
  · simp only [marks, hgrans hreads.1]
    exact memRead_scratch h u.isLt hreads.1 hreads.2 hkept
  · simp only [marks, hgrans hreads.1]
    exact dmaOut_scratch h v.isLt u.isLt z.isLt hreads.1 hreads.2 hkept
  · simp only [marks, hgrans hreads.1]
    exact heldRead_scratch h u.isLt hx hstate htoken hmem hheld hreads.1 hreads.2

end Sys2Proof.Machine
end

section
/-! SUPPORT. What moving data to and from scratchpad keeps of the engines on the site: their state, the control core and the engines' registers
(R165, R199-R202, R210). -/

namespace Sys2Proof.Machine

variable {s t r : State} {p : Fin 168}

/-- Whether a register offset belongs to the matrix engine, the vector engine or the mover. -/
def engReg (o : Nat) : Prop := (0x18100000 ≤ o ∧ o < 0x18300000) ∨ (0x18502000 ≤ o ∧ o < 0x18508000)

/-- A site holds what it held, its queue of write-backs aside, and so do the engines' registers of every site. -/
def State.keepsEngines (s t : State) (p : Fin 168) : Prop :=
  (∃ l, t.site p = { s.site p with writeBacks := l }) ∧ ∀ q o, engReg o → t.reg (.site q) o = s.reg (.site q) o

namespace State.keepsEngines

theorem rfl' : s.keepsEngines s p := ⟨⟨_, rfl⟩, fun _ _ _ => rfl⟩

theorem trans (h : s.keepsEngines t p) (k : t.keepsEngines r p) : s.keepsEngines r p := by
  obtain ⟨⟨l, hl⟩, hreg⟩ := h
  obtain ⟨⟨m, hm⟩, kreg⟩ := k
  exact ⟨⟨m, by rw [hm, hl]⟩, fun q o ho => (kreg q o ho).trans (hreg q o ho)⟩

theorem ofEvents {ks : List (RegUnit × Nat)} (h : s.onlyEvents t ks) (hk : ∀ k ∈ ks, ¬ engReg (k.2 % 2 ^ 29)) : s.keepsEngines t p := by
  refine ⟨⟨(s.site p).writeBacks, by rw [State.site, h.sites]; rfl⟩, fun q o ho => h.reg (by simp) fun k hm => regKey_ne fun he => hk k hm ?_⟩
  unfold engReg at ho
  rwa [← he, Nat.mod_eq_of_lt (by omega)]

theorem ofSetReg (u : RegUnit) {o : Nat} (v : W64) (ho : ¬ engReg (o % 2 ^ 29)) : s.keepsEngines (s.setReg u o v) p :=
  .ofEvents (onlyEvents_setReg u o v) (by simpa using ho)

theorem ofCount32 (u : RegUnit) {o : Nat} (ho : ¬ engReg (o % 2 ^ 29)) : s.keepsEngines (s.count32 u o) p :=
  .ofEvents (onlyEvents_count32 u o) (by simpa using ho)

theorem ofUpdWriteBacks (l : List Nat) : s.keepsEngines (s.updSite p fun x => { x with writeBacks := l }) p :=
  ⟨⟨l, State.site_updSite_same ..⟩, fun _ _ _ => rfl⟩

theorem me (h : s.keepsEngines t p) : (t.site p).me = (s.site p).me := by
  obtain ⟨⟨l, hl⟩, -⟩ := h
  rw [hl]

theorem cc (h : s.keepsEngines t p) : t.cc p = s.cc p := by
  obtain ⟨⟨l, hl⟩, -⟩ := h
  rw [State.cc, hl]
  rfl

theorem ring (h : s.keepsEngines t p) (n : Nat) : t.ring p n = s.ring p n := by
  obtain ⟨⟨l, hl⟩, -⟩ := h
  rw [State.ring, hl]
  rfl

end State.keepsEngines

/-! ## Reading -/

/-- A scan over indices below a bound that keeps the best index so far ends below the bound. -/
theorem foldl_pick_lt {n : Nat} (hn : 0 < n) (better : Nat → Nat → Prop) [DecidableRel better] :
    (List.range n).foldl (fun b k => if better b k then k else b) 0 < n := by
  refine List.foldlRecOn (motive := fun b => b < n) (List.range n) _ hn fun b hb k hk => ?_
  split
  · exact List.mem_range.1 hk
  · exact hb

theorem keepsEngines_watch (die bank row weight : Nat) : s.keepsEngines (s.watch p die bank row weight) p := by
  refine .ofEvents (onlyEvents_watch ..) fun k hk => ?_
  have := s.watchSlot_lt p die bank row
  simp only [List.mem_cons, List.not_mem_nil, or_false] at hk
  unfold engReg
  rcases hk with rfl | rfl <;> omega

theorem keepsEngines_queueWriteBack (gran : Nat) : s.keepsEngines (s.queueWriteBack p gran) p := by
  unfold State.queueWriteBack
  dsimp only
  split
  · exact .rfl'
  · split
    · exact .ofUpdWriteBacks _
    · exact .ofCount32 _ (by norm_num [engReg])

theorem keepsEngines_recordOrigin (off client : Nat) (classS : Bool) : s.keepsEngines (s.recordOrigin p off client classS) p := by
  unfold State.recordOrigin
  extract_lets t n s₁ s₂
  have hn : n < 16 := by
    simp only [n]
    split
    next h => exact lowest_lt h
    next => exact foldl_pick_lt (by norm_num) fun b k => t k < t b
  have h₁ : s.keepsEngines s₁ p := .ofSetReg _ _ (by unfold engReg; omega)
  have h₂ : s₁.keepsEngines s₂ p := .ofSetReg _ _ (by unfold engReg; omega)
  exact (h₁.trans h₂).trans (.ofEvents (onlyEvents_event ..) (by simp))

theorem keepsEngines_noteRead (off client : Nat) (words : List Nat) (g : GranRead) : s.keepsEngines (s.noteRead p off client words g) p := by
  have hd : offDie off < 2 := Nat.mod_lt _ (by norm_num)
  unfold State.noteRead
  extract_lets o die s₁ s₂ s₃ s₄
  have h₁ : s.keepsEngines s₁ p := .ofEvents (onlyEvents_count32n ..) (by simp only [List.mem_singleton, forall_eq, engReg]; omega)
  have h₂ : s₁.keepsEngines s₂ p := .ofEvents (onlyEvents_count32n ..) (by simp only [List.mem_singleton, forall_eq, engReg]; omega)
  have h₃ : s₂.keepsEngines s₃ p := by
    simp only [s₃]
    split
    · exact .rfl'
    · exact keepsEngines_watch ..
  have h₄ := ((h₁.trans h₂).trans h₃).trans (keepsEngines_queueWriteBack (off / 64))
  split
  · exact .rfl'
  · split
    · exact h₄
    · exact h₄.trans (keepsEngines_recordOrigin ..)

theorem keepsEngines_readGrans (client : Nat) : ∀ (n : Nat) (s : State) (off : Nat), s.keepsEngines (s.readGrans p client off n).1 p
  | 0, _, _ => .rfl'
  | n + 1, s, off => (keepsEngines_noteRead off client [0, 1, 2, 3] (s.granAt p off)).trans (keepsEngines_readGrans client n _ (off + 64))

theorem keepsEngines_grants {client : Nat} (hc : client < 4) (off len : Nat) : s.keepsEngines (s.grants p client off len) p := by
  unfold State.grants
  split
  · exact .rfl'
  · exact .ofSetReg _ _ (by unfold engReg; omega)

theorem keepsEngines_draw : s.keepsEngines s.draw p := ⟨⟨_, rfl⟩, fun _ _ _ => rfl⟩

theorem keepsEngines_freeHot (hot : List (Nat × Nat)) : ∀ (l : List Flit) (s : State) (off : Nat),
    s.keepsEngines (State.freeHot hot s off l).1 p
  | [], _, _ => .rfl'
  | f :: l, s, off => by
    rw [State.freeHot]
    split
    · exact keepsEngines_draw.trans (keepsEngines_freeHot hot l s.draw (off + 64))
    · exact keepsEngines_freeHot hot l s (off + 64)

/-- An engine's read of scratchpad (R75, R94). -/
theorem keepsEngines_engRead {client : Nat} (hc : client < 4) (off len : Nat) : s.keepsEngines (s.engRead p client off len).1 p :=
  ((keepsEngines_grants hc ..).trans (keepsEngines_readGrans ..)).trans (keepsEngines_freeHot ..)

/-! ## Writing -/

theorem keepsEngines_putRaw (off : Nat) (d : W512) (c : W64) : s.keepsEngines (s.putRaw p off d c) p := ⟨⟨_, rfl⟩, fun _ _ _ => rfl⟩

theorem keepsEngines_dropWriteBack (off : Nat) : s.keepsEngines (s.dropWriteBack p off) p := by
  unfold State.dropWriteBack
  split
  · exact ⟨⟨_, State.site_updSite_same ..⟩, fun _ _ _ => rfl⟩
  · exact .rfl'

theorem keepsEngines_writeWide (off : Nat) (f : Flit) : s.keepsEngines (s.writeWide p off f) p :=
  (keepsEngines_putRaw ..).trans (keepsEngines_dropWriteBack off)

theorem keepsEngines_writeNarrow (off size v : Nat) : s.keepsEngines (s.writeNarrow p off size v) p := by
  unfold State.writeNarrow
  extract_lets raw g sh mask w data whole s₁ word stored check s₂
  have h₁ : s.keepsEngines s₁ p := by
    simp only [s₁]
    split
    · exact .rfl'
    · exact keepsEngines_noteRead ..
  have h₂ : s₁.keepsEngines s₂ p := by
    simp only [s₂]
    split <;> exact keepsEngines_putRaw ..
  exact (h₁.trans h₂).trans (keepsEngines_dropWriteBack off)

theorem keepsEngines_putRecord (base head : Nat) (l : List Byte) : s.keepsEngines (s.putRecord p base head l) p := by
  unfold State.putRecord
  dsimp only
  split
  · exact keepsEngines_writeNarrow ..
  · exact .rfl'

theorem keepsEngines_recordViolation (master detector target unit code detId addr : Nat) :
    s.keepsEngines (s.recordViolation p master detector target unit code detId addr) p :=
  .ofEvents (onlyEvents_recordViolation ..) (by simp [violRegs, engReg])

theorem keepsEngines_engViolation (who off descOff : Nat) : s.keepsEngines (s.engViolation p who off descOff) p := by
  have hevent : ∀ (t : State) (l : List Nat), t.keepsEngines (t.coreEvent p 0x9001 l) p := fun _ _ => .ofEvents (onlyEvents_event ..) (by simp)
  unfold State.engViolation
  split
  · exact (keepsEngines_recordViolation ..).trans (hevent _ _)
  · exact (keepsEngines_draw.trans (.ofCount32 _ (by norm_num [engReg]))).trans (hevent _ _)

theorem keepsEngines_engWrite (hot : List (Nat × Nat)) (who : Nat) : ∀ (l : List Flit) (s : State) (off : Nat),
    s.keepsEngines (State.engWrite hot s p who off l).1 p
  | [], _, _ => .rfl'
  | f :: l, s, off => by
    rw [State.engWrite]
    split
    · exact keepsEngines_engWrite hot who l s (off + 64)
    · exact .rfl'
    · split
      · exact (keepsEngines_draw.trans (keepsEngines_writeWide ..)).trans (keepsEngines_engWrite hot who l _ (off + 64))
      · exact (keepsEngines_writeWide ..).trans (keepsEngines_engWrite hot who l _ (off + 64))

/-- An engine's writes of scratchpad (R94, R181). -/
theorem keepsEngines_engWrites {client : Nat} (hc : client < 4) (descOff : Nat) (pieces : List (Nat × List Flit)) :
    s.keepsEngines (s.engWrites p client descOff pieces) p := by
  unfold State.engWrites
  extract_lets hot x
  have hx : s.keepsEngines x.1 p :=
    List.foldlRecOn (motive := fun a : State × Option Nat => s.keepsEngines a.1 p) pieces _ .rfl' fun a ha y _ =>
      (ha.trans (keepsEngines_grants hc ..)).trans (keepsEngines_engWrite ..)
  split
  · exact hx.trans (keepsEngines_engViolation ..)
  · exact hx

/-! ## Region pointers (R179) -/

theorem keepsEngines_advanceHeads (ends : List (Nat × Nat)) : s.keepsEngines (s.advanceHeads p ends) p := by
  refine List.foldlRecOn (motive := fun t : State => s.keepsEngines t p) ends _ .rfl' fun t ht e _ => ?_
  split
  · exact ht.trans (.ofSetReg _ _ (by unfold engReg; omega))
  · exact ht

theorem keepsEngines_advanceTails (ends : List (Nat × Nat)) : s.keepsEngines (s.advanceTails p ends) p := by
  refine List.foldlRecOn (motive := fun t : State => s.keepsEngines t p) ends _ .rfl' fun t ht e _ => ?_
  split
  · exact ht.trans (.ofSetReg _ _ (by unfold engReg; omega))
  · exact ht

end Sys2Proof.Machine
end

section
/-! SUPPORT. What recording a completion and setting FAULTED do to an engine's registers and to the site (R95, R97, R128, R150, R190). -/

namespace Sys2Proof.Machine

variable {s : State} {p : Site} {base : Nat}

/-- Where the registers of the matrix engine and of the vector engine start. -/
def engBase (base : Nat) : Prop := base = 0x18100000 ∨ base = 0x18200000

/-- A status word that a fault is written to shows the fault's bit and its reason. -/
theorem faultWord (v : W64) {reason k : Nat} (hr : reason < 256) (hk : k < 8) :
    bit (setFld (setFld v 8 8 reason) k 1 1) k = true ∧ fld (setFld (setFld v 8 8 reason) k 1 1) 8 8 = reason := by
  constructor
  · simp [bit_setFld _ _ _ (show k + 1 ≤ 64 by omega)]
  · rw [fld_setFld_other _ _ (by omega) (by omega), fld_setFld_same _ _ (by norm_num)]
    exact Nat.mod_eq_of_lt hr

/-! ## A completion record (R95, R128) -/

/-- Writing a record's slot comes before the counts. -/
theorem State.engRecord_eq (d : Desc) (reason flags : Nat) : ∃ r : State, s.keepsEngines r p ∧ ∃ clocks,
    s.engRecord p base d reason flags =
      ((r.count64 (.site p) (base + 0x18) 1).count64 (.site p) (base + 0x20) 1).count64 (.site p) (base + 0x30) clocks :=
  ⟨_, ((keepsEngines_putRecord ..).trans keepsEngines_draw).trans keepsEngines_draw, _, rfl⟩

theorem State.engRecord_site (d : Desc) (reason flags : Nat) :
    ∃ l, (s.engRecord p base d reason flags).site p = { s.site p with writeBacks := l } := by
  obtain ⟨r, ⟨⟨l, hl⟩, -⟩, _, he⟩ := State.engRecord_eq (s := s) (p := p) (base := base) d reason flags
  exact ⟨l, by rw [he]; exact hl⟩

/-- The record count and the done count advance by one. -/
theorem State.engRecord_counts (hb : engBase base) (d : Desc) (reason flags : Nat) :
    (s.engRecord p base d reason flags).reg (.site p) (base + 0x18) = s.reg (.site p) (base + 0x18) + 1 ∧
      (s.engRecord p base d reason flags).reg (.site p) (base + 0x20) = s.reg (.site p) (base + 0x20) + 1 := by
  unfold engBase at hb
  obtain ⟨r, ⟨-, hreg⟩, _, he⟩ := State.engRecord_eq (s := s) (p := p) (base := base) d reason flags
  rw [he]
  constructor
  · rw [State.reg_count64_off _ (by omega), State.reg_count64_off _ (by omega), State.reg_count64_same, hreg p _ (by unfold engReg; omega)]
    rfl
  · rw [State.reg_count64_off _ (by omega), State.reg_count64_same, State.reg_count64_off _ (by omega), hreg p _ (by unfold engReg; omega)]
    rfl

/-- The engines' other registers, the busy clocks aside, keep their values. -/
theorem State.engRecord_reg (hb : engBase base) (d : Desc) (reason flags : Nat) {o : Nat} (ho : engReg o)
    (h : o ≠ base + 0x18 ∧ o ≠ base + 0x20 ∧ o ≠ base + 0x30) :
    (s.engRecord p base d reason flags).reg (.site p) o = s.reg (.site p) o := by
  obtain ⟨r, ⟨-, hreg⟩, _, he⟩ := State.engRecord_eq (s := s) (p := p) (base := base) d reason flags
  rw [he, ← hreg p o ho]
  unfold engBase at hb
  unfold engReg at ho
  rw [State.reg_count64_off _ (by omega), State.reg_count64_off _ (by omega), State.reg_count64_off _ (by omega)]

/-! ## FAULTED (R97, R150) -/

/-- The control core with one more asynchronous fault pending. -/
def Cc.withFault (c : Cc) (e : EngCause) : Cc := { c with engPending := c.engPending ++ [e] }

/-- FAULTED changes the status word, the fault count and the token, and makes ENGINE_FAULT pending. -/
theorem State.engFault_effect (hb : engBase base) (eng token : Nat) {reason : Nat} (hr : reason < 256) :
    let t := s.engFault p base eng reason token
    t.site p = { s.site p with cc := (s.cc p).withFault ⟨eng, 0, reason, BitVec.ofNat 32 token⟩ } ∧
      bit (t.reg (.site p) base) 7 = true ∧ t.rf (.site p) base 8 8 = reason ∧
      ∀ o, engReg o → o ≠ base → o ≠ base + 0x40 → o ≠ base + 0x48 → t.reg (.site p) o = s.reg (.site p) o := by
  let w := setFld (setFld (s.reg (.site p) base) 8 8 reason) 7 1 1
  let s₁ := s.setReg (.site p) base w
  let s₂ := (s₁.count32 (.site p) (base + 0x40)).setReg (.site p) (base + 0x48) (w64 token)
  let s₃ := s₂.updCc p fun c => c.withFault ⟨eng, 0, reason, BitVec.ofNat 32 token⟩
  have h₂ : s₁.onlyEvents s₂ [(.site p, base + 0x40), (.site p, base + 0x48)] := (onlyEvents_count32 ..).trans (onlyEvents_setReg ..)
  have h₄ : s₃.onlyEvents (s.engFault p base eng reason token) [] := onlyEvents_event ..
  unfold engBase at hb
  have hreg : ∀ o, engReg o → o ≠ base + 0x40 → o ≠ base + 0x48 → (s.engFault p base eng reason token).reg (.site p) o = s₁.reg (.site p) o := by
    intro o ho ho₁ ho₂
    unfold engReg at ho
    refine (h₄.reg (by simp) (by simp)).trans (h₂.reg (by simp) fun k hk => regKey_ne ?_)
    simp only [List.mem_cons, List.not_mem_nil, or_false] at hk
    rcases hk with rfl | rfl <;> omega
  have hbase : (s.engFault p base eng reason token).reg (.site p) base = w :=
    (hreg base (by unfold engReg; omega) (by omega) (by omega)).trans (State.reg_setReg_same ..)
  obtain ⟨hbit, hfld⟩ := faultWord (s.reg (.site p) base) (k := 7) hr (by norm_num)
  refine ⟨?_, by rw [hbase]; exact hbit, by rw [State.rf, hbase]; exact hfld, fun o ho ho₀ ho₁ ho₂ => (hreg o ho ho₁ ho₂).trans ?_⟩
  · have hsite : s₂.site p = s.site p := by
      rw [State.site, h₂.sites]
      rfl
    rw [State.site, h₄.sites]
    refine (State.site_updCc_same ..).trans ?_
    rw [hsite]
    rfl
  · unfold engReg at ho
    exact State.reg_setReg_off _ _ (by omega)

/-- A refused descriptor's completion (R95, R97): the record, the counts and the fault. -/
theorem State.refused_effect (hb : engBase base) (d : Desc) (flags eng token : Nat) {reason : Nat} (hr : reason < 256) :
    let t := (s.engRecord p base d reason flags).engFault p base eng reason token
    (∃ l, t.site p = { s.site p with writeBacks := l, cc := (s.cc p).withFault ⟨eng, 0, reason, BitVec.ofNat 32 token⟩ }) ∧
      t.reg (.site p) (base + 0x18) = s.reg (.site p) (base + 0x18) + 1 ∧
      t.reg (.site p) (base + 0x20) = s.reg (.site p) (base + 0x20) + 1 ∧
      bit (t.reg (.site p) base) 7 = true ∧ t.rf (.site p) base 8 8 = reason := by
  obtain ⟨l, hl⟩ := State.engRecord_site (s := s) (p := p) (base := base) d reason flags
  obtain ⟨h18, h20⟩ := State.engRecord_counts (s := s) (p := p) hb d reason flags
  obtain ⟨hsite, hbit, hfld, hreg⟩ := State.engFault_effect (s := s.engRecord p base d reason flags) (p := p) hb eng token hr
  unfold engBase at hb
  refine ⟨⟨l, ?_⟩, ?_, ?_, hbit, hfld⟩
  · rw [hsite, State.cc, hl]
    rfl
  · rw [hreg _ (by unfold engReg; omega) (by omega) (by omega) (by omega), h18]
  · rw [hreg _ (by unfold engReg; omega) (by omega) (by omega) (by omega), h20]

end Sys2Proof.Machine
end

section
/-! SUPPORT. How the oldest descriptor of each engine completes (R95, R128, R179, R189). -/

namespace Sys2Proof.Machine

variable {s : State} {p : Site} {r : EngRun}

/-! ## The matrix engine -/

@[simp] theorem Me.bank_setBank_same (m : Me) (i : Nat) (b : Bank) : (m.setBank i b).bank i = b := by
  unfold Me.bank Me.setBank
  split <;> rfl

/-- Replacing a bank replaces nothing else. -/
theorem Me.setBank_eq (m : Me) (i : Nat) (b : Bank) :
    m.setBank i b = { m with bank0 := (m.setBank i b).bank0, bank1 := (m.setBank i b).bank1 } := by
  unfold Me.setBank
  split <;> rfl

@[simp] theorem Me.queue_setBank (m : Me) (i : Nat) (b : Bank) : (m.setBank i b).queue = m.queue := by rw [Me.setBank_eq]
@[simp] theorem Me.running_setBank (m : Me) (i : Nat) (b : Bank) : (m.setBank i b).running = m.running := by rw [Me.setBank_eq]
@[simp] theorem Me.live_setBank (m : Me) (i : Nat) (b : Bank) : (m.setBank i b).live = m.live := by rw [Me.setBank_eq]

/-- The state in which the oldest matrix descriptor no longer runs. -/
def State.mePopped (s : State) (p : Site) : State := s.updSite p fun x => { x with me := { x.me with running := x.me.running.drop 1 } }

theorem meComplete_refused (h : r.reason ≠ 0) : s.meComplete p r =
    ((s.mePopped p).engRecord p 0x18100000 r.desc r.reason r.flags).engFault p 0x18100000 0 r.reason (bytesAt r.desc.bytes 44 4) := if_pos h

/-- The bank that a completed descriptor leaves EMPTY (R91). -/
def State.meDrained (s : State) (p : Site) (d : Desc) : State :=
  if meOp d = 4 then s.updSite p fun x => { x with me := x.me.setBank (meBank d) Bank.init } else s

theorem meComplete_good (h : r.reason = 0) : s.meComplete p r =
    ((((((s.mePopped p).engRecord p 0x18100000 r.desc r.reason r.flags).meDrained p r.desc).count64 (.site p) 0x18100028 r.count).meSetFlags p
      r.flags).advanceHeads p r.heads).advanceTails p r.tails := if_neg (not_not.2 h)

theorem State.meDrained_reg (d : Desc) (u : RegUnit) (o : Nat) : (s.meDrained p d).reg u o = s.reg u o := by
  unfold State.meDrained
  split <;> rfl

theorem State.meDrained_site (d : Desc) : (s.meDrained p d).site p =
    { s.site p with me := if meOp d = 4 then (s.site p).me.setBank (meBank d) Bank.init else (s.site p).me } := by
  unfold State.meDrained
  split
  · exact State.site_updSite_same ..
  · rfl

/-- A matrix descriptor that was not refused completes. -/
theorem meComplete_good_effect (h : r.reason = 0) :
    let t := s.meComplete p r
    (∃ l, t.site p = { ((s.mePopped p).meDrained p r.desc).site p with writeBacks := l }) ∧
      t.reg (.site p) 0x18100018 = s.reg (.site p) 0x18100018 + 1 ∧ t.reg (.site p) 0x18100020 = s.reg (.site p) 0x18100020 + 1 ∧
      t.reg (.site p) 0x18100028 = s.reg (.site p) 0x18100028 + w64 r.count := by
  let s₁ := (s.mePopped p).engRecord p 0x18100000 r.desc r.reason r.flags
  let s₂ := ((s₁.meDrained p r.desc).count64 (.site p) 0x18100028 r.count).meSetFlags p r.flags
  have hbase : engBase 0x18100000 := .inl rfl
  have hcounts := State.engRecord_counts (s := s.mePopped p) (p := p) hbase r.desc r.reason r.flags
  obtain ⟨l, hl⟩ : ∃ l, s₁.site p = _ := State.engRecord_site (s := s.mePopped p) (p := p) r.desc r.reason r.flags
  have ht : s₂.keepsEngines (s.meComplete p r) p := by
    rw [meComplete_good h]
    exact (keepsEngines_advanceHeads _).trans (keepsEngines_advanceTails _)
  have h₂ : ∀ o, o < 2 ^ 29 → o ≠ 0x18100028 → o ≠ 0x18100038 → s₂.reg (.site p) o = s₁.reg (.site p) o := fun o ho h28 h38 =>
    ((State.reg_setReg_off _ _ (by omega)).trans (State.reg_count64_off _ (by omega))).trans (State.meDrained_reg ..)
  obtain ⟨⟨m, hm⟩, hreg⟩ := ht
  refine ⟨⟨m, ?_⟩, ?_, ?_, ?_⟩
  · have : s₂.site p = (s₁.meDrained p r.desc).site p := rfl
    rw [hm, this, State.meDrained_site, hl, State.meDrained_site]
  · rw [hreg p _ (by norm_num [engReg]), h₂ _ (by norm_num) (by norm_num) (by norm_num)]
    exact hcounts.1
  · rw [hreg p _ (by norm_num [engReg]), h₂ _ (by norm_num) (by norm_num) (by norm_num)]
    exact hcounts.2
  · rw [hreg p _ (by norm_num [engReg])]
    refine ((State.reg_setReg_off _ _ (by norm_num)).trans (State.reg_count64_same ..)).trans ?_
    rw [State.meDrained_reg, State.engRecord_reg hbase _ _ _ (by norm_num [engReg]) (by norm_num)]
    rfl

end Sys2Proof.Machine
end

section
/-! SUPPORT. How the oldest vector descriptor and the running descriptor of a mover ring complete (R117, R128, R189, R190). -/

namespace Sys2Proof.Machine

variable {s : State} {p : Site} {r : EngRun}

/-! ## The vector engine -/

/-- The state in which the oldest vector descriptor no longer runs. -/
def State.vePopped (s : State) (p : Site) : State := s.updSite p fun x => { x with ve := { x.ve with running := x.ve.running.drop 1 } }

theorem veComplete_refused (h : r.reason ≠ 0) : s.veComplete p r =
    ((s.vePopped p).engRecord p 0x18200000 r.desc r.reason (r.flags / 4 * 4)).engFault p 0x18200000 1 r.reason (bytesAt r.desc.bytes 12 4) :=
  if_pos h

/-- VE_FLAGS takes a completed descriptor's flags. -/
def State.veSetFlags (s : State) (p : Site) (flags : Nat) : State :=
  s.setReg (.site p) 0x18200038 (s.reg (.site p) 0x18200038 ||| w64 (flags / 8 % 2 * 8 + flags % 2 * 4))

theorem veComplete_good (h : r.reason = 0) : s.veComplete p r =
    ((((((s.vePopped p).engRecord p 0x18200000 r.desc r.reason (r.flags / 4 * 4)).veSums p r.sums).count64 (.site p) 0x18200028 r.count).veSetFlags p
      r.flags).advanceHeads p r.heads).advanceTails p r.tails := if_neg (not_not.2 h)

/-- Summaries go to the summary registers and the register of their poison. -/
theorem State.veSums_frame (l : List (Nat × W64 × Bool)) :
    (s.veSums p l).site p = s.site p ∧ ∀ o, o < 0x18200050 → (s.veSums p l).reg (.site p) o = s.reg (.site p) o := by
  have hset : ∀ (t : State) n v bad o, n < 16 → o < 0x18200050 → (t.setSum p n v bad).reg (.site p) o = t.reg (.site p) o :=
    fun t n v bad o hn ho => (State.reg_setReg_off _ _ (by omega)).trans (State.reg_setReg_off _ _ (by omega))
  refine List.foldlRecOn (motive := fun t : State => t.site p = s.site p ∧ ∀ o, o < 0x18200050 → t.reg (.site p) o = s.reg (.site p) o) l _
    ⟨rfl, fun _ _ => rfl⟩ fun t ht e _ => ?_
  have hlt : e.1 % 16 < 16 := Nat.mod_lt _ (by norm_num)
  dsimp only
  split
  · exact ⟨ht.1, fun o ho => (hset _ _ _ _ o hlt ho).trans (ht.2 o ho)⟩
  · exact ⟨ht.1, fun o ho => (hset _ _ _ _ o hlt ho).trans (ht.2 o ho)⟩

/-- A vector descriptor that was not refused completes. -/
theorem veComplete_good_effect (h : r.reason = 0) :
    let t := s.veComplete p r
    (∃ l, t.site p = { (s.vePopped p).site p with writeBacks := l }) ∧
      t.reg (.site p) 0x18200018 = s.reg (.site p) 0x18200018 + 1 ∧ t.reg (.site p) 0x18200020 = s.reg (.site p) 0x18200020 + 1 ∧
      t.reg (.site p) 0x18200028 = s.reg (.site p) 0x18200028 + w64 r.count := by
  let s₁ := (s.vePopped p).engRecord p 0x18200000 r.desc r.reason (r.flags / 4 * 4)
  let s₂ := ((s₁.veSums p r.sums).count64 (.site p) 0x18200028 r.count).veSetFlags p r.flags
  have hbase : engBase 0x18200000 := .inr rfl
  have hcounts := State.engRecord_counts (s := s.vePopped p) (p := p) hbase r.desc r.reason (r.flags / 4 * 4)
  obtain ⟨l, hl⟩ : ∃ l, s₁.site p = _ := State.engRecord_site (s := s.vePopped p) (p := p) r.desc r.reason (r.flags / 4 * 4)
  obtain ⟨hsums, hsumsReg⟩ := State.veSums_frame (s := s₁) (p := p) r.sums
  have ht : s₂.keepsEngines (s.veComplete p r) p := by
    rw [veComplete_good h]
    exact (keepsEngines_advanceHeads _).trans (keepsEngines_advanceTails _)
  have h₂ : ∀ o, o < 0x18200028 → s₂.reg (.site p) o = s₁.reg (.site p) o := fun o ho =>
    ((State.reg_setReg_off _ _ (by omega)).trans (State.reg_count64_off _ (by omega))).trans (hsumsReg o (by omega))
  obtain ⟨⟨m, hm⟩, hreg⟩ := ht
  refine ⟨⟨m, ?_⟩, ?_, ?_, ?_⟩
  · have : s₂.site p = (s₁.veSums p r.sums).site p := rfl
    rw [hm, this, hsums, hl]
  · rw [hreg p _ (by norm_num [engReg]), h₂ _ (by norm_num)]
    exact hcounts.1
  · rw [hreg p _ (by norm_num [engReg]), h₂ _ (by norm_num)]
    exact hcounts.2
  · rw [hreg p _ (by norm_num [engReg])]
    refine ((State.reg_setReg_off _ _ (by norm_num)).trans (State.reg_count64_same ..)).trans ?_
    rw [hsumsReg _ (by norm_num), State.engRecord_reg hbase _ _ _ (by norm_num [engReg]) (by norm_num)]
    rfl

/-! ## Rings of the mover -/

@[simp] theorem State.ring_updRing_same (n : Nat) (f : MvRing → MvRing) : (s.updRing p n f).ring p n = f (s.ring p n) := by
  simp [State.ring, State.updRing]

theorem State.ring_updRing_other {n m : Nat} (f : MvRing → MvRing) (h : m ≠ n) : (s.updRing p n f).ring p m = s.ring p m := by
  simp [State.ring, State.updRing, Sparse.get_put_other _ _ _ h]

@[simp] theorem State.cc_updRing (n : Nat) (f : MvRing → MvRing) : (s.updRing p n f).cc p = s.cc p := by
  simp [State.cc, State.updRing]

@[simp] theorem State.ring_updCc (f : Cc → Cc) (n : Nat) : (s.updCc p f).ring p n = s.ring p n := by
  simp [State.ring]

/-- The record of a mover descriptor and the counts that it advances (R189). -/
def State.mvRecord (s : State) (p : Site) (n : Nat) (x : MvRun) : State :=
  let s := s.updRing p n fun r => { r with run := none }
  let s := s.putRecord p (s.rn (.site p) 0x18502200) (s.rn (.site p) 0x18502208)
    (recordBytes (mvToken x.desc) x.reason (if x.poison then 8 else 0) (mvOp x.desc) n (Config.free64 s.free))
  (s.draw.count64 (.site p) 0x18502208 1).count64 (.site p) (0x18502010 + 32 * n) 1

/-- A ring is faulted (R190); a customer's ring tells the control core. -/
def State.mvFault (s : State) (p : Site) (n : Nat) (x : MvRun) : State :=
  let st := 0x18502000 + 32 * n
  let s := s.setReg (.site p) st (setFld (setFld (s.reg (.site p) st) 8 8 x.reason) 1 1 1)
  let s := (s.count32 (.site p) 0x18502218).updRing p n fun r => { r with token := BitVec.ofNat 32 (mvToken x.desc) }
  if n = 8 then s
  else (s.updCc p fun c => c.withFault ⟨2, n, x.reason, BitVec.ofNat 32 (mvToken x.desc)⟩).coreEvent p 0x7021 [2, n, x.reason, mvToken x.desc]

/-- How a descriptor that saw no poison completes. -/
theorem mvComplete_eq {n : Nat} {x : MvRun} (hp : x.poison = false) : s.mvComplete p n x =
    if x.reason ≠ 0 then (s.mvRecord p n x).mvFault p n x else ((s.mvRecord p n x).advanceHeads p x.heads).advanceTails p x.tails := by
  have hreason : (if (x.reason = 0 && x.poison && mvOp x.desc = 3) = true then 0x24 else x.reason) = x.reason := by simp [hp]
  unfold State.mvComplete
  rw [hreason]
  rfl

/-- What recording a mover descriptor does: its ring runs nothing, and the two counts advance. -/
theorem State.mvRecord_effect {n : Nat} (hn : n < 9) (x : MvRun) :
    let t := s.mvRecord p n x
    t.ring p n = { s.ring p n with run := none } ∧ t.cc p = s.cc p ∧
      t.reg (.site p) 0x18502208 = s.reg (.site p) 0x18502208 + 1 ∧
      t.reg (.site p) (0x18502010 + 32 * n) = s.reg (.site p) (0x18502010 + 32 * n) + 1 := by
  let s₁ := s.updRing p n fun r => { r with run := none }
  obtain ⟨r, hr, he⟩ : ∃ r, s₁.keepsEngines r p ∧
      s.mvRecord p n x = (r.count64 (.site p) 0x18502208 1).count64 (.site p) (0x18502010 + 32 * n) 1 :=
    ⟨_, (keepsEngines_putRecord ..).trans keepsEngines_draw, rfl⟩
  have hring : (s.mvRecord p n x).ring p n = r.ring p n := by rw [he]; rfl
  have hcc : (s.mvRecord p n x).cc p = r.cc p := by rw [he]; rfl
  refine ⟨?_, ?_, ?_, ?_⟩
  · rw [hring, hr.ring, State.ring_updRing_same]
  · rw [hcc, hr.cc, State.cc_updRing]
  · rw [he, State.reg_count64_off _ (by omega), State.reg_count64_same, hr.2 p _ (by norm_num [engReg])]
    rfl
  · rw [he, State.reg_count64_same, State.reg_count64_off _ (by omega), hr.2 p _ (by unfold engReg; omega)]
    rfl

/-- What a fault does to its ring, the control core and the registers of the ring. -/
theorem State.mvFault_effect {n : Nat} (hn : n < 9) {x : MvRun} (hr : x.reason < 256) :
    let t := s.mvFault p n x
    t.ring p n = { s.ring p n with token := BitVec.ofNat 32 (mvToken x.desc) } ∧
      (n ≠ 8 → t.cc p = (s.cc p).withFault ⟨2, n, x.reason, BitVec.ofNat 32 (mvToken x.desc)⟩) ∧
      bit (t.reg (.site p) (0x18502000 + 32 * n)) 1 = true ∧ t.rf (.site p) (0x18502000 + 32 * n) 8 8 = x.reason ∧
      t.reg (.site p) 0x18502208 = s.reg (.site p) 0x18502208 ∧
      t.reg (.site p) (0x18502010 + 32 * n) = s.reg (.site p) (0x18502010 + 32 * n) := by
  let w := setFld (setFld (s.reg (.site p) (0x18502000 + 32 * n)) 8 8 x.reason) 1 1 1
  let s₁ := s.setReg (.site p) (0x18502000 + 32 * n) w
  let s₂ := s₁.count32 (.site p) 0x18502218
  let s₃ := s₂.updRing p n fun r => { r with token := BitVec.ofNat 32 (mvToken x.desc) }
  let s₄ := s₃.updCc p fun c => c.withFault ⟨2, n, x.reason, BitVec.ofNat 32 (mvToken x.desc)⟩
  have h₂ : s₁.onlyEvents s₂ [(.site p, 0x18502218)] := onlyEvents_count32 ..
  have h₄ : s₄.onlyEvents (s₄.coreEvent p 0x7021 [2, n, x.reason, mvToken x.desc]) [] := onlyEvents_event ..
  have he : s.mvFault p n x = if n = 8 then s₃ else s₄.coreEvent p 0x7021 [2, n, x.reason, mvToken x.desc] := rfl
  have hreg : ∀ o, o < 2 ^ 29 → o ≠ 0x18502218 → (s.mvFault p n x).reg (.site p) o = s₁.reg (.site p) o := by
    intro o ho hne
    have hcount : s₂.reg (.site p) o = s₁.reg (.site p) o := h₂.reg (by simp) (by
      simp only [List.mem_singleton, forall_eq]
      exact regKey_ne (by omega))
    rw [he]
    split
    · exact hcount
    · exact (h₄.reg (by simp) (by simp)).trans hcount
  have hbase := (hreg (0x18502000 + 32 * n) (by omega) (by omega)).trans (State.reg_setReg_same ..)
  obtain ⟨hbit, hfld⟩ := faultWord (s.reg (.site p) (0x18502000 + 32 * n)) (k := 1) hr (by norm_num)
  have hring : s₃.ring p n = { s.ring p n with token := BitVec.ofNat 32 (mvToken x.desc) } := by
    have : s₂.ring p n = s.ring p n := by
      rw [State.ring, State.site, h₂.sites]
      rfl
    rw [State.ring_updRing_same, this]
  have hcc : s₃.cc p = s.cc p := by
    rw [State.cc_updRing, State.cc, State.site, h₂.sites]
    rfl
  refine ⟨?_, fun h8 => ?_, by rw [hbase]; exact hbit, by rw [State.rf, hbase]; exact hfld, ?_, ?_⟩
  · rw [he]
    split
    · exact hring
    · rw [State.ring, State.site, h₄.sites]
      exact (State.ring_updCc ..).trans hring
  · rw [he, if_neg h8, State.cc, State.site, h₄.sites]
    exact (State.cc_updCc_same ..).trans (by rw [hcc])
  · exact (hreg _ (by norm_num) (by norm_num)).trans (State.reg_setReg_off _ _ (by omega))
  · exact (hreg _ (by omega) (by omega)).trans (State.reg_setReg_off _ _ (by omega))

end Sys2Proof.Machine
end

section
/-! O18: the oldest running descriptor of an engine completes. -/

namespace Sys2Proof.Machine

variable {s : State} {p : Site} {r : EngRun} {rest : List EngRun}

theorem exec_meDescComplete_running (hgo : s.enginesRun p = true) (hrun : (s.site p).me.running = r :: rest) :
    exec (.meDescComplete p) s = .next (s.meComplete p r) := by
  rw [exec_meDescComplete, execMeDescComplete, if_pos hgo, hrun]

theorem exec_veDescComplete_running (hgo : s.enginesRun p = true) (hrun : (s.site p).ve.running = r :: rest) :
    exec (.veDescComplete p) s = .next (s.veComplete p r) := by
  rw [exec_veDescComplete, execVeDescComplete, if_pos hgo, hrun]

theorem exec_mvDescComplete_running {ring : Fin 9} {x : MvRun} (hfrozen : s.mvFrozen p = false) (hstate : s.coreState p ≠ 3)
    (hrun : (s.ring p ring.val).run = some x) (hreqs : x.reqs = []) :
    exec (.mvDescComplete p ring) s = .next (s.mvComplete p ring.val x) := by
  rw [exec_mvDescComplete, execMvDescComplete, hrun]
  simp [hfrozen, hstate, hreqs]

theorem State.mePopped_site (hrun : (s.site p).me.running = r :: rest) :
    (s.mePopped p).site p = { s.site p with me := { (s.site p).me with running := rest } } := by
  rw [State.mePopped, State.site_updSite_same, hrun]
  rfl

theorem State.vePopped_site (hrun : (s.site p).ve.running = r :: rest) :
    (s.vePopped p).site p = { s.site p with ve := { (s.site p).ve with running := rest } } := by
  rw [State.vePopped, State.site_updSite_same, hrun]
  rfl

/-- The matrix engine's oldest descriptor completes (R95, R97, R179). -/
theorem meDescComplete_effect (hgo : s.enginesRun p = true) (hrun : (s.site p).me.running = r :: rest) (hr : r.reason < 256) :
    let u := RegUnit.site p
    ∃ t, exec (.meDescComplete p) s = .next t ∧ (t.site p).me.running = rest ∧ t.reg u 0x18100018 = s.reg u 0x18100018 + 1 ∧
      t.reg u 0x18100020 = s.reg u 0x18100020 + 1 ∧ (t.site p).me.queue = (s.site p).me.queue ∧
      (r.reason = 0 → t.reg u 0x18100028 = s.reg u 0x18100028 + w64 r.count ∧ t.cc p = s.cc p ∧
        (meOp r.desc = 4 → (t.site p).me.bank (meBank r.desc) = Bank.init)) ∧
      (r.reason ≠ 0 → bit (t.reg u 0x18100000) 7 = true ∧ t.rf u 0x18100000 8 8 = r.reason ∧
        (t.cc p).engPending = (s.cc p).engPending ++ [⟨0, 0, r.reason, BitVec.ofNat 32 (bytesAt r.desc.bytes 44 4)⟩]) := by
  intro u
  refine ⟨_, exec_meDescComplete_running hgo hrun, ?_⟩
  have hpop := State.mePopped_site hrun
  by_cases h0 : r.reason = 0
  · obtain ⟨⟨l, hl⟩, h18, h20, h28⟩ := meComplete_good_effect (s := s) (p := p) h0
    rw [State.meDrained_site, hpop] at hl
    refine ⟨?_, h18, h20, ?_, fun _ => ⟨h28, ?_, fun hop => ?_⟩, fun h => absurd h0 h⟩
    · rw [hl]
      split <;> simp
    · rw [hl]
      split <;> simp
    · rw [State.cc, hl]
      rfl
    · rw [hl, if_pos hop, Me.bank_setBank_same]
  · rw [meComplete_refused h0]
    obtain ⟨⟨l, hl⟩, h18, h20, hbit, hfld⟩ := State.refused_effect (s := s.mePopped p) (p := p) (.inl rfl) r.desc r.flags 0
      (bytesAt r.desc.bytes 44 4) hr
    rw [State.cc, hpop] at hl
    refine ⟨by rw [hl], h18, h20, by rw [hl], fun h => absurd h h0, fun _ => ⟨hbit, hfld, ?_⟩⟩
    rw [State.cc, hl]
    rfl

/-- The vector engine's oldest descriptor completes (R128, R179). -/
theorem veDescComplete_effect (hgo : s.enginesRun p = true) (hrun : (s.site p).ve.running = r :: rest) (hr : r.reason < 256) :
    let u := RegUnit.site p
    ∃ t, exec (.veDescComplete p) s = .next t ∧ (t.site p).ve.running = rest ∧ t.reg u 0x18200018 = s.reg u 0x18200018 + 1 ∧
      t.reg u 0x18200020 = s.reg u 0x18200020 + 1 ∧ (t.site p).ve.queue = (s.site p).ve.queue ∧
      (r.reason = 0 → t.reg u 0x18200028 = s.reg u 0x18200028 + w64 r.count ∧ t.cc p = s.cc p) ∧
      (r.reason ≠ 0 → bit (t.reg u 0x18200000) 7 = true ∧ t.rf u 0x18200000 8 8 = r.reason ∧
        (t.cc p).engPending = (s.cc p).engPending ++ [⟨1, 0, r.reason, BitVec.ofNat 32 (bytesAt r.desc.bytes 12 4)⟩]) := by
  intro u
  refine ⟨_, exec_veDescComplete_running hgo hrun, ?_⟩
  have hpop := State.vePopped_site hrun
  by_cases h0 : r.reason = 0
  · obtain ⟨⟨l, hl⟩, h18, h20, h28⟩ := veComplete_good_effect (s := s) (p := p) h0
    rw [hpop] at hl
    refine ⟨by rw [hl], h18, h20, by rw [hl], fun _ => ⟨h28, ?_⟩, fun h => absurd h0 h⟩
    rw [State.cc, hl]
    rfl
  · rw [veComplete_refused h0]
    obtain ⟨⟨l, hl⟩, h18, h20, hbit, hfld⟩ := State.refused_effect (s := s.vePopped p) (p := p) (.inr rfl) r.desc (r.flags / 4 * 4) 1
      (bytesAt r.desc.bytes 12 4) hr
    rw [State.cc, hpop] at hl
    refine ⟨by rw [hl], h18, h20, by rw [hl], fun h => absurd h h0, fun _ => ⟨hbit, hfld, ?_⟩⟩
    rw [State.cc, hl]
    rfl

/-- The running descriptor of a mover ring completes (R189, R190). -/
theorem mvDescComplete_effect {ring : Fin 9} {x : MvRun} (hfrozen : s.mvFrozen p = false) (hstate : s.coreState p ≠ 3)
    (hrun : (s.ring p ring.val).run = some x) (hreqs : x.reqs = []) (hr : x.reason < 256) (hp : x.poison = false) :
    let u := RegUnit.site p
    ∃ t, exec (.mvDescComplete p ring) s = .next t ∧ (t.ring p ring.val).run = none ∧ (t.ring p ring.val).queue = (s.ring p ring.val).queue ∧
      t.reg u 0x18502208 = s.reg u 0x18502208 + 1 ∧
      t.reg u (0x18502010 + 32 * ring.val) = s.reg u (0x18502010 + 32 * ring.val) + 1 ∧
      (x.reason = 0 → t.cc p = s.cc p) ∧
      (x.reason ≠ 0 → bit (t.reg u (0x18502000 + 32 * ring.val)) 1 = true ∧ t.rf u (0x18502000 + 32 * ring.val) 8 8 = x.reason ∧
        (ring.val ≠ 8 → (t.cc p).engPending = (s.cc p).engPending ++ [⟨2, ring.val, x.reason, BitVec.ofNat 32 (mvToken x.desc)⟩])) := by
  intro u
  refine ⟨_, (exec_mvDescComplete_running hfrozen hstate hrun hreqs).trans (by rw [mvComplete_eq hp]), ?_⟩
  obtain ⟨hring, hcc, h08, h10⟩ := State.mvRecord_effect (s := s) (p := p) ring.isLt x
  by_cases h0 : x.reason = 0
  · rw [if_neg (not_not.2 h0)]
    have hadv : (s.mvRecord p ring.val x).keepsEngines (((s.mvRecord p ring.val x).advanceHeads p x.heads).advanceTails p x.tails) p :=
      (keepsEngines_advanceHeads _).trans (keepsEngines_advanceTails _)
    refine ⟨?_, ?_, ?_, ?_, fun _ => ?_, fun h => absurd h0 h⟩
    · rw [hadv.ring, hring]
    · rw [hadv.ring, hring]
    · rw [hadv.2 p _ (by norm_num [engReg]), h08]
    · rw [hadv.2 p _ (by unfold engReg; omega), h10]
    · rw [hadv.cc, hcc]
  · rw [if_pos h0]
    obtain ⟨fring, fcc, hbit, hfld, f08, f10⟩ := State.mvFault_effect (s := s.mvRecord p ring.val x) (p := p) ring.isLt hr
    refine ⟨by rw [fring, hring], by rw [fring, hring], by rw [f08, h08], by rw [f10, h10], fun h => absurd h h0, fun _ =>
      ⟨hbit, hfld, fun h8 => ?_⟩⟩
    rw [fcc h8, hcc]
    rfl

/-- Settles O18: each engine's descriptor was refused or was not, and completes accordingly. -/
theorem engineCompletions : Obligations.EngineCompletions := by
  intro s p r rest ring x u
  exact ⟨meDescComplete_effect, veDescComplete_effect, mvDescComplete_effect⟩

end Sys2Proof.Machine
end

section
/-! SUPPORT. What a discard of queued descriptors and a packet's way into the fabric leave behind (R147, R187, R274). -/

namespace Sys2Proof.Machine

variable {s : State} {p : Site}

/-- A matrix discard changes the engine's record of handoffs alone. -/
theorem State.meDiscard_me (gone : List Desc) :
    ((s.meDiscard p gone).site p).me = { (s.site p).me with hands := ((s.meDiscard p gone).site p).me.hands } := by
  unfold State.meDiscard
  rw [State.site_updSite_same, State.site_updCc_same]

@[simp] theorem State.queue_meDiscard (gone : List Desc) : ((s.meDiscard p gone).site p).me.queue = (s.site p).me.queue := by
  rw [State.meDiscard_me]
@[simp] theorem State.running_meDiscard (gone : List Desc) : ((s.meDiscard p gone).site p).me.running = (s.site p).me.running := by
  rw [State.meDiscard_me]
@[simp] theorem State.bank0_meDiscard (gone : List Desc) : ((s.meDiscard p gone).site p).me.bank0 = (s.site p).me.bank0 := by
  rw [State.meDiscard_me]
@[simp] theorem State.bank1_meDiscard (gone : List Desc) : ((s.meDiscard p gone).site p).me.bank1 = (s.site p).me.bank1 := by
  rw [State.meDiscard_me]

/-- With nothing running, the matrix engine's issue count goes back to its done count. -/
theorem State.meIssued_meDiscard (hrun : (s.site p).me.running = []) (gone : List Desc) :
    ((s.meDiscard p gone).cc p).meIssued = s.reg (.site p) 0x18100020 := by
  unfold State.meDiscard
  rw [State.cc, State.site_updSite_same, State.site_updCc_same, hrun]
  rfl

@[simp] theorem State.regs_meDiscard (gone : List Desc) : (s.meDiscard p gone).regs = s.regs := rfl
@[simp] theorem State.reg_meDiscard (gone : List Desc) (u : RegUnit) (o : Nat) : (s.meDiscard p gone).reg u o = s.reg u o := rfl

/-- A vector discard forgets what waits for a handoff. -/
@[simp] theorem State.ve_veDiscard : ((s.veDiscard p).site p).ve = { (s.site p).ve with handoff := [], discarded := [] } := by
  unfold State.veDiscard
  rw [State.site_updSite_same, State.site_updCc_same]

/-- With nothing running, the vector engine's issue count goes back to its done count. -/
theorem State.veIssued_veDiscard (hrun : (s.site p).ve.running = []) : ((s.veDiscard p).cc p).veIssued = s.reg (.site p) 0x18200020 := by
  unfold State.veDiscard
  rw [State.cc, State.site_updSite_same, State.site_updCc_same, hrun]
  rfl

@[simp] theorem State.regs_veDiscard : (s.veDiscard p).regs = s.regs := rfl
@[simp] theorem State.reg_veDiscard (u : RegUnit) (o : Nat) : (s.veDiscard p).reg u o = s.reg u o := rfl

@[simp] theorem State.ring_mvDiscard (n m : Nat) : (s.mvDiscard p n).ring p m = s.ring p m := by
  unfold State.mvDiscard
  dsimp only
  split
  · rfl
  · exact State.ring_updCc ..

@[simp] theorem State.reg_mvDiscard (n : Nat) (u : RegUnit) (o : Nat) : (s.mvDiscard p n).reg u o = s.reg u o := by
  unfold State.mvDiscard
  dsimp only
  split <;> rfl

/-- With nothing running, a ring's issue count goes back to its done count. -/
theorem State.mvIssued_mvDiscard {n : Nat} (hn : n ≠ 8) (hrun : (s.ring p n).run = none) :
    Sparse.get 0 ((s.mvDiscard p n).cc p).mvIssued n = s.reg (.site p) (0x18502010 + 32 * n) := by
  unfold State.mvDiscard
  rw [hrun]
  dsimp only
  rw [if_neg hn, State.cc_updCc_same]
  exact Sparse.get_put_same ..

@[simp] theorem State.net_countPath (hops : List (Fin 168 × Nat)) (flits : Nat) : (s.countPath hops flits).net = s.net :=
  List.foldlRecOn (motive := fun t : State => t.net = s.net) hops _ rfl fun _ ht _ _ => ht

/-- A stop that is not quiet puts one packet into the fabric: the one given, or the answer that its destination is absent. -/
theorem State.inject_sends (hq : s.quiet p = false) (k : Packet) : (s.inject (.stop p) k).net.length = s.net.length + 1 := by
  unfold State.inject
  simp only [attachStop, hq, Bool.and_false, Bool.false_and, Bool.false_eq_true, if_false]
  split
  · simp
  · simp

end Sys2Proof.Machine
end

section
/-! O19: aborts, fault clears, summary writes, management issues and resends. -/

namespace Sys2Proof.Machine

variable {s : State} {p : Site}

/-- A status word cleared of its fault. -/
theorem bit_clearFault (v : W64) : bit (setFld (setFld v 8 8 0) 7 1 0) 7 = false := by
  simp [bit_setFld]

/-! ## The matrix engine (R97, R100) -/

theorem meAbort_effect (h : s.coreRuns p = true) :
    ∃ t, exec (.meAbort p) s = .next t ∧ (t.site p).me.queue = [] ∧ (t.site p).me.running = [] ∧ (t.site p).me.bank0 = Bank.init ∧
      (t.site p).me.bank1 = Bank.init ∧ (t.cc p).meIssued = s.reg (.site p) 0x18100020 ∧ t.regs = s.regs := by
  refine ⟨s.meAbort p, by rw [exec_meAbort, execMeAbort, if_pos h], ?_⟩
  unfold State.meAbort
  extract_lets m s₁
  have hme : (s₁.site p).me = { m with
      queue := [], running := [], bank0 := Bank.init, bank1 := Bank.init, shadow := (s₁.site p).me.shadow } := by
    rw [State.site_updSite_same]
  refine ⟨?_, ?_, ?_, ?_, ?_, ?_⟩
  · rw [State.queue_meDiscard, hme]
  · rw [State.running_meDiscard, hme]
  · rw [State.bank0_meDiscard, hme]
  · rw [State.bank1_meDiscard, hme]
  · rw [State.meIssued_meDiscard (by rw [hme]), State.reg_updSite]
  · rw [State.regs_meDiscard, State.updSite_regs]

theorem meClearFault_effect (h : s.coreRuns p = true) :
    ∃ t, exec (.meClearFault p) s = .next t ∧ (t.site p).me.queue = [] ∧ bit (t.reg (.site p) 0x18100000) 7 = false ∧
      (t.site p).me.running = (s.site p).me.running ∧ (t.site p).me.bank0 = (s.site p).me.bank0 := by
  refine ⟨s.meClearFault p, by rw [exec_meClearFault, execMeClearFault, if_pos h], ?_⟩
  unfold State.meClearFault
  extract_lets m s₁ s₂
  have hme : (s₂.site p).me = { m with queue := [], shadow := (s₂.site p).me.shadow } := by
    rw [State.site_updSite_same]
    rfl
  refine ⟨?_, ?_, ?_, ?_⟩
  · rw [State.queue_meDiscard, hme]
  · rw [State.reg_meDiscard, State.reg_updSite, State.reg_setReg_same, bit_clearFault]
  · rw [State.running_meDiscard, hme]
  · rw [State.bank0_meDiscard, hme]

/-! ## The vector engine (R119, R129, R131) -/

theorem veAbort_effect (h : s.coreRuns p = true) :
    ∃ t, exec (.veAbort p) s = .next t ∧ (t.site p).ve.queue = [] ∧ (t.site p).ve.running = [] ∧ (t.site p).ve.cache = (s.site p).ve.cache ∧
      (t.cc p).veIssued = s.reg (.site p) 0x18200020 ∧ t.regs = s.regs := by
  refine ⟨s.veAbort p, by rw [exec_veAbort, execVeAbort, if_pos h], ?_⟩
  unfold State.veAbort
  refine ⟨?_, ?_, ?_, ?_, ?_⟩
  · simp
  · simp
  · simp
  · rw [State.veIssued_veDiscard (by simp), State.reg_updSite]
  · rw [State.regs_veDiscard, State.updSite_regs]

theorem veClearFault_effect (h : s.coreRuns p = true) :
    ∃ t, exec (.veClearFault p) s = .next t ∧ (t.site p).ve.queue = [] ∧ bit (t.reg (.site p) 0x18200000) 7 = false ∧
      (t.site p).ve.running = (s.site p).ve.running := by
  refine ⟨s.veClearFault p, by rw [exec_veClearFault, execVeClearFault, if_pos h], ?_⟩
  unfold State.veClearFault
  refine ⟨?_, ?_, ?_⟩
  · simp
  · rw [State.reg_veDiscard, State.reg_updSite, State.reg_setReg_same, bit_clearFault]
  · simp

theorem veSumWrite_effect (h : s.coreRuns p = true) (n : BitVec 4) (v : W64) :
    ∃ t, exec (.veSumWrite p n v) s = .next t ∧ t.reg (.site p) (0x18200100 + 8 * n.toNat) = v ∧
      bit (t.reg (.site p) 0x18200050) n.toNat = false ∧ t.sites = s.sites ∧ t.scratch = s.scratch := by
  have hn := n.isLt
  refine ⟨s.setSum p n.toNat v false, by rw [exec_veSumWrite, execVeSumWrite, if_pos h], ?_, ?_, rfl, rfl⟩
  · unfold State.setSum
    rw [State.reg_setReg_off _ _ (by omega), State.reg_setReg_same]
  · unfold State.setSum
    rw [State.reg_setReg_same, bit_setBit _ _ _ _ (by omega), if_pos rfl]

/-! ## The mover (R184, R187, R190) -/

theorem mvAbort_effect (h : s.coreRuns p = true) (ring : Fin 9) :
    ∃ t, exec (.mvAbort p ring) s = .next t ∧ (t.ring p ring.val).queue = [] ∧ (t.ring p ring.val).run = none ∧
      (∀ m, m ≠ ring.val → t.ring p m = s.ring p m) ∧
      (ring.val ≠ 8 → Sparse.get 0 (t.cc p).mvIssued ring.val = s.reg (.site p) (0x18502010 + 32 * ring.val)) := by
  refine ⟨s.mvAbort p ring.val, by rw [exec_mvAbort, execMvAbort, h]; rfl, ?_⟩
  unfold State.mvAbort
  refine ⟨?_, ?_, fun m hm => ?_, fun h8 => ?_⟩
  · rw [State.ring_mvDiscard, State.ring_updRing_same]
  · rw [State.ring_mvDiscard, State.ring_updRing_same]
  · rw [State.ring_mvDiscard, State.ring_updRing_other _ hm]
  · exact State.mvIssued_mvDiscard h8 (by rw [State.ring_updRing_same])

theorem mvClearFault_effect (h : s.coreRuns p = true) (hfrozen : s.mvFrozen p = false) (ring : Fin 9) :
    ∃ t, exec (.mvClearFault p ring) s = .next t ∧ (t.ring p ring.val).queue = [] ∧
      bit (t.reg (.site p) (0x18502000 + 32 * ring.val)) 1 = false ∧ (t.ring p ring.val).run = (s.ring p ring.val).run := by
  refine ⟨s.mvClearFault p ring.val, by rw [exec_mvClearFault, execMvClearFault, h]; rfl, ?_⟩
  unfold State.mvClearFault
  rw [hfrozen, if_neg Bool.false_ne_true]
  dsimp only
  refine ⟨?_, ?_, ?_⟩
  · rw [State.ring_mvDiscard, State.ring_updRing_same]
  · rw [State.reg_mvDiscard]
    exact congrArg (fun v : W64 => bit v 1) (State.reg_setReg_same ..)
  · rw [State.ring_mvDiscard, State.ring_updRing_same]
    rfl

/-- The management die's descriptor joins ring 8 as it is read (R184). -/
theorem mvMgmtIssue_effect {off : BitVec 29} (hroom : (s.ring p 8).queue.length < 32) (hon : s.segOn p (off.toNat / 64 * 64) = true) :
    ∃ t d, exec (.mvMgmtIssue p off) s = .next t ∧ (t.ring p 8).queue = (s.ring p 8).queue ++ [d] ∧ d.off = off.toNat / 64 * 64 ∧
      ∀ m, m ≠ 8 → t.ring p m = s.ring p m := by
  let x := s.readWide p 2 (off.toNat / 64 * 64)
  let d : Desc := ⟨0, off.toNat / 64 * 64, granBytes x.2.1, x.2.2, 0⟩
  have hread : s.keepsEngines x.1 p := keepsEngines_noteRead ..
  refine ⟨x.1.updRing p 8 fun r => { r with queue := r.queue ++ [d] }, d, ?_, ?_, rfl, fun m hm => ?_⟩
  · rw [exec_mvMgmtIssue, execMvMgmtIssue]
    dsimp only
    rw [if_pos (by simp [hroom, hon])]
  · rw [State.ring_updRing_same, hread.ring]
  · rw [State.ring_updRing_other _ hm, hread.ring]

/-- A backoff that has expired within the budget: the packet enters the fabric again and is awaited (R187). -/
theorem mvResend_effect {ring : Fin 9} {x : MvRun} {q : MvReq} (hfrozen : s.mvFrozen p = false) (hq : s.quiet p = false)
    (hrun : (s.ring p ring.val).run = some x) (hreqs : x.reqs = [q]) (hdue : ∃ due, q.resendAt = some due ∧ due ≤ s.time)
    (hbudget : s.time < q.first + (s.cc p).sendBudget.toNat) :
    ∃ t, exec (.mvResend p ring) s = .next t ∧ t.net.length = s.net.length + 1 ∧
      (t.ring p ring.val).run = some { x with reqs := [{ q with resendAt := none }] } := by
  obtain ⟨due, hat, hle⟩ := hdue
  have hsites := (onlyStepFail_inject (s := s) (.stop p) q.pkt).sites
  have hring : (s.inject (.stop p) q.pkt).ring p ring.val = s.ring p ring.val := by
    rw [State.ring, State.site, hsites]
    rfl
  refine ⟨s.mvResend p ring.val, by rw [exec_mvResend, execMvResend, hfrozen]; rfl, ?_⟩
  unfold State.mvResend
  rw [hrun]
  simp only [hreqs, List.find?_cons, hat, hle, decide_true, hbudget, if_true]
  refine ⟨State.inject_sends hq q.pkt, ?_⟩
  rw [State.ring_updRing_same, hring, hrun]
  simp [hreqs, mapFirst]

/-- Settles O19: each row's effect in turn. -/
theorem engineControlWrites : Obligations.EngineControlWrites := by
  intro s p ring n v off x q h u o
  exact ⟨meAbort_effect h, meClearFault_effect h, veAbort_effect h, veClearFault_effect h, veSumWrite_effect h n v, mvAbort_effect h ring,
    fun hfrozen => mvClearFault_effect h hfrozen ring, mvMgmtIssue_effect, mvResend_effect⟩

end Sys2Proof.Machine
end

section
/-! SUPPORT. What the data of a matrix descriptor leave alone: the queue and the running descriptors of the engine, and the control core (R87-R89, R92). -/

namespace Sys2Proof.Machine

variable {s t u : State} {p : Site}

/-- The matrix engine's queue and running descriptors and the control core are as they were. -/
def State.keepsMeQueue (s t : State) (p : Site) : Prop :=
  (t.site p).me.queue = (s.site p).me.queue ∧ (t.site p).me.running = (s.site p).me.running ∧ t.cc p = s.cc p

namespace State.keepsMeQueue

theorem rfl' : s.keepsMeQueue s p := ⟨rfl, rfl, rfl⟩

theorem trans (h : s.keepsMeQueue t p) (k : t.keepsMeQueue u p) : s.keepsMeQueue u p := by
  obtain ⟨hqueue, hrunning, hcc⟩ := h
  obtain ⟨kqueue, krunning, kcc⟩ := k
  exact ⟨kqueue.trans hqueue, krunning.trans hrunning, kcc.trans hcc⟩

theorem ofEngines (h : s.keepsEngines t p) : s.keepsMeQueue t p := ⟨by rw [h.me], by rw [h.me], h.cc⟩

theorem ofSite (h : t.site p = s.site p) : s.keepsMeQueue t p := ⟨by rw [h], by rw [h], by rw [State.cc, h, State.cc]⟩

/-- A change of the site that leaves the three alone. -/
theorem ofUpdSite {f : SiteSt → SiteSt} (hqueue : (f (s.site p)).me.queue = (s.site p).me.queue)
    (hrunning : (f (s.site p)).me.running = (s.site p).me.running) (hcc : (f (s.site p)).cc = (s.site p).cc) : s.keepsMeQueue (s.updSite p f) p := by
  unfold State.keepsMeQueue State.cc
  rw [State.site_updSite_same]
  exact ⟨hqueue, hrunning, hcc⟩

end State.keepsMeQueue

/-! ## Output into the operand cache and the slot buffers (R89, R127, R240) -/

theorem keepsMeQueue_putCache (a : Nat) (fs : List Flit) : s.keepsMeQueue (s.putCache p a fs) p := .ofUpdSite rfl rfl rfl

theorem keepsMeQueue_freeCache (spans : List (Nat × Nat)) : s.keepsMeQueue (s.freeCache p spans) p :=
  List.foldlRecOn (motive := fun t : State => s.keepsMeQueue t p) spans _ .rfl' fun t ht _ _ =>
    ht.trans <| List.foldlRecOn (motive := fun v : State => t.keepsMeQueue v p) _ _ .rfl' fun _ hv _ _ => hv.trans (keepsMeQueue_putCache ..)

/-- Free values over spans of scratchpad. -/
theorem keepsMeQueue_freeSpans (spans : List (Nat × Nat)) (s : State) : s.keepsMeQueue (spans.foldl (fun st x =>
    (granOffs x.1 x.2).foldl (fun st o => (st.writeWide p o ⟨Config.free512 st.free, false⟩).draw) st) s) p :=
  List.foldlRecOn (motive := fun t : State => s.keepsMeQueue t p) spans _ .rfl' fun t ht _ _ =>
    ht.trans <| List.foldlRecOn (motive := fun v : State => t.keepsMeQueue v p) _ _ .rfl' fun _ hv _ _ =>
      hv.trans (.ofEngines ((keepsEngines_writeWide ..).trans keepsEngines_draw))

theorem keepsMeQueue_spoilVe (into : List (Nat × Nat)) : s.keepsMeQueue (s.spoilVe p into) p := by
  refine List.foldlRecOn (motive := fun t : State => s.keepsMeQueue t p) _ _ .rfl' fun t ht r _ => ?_
  split
  · extract_lets st₁ st₂ n
    have h₂ : s.keepsMeQueue st₂ p := (ht.trans (keepsMeQueue_freeCache r.cacheWrites)).trans (keepsMeQueue_freeSpans r.writes st₁)
    have hfree : st₂.keepsMeQueue { st₂ with free := n + 16 } p := ⟨rfl, rfl, rfl⟩
    exact (h₂.trans hfree).trans (.ofUpdSite rfl rfl rfl)
  · exact ht

theorem keepsMeQueue_injectFlits (n : Nat) (fs : List Flit) : s.keepsMeQueue (s.injectFlits p n fs) p := by
  unfold State.injectFlits
  split
  · exact .ofUpdSite rfl rfl rfl
  · exact .ofSite (State.site_setRf ..)

theorem keepsMeQueue_mePut (d : Desc) (addrs : List Nat) (rows : List (List OutVal)) : s.keepsMeQueue (s.mePut p d addrs rows) p := by
  unfold State.mePut
  dsimp only
  split
  · exact .ofEngines (keepsEngines_engWrites (by norm_num) ..)
  · split
    · exact (keepsMeQueue_spoilVe _).trans (keepsMeQueue_putCache ..)
    · exact keepsMeQueue_injectFlits ..

/-! ## Beginning (R92) -/

/-- The head has left the queue and a descriptor has joined the running ones; the control core is as it was. -/
def State.meBegan (s t : State) (p : Site) (r : EngRun) : Prop :=
  (t.site p).me.queue = (s.site p).me.queue.drop 1 ∧ (t.site p).me.running = (s.site p).me.running ++ [r] ∧ t.cc p = s.cc p

theorem State.meBegin_me (r : EngRun) : ((s.meBegin p r).site p).me =
    { (s.site p).me with queue := (s.site p).me.queue.drop 1, running := (s.site p).me.running ++ [r] } := by
  rw [State.meBegin, State.site_updSite_same]

theorem State.keepsMeQueue.begin (h : s.keepsMeQueue t p) (r : EngRun) : s.meBegan (t.meBegin p r) p r := by
  obtain ⟨hqueue, hrunning, hcc⟩ := h
  refine ⟨by rw [State.meBegin_me, hqueue], by rw [State.meBegin_me, hrunning], ?_⟩
  rw [← hcc, State.cc, State.meBegin, State.site_updSite_same]
  rfl

theorem State.meBegan.keeps {r : EngRun} (h : s.meBegan t p r) (k : t.keepsMeQueue u p) : s.meBegan u p r := by
  obtain ⟨hqueue, hrunning, hcc⟩ := h
  obtain ⟨kqueue, krunning, kcc⟩ := k
  exact ⟨kqueue.trans hqueue, krunning.trans hrunning, kcc.trans hcc⟩

/-- A refused head joins the running descriptors with its reason (R97). -/
theorem meRefuse_began (d : Desc) (c : Nat) : s.meBegan (s.meRefuse p d c) p (EngRun.of d c) :=
  (State.keepsMeQueue.ofUpdSite rfl rfl rfl).begin _

/-! ## The checks at the head (R97, R98) -/

/-- A fold that never gives up a value it has ends with one. -/
theorem foldl_ne_none {α β : Type} {f : Option β → α → Option β} (hf : ∀ b x, f (some b) x ≠ none) : ∀ (l : List α) (b : β), l.foldl f (some b) ≠ none
  | [], _ => Option.some_ne_none _
  | x :: l, b => by
    obtain ⟨c, hc⟩ := Option.ne_none_iff_exists'.1 (hf b x)
    rw [List.foldl_cons, hc]
    exact foldl_ne_none hf l c

/-- When no reason stands, no check fails. -/
theorem lowestFault_none {l : List (Nat × Bool)} (h : lowestFault l = none) : ∀ c ∈ l, c.2 = false := by
  induction l with
  | nil => simp
  | cons c l ih =>
    unfold lowestFault at h ih
    rw [List.foldl_cons] at h
    cases hc : c.2 with
    | true =>
      rw [hc, if_pos rfl] at h
      refine absurd h (foldl_ne_none (fun b x => ?_) l c.1)
      dsimp only
      split <;> exact Option.some_ne_none _
    | false =>
      rw [hc, if_neg Bool.false_ne_true] at h
      intro x hx
      rcases List.mem_cons.1 hx with rfl | hx
      · exact hc
      · exact ih h x hx

/-- A GEMM_WS that passes its checks has rows (R98, BAD_DIMENSION). -/
theorem meM_pos_of_meCheck {d : Desc} (h : s.meCheck p d = none) (hop : meOp d = 2) : 0 < meM d := by
  have hdim : meBadDim d = false := lowestFault_none h (0x05, meBadDim d) (by simp [State.meStatic])
  rw [Nat.pos_iff_ne_zero]
  intro h0
  simp [meBadDim, hop, h0] at hdim

theorem meOp_of_meHead {d : Desc} {op : Nat} (h : s.meHead p op = some d) : meOp d = op := by
  unfold State.meHead at h
  split at h
  · split at h
    next hready =>
      obtain rfl := Option.some.inj h
      simp only [Bool.and_eq_true, beq_iff_eq] at hready
      obtain ⟨⟨-, hop⟩, -⟩ := hready
      exact hop
    next => cases h
  · cases h

theorem meStart_refused {op c : Nat} {d : Desc} (h : s.meHead p op = some d) (hc : s.meCheck p d = some c) (run : State → Desc → State) :
    s.meStart p op run = s.meRefuse p d c := by
  unfold State.meStart
  rw [h]
  dsimp only
  rw [hc]

theorem meStart_runs {op : Nat} {d : Desc} (h : s.meHead p op = some d) (hc : s.meCheck p d = none)
    (hok : (s.readsOk p 1 (meReads d)).join (s.writesOk p 1 (meWrites d)) = .ok) (run : State → Desc → State) :
    s.meStart p op run = run s d := by
  unfold State.meStart
  rw [h]
  dsimp only
  rw [hc]
  dsimp only
  rw [hok]

end Sys2Proof.Machine
end

section
/-! SUPPORT. What each opcode of the matrix engine does when it starts (R76-R79, R82-R89, R91). -/

namespace Sys2Proof.Machine

variable {s t u : State} {p : Site} {d : Desc}

/-! ## LOAD_TILE and the prefetch (R76, R77) -/

/-- Whether a tile is the first one of a descriptor's B. -/
def Tile.firstOf (x : Tile) (d : Desc) : Prop := x.fmt = meB d ∧ x.mult = meMult (meA d) (meB d) ∧ x.addr = meBAddr d

theorem Tile.firstOf_of_servesDesc {x : Tile} (h : x.servesDesc d = true) : x.firstOf d := by
  simp only [Tile.servesDesc, Bool.and_eq_true, beq_iff_eq] at h
  obtain ⟨⟨⟨⟨hfmt, hmult⟩, haddr⟩, -⟩, -⟩ := h
  exact ⟨hfmt, hmult, haddr⟩

theorem keepsEngines_readTile (serves : Option Nat) : s.keepsEngines (s.readTile p d serves).1 p :=
  (keepsEngines_engRead (by norm_num) ..).trans (keepsEngines_engRead (by norm_num) ..)

theorem firstOf_readTile (serves : Option Nat) : (s.readTile p d serves).2.firstOf d := ⟨rfl, rfl, rfl⟩

/-- The prefetched tile that serves a descriptor (R77). -/
def State.heldTile (s : State) (p : Site) (d : Desc) : Option Tile :=
  match (s.site p).me.shadow with
  | some x => if x.serves.isSome && x.servesDesc d then some x else none
  | none => none

/-- The tile that a LOAD_TILE loads: prefetched, or read (R77, R91). -/
def State.loadedTile (s : State) (p : Site) (d : Desc) : State × Tile :=
  match s.heldTile p d with
  | some x => (s, x)
  | none => s.readTile p d none

/-- The matrix engine with a tile in its shadow. -/
def State.withShadow (s : State) (p : Site) (x : Tile) : State := s.updSite p fun y => { y with me := { y.me with shadow := some x } }

theorem runLoadTile_eq : ∃ tails, s.runLoadTile p d =
    ((s.loadedTile p d).1.withShadow p { (s.loadedTile p d).2 with serves := none }).meBegin p { EngRun.of d 0 with tails := tails } :=
  ⟨_, rfl⟩

theorem firstOf_of_heldTile {x : Tile} (h : s.heldTile p d = some x) : x.firstOf d := by
  unfold State.heldTile at h
  split at h
  · split at h
    next hserves =>
      obtain rfl := Option.some.inj h
      exact Tile.firstOf_of_servesDesc (Bool.and_eq_true_iff.1 hserves).2
    next => cases h
  · cases h

theorem loadedTile_effect : s.keepsEngines (s.loadedTile p d).1 p ∧ (s.loadedTile p d).2.firstOf d := by
  unfold State.loadedTile
  split
  next x hx => exact ⟨.rfl', firstOf_of_heldTile hx⟩
  next => exact ⟨keepsEngines_readTile none, firstOf_readTile none⟩

theorem keepsMeQueue_withShadow (x : Tile) : s.keepsMeQueue (s.withShadow p x) p := .ofUpdSite rfl rfl rfl

theorem State.withShadow_me (x : Tile) : ((s.withShadow p x).site p).me = { (s.site p).me with shadow := some x } := by
  rw [State.withShadow, State.site_updSite_same]

/-- A LOAD_TILE begins with its tile, prefetched or read, in the shadow. -/
theorem runLoadTile_effect : ∃ r x, s.meBegan (s.runLoadTile p d) p r ∧ r.desc = d ∧ r.reason = 0 ∧
    ((s.runLoadTile p d).site p).me.shadow = some x ∧ x.firstOf d ∧ x.serves = none := by
  obtain ⟨tails, he⟩ := runLoadTile_eq (s := s) (p := p) (d := d)
  obtain ⟨hdata, hfirst⟩ := loadedTile_effect (s := s) (p := p) (d := d)
  refine ⟨{ EngRun.of d 0 with tails := tails }, { (s.loadedTile p d).2 with serves := none }, ?_, rfl, rfl, ?_, hfirst, rfl⟩
  · rw [he]
    exact ((State.keepsMeQueue.ofEngines hdata).trans (keepsMeQueue_withShadow _)).begin _
  · rw [he, State.meBegin_me, State.withShadow_me]

/-- A prefetch that is made puts the next descriptor's first tile in the shadow. -/
theorem State.mePrefetch_eq : s.mePrefetch p = s ∨ ∃ d x, x = s.readTile p d (some d.serial) ∧ s.mePrefetch p = x.1.withShadow p x.2 := by
  unfold State.mePrefetch
  split
  next d _ _ =>
    extract_lets k n spans y
    split
    · exact .inr ⟨d, y, rfl, rfl⟩
    · exact .inl rfl
  next => exact .inl rfl

/-- The prefetch fills the shadow and nothing else of the engine. -/
theorem mePrefetch_effect : ∃ x, ((s.mePrefetch p).site p).me = { (s.site p).me with shadow := x } ∧ (s.mePrefetch p).cc p = s.cc p := by
  obtain he | ⟨d, x, rfl, he⟩ := State.mePrefetch_eq (s := s) (p := p)
  · exact ⟨(s.site p).me.shadow, by rw [he], by rw [he]⟩
  · have hread : s.keepsEngines (s.readTile p d (some d.serial)).1 p := keepsEngines_readTile _
    obtain ⟨-, -, hcc⟩ := keepsMeQueue_withShadow (s := (s.readTile p d (some d.serial)).1) (p := p) (s.readTile p d (some d.serial)).2
    exact ⟨_, by rw [he, State.withShadow_me, hread.me], by rw [he, hcc, hread.cc]⟩

/-! ## GEMM_WS (R76-R79) -/

/-- The format a descriptor gives its bank (R78). -/
def meBankFmt (d : Desc) : BankFmt := if meWa d then .wa96 else .fp32

/-- One row of A goes into the bank, which takes the descriptor's tag (R79). -/
theorem gemmStep_effect (b : Operand) (bPoison : Bool) (scales : List Flit) (s : State) (r : Nat) :
    let t := State.gemmStep p d b bPoison scales s r
    (∃ x : Bank, x.fmt = some (meBankFmt d) ∧ x.rows = meM d ∧ (t.site p).me = (s.site p).me.setBank (meBank d) x) ∧ t.cc p = s.cc p := by
  unfold State.gemmStep
  extract_lets k x a old start sums bad bank
  have hx : s.keepsEngines x.1 p := keepsEngines_engRead (by norm_num) ..
  refine ⟨⟨bank, rfl, rfl, by rw [State.site_updSite_same, hx.me]⟩, ?_⟩
  rw [← hx.cc, State.cc, State.site_updSite_same]
  rfl

/-- The queue, the running descriptors and a live tile stand while rows go into the bank. -/
def State.gemmKeeps (s t : State) (p : Site) : Prop := s.keepsMeQueue t p ∧ (t.site p).me.live = (s.site p).me.live

theorem State.gemmKeeps.trans (h : s.gemmKeeps t p) (k : t.gemmKeeps u p) : s.gemmKeeps u p := ⟨h.1.trans k.1, k.2.trans h.2⟩

theorem gemmKeeps_gemmStep (b : Operand) (bPoison : Bool) (scales : List Flit) (s : State) (r : Nat) :
    s.gemmKeeps (State.gemmStep p d b bPoison scales s r) p := by
  obtain ⟨⟨x, -, -, hme⟩, hcc⟩ := gemmStep_effect (p := p) (d := d) b bPoison scales s r
  exact ⟨⟨by rw [hme, Me.queue_setBank], by rw [hme, Me.running_setBank], hcc⟩, by rw [hme, Me.live_setBank]⟩

/-- All rows of A go into the bank: it ends tagged, there being a last row. -/
theorem gemmRows_effect (b : Operand) (bPoison : Bool) (scales : List Flit) (hM : 0 < meM d) (s : State) :
    let t := (List.range (meM d)).foldl (State.gemmStep p d b bPoison scales) s
    s.gemmKeeps t p ∧ ((t.site p).me.bank (meBank d)).fmt = some (meBankFmt d) ∧ ((t.site p).me.bank (meBank d)).rows = meM d := by
  intro t
  obtain ⟨k, hk⟩ := Nat.exists_eq_succ_of_ne_zero hM.ne'
  let before := (List.range k).foldl (State.gemmStep p d b bPoison scales) s
  have ht : t = State.gemmStep p d b bPoison scales before k := by
    simp only [t, before, hk, List.range_succ, List.foldl_append, List.foldl_cons, List.foldl_nil]
  have hbefore : s.gemmKeeps before p :=
    List.foldlRecOn (motive := fun v : State => s.gemmKeeps v p) _ _ ⟨.rfl', rfl⟩ fun v hv r _ => hv.trans (gemmKeeps_gemmStep b bPoison scales v r)
  obtain ⟨⟨x, hfmt, hrows, hme⟩, -⟩ := gemmStep_effect (p := p) (d := d) b bPoison scales before k
  rw [ht]
  refine ⟨hbefore.trans (gemmKeeps_gemmStep ..), ?_, ?_⟩
  · rw [hme, Me.bank_setBank_same, hfmt]
  · rw [hme, Me.bank_setBank_same, hrows]

/-- The first tile of a GEMM_WS: the live one, the one in the shadow that serves it, or one that is read (R76, R77). -/
def State.gemmFirst (s : State) (p : Site) (d : Desc) : State × Tile :=
  if meLive d then (s, ((s.site p).me.live).getD ⟨0, 0, 0, 0, [], [], false, none⟩)
  else match (s.site p).me.shadow with
    | some x => if x.servesDesc d then (s, x) else s.readTile p d none
    | none => s.readTile p d none

theorem keepsEngines_gemmFirst : s.keepsEngines (s.gemmFirst p d).1 p := by
  unfold State.gemmFirst
  split
  · exact .rfl'
  · split
    · split
      · exact .rfl'
      · exact keepsEngines_readTile none
    · exact keepsEngines_readTile none

/-- B of a GEMM_WS, once its first tile is at hand (R76). -/
def State.gemmB (s : State) (p : Site) (d : Desc) (first : Tile) : State × List Byte × List Byte × Bool :=
  if meLive d then (s, first.elems, first.scales, first.poison) else s.readRest p d first

theorem keepsEngines_gemmB (first : Tile) : s.keepsEngines (s.gemmB p d first).1 p := by
  unfold State.gemmB
  split
  · exact .rfl'
  · exact (keepsEngines_engRead (by norm_num) ..).trans (keepsEngines_engRead (by norm_num) ..)

/-- A GEMM_WS begins with its rows in its bank and its last tile live. -/
theorem runGemm_effect (hM : 0 < meM d) : ∃ r, s.meBegan (s.runGemm p d) p r ∧ r.desc = d ∧ r.reason = 0 ∧
    r.count = meM d * (256 * meK d) * 256 ∧ (((s.runGemm p d).site p).me.bank (meBank d)).fmt = some (meBankFmt d) ∧
    (((s.runGemm p d).site p).me.bank (meBank d)).rows = meM d ∧ ((s.runGemm p d).site p).me.live.isSome = true := by
  unfold State.runGemm
  extract_lets mult first rest b bytes sbytes last s₁ sc s₂ s₃ poison run s₄
  have hrest : s.keepsEngines rest.1 p := keepsEngines_gemmFirst.trans (keepsEngines_gemmB (s.gemmFirst p d).2)
  have h₁ : s.keepsMeQueue s₁ p := (State.keepsMeQueue.ofEngines hrest).trans (.ofUpdSite rfl rfl rfl)
  have hlive : (s₁.site p).me.live = some last := by simp [s₁]
  have hsc : s₁.keepsEngines sc.1 p := keepsEngines_engRead (by norm_num) ..
  have h₂ : s₁.gemmKeeps s₂ p := by
    have hread : s₁.gemmKeeps sc.1 p := ⟨.ofEngines hsc, by rw [hsc.me]⟩
    simp only [s₂]
    split
    · exact hread
    · exact hread.trans ⟨.ofUpdSite (Me.queue_setBank ..) (Me.running_setBank ..) rfl, by rw [State.site_updSite_same]; exact Me.live_setBank ..⟩
  obtain ⟨h₃, hfmt, hrows⟩ := gemmRows_effect (p := p) b rest.2.2.2 sc.2 hM s₂
  have hkeeps := h₂.trans h₃
  have h₄ : s.meBegan s₄ p _ := (h₁.trans hkeeps.1).begin _
  obtain ⟨x, hme, hcc⟩ : ∃ x, ((if meLive d then s₄ else s₄.mePrefetch p).site p).me = { (s₄.site p).me with shadow := x } ∧
      (if meLive d then s₄ else s₄.mePrefetch p).cc p = s₄.cc p := by
    split
    · exact ⟨_, rfl, rfl⟩
    · exact mePrefetch_effect
  refine ⟨_, h₄.keeps ⟨by rw [hme], by rw [hme], hcc⟩, rfl, rfl, rfl, ?_, ?_, ?_⟩
  · rw [hme, State.meBegin_me]
    exact hfmt
  · rw [hme, State.meBegin_me]
    exact hrows
  · rw [hme, State.meBegin_me]
    exact congrArg Option.isSome (hkeeps.2.trans hlive)

/-! ## DRAIN and GEMV_STREAM (R82-R91) -/

/-- A descriptor with output begins once the output is put. -/
theorem meOutput_effect (addrs : List Nat) (rows : List (List OutVal)) (macs : Nat) :
    ∃ r, s.meBegan (s.meOutput p d addrs rows macs) p r ∧ r.desc = d ∧ r.reason = 0 ∧ r.writes = meWrites d ∧ r.count = macs :=
  ⟨_, (keepsMeQueue_mePut d addrs rows).begin _, rfl, rfl, rfl, rfl⟩

theorem runDrain_effect (hroom : s.meNoRoom p d = false) :
    ∃ r, s.meBegan (s.runDrain p d) p r ∧ r.desc = d ∧ r.reason = 0 ∧ r.writes = meWrites d := by
  unfold State.runDrain
  rw [hroom, if_neg Bool.false_ne_true]
  obtain ⟨r, hbegan, hdesc, hreason, hwrites, -⟩ := meOutput_effect (s := s) (p := p) (d := d) _ _ 0
  exact ⟨r, hbegan, hdesc, hreason, hwrites⟩

theorem keepsMeQueue_meLatchLoad : s.keepsMeQueue (s.meLatchLoad p d).1 p := by
  unfold State.meLatchLoad
  extract_lets k x y l
  split
  · exact .rfl'
  · have hy : s.keepsEngines y.1 p := (keepsEngines_engRead (by norm_num) ..).trans (keepsEngines_engRead (by norm_num) ..)
    exact (State.keepsMeQueue.ofEngines hy).trans (.ofUpdSite rfl rfl rfl)

theorem runGemv_effect (hroom : s.meNoRoom p d = false) :
    ∃ r, s.meBegan (s.runGemv p d) p r ∧ r.desc = d ∧ r.reason = 0 ∧ r.writes = meWrites d ∧ r.count = 256 * meN d * (256 * meK d) := by
  unfold State.runGemv
  rw [hroom, if_neg Bool.false_ne_true]
  extract_lets lt n eb sb x y ow z a b held start ge gs rows ob
  have hy : lt.1.keepsEngines y.1 p := (keepsEngines_engRead (by norm_num) ..).trans (keepsEngines_engRead (by norm_num) ..)
  have hz : lt.1.keepsEngines z.1 p := by
    simp only [z]
    split
    · exact hy.trans (keepsEngines_engRead (by norm_num) ..)
    · exact hy
  have hdata : s.keepsMeQueue z.1 p := keepsMeQueue_meLatchLoad.trans (.ofEngines hz)
  exact ⟨_, (hdata.trans (keepsMeQueue_mePut d _ rows)).begin _, rfl, rfl, rfl, rfl⟩

end Sys2Proof.Machine
end

section
/-! O15: descriptors of the matrix engine start, or join with a failing code. -/

namespace Sys2Proof.Machine

variable {s : State} {p : Site}

/-- Each start row is `State.meStart` with its opcode. -/
theorem exec_meStart {op : Nat} {i : Instr}
    (hi : (op, i) ∈ [(1, Instr.meLoadTile p), (2, .meGemmWs p), (3, .meGemvStream p), (4, .meDrain p), (5, .meSync p)]) :
    ∃ run, exec i s = .next (s.meStart p op run) := by
  simp only [List.mem_cons, List.not_mem_nil, or_false, Prod.mk.injEq] at hi
  rcases hi with ⟨rfl, rfl⟩ | ⟨rfl, rfl⟩ | ⟨rfl, rfl⟩ | ⟨rfl, rfl⟩ | ⟨rfl, rfl⟩ <;> exact ⟨_, rfl⟩

/-- Settles O15: a refused head is `State.meRefuse`, and one that runs is its opcode's own effect. -/
theorem matrixEngineStarts : Obligations.MatrixEngineStarts := by
  intro s p op i d hi hhead m
  refine ⟨fun hcheck hok hroom => ?_, fun c hc => ?_⟩
  · have hop := meOp_of_meHead hhead
    have hrun : ∀ run, (.next (s.meStart p op run) : Host.Outcome State Fault Refusal) = .next (run s d) := fun run => by
      rw [meStart_runs hhead hcheck hok run]
    simp only [List.mem_cons, List.not_mem_nil, or_false, Prod.mk.injEq] at hi
    rcases hi with ⟨rfl, rfl⟩ | ⟨rfl, rfl⟩ | ⟨rfl, rfl⟩ | ⟨rfl, rfl⟩ | ⟨rfl, rfl⟩
    · obtain ⟨r, x, ⟨hqueue, hrunning, hcc⟩, hdesc, hreason, hshadow, ⟨hfmt, hmult, haddr⟩, hserves⟩ := runLoadTile_effect (s := s) (p := p) (d := d)
      refine ⟨_, r, hrun _, hqueue, hrunning, hdesc, hreason, hcc, fun _ => ⟨x, hshadow, hfmt, hmult, haddr, hserves⟩, ?_, ?_, ?_⟩ <;> simp
    · obtain ⟨r, ⟨hqueue, hrunning, hcc⟩, hdesc, hreason, hcount, hfmt, hrows, hlive⟩ := runGemm_effect (s := s) (p := p) (meM_pos_of_meCheck hcheck hop)
      refine ⟨_, r, hrun _, hqueue, hrunning, hdesc, hreason, hcc, ?_, fun _ => ⟨hfmt, hrows, hlive, hcount⟩, ?_, ?_⟩ <;> simp
    · obtain ⟨r, ⟨hqueue, hrunning, hcc⟩, hdesc, hreason, hwrites, hcount⟩ := runGemv_effect (hroom (.inl rfl))
      refine ⟨_, r, hrun _, hqueue, hrunning, hdesc, hreason, hcc, ?_, ?_, fun _ => ⟨hwrites, hcount⟩, ?_⟩ <;> simp
    · obtain ⟨r, ⟨hqueue, hrunning, hcc⟩, hdesc, hreason, hwrites⟩ := runDrain_effect (hroom (.inr rfl))
      refine ⟨_, r, hrun _, hqueue, hrunning, hdesc, hreason, hcc, ?_, ?_, ?_, fun _ => hwrites⟩ <;> simp
    · obtain ⟨hqueue, hrunning, hcc⟩ := (State.keepsMeQueue.rfl' (s := s) (p := p)).begin (EngRun.of d 0)
      refine ⟨_, _, hrun _, hqueue, hrunning, rfl, rfl, hcc, ?_, ?_, ?_, ?_⟩ <;> simp
  · obtain ⟨run, hexec⟩ := exec_meStart (s := s) hi
    obtain ⟨hqueue, hrunning, hcc⟩ := meRefuse_began (s := s) (p := p) d c
    exact ⟨_, _, hexec.trans (congrArg _ (meStart_refused hhead hc run)), hqueue, hrunning, rfl, rfl, hcc, rfl⟩

end Sys2Proof.Machine
end

section
/-! SUPPORT. What the data of a vector descriptor leave alone on its site: all but the operand cache, its marks and the queue of write-backs
(R110, R123, R127). -/

namespace Sys2Proof.Machine

variable {s t u : State} {p : Site}

/-- A site holds what it held, the operand cache, its marks and the queue of write-backs aside, and so do the engines' registers. -/
def State.keepsVe (s t : State) (p : Site) : Prop :=
  (∃ c m l, t.site p = { s.site p with ve := { (s.site p).ve with cache := c, marks := m }, writeBacks := l }) ∧
    ∀ o, engReg o → t.reg (.site p) o = s.reg (.site p) o

namespace State.keepsVe

theorem rfl' : s.keepsVe s p := ⟨⟨_, _, _, rfl⟩, fun _ _ => rfl⟩

theorem trans (h : s.keepsVe t p) (k : t.keepsVe u p) : s.keepsVe u p := by
  obtain ⟨⟨c, m, l, ht⟩, hreg⟩ := h
  obtain ⟨⟨c', m', l', hu⟩, kreg⟩ := k
  exact ⟨⟨c', m', l', by rw [hu, ht]⟩, fun o ho => (kreg o ho).trans (hreg o ho)⟩

theorem ofEngines (h : s.keepsEngines t p) : s.keepsVe t p := by
  obtain ⟨⟨l, hl⟩, hreg⟩ := h
  exact ⟨⟨_, _, l, hl⟩, hreg p⟩

theorem queue (h : s.keepsVe t p) : (t.site p).ve.queue = (s.site p).ve.queue := by
  obtain ⟨⟨c, m, l, ht⟩, -⟩ := h
  rw [ht]

theorem running (h : s.keepsVe t p) : (t.site p).ve.running = (s.site p).ve.running := by
  obtain ⟨⟨c, m, l, ht⟩, -⟩ := h
  rw [ht]

theorem table (h : s.keepsVe t p) : (t.site p).ve.table = (s.site p).ve.table := by
  obtain ⟨⟨c, m, l, ht⟩, -⟩ := h
  rw [ht]

theorem me (h : s.keepsVe t p) : (t.site p).me = (s.site p).me := by
  obtain ⟨⟨c, m, l, ht⟩, -⟩ := h
  rw [ht]

theorem cc (h : s.keepsVe t p) : t.cc p = s.cc p := by
  obtain ⟨⟨c, m, l, ht⟩, -⟩ := h
  rw [State.cc, ht]
  rfl

theorem done (h : s.keepsVe t p) : t.reg (.site p) 0x18200020 = s.reg (.site p) 0x18200020 := h.2 _ (by norm_num [engReg])

end State.keepsVe

theorem keepsVe_engRead (off len : Nat) : s.keepsVe (s.engRead p 1 off len).1 p := .ofEngines (keepsEngines_engRead (by norm_num) ..)

theorem keepsVe_engWrites (off : Nat) (pieces : List (Nat × List Flit)) : s.keepsVe (s.engWrites p 1 off pieces) p :=
  .ofEngines (keepsEngines_engWrites (by norm_num) ..)

theorem keepsVe_putCache (a : Nat) (fs : List Flit) : s.keepsVe (s.putCache p a fs) p :=
  ⟨⟨_, _, _, State.site_updSite_same ..⟩, fun _ _ => rfl⟩

theorem keepsVe_cachePieces (ps : List (Nat × List Byte × Bool)) : s.keepsVe (s.cachePieces p ps) p :=
  ⟨⟨_, _, _, State.site_updSite_same ..⟩, fun _ _ => rfl⟩

theorem keepsVe_freeCache (spans : List (Nat × Nat)) : s.keepsVe (s.freeCache p spans) p :=
  List.foldlRecOn (motive := fun t : State => s.keepsVe t p) spans _ .rfl' fun t ht _ _ =>
    ht.trans <| List.foldlRecOn (motive := fun v : State => t.keepsVe v p) _ _ .rfl' fun _ hv _ _ =>
      (hv.trans (keepsVe_putCache ..)).trans (.ofEngines keepsEngines_draw)

end Sys2Proof.Machine
end

section
/-! SUPPORT. What a start row of the vector engine does with its head, and what each opcode does when it starts (R101-R121, R123-R126, R129). -/

namespace Sys2Proof.Machine

variable {s t u : State} {p : Site} {d : Desc}

/-! ## Beginning (R125) -/

/-- The head has left the queue and a descriptor has joined the running ones; the matrix engine and the control core are as they were. -/
structure State.veBegan (s t : State) (p : Site) (r : EngRun) : Prop where
  queue : (t.site p).ve.queue = (s.site p).ve.queue.drop 1
  running : (t.site p).ve.running = (s.site p).ve.running ++ [r]
  me : (t.site p).me = (s.site p).me
  cc : t.cc p = s.cc p

theorem veBegin_began (r : EngRun) : s.veBegan (s.veBegin p r) p r := by
  unfold State.veBegin
  constructor <;> simp [State.cc]

theorem State.keepsVe.began {r : EngRun} (h : s.keepsVe t p) (k : t.veBegan u p r) : s.veBegan u p r :=
  ⟨by rw [k.queue, h.queue], by rw [k.running, h.running], by rw [k.me, h.me], by rw [k.cc, h.cc]⟩

theorem State.veBegan.keeps {r : EngRun} (h : s.veBegan t p r) (k : t.keepsVe u p) : s.veBegan u p r :=
  ⟨by rw [k.queue, h.queue], by rw [k.running, h.running], by rw [k.me, h.me], by rw [k.cc, h.cc]⟩

/-! ## The start row (R125, R126, R129) -/

/-- The operand cache lines of a descriptor that running handoffs of the matrix engine write too (R127). -/
def State.meShared (s : State) (p : Site) (spans : List (Nat × Nat)) : List (Nat × Nat) :=
  spansCommon spans ((s.site p).me.running.flatMap (·.cacheWrites))

/-- The state in which a vector descriptor runs: the shared lines that it reads are undefined (R127). -/
def State.veShared (s : State) (p : Site) (d : Desc) : State := s.freeCache p (s.meShared p (veCacheReads d))

/-- A vector descriptor has run, and the shared lines that it wrote are undefined too (R127). -/
def State.veRan (s : State) (p : Site) (d : Desc) (run : State → Desc → State) : State :=
  (run (s.veShared p d) d).freeCache p (s.meShared p (veCacheWrites d))

theorem keepsVe_veShared : s.keepsVe (s.veShared p d) p := keepsVe_freeCache _

theorem keepsVe_veRan (run : State → Desc → State) : (run (s.veShared p d) d).keepsVe (s.veRan p d run) p := keepsVe_freeCache _

theorem veRan_began {run : State → Desc → State} {r : EngRun} (h : (s.veShared p d).veBegan (run (s.veShared p d) d) p r) :
    s.veBegan (s.veRan p d run) p r := (keepsVe_veShared.began h).keeps (keepsVe_veRan run)

section head
variable {op : Nat} {rest : List Desc} (hqueue : (s.site p).ve.queue = d :: rest) (hready : s.veReady p = true) (hop : veOp d = op)
  (hmay : (s.site p).ve.mayStart d = true) (hwaits : s.veWaitsMe p d = false)
include hqueue hready hop hmay hwaits

theorem veStart_refused {c : Nat} (hc : s.veCheck p d = some c) (run : State → Desc → State) :
    s.veStart p op run = s.veBegin p (veRunOf d c) := by
  simp [State.veStart, hqueue, hready, hop, hmay, hwaits, hc]

theorem veStart_runs (hc : s.veCheck p d = none) (hok : (s.readsOk p 2 (veReads d)).join (s.writesOk p 2 (veWrites d)) = .ok)
    (run : State → Desc → State) : s.veStart p op run = s.veRan p d run := by
  simp only [State.veStart, hqueue, hready, hop, hmay, hwaits, hc, hok, beq_self_eq_true, Bool.not_false, Bool.and_self, if_true]
  rfl

end head

/-! ## FILL, EVICT and CHAIN (R101-R121, R123) -/

/-- The granules that a FILL puts into the operand cache: zeros, or what it reads. -/
def State.fillGrans (s : State) (p : Site) (d : Desc) : State × List Flit :=
  if veZero d then (s, List.replicate (32 * veLines d) ⟨0, false⟩) else s.engRead p 1 (veAddr d) (veLines d * 2048)

theorem keepsVe_fillGrans : s.keepsVe (s.fillGrans p d).1 p := by
  unfold State.fillGrans
  split
  · exact .rfl'
  · exact keepsVe_engRead ..

theorem runFill_effect : ∃ r, s.veBegan (s.runFill p d) p r ∧ r.desc = d ∧ r.reason = 0 ∧ r.cacheWrites = veCacheWrites d :=
  ⟨_, ((keepsVe_fillGrans (d := d)).trans (keepsVe_putCache ..)).began (veBegin_began _), rfl, rfl, rfl⟩

theorem runEvict_effect :
    ∃ r, s.veBegan (s.runEvict p d) p r ∧ r.desc = d ∧ r.reason = 0 ∧ r.writes = veWrites d ∧ r.cacheReads = veCacheReads d :=
  ⟨_, (keepsVe_engWrites ..).began (veBegin_began _), rfl, rfl, rfl, rfl⟩

theorem runChain_effect : ∃ r, s.veBegan (s.runChain p d) p r ∧ r.desc = d ∧ r.reason = 0 ∧ r.count = veN d :=
  ⟨_, (keepsVe_cachePieces _).began (veBegin_began _), rfl, rfl, rfl⟩

/-! ## LOAD_TABLE (R124) -/

/-- The vector engine with a coefficient table. -/
def State.withTable (s : State) (p : Site) (x : VeTable) : State := s.updSite p fun y => { y with ve := { y.ve with table := some x } }

theorem withTable_began (x : VeTable) (r : EngRun) : s.veBegan ((s.withTable p x).veBegin p r) p r := by
  unfold State.withTable State.veBegin
  constructor <;> simp [State.cc]

theorem withTable_table (x : VeTable) (r : EngRun) : (((s.withTable p x).veBegin p r).site p).ve.table = some x := by
  simp [State.withTable, State.veBegin]

theorem runLoadTable_eq :
    ∃ x r, s.runLoadTable p d = ((s.engRead p 1 (veAddr d) 1536).1.withTable p x).veBegin p r ∧ r.desc = d ∧ r.reason = 0 :=
  ⟨_, _, rfl, rfl, rfl⟩

theorem runLoadTable_effect : ∃ x r, s.veBegan (s.runLoadTable p d) p r ∧ r.desc = d ∧ r.reason = 0 ∧
    ((s.runLoadTable p d).site p).ve.table = some x := by
  obtain ⟨x, r, he, hdesc, hreason⟩ := runLoadTable_eq (s := s) (p := p) (d := d)
  exact ⟨x, r, he ▸ (keepsVe_engRead ..).began (withTable_began x r), hdesc, hreason, he ▸ withTable_table x r⟩

/-! ## SYNC (R125, R128) -/

/-- A SYNC begins and completes. -/
def State.runVeSync (s : State) (p : Site) (d : Desc) : State := (s.veBegin p (veRunOf d 0)).veComplete p (veRunOf d 0)

/-- A SYNC has left the queue and completed: where nothing ran before it nothing runs now, and the done count has advanced by one (R125, R128). -/
def State.veSynced (s t : State) (p : Site) : Prop :=
  (t.site p).ve.queue = (s.site p).ve.queue.drop 1 ∧ (t.site p).me = (s.site p).me ∧
    ((s.site p).ve.running = [] → (t.site p).ve.running = []) ∧ t.reg (.site p) 0x18200020 = s.reg (.site p) 0x18200020 + 1

theorem runVeSync_effect : s.veSynced (s.runVeSync p d) p := by
  obtain ⟨hqueue, hrunning, hme, -⟩ := veBegin_began (s := s) (p := p) (veRunOf d 0)
  obtain ⟨⟨l, hl⟩, -, hdone, -⟩ := veComplete_good_effect (s := s.veBegin p (veRunOf d 0)) (p := p) (r := veRunOf d 0) rfl
  rw [State.vePopped, State.site_updSite_same] at hl
  refine ⟨by rw [State.runVeSync, hl, ← hqueue], by rw [State.runVeSync, hl, ← hme], fun hnone => ?_, hdone⟩
  rw [State.runVeSync, hl, hrunning, hnone]
  rfl

theorem veRan_sync : s.veSynced (s.veRan p d fun st d => st.runVeSync p d) p := by
  obtain ⟨hqueue, hme, hrunning, hdone⟩ := runVeSync_effect (s := s.veShared p d) (p := p) (d := d)
  have hpre : s.keepsVe (s.veShared p d) p := keepsVe_veShared
  have hpost := keepsVe_veRan (s := s) (p := p) (d := d) fun st d => st.runVeSync p d
  refine ⟨?_, ?_, fun hnone => ?_, ?_⟩
  · rw [hpost.queue, hqueue, hpre.queue]
  · rw [hpost.me, hme, hpre.me]
  · rw [hpost.running, hrunning (hpre.running.trans hnone)]
  · rw [hpost.done, hdone, hpre.done]

end Sys2Proof.Machine
end

section
/-! O16: descriptors of the vector engine start, or join with a failing code. -/

namespace Sys2Proof.Machine

variable {s : State} {p : Site}

/-- Each start row is `State.veStart` with its opcode. -/
theorem exec_veStart {op : Nat} {i : Instr}
    (hi : (op, i) ∈ [(1, Instr.veFill p), (2, .veEvict p), (3, .veChain p), (4, .veLoadTable p), (5, .veSync p)]) :
    ∃ run, exec i s = .next (s.veStart p op run) := by
  simp only [List.mem_cons, List.not_mem_nil, or_false, Prod.mk.injEq] at hi
  rcases hi with ⟨rfl, rfl⟩ | ⟨rfl, rfl⟩ | ⟨rfl, rfl⟩ | ⟨rfl, rfl⟩ | ⟨rfl, rfl⟩ <;> exact ⟨_, rfl⟩

/-- Settles O16: a head that runs has its opcode's own effect, undefined cache lines aside, and a refused one joins as it is.
That LOAD_TABLE leaves its table at the start is the model's choice: R124 completes it later. -/
theorem vectorEngineStarts : Obligations.VectorEngineStarts := by
  intro s p op i d rest hi v hqueue hready hop hmay hwaits
  have hdrop : (s.site p).ve.queue.drop 1 = rest := by
    rw [hqueue]
    rfl
  refine ⟨fun hcheck hok => ?_, fun _ c hc => ?_⟩
  · have hrun : ∀ run, (.next (s.veStart p op run) : Host.Outcome State Fault Refusal) = .next (s.veRan p d run) := fun run => by
      rw [veStart_runs hqueue hready hop hmay hwaits hcheck hok run]
    simp only [List.mem_cons, List.not_mem_nil, or_false, Prod.mk.injEq] at hi
    rcases hi with ⟨rfl, rfl⟩ | ⟨rfl, rfl⟩ | ⟨rfl, rfl⟩ | ⟨rfl, rfl⟩ | ⟨rfl, rfl⟩
    · obtain ⟨r, hbegan, hdesc, hreason, hwrites⟩ := runFill_effect (s := s.veShared p d) (p := p) (d := d)
      obtain ⟨hq, hr, hme, hcc⟩ := veRan_began (run := fun st d => st.runFill p d) hbegan
      refine ⟨_, hrun _, hq.trans hdrop, hme, fun _ => ⟨r, hr, hdesc, hreason, hcc, fun _ => hwrites, ?_, ?_, ?_⟩, ?_⟩ <;> simp
    · obtain ⟨r, hbegan, hdesc, hreason, hwrites, hreads⟩ := runEvict_effect (s := s.veShared p d) (p := p) (d := d)
      obtain ⟨hq, hr, hme, hcc⟩ := veRan_began (run := fun st d => st.runEvict p d) hbegan
      refine ⟨_, hrun _, hq.trans hdrop, hme, fun _ => ⟨r, hr, hdesc, hreason, hcc, ?_, fun _ => ⟨hwrites, hreads⟩, ?_, ?_⟩, ?_⟩ <;> simp
    · obtain ⟨r, hbegan, hdesc, hreason, hcount⟩ := runChain_effect (s := s.veShared p d) (p := p) (d := d)
      obtain ⟨hq, hr, hme, hcc⟩ := veRan_began (run := fun st d => st.runChain p d) hbegan
      refine ⟨_, hrun _, hq.trans hdrop, hme, fun _ => ⟨r, hr, hdesc, hreason, hcc, ?_, ?_, fun _ => hcount, ?_⟩, ?_⟩ <;> simp
    · obtain ⟨x, r, hbegan, hdesc, hreason, htable⟩ := runLoadTable_effect (s := s.veShared p d) (p := p) (d := d)
      obtain ⟨hq, hr, hme, hcc⟩ := veRan_began (run := fun st d => st.runLoadTable p d) hbegan
      have hsome := congrArg Option.isSome ((keepsVe_veRan fun st d => st.runLoadTable p d).table.trans htable)
      refine ⟨_, hrun _, hq.trans hdrop, hme, fun _ => ⟨r, hr, hdesc, hreason, hcc, ?_, ?_, ?_, fun _ => hsome⟩, ?_⟩ <;> simp
    · obtain ⟨hq, hme, hr, hdone⟩ := veRan_sync (s := s) (p := p) (d := d)
      exact ⟨_, hrun _, hq.trans hdrop, hme, fun h => absurd rfl h, fun _ hnone => ⟨hr hnone, hdone⟩⟩
  · obtain ⟨run, hexec⟩ := exec_veStart (s := s) hi
    obtain ⟨hq, hr, -, hcc⟩ := veBegin_began (s := s) (p := p) (veRunOf d c)
    exact ⟨_, _, hexec.trans (congrArg _ (veStart_refused hqueue hready hop hmay hwaits hc run)), hq.trans hdrop, hr, rfl, rfl, hcc, rfl⟩

end Sys2Proof.Machine
end

section
/-! SUPPORT. Completing an instruction: the effect of the control core's one-clock completions, and states that may execute. -/

namespace Sys2Proof.Machine

variable {s : State} {p : Site}

/-- The hypothesis of the control core's statements can be met: by any core put into RUN after reset. -/
theorem ccReady_run : (State.reset.setCoreState p 2).ccReady p := by
  have hstate : (State.reset.setCoreState p 2).coreState p = 2 := State.rf_setRf_same _ _ (by norm_num)
  exact ⟨by rw [State.coreRuns, hstate]; rfl, rfl⟩

/-- An instruction of a core that is ready does what its meaning says. -/
theorem exec_ready {i : Instr} {body : Cc → State} {t : State} (h : s.ccReady p) (hi : exec i s = s.ccExec p body)
    (ht : body (s.cc p) = t) : exec i s = .next t := by
  rw [hi, ccExec_ready h, ht]

theorem cc_ccDone {clocks : Nat} {pc : W16} {f : Cc → Cc} : (s.ccDone p clocks pc f).cc p =
    { f (s.cc p) with pc := pc, instret := (s.cc p).instret + 1, cycle := (s.cc p).cycle + w64 clocks } := State.cc_updCc_same ..

theorem cc_ccNext {clocks : Nat} {f : Cc → Cc} : (s.ccNext p clocks f).cc p =
    { f (s.cc p) with pc := (s.cc p).pc + 4, instret := (s.cc p).instret + 1, cycle := (s.cc p).cycle + w64 clocks } := cc_ccDone

/-- An instruction that completes in order in one clock changes its control core and nothing else. -/
theorem ccNext_completes {i : Instr} {f : Cc → Cc} (h : exec i s = .next (s.ccNext p 1 f)) : ∃ t, exec i s = .next t ∧ s.onlyCc t p ∧
    t.cc p = { f (s.cc p) with pc := (s.cc p).pc + 4, instret := (s.cc p).instret + 1, cycle := (s.cc p).cycle + 1 } :=
  ⟨_, h, onlyCc_updCc _, cc_ccNext⟩

end Sys2Proof.Machine
end

section
/-! O1, O2: instructions that write a general register or a predicate. -/

namespace Sys2Proof.Machine

/-- Settles O1: each row is `State.ccWrite` of its result. -/
theorem ccRegisterResults : Obligations.CcRegisterResults := by
  intro s p rd rs1 rs2 ps imm sh imm21 h a b
  have row : ∀ {i : Instr} {body : Cc → State} {v : W64}, exec i s = s.ccExec p body → body (s.cc p) = s.ccWrite p rd v →
      WritesReg i p rd v s := fun hi hv => ccWrite_writes (exec_ready h hi hv)
  exact ⟨row (exec_add ..) rfl, row (exec_sub ..) rfl, row (exec_mul ..) rfl, row (exec_mulhu ..) rfl, row (exec_and ..) rfl,
    row (exec_or ..) rfl, row (exec_xor ..) rfl, row (exec_shl ..) rfl, row (exec_shr ..) rfl, row (exec_sar ..) rfl, row (exec_sel ..) rfl,
    row (exec_addi ..) rfl, row (exec_andi ..) rfl, row (exec_ori ..) rfl, row (exec_xori ..) rfl, row (exec_shli ..) rfl,
    row (exec_shri ..) rfl, row (exec_sari ..) rfl, row (exec_lui ..) rfl⟩

/-! ## Truth values (R139) -/

theorem not_slt_eq (a b : W64) : (!a.slt b) = decide (b.toInt ≤ a.toInt) := by
  simp [BitVec.slt_eq_decide, ← decide_not]

theorem not_ult_eq (a b : W64) : (!a.ult b) = decide (b.toNat ≤ a.toNat) := by
  simp [BitVec.ult_eq_decide, ← decide_not]

theorem condHolds_eq_decide (c : Cond) (a b : W64) : condHolds c a b = match c with
    | .eq => decide (a = b)
    | .ne => decide (a ≠ b)
    | .lt => decide (a.toInt < b.toInt)
    | .ge => decide (b.toInt ≤ a.toInt)
    | .ltu => decide (a.toNat < b.toNat)
    | .geu => decide (b.toNat ≤ a.toNat) := by
  cases c with
  | eq => rfl
  | ne => exact (decide_not (p := a = b)).symm
  | lt => exact BitVec.slt_eq_decide ..
  | ge => exact not_slt_eq a b
  | ltu => exact BitVec.ult_eq_decide ..
  | geu => exact not_ult_eq a b

theorem condIHolds_eq_decide (c : CondI) (a b : W64) : condIHolds c a b = match c with
    | .eq => decide (a = b)
    | .ne => decide (a ≠ b)
    | .lt => decide (a.toInt < b.toInt)
    | .ge => decide (b.toInt ≤ a.toInt) := by
  cases c with
  | eq => exact condHolds_eq_decide .eq a b
  | ne => exact condHolds_eq_decide .ne a b
  | lt => exact condHolds_eq_decide .lt a b
  | ge => exact condHolds_eq_decide .ge a b

/-- Settles O2: each row is `State.ccPred` of its truth value. -/
theorem ccPredicateResults : Obligations.CcPredicateResults := by
  intro s p pd pa pb rs1 rs2 imm h a b k x y
  have hcmp : ∀ c, WritesPred (.cmp p pd rs1 rs2 c) p pd (condHolds c a b) s := fun c => ccPred_writes (exec_ready h (exec_cmp ..) rfl)
  have hcmpi : ∀ c, WritesPred (.cmpi p pd rs1 imm c) p pd (condIHolds c a k) s := fun c => ccPred_writes (exec_ready h (exec_cmpi ..) rfl)
  have hpset : ∀ op, WritesPred (.pset p pd pa pb op) p pd (predOp op x y) s := fun op => ccPred_writes (exec_ready h (exec_pset ..) rfl)
  simp only [condHolds_eq_decide] at hcmp
  simp only [condIHolds_eq_decide] at hcmpi
  have hxor : predOp .xor x y = (x ^^ y) := by cases x <;> cases y <;> rfl
  exact ⟨hcmp .eq, hcmp .ne, hcmp .lt, hcmp .ge, hcmp .ltu, hcmp .geu, hcmpi .eq, hcmpi .ne, hcmpi .lt, hcmpi .ge,
    hpset .and, hpset .or, hxor ▸ hpset .xor, hpset .andNot, hpset .not⟩

end Sys2Proof.Machine
end

section
/-! O7: reads and writes of control registers, ERET and FENCE. -/

namespace Sys2Proof.Machine

variable {s : State} {p : Site} {rd rs1 : BitVec 5} {num : BitVec 12}

/-- CRR of a register that no clock moves gives its value. -/
theorem crr_writes {v : W64} (h : s.ccReady p) (hv : s.crValue p num.toNat = some v) (htime : num.toNat ≠ 0x020) (hcycle : num.toNat ≠ 0x021) :
    WritesReg (.crr p rd num) p rd v s := by
  have ht : num ≠ 0x020 := fun e => htime (by rw [e]; rfl)
  have hc : num ≠ 0x021 := fun e => hcycle (by rw [e]; rfl)
  exact ccWrite_writes (exec_ready h (exec_crr ..) (by simp only [hv, if_neg ht, if_neg hc]))

/-- CRR of TIME gives a time that lies at most four ticks back. -/
theorem crr_time (h : s.ccReady p) : exec (.crr p rd 0x020) s = .next (s.draw.ccWrite p rd (w64 (s.time - Config.freeNat s.free % 5))) :=
  exec_ready h (exec_crr ..) rfl

/-- CRW of a register that can be written. -/
theorem crw_completes {k : Cc} (h : s.ccReady p) (hk : (s.cc p).crWrite num.toNat ((s.cc p).r rs1) = some k) :
    ∃ t, exec (.crw p rs1 num) s = .next t ∧ s.onlyCc t p ∧
      t.cc p = { k with pc := (s.cc p).pc + 4, instret := (s.cc p).instret + 1, cycle := (s.cc p).cycle + 1 } :=
  ccNext_completes (f := fun _ => k) (exec_ready h (exec_crw ..) (by simp only [hk]))

theorem eret_effect (h : s.ccReady p) : ∃ t, exec (.eret p) s = .next t ∧ s.onlyCc t p ∧
    t.cc p = { s.cc p with ex := false, pc := (s.cc p).epc, pends := (t.cc p).pends, instret := (s.cc p).instret + 1,
                           cycle := (s.cc p).cycle + 3 } := by
  refine ⟨_, exec_ready h (exec_eret ..) rfl, (onlyCc_updCc _).trans (onlyCc_updCc _), ?_⟩
  rw [State.cc_updCc_same, State.returnException, State.cc_updCc_same]

/-- Settles O7: CRR by the list of plain registers, CRW by the four that can be written. -/
theorem ccControlRegisters : Obligations.CcControlRegisters := by
  intro s p rd rs1 num h c v
  refine ⟨fun x hx hn => ?_, fun hrd hn => ?_, fun x hx hn => ?_, eret_effect h, ccDone_goes (exec_ready h (exec_fence ..) rfl)⟩
  · have hplain : s.crValue p x.1 = some x.2 ∧ x.1 ≠ 0x020 ∧ x.1 ≠ 0x021 := by
      revert x
      simp [State.crValue, c]
    obtain ⟨hv, htime, hcycle⟩ := hplain
    exact crr_writes h (hn ▸ hv) (hn ▸ htime) (hn ▸ hcycle)
  · subst hn
    refine ⟨_, crr_time h, Config.freeNat s.free % 5, Nat.mod_lt _ (by norm_num), ?_⟩
    rw [State.ccWrite, cc_ccNext]
    exact (Cc.r_setR_same _ rd _).trans (if_neg hrd)
  · refine crw_completes h (hn ▸ ?_)
    revert x
    simp [Cc.crWrite, c, v]

end Sys2Proof.Machine
end

section
/-! O9: waiting for a ticket. -/

namespace Sys2Proof.Machine

variable {s : State} {p : Site}

/-- A counter has reached another one where their difference is no negative number (R148). -/
theorem atOrPast_iff {n : Nat} (a b : BitVec n) : atOrPast a b = true ↔ 0 ≤ (a - b).toInt := by
  rw [atOrPast, BitVec.msb_eq_toInt]
  simp

/-- The done count that a WAIT for an engine looks at. -/
def State.doneCount (s : State) (p : Site) (e : Engine) (ring : BitVec 3) : W64 :=
  match e with
  | .me => s.reg (.site p) 0x18100020
  | .ve => s.reg (.site p) 0x18200020
  | .mv => s.reg (.site p) (0x18502010 + 32 * ring.toNat)

/-- Whether the engine that a WAIT looks at is faulted. -/
def State.waitFaulted (s : State) (p : Site) (e : Engine) (ring : BitVec 3) : Bool :=
  match e with
  | .me => bit (s.reg (.site p) 0x18100000) 7
  | .ve => bit (s.reg (.site p) 0x18200000) 7
  | .mv => bit (s.reg (.site p) (0x18502000 + 32 * ring.toNat)) 1

theorem exec_wait_eq {pd : BitVec 3} {rs1 : BitVec 5} {e : Engine} {ring : BitVec 3} :
    exec (.wait p pd rs1 e ring) s = s.ccExec p fun c => if atOrPast (s.doneCount p e ring) (c.r rs1) then s.ccPred p pd true
      else if s.waitFaulted p e ring then s.ccPred p pd false else s := by
  cases e <;> rfl

/-- Where an asynchronous exception is due no instruction executes (R155). -/
theorem ccExec_due {body : Cc → State} (h : s.ccDue p = true) : s.ccExec p body = .next s := by
  simp [State.ccExec, h]

/-- Settles O9: the branches of WAIT in their order. That a stall, or an exception due, leaves the state for the instruction to be given again
is the model's choice (log entry 11). -/
theorem waitForTickets : Obligations.WaitForTickets := by
  intro s p pd rs1 ring e hruns x reached
  have hdone : x.1 = s.doneCount p e ring := by cases e <;> rfl
  have hfaulted : x.2 = s.waitFaulted p e ring := by cases e <;> rfl
  have hreached : atOrPast (s.doneCount p e ring) ((s.cc p).r rs1) = true ↔ reached := hdone ▸ atOrPast_iff ..
  refine ⟨fun hdue hr => ?_, fun hdue hr hf => ?_, fun hdue hr hf => ?_, fun hdue => ?_⟩
  · exact ccPred_writes (exec_ready ⟨hruns, hdue⟩ exec_wait_eq (if_pos (hreached.2 hr)))
  · refine ccPred_writes (exec_ready ⟨hruns, hdue⟩ exec_wait_eq ?_)
    rw [if_neg (mt hreached.1 hr), if_pos (hfaulted ▸ hf)]
  · refine exec_ready ⟨hruns, hdue⟩ exec_wait_eq ?_
    rw [if_neg (mt hreached.1 hr), ← hfaulted, hf]
    rfl
  · rw [exec_wait_eq, ccExec_due hdue]

end Sys2Proof.Machine
end

section
/-! O12: hints, deadlines and steps. -/

namespace Sys2Proof.Machine

variable {s : State} {p : Site}

/-- Changing a control core leaves its stop as quiet as it was. -/
@[simp] theorem State.quiet_updCc (q : Site) (f : Cc → Cc) : (s.updCc q f).quiet p = s.quiet p := by
  by_cases h : p = q
  · subst h
    simp [State.quiet]
  · simp [State.quiet, State.site_updCc_other _ _ h]

/-- Sending a packet leaves every control core alone. -/
@[simp] theorem State.cc_inject (src : Place) (k : Packet) : (s.inject src k).cc p = s.cc p := by
  rw [State.cc, State.site, (onlyStepFail_inject src k).sites]
  rfl

theorem exec_stepWait_go {rd : BitVec 5} {n : W64} (h : s.ccReady p) (hgo : (s.cc p).stepGo = some n) : exec (.stepWait p rd) s =
    .next (s.ccNext p 1 fun k => { k.setR rd n with stepIndex := n, inStep := true, stepWaiting := false, stepGo := none }) :=
  exec_ready h (exec_stepWait ..) (by simp only [hgo])

theorem exec_stepWait_stall {rd : BitVec 5} (h : s.ccReady p) (hgo : (s.cc p).stepGo = none) : exec (.stepWait p rd) s =
    .next (s.updCc p fun k => { k with stepWaiting := true }) :=
  exec_ready h (exec_stepWait ..) (by simp only [hgo])

/-- A state from which STEP.DONE completes once its report has left (R154). -/
theorem exec_stepDone_eq (h : s.ccReady p) : ∃ k, exec (.stepDone p) s =
    .next ((s.inject (.stop p) k).ccNext p 1 fun c => { c with stepDeadline := 0, stepFired := false, inStep := false }) :=
  ⟨_, exec_ready h (exec_stepDone ..) rfl⟩

/-- Settles O12: each row changes its control core by its own fields; STEP.DONE sends first. -/
theorem hintsDeadlinesAndSteps : Obligations.HintsDeadlinesAndSteps := by
  intro s p rd rs1 fret h c done
  refine ⟨ccNext_completes (exec_ready h (exec_fretHint ..) rfl), ccNext_completes (exec_ready h (exec_fretHint ..) rfl),
    ccNext_completes (exec_ready h (exec_dlSetSendBudget ..) rfl), ccNext_completes (exec_ready h (exec_dlSetStepDeadline ..) rfl),
    fun n hgo => ?_, fun hgo => ⟨_, exec_stepWait_stall h hgo, onlyCc_updCc _, State.cc_updCc_same ..⟩, ?_⟩
  · refine ⟨_, exec_stepWait_go h hgo, onlyCc_updCc _, ?_, ?_⟩
    · rw [cc_ccNext]
      exact Cc.r_setR_same _ rd n
    · rw [cc_ccNext]
      exact ⟨rfl, rfl, rfl, rfl, rfl⟩
  · obtain ⟨k, hk⟩ := exec_stepDone_eq h
    refine ⟨_, hk, ?_, ?_, ?_, fun hq => State.inject_sends hq k⟩ <;> rw [cc_ccNext]
    rw [State.cc_inject]

end Sys2Proof.Machine
end

section
/-! O14: a local access violation. -/

namespace Sys2Proof.Machine

variable {s : State} {p : Site}

/-- A counter below its last value takes one more, with COUNTER_SATURATED on the last. -/
theorem State.rf_count32_below {u : RegUnit} {off : Nat} (hu : u ≠ .bar0) (h : s.rf u off 0 32 < 0xFFFFFFFF) :
    (s.count32 u off).rf u off 0 32 = s.rf u off 0 32 + 1 := by
  have hset : (s.setRf u off 0 32 (s.rf u off 0 32 + 1)).rf u off 0 32 = s.rf u off 0 32 + 1 := by
    rw [State.rf_setRf_same _ _ (by norm_num)]
    omega
  unfold State.count32
  dsimp only
  rw [if_pos h]
  split
  · rw [(onlyEvents_saturated u off).rf 0 32 hu (by simp), hset]
  · exact hset

/-- The first violation fills the FREEZE registers, which VIOL_COUNT is none of. -/
theorem State.rf_recordViolation_count (master detector target unit code detId addr : Nat) :
    (s.recordViolation p master detector target unit code detId addr).rf (.site p) 0x18000028 0 32 =
      (s.count32 (.site p) 0x18000028).rf (.site p) 0x18000028 0 32 := by
  unfold State.recordViolation
  dsimp only
  split
  · rw [State.rf_setReg_off (by norm_num), State.rf_setReg_off (by norm_num), State.rf_setReg_off (by norm_num)]
  · rfl

/-- A violation as the core's own unit records it (R156, R519): EPC, ECAUSE and EINFO, and the record. -/
def State.violationNoted (s : State) (p : Site) (addr : W64) : State :=
  let s := s.updCc p fun c => { c with epc := c.pc, ecause := 0x04, einfo := addr }
  s.recordViolation p 1 0 (s.lcidOf p) 0 0x9001 p.val addr.toNat

theorem onlyEvents_violationNoted (addr : W64) :
    (s.updCc p fun c => { c with epc := c.pc, ecause := 0x04, einfo := addr }).onlyEvents (s.violationNoted p addr) (violRegs p) :=
  onlyEvents_recordViolation ..

/-- A register outside the record of a violation keeps its value. -/
theorem State.coreState_violationNoted (addr : W64) : (s.violationNoted p addr).coreState p = s.coreState p := by
  refine (onlyEvents_violationNoted addr).rf 0 4 (by simp) fun k hk => ?_
  simp only [violRegs, List.mem_cons, List.not_mem_nil, or_false] at hk
  rcases hk with rfl | rfl | rfl | rfl <;> exact regKey_ne (by norm_num)

/-- After the record of a violation come its event, the freeze, and the failure of the partition's step (R156, R335, R518). -/
theorem accessViolation_steps (addr : W64) (word : W32) (h : s.coreRuns p = true) : ∃ u, (s.violationNoted p addr).onlyEvents u [] ∧
    (u.setCoreState p 3).onlyStepFail (s.accessViolation p addr word) := by
  let s₂ := s.violationNoted p addr
  let s₃ := s₂.coreEvent p 0x9001 [1, addr.toNat, word.toNat]
  have hev : s₂.onlyEvents s₃ [] := onlyEvents_event ..
  have hstate : s₃.coreState p = s.coreState p := (hev.rf 0 4 (by simp) (by simp)).trans (State.coreState_violationNoted addr)
  have hruns : s₃.coreRuns p = true := by rwa [State.coreRuns, hstate]
  have hfreeze : s.accessViolation p addr word = (s₃.setCoreState p 3).failCoreStep p 0x9001 := by
    show s₃.freezeCore p 0x9001 = _
    rw [State.freezeCore, if_pos hruns]
  exact ⟨s₃, hev, hfreeze ▸ onlyStepFail_failCoreStep ..⟩

/-- The control core of a freeze keeps all but EPC, ECAUSE and EINFO. -/
theorem accessViolation_cc (addr : W64) (word : W32) (h : s.coreRuns p = true) : (s.accessViolation p addr word).cc p =
    { s.cc p with epc := (s.cc p).pc, ecause := 0x04, einfo := addr } := by
  obtain ⟨u, hev, hfail⟩ := accessViolation_steps addr word h
  have hsites : (s.accessViolation p addr word).sites = (s.violationNoted p addr).sites := hfail.sites.trans hev.sites
  rw [State.cc, State.site, hsites, (onlyEvents_violationNoted addr).sites]
  exact State.cc_updCc_same ..

/-- A violation below saturation is counted once. -/
theorem accessViolation_count (addr : W64) (word : W32) (h : s.coreRuns p = true) (hroom : s.rf (.site p) 0x18000028 0 32 < 0xFFFFFFFF) :
    (s.accessViolation p addr word).rf (.site p) 0x18000028 0 32 = s.rf (.site p) 0x18000028 0 32 + 1 := by
  obtain ⟨u, hev, hfail⟩ := accessViolation_steps addr word h
  calc (s.accessViolation p addr word).rf (.site p) 0x18000028 0 32
      = (u.setCoreState p 3).rf (.site p) 0x18000028 0 32 := State.rf_of_reg (hfail.2 _ _ (by simp) (by norm_num)) ..
    _ = u.rf (.site p) 0x18000028 0 32 := State.rf_setRf_off (by norm_num)
    _ = (s.violationNoted p addr).rf (.site p) 0x18000028 0 32 := hev.rf 0 32 (by simp) (by simp)
    _ = _ := (State.rf_recordViolation_count ..).trans (State.rf_count32_below (by simp) hroom)

/-- Settles O14: each access form goes to `State.accessViolation` at once. -/
theorem localViolationFreezesTheCore : Obligations.LocalViolationFreezesTheCore := by
  intro s p rd rs1 rs2 imm i h hi ea hea hroom
  have hload : ∀ size signed word, s.ccLoad p size signed rd ea word = s.accessViolation p ea word := fun _ _ _ => if_pos hea
  have hstore : ∀ size word, s.ccStore p size ((s.cc p).r rs2) ea word = s.accessViolation p ea word := fun _ _ => if_pos hea
  obtain ⟨word, hexec⟩ : ∃ word, exec i s = .next (s.accessViolation p ea word) := by
    simp only [List.mem_cons, List.not_mem_nil, or_false] at hi
    rcases hi with rfl | rfl | rfl | rfl
    · exact ⟨_, exec_ready h (exec_ld8u ..) (hload ..)⟩
    · exact ⟨_, exec_ready h (exec_ld64 ..) (hload ..)⟩
    · exact ⟨_, exec_ready h (exec_st8 ..) (hstore ..)⟩
    · exact ⟨_, exec_ready h (exec_st64 ..) (hstore ..)⟩
  obtain ⟨hstate, -, -, hscratch⟩ := accessViolation_freezes p ea word h.1
  have hcc := accessViolation_cc ea word h.1
  refine ⟨_, hexec, hstate, ?_, ?_, ?_, ?_, ?_, ?_, accessViolation_count ea word h.1 hroom, hscratch⟩ <;> rw [hcc]

end Sys2Proof.Machine
end

section
/-! SUPPORT. Clean reads of scratchpad through the narrow view (R141, R142, R162, R199). -/

namespace Sys2Proof.Machine

variable {s : State} {p : Site}

/-- A span with a powered byte lies inside scratchpad. -/
theorem State.spanOn_le {off len : Nat} (h : s.spanOn p off len = true) : off + len ≤ 0x18000000 := by
  simp only [State.spanOn, Bool.and_eq_true, decide_eq_true_eq] at h
  exact h.1

/-- A read that neither corrects nor fails leaves nothing behind. -/
theorem State.noteRead_clean {off client : Nat} {words : List Nat} {r : GranRead} (h : r.outcomes words = (0, 0)) :
    s.noteRead p off client words r = s := by
  simp [State.noteRead, h]

/-- A value of n bytes, zero-extended, is the zero extension of its low bits. -/
theorem extendLoad_zero (n v : Nat) : extendLoad n false v = (BitVec.ofNat (8 * n) v).zeroExtend 64 := by
  apply BitVec.eq_of_toNat_eq
  simp only [extendLoad, Bool.false_and, Bool.false_eq_true, if_false, w64, BitVec.toNat_ofNat, BitVec.toNat_setWidth]

/-- A value of n bytes, sign-extended, is the sign extension of its low bits. -/
theorem extendLoad_sign (n v : Nat) (hn : 8 * n ≤ 64) : extendLoad n true v = (BitVec.ofNat (8 * n) v).signExtend 64 := by
  have hlt : v % 2 ^ (8 * n) < 2 ^ (8 * n) := Nat.mod_lt _ (by positivity)
  have hle : 2 ^ (8 * n) ≤ 2 ^ 64 := Nat.pow_le_pow_right (by norm_num) hn
  apply BitVec.eq_of_toNat_eq
  rw [BitVec.toNat_signExtend, BitVec.msb_eq_decide, BitVec.toNat_setWidth, BitVec.toNat_ofNat, extendLoad, Bool.true_and]
  by_cases h : 2 ^ (8 * n - 1) ≤ v % 2 ^ (8 * n)
  · rw [if_pos (decide_eq_true h), if_pos (decide_eq_true h), w64, BitVec.toNat_ofNat, Nat.mod_eq_of_lt (b := 2 ^ 64) (by omega),
      Nat.mod_eq_of_lt (b := 2 ^ 64) (by omega)]
    omega
  · rw [if_neg (by simpa using h), if_neg (by simpa using h), w64, BitVec.toNat_ofNat]
    rfl

end Sys2Proof.Machine
end

section
/-! O5: loads. -/

namespace Sys2Proof.Machine

variable {s : State} {p : Site} {rd : BitVec 5}

/-- A load from powered, aligned scratchpad that reads clean and is not being written gives the bytes from its address (R142, R145). -/
theorem ccLoad_clean {size : Nat} {addr : W64} (signed : Bool) (word : W32) (hon : s.spanOn p addr.toNat size = true) (hpos : 0 < size)
    (halign : addr.toNat % size = 0) (hclean : (s.granAt p addr.toNat).outcomes [addr.toNat % 64 / 16] = (0, 0))
    (hpoison : bit (s.granAt p addr.toNat).poison (addr.toNat % 64 / 16) = false) (hcold : spanHas (s.hotSpans p) addr.toNat = false) :
    s.ccLoad p size signed rd addr word =
      s.ccWrite p rd (extendLoad size signed ((s.granAt p addr.toNat).data.toNat / 2 ^ (8 * (addr.toNat % 64)))) := by
  have hle := State.spanOn_le hon
  unfold State.ccLoad
  dsimp only
  rw [if_neg (by omega), if_pos (by omega), hon, if_neg (by simp), if_neg (by omega)]
  unfold State.ccLoadSp
  dsimp only
  rw [State.noteRead_clean hclean, hpoison, hcold]
  rfl

/-! ## A register of the own window -/

theorem regFields_meDone (p : Site) : regFields (.site p) 0x18100020 = [⟨0, 64, .ro⟩] := by
  rw [show regFields (.site p) 0x18100020 = regFields (.site 0) 0x18100020 from rfl]
  decide

/-- A register of one field reads as it stands. -/
theorem readFields_whole (v : W64) : readFields [⟨0, 64, .ro⟩] v = v := by
  apply BitVec.eq_of_toNat_eq
  simpa [readFields, toNat_setFld, fld] using v.isLt

theorem regRead_meDone : s.regRead (.site p) 0x18100020 = s.reg (.site p) 0x18100020 := by
  rw [State.regRead, regFields_meDone, readFields_whole]
  rfl

theorem ccLoad_meDone (word : W32) {addr : W64} (h : addr.toNat = 0x18100020) :
    s.ccLoad p 8 false rd addr word = s.ccWrite p rd (s.reg (.site p) 0x18100020) := by
  have hclear : s.regClear (.site p) 0x18100020 = s := regClear_none (by rw [regFields_meDone]; rfl)
  have hreg : s.ccLoadReg p rd 0x18100020 = s.ccWrite p rd (s.reg (.site p) 0x18100020) := by
    rw [State.ccLoadReg, if_neg (by simp [inTable]), regRead_meDone, hclear]
  unfold State.ccLoad
  dsimp only
  rw [h, if_neg (by norm_num), if_neg (by norm_num), if_neg (by simp), hreg]

/-- Settles O5: each clean load is one of `ccLoad_clean`, and the register `ccLoad_meDone`. -/
theorem ccLoadResults : Obligations.CcLoadResults := by
  intro s p rd rs1 imm h ea g v clean
  have hload : ∀ {i : Instr} {size : Nat} {signed : Bool} {word : W32}, 0 < size → s.spanOn p ea size = true → ea % size = 0 → clean →
      exec i s = s.ccExec p (fun c => s.ccLoad p size signed rd (c.ea rs1 imm) word) → WritesReg i p rd (extendLoad size signed v) s :=
    fun hpos hon halign hc hi => ccWrite_writes (exec_ready h hi (ccLoad_clean _ _ hon hpos halign hc.1 hc.2.1 hc.2.2))
  refine ⟨fun hon hc => ⟨?_, ?_⟩, fun hon ha hc => ⟨?_, ?_⟩, fun hon ha hc => ⟨?_, ?_⟩, fun hon ha hc => ?_, fun hea => ?_⟩
  · exact extendLoad_zero 1 v ▸ hload (by norm_num) hon (Nat.mod_one _) hc (exec_ld8u ..)
  · exact extendLoad_sign 1 v (by norm_num) ▸ hload (by norm_num) hon (Nat.mod_one _) hc (exec_ld8s ..)
  · exact extendLoad_zero 2 v ▸ hload (by norm_num) hon ha hc (exec_ld16u ..)
  · exact extendLoad_sign 2 v (by norm_num) ▸ hload (by norm_num) hon ha hc (exec_ld16s ..)
  · exact extendLoad_zero 4 v ▸ hload (by norm_num) hon ha hc (exec_ld32u ..)
  · exact extendLoad_sign 4 v (by norm_num) ▸ hload (by norm_num) hon ha hc (exec_ld32s ..)
  · have hwhole : extendLoad 8 false v = BitVec.ofNat 64 v := extendLoad_zero 8 v
    exact hwhole ▸ hload (by norm_num) hon ha hc (exec_ld64 ..)
  · exact ccWrite_writes (exec_ready h (exec_ld64 ..) (ccLoad_meDone _ hea))

end Sys2Proof.Machine
end

section
/-! SUPPORT. Code units that read clean: the granule that a read decodes agrees with the stored one there (R195-R199). -/

namespace Sys2Proof.Machine

theorem Outcome3.clean_of_orFixed {o : Outcome3} {fixed : Bool} (h : o.orFixed fixed = .clean) : o = .clean := by
  cases o
  · rfl
  · exact h
  · exact h

/-- A read of one word that neither corrects nor fails found its code unit clean: the granule in class S, the word in class L. -/
theorem GranRead.clean_of_outcomes {r : GranRead} {w : Nat} (h : r.outcomes [w] = (0, 0)) :
    (if r.classS then r.w0 else r.word w) = .clean := by
  unfold GranRead.outcomes at h
  split at h
  next hS =>
    rw [if_pos hS]
    cases hw : r.w0 <;> simp [hw, b01] at h ⊢
  next hL =>
    rw [if_neg hL]
    cases hw : r.word w <;> simp [hw] at h ⊢

/-! ## Class L -/

theorem colIndex_lt : ∀ {l : List Nat} {x i : Nat}, colIndex l x = some i → i < l.length
  | [], _, _, h => by simp [colIndex] at h
  | c :: t, x, i, h => by
    rw [colIndex] at h
    split at h
    · obtain rfl := Option.some.inj h
      simp
    · obtain ⟨j, hj, rfl⟩ := Option.map_eq_some_iff.1 h
      exact Nat.succ_lt_succ (colIndex_lt hj)

theorem secdedDecode_clean {cols : List Nat} {n d c : Nat} (h : (secdedDecode cols n d c).2 = .clean) : (secdedDecode cols n d c).1 = d := by
  unfold secdedDecode at h ⊢
  dsimp only at h ⊢
  split_ifs at h ⊢
  · rfl
  · split at h <;> cases h

/-- A class-L word decodes to a word. -/
theorem secdedDecode_lt {n d c : Nat} (hd : d < 2 ^ 128) : (secdedDecode secdedCols n d c).1 < 2 ^ 128 := by
  unfold secdedDecode
  dsimp only
  split_ifs
  · exact hd
  · exact hd
  · split
    next i hi =>
      have hlen : i < 128 := lt_of_lt_of_le (colIndex_lt hi) (by rw [secdedCols]; exact List.length_take_le ..)
      exact Nat.xor_lt_two_pow hd (Nat.pow_lt_pow_right (by norm_num) hlen)
    next => exact hd

theorem testBit_word (d w i : Nat) (h₁ : 128 * w ≤ i) (h₂ : i < 128 * w + 128) :
    (d / 2 ^ (128 * w) % 2 ^ 128).testBit (i - 128 * w) = d.testBit i := by
  rw [Nat.testBit_mod_two_pow, Nat.testBit_div_two_pow, Nat.sub_add_cancel h₁]
  simp
  omega

/-- The bits of a number of 128-bit words: those of the lowest, then those of the rest. -/
theorem testBit_low_word {a : Nat} (x i : Nat) (ha : a < 2 ^ 128) :
    (a + 2 ^ 128 * x).testBit i = if i < 128 then a.testBit i else x.testBit (i - 128) := by
  rw [Nat.add_comm, Nat.testBit_two_pow_mul_add _ ha]

theorem testBit_ofNat {n i : Nat} (x : Nat) (hi : i < n) : (BitVec.ofNat n x).toNat.testBit i = x.testBit i := by
  rw [BitVec.testBit_toNat, BitVec.getLsbD_ofNat, decide_eq_true hi, Bool.true_and]

/-- A word of a class-L granule as it decodes: its number and its outcome, majority corrections aside. -/
def wordRead (data : W512) (check : W64) (w : Nat) : Nat × Outcome3 :=
  secdedDecode secdedCols 9 (data.toNat / 2 ^ (128 * w) % 2 ^ 128) (check.toNat / 2 ^ (9 * w) % 512)

theorem wordRead_lt (data : W512) (check : W64) (w : Nat) : (wordRead data check w).1 < 2 ^ 128 :=
  secdedDecode_lt (Nat.mod_lt _ (by norm_num))

theorem decodeGranule_L {data : W512} {check : W64} (h : (majority check.toNat 61).1 = false) :
    (decodeGranule data check).classS = false ∧
      (decodeGranule data check).data = BitVec.ofNat 512 ((wordRead data check 0).1 + 2 ^ 128 * ((wordRead data check 1).1 +
        2 ^ 128 * ((wordRead data check 2).1 + 2 ^ 128 * (wordRead data check 3).1))) ∧
      ∀ w < 4, ∃ fixed, (decodeGranule data check).word w = (wordRead data check w).2.orFixed fixed := by
  unfold decodeGranule
  dsimp only
  rw [h]
  refine ⟨rfl, rfl, fun w hw => ?_⟩
  interval_cases w <;> exact ⟨_, rfl⟩

/-- A class-L granule delivers a word whose unit is clean as it is stored. -/
theorem testBit_decode_L {data : W512} {check : W64} {w i : Nat} (h : (majority check.toNat 61).1 = false) (hw : w < 4)
    (hclean : (decodeGranule data check).word w = .clean) (h₁ : 128 * w ≤ i) (h₂ : i < 128 * w + 128) :
    (decodeGranule data check).data.toNat.testBit i = data.toNat.testBit i := by
  have hi : i < 512 := by omega
  obtain ⟨-, hdata, hwords⟩ := decodeGranule_L (data := data) h
  obtain ⟨fixed, hfixed⟩ := hwords w hw
  have hread : (wordRead data check w).1 = data.toNat / 2 ^ (128 * w) % 2 ^ 128 :=
    secdedDecode_clean (Outcome3.clean_of_orFixed (hfixed.symm.trans hclean))
  rw [← testBit_word data.toNat w i h₁ h₂, ← hread, hdata, testBit_ofNat _ hi, testBit_low_word _ _ (wordRead_lt ..),
    testBit_low_word _ _ (wordRead_lt ..), testBit_low_word _ _ (wordRead_lt ..)]
  interval_cases w
  · rw [if_pos (by omega)]
    rfl
  · rw [if_neg (by omega), if_pos (by omega)]
  · rw [if_neg (by omega), if_neg (by omega), if_pos (by omega), Nat.sub_sub]
  · rw [if_neg (by omega), if_neg (by omega), if_neg (by omega), Nat.sub_sub, Nat.sub_sub]

/-! ## Class S -/

/-- A class-S granule whose unit is clean is delivered as it is stored. -/
theorem decodeGranule_S {data : W512} {check : W64} (h : (majority check.toNat 61).1 = true) :
    (decodeGranule data check).classS = true ∧ ((decodeGranule data check).w0 = .clean → (decodeGranule data check).data = data) := by
  unfold decodeGranule
  dsimp only
  rw [if_pos h]
  split
  next l _ =>
    refine ⟨rfl, fun hclean => ?_⟩
    have ho := Outcome3.clean_of_orFixed hclean
    split at ho
    next hl =>
      simp only [Bool.and_eq_true, decide_eq_true_eq] at hl
      rw [hl.1]
      simp [orBits]
    next => cases ho
  next => exact ⟨rfl, fun h => by cases h⟩

/-- Where the code unit of a word reads clean, a read delivers the stored bits: of the granule in class S, of the word in class L. -/
theorem decodeGranule_testBit {data : W512} {check : W64} {w i : Nat} (hw : w < 4) (hclean : (decodeGranule data check).outcomes [w] = (0, 0))
    (hunit : (decodeGranule data check).classS = true ∨ 128 * w ≤ i ∧ i < 128 * w + 128) :
    (decodeGranule data check).data.toNat.testBit i = data.toNat.testBit i := by
  have hread := GranRead.clean_of_outcomes hclean
  by_cases htag : (majority check.toNat 61).1 = true
  · obtain ⟨hS, hdata⟩ := decodeGranule_S (data := data) htag
    rw [hdata (by rwa [if_pos hS] at hread)]
  · have htag' : (majority check.toNat 61).1 = false := by simpa using htag
    have hL := (decodeGranule_L (data := data) htag').1
    rw [hL] at hread hunit
    obtain ⟨h₁, h₂⟩ := hunit.resolve_left (by simp)
    exact testBit_decode_L htag' hw hread h₁ h₂

end Sys2Proof.Machine
end

section
/-! SUPPORT. Narrow stores (R166, R170): the bits that a store changes, and the cells that hold them. -/

namespace Sys2Proof.Machine

variable {s : State} {p : Site}

/-! ## Bits -/

/-- A value put into a number over a field leaves the other bits alone. -/
theorem testBit_merge (d v : Nat) {sh n m i : Nat} (hi : i < m) (hn : sh + n ≤ m) :
    ((d &&& (2 ^ m - 1 - (2 ^ n - 1) * 2 ^ sh)) ||| (v % 2 ^ n * 2 ^ sh)).testBit i =
      if sh ≤ i ∧ i < sh + n then v.testBit (i - sh) else d.testBit i := by
  have hmask : (2 ^ n - 1) * 2 ^ sh < 2 ^ m := by
    calc (2 ^ n - 1) * 2 ^ sh < 2 ^ n * 2 ^ sh := Nat.mul_lt_mul_of_pos_right (Nat.sub_lt (by positivity) (by norm_num)) (by positivity)
      _ = 2 ^ (sh + n) := by rw [← pow_add, Nat.add_comm]
      _ ≤ 2 ^ m := Nat.pow_le_pow_right (by norm_num) hn
  rw [Nat.sub_sub, Nat.add_comm 1, Nat.testBit_or, Nat.testBit_and, Nat.testBit_two_pow_sub_succ hmask, Nat.testBit_mul_two_pow,
    Nat.testBit_mul_two_pow, Nat.testBit_two_pow_sub_one, Nat.testBit_mod_two_pow, decide_eq_true hi]
  by_cases h₁ : sh ≤ i
  · by_cases h₂ : i < sh + n
    · have h₃ : i - sh < n := by omega
      simp [h₁, h₂, h₃]
    · have h₃ : ¬ i - sh < n := by omega
      simp [h₁, h₂, h₃]
  · simp [h₁]

/-- The granule that a narrow store of n bytes at byte `b` leaves: the low bytes of the value there, and all else as stored. -/
def narrowed (old stored : W512) (b n v : Nat) : Prop :=
  ∀ i < 512, stored.toNat.testBit i = if 8 * b ≤ i ∧ i < 8 * b + 8 * n then v.testBit (i - 8 * b) else old.toNat.testBit i

theorem byte_congr {x y j k : Nat} (h : ∀ i < 8, x.testBit (8 * j + i) = y.testBit (8 * k + i)) :
    BitVec.ofNat 8 (x / 2 ^ (8 * j)) = BitVec.ofNat 8 (y / 2 ^ (8 * k)) := by
  apply BitVec.eq_of_getLsbD_eq
  intro i hi
  simp only [BitVec.getLsbD_ofNat, Nat.testBit_div_two_pow, Nat.add_comm i, h i hi]

/-- The bytes of a granule after a narrow store. -/
theorem narrowed.byte {old stored : W512} {b n v k : Nat} (h : narrowed old stored b n v) (hk : k < 64) :
    BitVec.ofNat 8 (stored.toNat / 2 ^ (8 * k)) =
      if b ≤ k ∧ k < b + n then BitVec.ofNat 8 (v / 2 ^ (8 * (k - b))) else BitVec.ofNat 8 (old.toNat / 2 ^ (8 * k)) := by
  split
  next hin =>
    refine byte_congr fun i hi => ?_
    rw [h _ (by omega), if_pos (by omega)]
    congr 1
    omega
  next hout =>
    refine byte_congr fun i hi => ?_
    rw [h _ (by omega), if_neg (by omega)]

/-- A store within a word of a granule whose code unit reads clean writes the granule back with the value in it (R166). -/
theorem writeNarrow_clean {off size : Nat} (v : Nat) (hfit : off % 16 + size ≤ 16) (hsize : size < 16)
    (hclean : (s.granAt p off).outcomes [off % 64 / 16] = (0, 0)) : ∃ stored check, narrowed (s.rawGran p off).1 stored (off % 64) size v ∧
      s.writeNarrow p off size v = (s.putRaw p off stored check).dropWriteBack p off := by
  have hw : off % 64 / 16 < 4 := by omega
  have hunit : ∀ i, 8 * (off % 64) ≤ i → i < 8 * (off % 64) + 8 * size → 128 * (off % 64 / 16) ≤ i ∧ i < 128 * (off % 64 / 16) + 128 := by omega
  unfold State.granAt at hclean
  unfold State.writeNarrow
  extract_lets raw r sh mask w data whole s₁ word stored check s₂
  have hnote : s₁ = s := by
    simp only [s₁]
    split
    · rfl
    · exact State.noteRead_clean hclean
  have hkept : ∀ i, r.classS = true ∨ 128 * w ≤ i ∧ i < 128 * w + 128 → r.data.toNat.testBit i = raw.1.toNat.testBit i :=
    fun i => decodeGranule_testBit hw hclean
  have hdata : ∀ i < 512, data.testBit i = if sh ≤ i ∧ i < sh + 8 * size then v.testBit (i - sh) else r.data.toNat.testBit i :=
    fun i hi => testBit_merge _ _ hi (by simp only [sh]; omega)
  by_cases hS : r.classS = true
  · refine ⟨BitVec.ofNat 512 data, checkS (BitVec.ofNat 512 data) (r.poison != 0), fun i hi => ?_, by simp only [s₂, if_pos hS, hnote]⟩
    rw [testBit_ofNat _ hi, hdata i hi, hkept i (.inl hS)]
  · refine ⟨stored, check, fun i hi => ?_, by simp only [s₂, if_neg hS, hnote]⟩
    have hstored : stored.toNat.testBit i =
        if 128 * w ≤ i ∧ i < 128 * w + 128 then word.testBit (i - 128 * w) else raw.1.toNat.testBit i := by
      rw [BitVec.testBit_toNat, BitVec.testBit_toNat]
      exact bit_setFld _ _ _ (by omega)
    rw [hstored]
    split
    next hin => rw [testBit_word _ _ _ hin.1 hin.2, hdata i hi, hkept i (.inr hin)]
    next hout => rw [if_neg fun h => hout (hunit i h.1 h.2)]

/-! ## Cells -/

theorem offGran_lt (off : Nat) : offGran off < 8 := Nat.mod_lt _ (by norm_num)

/-- The bytes of a raw row stand at consecutive keys. -/
theorem State.cellOf_add (off b c : Nat) : s.cellOf p off (b + c) = s.cellOf p off b + c := (Nat.add_assoc ..).symm

/-- A data cell of a granule holds its byte as stored. -/
theorem read_rawGran {off k : Nat} (hk : k < 64) :
    s.scratch.read (s.cellOf p off (64 * offGran off) + k) = BitVec.ofNat 8 ((s.rawGran p off).1.toNat / 2 ^ (8 * k)) := by
  let l := s.scratch.readBytes (s.cellOf p off (64 * offGran off)) 64
  have hlen : l.length = 64 := Memory.length_readBytes ..
  have hbytes : toBytes 64 (ofBytes l) = l := hlen ▸ toBytes_ofBytes l
  have hgran : BitVec.ofNat 8 ((s.rawGran p off).1.toNat / 2 ^ (8 * k)) = BitVec.ofNat 8 (ofBytes l / 2 ^ (8 * k)) :=
    byte_congr fun i hi => testBit_ofNat _ (by omega)
  rw [hgran, ← getD_toBytes 64 _ k hk, hbytes, List.getD_eq_getElem _ _ (by omega), Memory.getElem_readBytes]

/-- What the cells hold once a granule and its check field are written. -/
theorem read_putRaw_data {off k : Nat} (d : W512) (c : W64) (hk : k < 64) :
    (s.putRaw p off d c).scratch.read (s.cellOf p off (64 * offGran off) + k) = BitVec.ofNat 8 (d.toNat / 2 ^ (8 * k)) := by
  have hg := offGran_lt off
  have hcheck : s.cellOf p off (512 + 8 * offGran off) = s.cellOf p off (64 * offGran off) + (512 + 8 * offGran off - 64 * offGran off) := by
    rw [← State.cellOf_add]
    congr 1
    omega
  unfold State.putRaw
  dsimp only
  rw [Memory.read_writeBytes_other _ _ _ (by omega), Memory.read_writeBytes_in _ _ _ _ (by simpa [granBytes] using hk), granBytes,
    getD_toBytes 64 _ k hk]

theorem read_putRaw_other {off a : Nat} (d : W512) (c : W64)
    (hdata : a < s.cellOf p off (64 * offGran off) ∨ s.cellOf p off (64 * offGran off) + 64 ≤ a)
    (hcheck : a < s.cellOf p off (512 + 8 * offGran off) ∨ s.cellOf p off (512 + 8 * offGran off) + 8 ≤ a) :
    (s.putRaw p off d c).scratch.read a = s.scratch.read a := by
  unfold State.putRaw
  dsimp only
  rw [Memory.read_writeBytes_other _ _ _ (by simpa using hcheck), Memory.read_writeBytes_other _ _ _ (by simpa [granBytes] using hdata)]

/-- The cells after a granule has been written back with a value in it: the value's bytes, and all but the check bytes as they were. -/
theorem narrowed.cells {off size v : Nat} {stored : W512} (h : narrowed (s.rawGran p off).1 stored (off % 64) size v) (check : W64)
    (hfit : off % 64 + size ≤ 64) :
    let t := s.putRaw p off stored check
    let cell := s.cellOf p off (64 * offGran off) + off % 64
    let mark := s.cellOf p off (512 + 8 * offGran off)
    (∀ j, j < size → t.scratch.read (cell + j) = BitVec.ofNat 8 (v / 2 ^ (8 * j))) ∧
      ∀ a, (a < cell ∨ cell + size ≤ a) → (a < mark ∨ mark + 8 ≤ a) → t.scratch.read a = s.scratch.read a := by
  intro t cell mark
  refine ⟨fun j hj => ?_, fun a hcell hmark => ?_⟩
  · rw [show cell + j = s.cellOf p off (64 * offGran off) + (off % 64 + j) from Nat.add_assoc .., read_putRaw_data _ _ (by omega),
      h.byte (by omega), if_pos (by omega), Nat.add_sub_cancel_left]
  · by_cases hin : s.cellOf p off (64 * offGran off) ≤ a ∧ a < s.cellOf p off (64 * offGran off) + 64
    · obtain ⟨k, rfl⟩ := Nat.exists_eq_add_of_le hin.1
      rw [read_putRaw_data _ _ (by omega), h.byte (by omega), if_neg (by omega), read_rawGran (by omega)]
    · exact read_putRaw_other _ _ (by omega) hmark

end Sys2Proof.Machine
end

section
/-! O6: stores. -/

namespace Sys2Proof.Machine

variable {s : State} {p : Site}

/-- A store to powered, aligned scratchpad outside every region writes its bytes and completes. -/
theorem ccStore_plain {size : Nat} {addr : W64} (v : W64) (word : W32) (hon : s.spanOn p addr.toNat size = true) (hpos : 0 < size)
    (halign : addr.toNat % size = 0) (hregion : s.regionOf p addr.toNat = none) :
    s.ccStore p size v addr word = (s.writeNarrow p addr.toNat size v.toNat).ccNext p 1 id := by
  have hle := State.spanOn_le hon
  unfold State.ccStore
  dsimp only
  rw [if_neg (by omega), if_pos (by omega), hon, if_neg (by simp), hregion]
  dsimp only
  rw [if_neg (by simp), if_neg (by omega)]

/-- A write leaves every other site alone. -/
theorem State.site_dropWriteBack_other {q : Site} (off : Nat) (h : q ≠ p) : (s.dropWriteBack p off).site q = s.site q := by
  unfold State.dropWriteBack
  split
  · exact State.site_updSite_other _ _ h
  · rfl

/-- What a store of a granule's value and its completion leave as they were: all but scratchpad, the queue of write-backs and the control core. -/
theorem storeDone_frame (off : Nat) (d : W512) (c : W64) :
    let t := ((s.putRaw p off d c).dropWriteBack p off).ccNext p 1 id
    t.scratch = (s.putRaw p off d c).scratch ∧ (s.cc p).retired (t.cc p) 1 ((s.cc p).pc + 4) ∧ (t.cc p).g = (s.cc p).g ∧
      (t.cc p).preds = (s.cc p).preds ∧ t.regs = s.regs ∧ (∀ q, q ≠ p → t.site q = s.site q) ∧ t.host = s.host ∧ t.spill = s.spill ∧
      t.net = s.net := by
  have hframe := State.dropWriteBack_frame (s := s.putRaw p off d c) p off
  have hcc : ((s.putRaw p off d c).dropWriteBack p off).cc p = s.cc p := State.cc_dropWriteBack ..
  have hdone := cc_ccNext (s := (s.putRaw p off d c).dropWriteBack p off) (p := p) (clocks := 1) (f := id)
  rw [hcc] at hdone
  refine ⟨(congrArg State.scratch hframe :), ?_, ?_, ?_, (congrArg State.regs hframe :), fun q hq => ?_, (congrArg State.host hframe :),
    (congrArg State.spill hframe :), (congrArg State.net hframe :)⟩
  · rw [hdone]
    rfl
  · rw [hdone]
    rfl
  · rw [hdone]
    rfl
  · exact (State.site_updCc_other _ _ hq).trans (State.site_dropWriteBack_other off hq)

/-- Settles O6: a store is `State.writeNarrow`, which here puts the granule back with the value's bytes in it. -/
theorem ccStoreEffects : Obligations.CcStoreEffects := by
  intro s p rs2 rs1 imm size i h hi ea g cell check hon halign hregion hclean
  obtain ⟨hsize, word, hexec⟩ : (size = 1 ∨ size = 2 ∨ size = 4 ∨ size = 8) ∧
      ∃ word, exec i s = s.ccExec p fun c => s.ccStore p size (c.r rs2) (c.ea rs1 imm) word := by
    simp only [List.mem_cons, List.not_mem_nil, or_false, Prod.mk.injEq] at hi
    rcases hi with ⟨rfl, rfl⟩ | ⟨rfl, rfl⟩ | ⟨rfl, rfl⟩ | ⟨rfl, rfl⟩
    · exact ⟨by simp, _, exec_st8 ..⟩
    · exact ⟨by simp, _, exec_st16 ..⟩
    · exact ⟨by simp, _, exec_st32 ..⟩
    · exact ⟨by simp, _, exec_st64 ..⟩
  have hfit : ea % 16 + size ≤ 16 := by
    rcases hsize with rfl | rfl | rfl | rfl <;> omega
  obtain ⟨stored, mark, hstored, hwrite⟩ := writeNarrow_clean ((s.cc p).r rs2).toNat hfit (by omega) hclean
  obtain ⟨hcells, hkept⟩ := hstored.cells mark (by omega)
  obtain ⟨hscratch, hframe⟩ := storeDone_frame (s := s) (p := p) ea stored mark
  refine ⟨_, exec_ready h hexec ((ccStore_plain _ _ hon (by omega) halign hregion).trans (by rw [hwrite])), ?_, ?_, hframe⟩
  · rwa [hscratch]
  · rwa [hscratch]

end Sys2Proof.Machine
end

section
/-! SUPPORT. A descriptor read from scratchpad: the bytes that clean granules deliver (R146, R162). -/

namespace Sys2Proof.Machine

variable {s : State} {p : Site}

/-- Bytes of one granule lie in the same granule. -/
theorem State.granAt_add {off k : Nat} (hoff : off % 64 = 0) (hk : k < 64) : s.granAt p (off + k) = s.granAt p off := by
  have hdie : offDie (off + k) = offDie off := by unfold offDie; omega
  have hbank : offBank (off + k) = offBank off := by unfold offBank; omega
  have hrow : offRow (off + k) = offRow off := by unfold offRow; omega
  have hgran : offGran (off + k) = offGran off := by unfold offGran; omega
  simp only [State.granAt, State.rawGran, State.cellOf, State.rawRow, hdie, hbank, hrow, hgran]

theorem State.byteAt_add {off k : Nat} (hoff : off % 64 = 0) (hk : k < 64) :
    s.byteAt p (off + k) = BitVec.ofNat 8 ((s.granAt p off).data.toNat / 2 ^ (8 * k)) := by
  rw [State.byteAt, State.granAt_add hoff hk, show (off + k) % 64 = k by omega]

theorem getElem?_granBytes (d : W512) {k : Nat} (hk : k < 64) : (granBytes d)[k]? = some (BitVec.ofNat 8 (d.toNat / 2 ^ (8 * k))) := by
  have hlen : k < (granBytes d).length := by simpa [granBytes] using hk
  rw [List.getElem?_eq_getElem hlen, ← List.getD_eq_getElem _ 0 hlen, granBytes, getD_toBytes 64 _ k hk]

/-- A byte string is what scratchpad delivers byte by byte from an offset. -/
def State.spells (s : State) (p : Site) (off n : Nat) (l : List Byte) : Prop := l.length = n ∧ ∀ j, j < n → l[j]? = some (s.byteAt p (off + j))

/-- The granules of a span spell its bytes. -/
theorem State.spells_delivered : ∀ (n off : Nat), off % 64 = 0 → s.spells p off (64 * n) (flitBytes (s.delivered p off n))
  | 0, _, _ => ⟨rfl, fun _ h => absurd h (by omega)⟩
  | n + 1, off, hoff => by
    obtain ⟨hlen, hbytes⟩ := State.spells_delivered n (off + 64) (by omega)
    have hcons : flitBytes (s.delivered p off (n + 1)) = granBytes (s.granAt p off).data ++ flitBytes (s.delivered p (off + 64) n) := by
      rw [State.delivered_succ]
      rfl
    have hgran : (granBytes (s.granAt p off).data).length = 64 := length_toBytes ..
    rw [hcons]
    refine ⟨by rw [List.length_append, hgran, hlen]; omega, fun j hj => ?_⟩
    by_cases hlow : j < 64
    · rw [List.getElem?_append_left (by omega), getElem?_granBytes _ hlow, State.byteAt_add hoff hlow]
    · rw [List.getElem?_append_right (by omega), hgran, hbytes (j - 64) (by omega), show off + 64 + (j - 64) = off + j by omega]

/-- Granules that read clean leave nothing behind. -/
theorem readGrans_clean (client : Nat) : ∀ (n off : Nat), (∀ j, j < n → (s.granAt p (off + 64 * j)).outcomes [0, 1, 2, 3] = (0, 0)) →
    (s.readGrans p client off n).1 = s
  | 0, _, _ => rfl
  | n + 1, off, h => by
    have hfirst : (s.readWide p client off).1 = s := State.noteRead_clean (h 0 (by omega))
    rw [State.readGrans]
    dsimp only
    rw [hfirst]
    exact readGrans_clean client n (off + 64) fun j hj => by
      rw [show off + 64 + 64 * j = off + 64 * (j + 1) by omega]
      exact h (j + 1) (by omega)

theorem State.delivered_clean {off n : Nat} (h : ∀ j, j < n → (s.granAt p (off + 64 * j)).poison = 0) :
    (s.delivered p off n).any (·.poison) = false := by
  simp only [State.delivered, List.any_map, List.any_eq_false, List.mem_range]
  intro j hj
  simp [h j hj]

end Sys2Proof.Machine
end

section
/-! O8: issuing descriptors. -/

namespace Sys2Proof.Machine

variable {s : State} {p : Site} {rd : BitVec 5}

/-- The span of a descriptor of n bytes is powered and aligned, and reads clean (R146). -/
def State.descClean (s : State) (p : Site) (ea n : Nat) : Prop := s.spanOn p ea n = true ∧ ea % n = 0 ∧
  ∀ j, j < n / 64 → (s.granAt p (ea + 64 * j)).outcomes [0, 1, 2, 3] = (0, 0) ∧ (s.granAt p (ea + 64 * j)).poison = 0

/-- An ISSUE of a clean descriptor to an engine that takes it hands over its bytes. -/
theorem ccIssue_clean {addr : W64} {size eng ring token : Nat} {word : W32} {status : W64} {full : Bool} {accept : State → List Byte → Bool → State}
    (h : s.descClean p addr.toNat size) (hfault : (if eng = 2 then bit status 1 else bit status 7) = false) (hfull : full = false) :
    s.ccIssue p addr size word eng ring status token full accept = accept s (flitBytes (s.delivered p addr.toNat (size / 64))) false := by
  obtain ⟨hon, halign, hgrans⟩ := h
  have hread := (readGrans_spec p 4 (size / 64) s addr.toNat).2
  have hsame := readGrans_clean (s := s) (p := p) 4 (size / 64) addr.toNat fun j hj => (hgrans j hj).1
  have hgood := State.delivered_clean (s := s) (p := p) (off := addr.toNat) fun j hj => (hgrans j hj).2
  unfold State.ccIssue
  dsimp only
  rw [hon, if_neg (by simp), if_neg (by omega), hfault, if_neg (by simp), hfull, if_neg (by simp), hread, hgood, if_neg (by simp), hsame]

/-- What an ISSUE does to its control core, and what it leaves alone: registers, scratchpad and the other sites. -/
def State.issued (s t : State) (p : Site) (rd : BitVec 5) (ticket : W64) : Prop :=
  (t.cc p).pc = (s.cc p).pc + 4 ∧ (t.cc p).cycle = (s.cc p).cycle + 2 ∧ (t.cc p).r rd = ticket ∧
    (∀ r, r ≠ rd → (t.cc p).r r = (s.cc p).r r) ∧ t.regs = s.regs ∧ t.scratch = s.scratch ∧ ∀ q, q ≠ p → t.site q = s.site q

/-- A descriptor joins a queue of the site, the count of tickets moves on, and the instruction completes. -/
theorem issue_completes {t : State} {f : SiteSt → SiteSt} {g : Cc → Cc} {v : Cc → W64}
    (ht : t = ((s.updSite p f).updCc p g).ccNext p 2 fun k => k.setR rd (v k)) (hrd : rd ≠ 0) (hf : (f (s.site p)).cc = s.cc p)
    (hpc : (g (s.cc p)).pc = (s.cc p).pc) (hcycle : (g (s.cc p)).cycle = (s.cc p).cycle) (hg : (g (s.cc p)).g = (s.cc p).g) :
    s.issued t p rd (v (g (s.cc p))) ∧
      (t.site p).me = (f (s.site p)).me ∧ (t.site p).ve = (f (s.site p)).ve ∧ (t.site p).rings = (f (s.site p)).rings := by
  subst ht
  have hcc : ((s.updSite p f).updCc p g).cc p = g (s.cc p) := by
    rw [State.cc_updCc_same, State.cc, State.site_updSite_same, hf]
  have hdone := cc_ccNext (s := (s.updSite p f).updCc p g) (p := p) (clocks := 2) (f := fun k => k.setR rd (v k))
  rw [hcc] at hdone
  have hr : ∀ r, (g (s.cc p)).r r = (s.cc p).r r := fun r => by rw [Cc.r, hg, Cc.r]
  refine ⟨⟨?_, ?_, ?_, fun r hne => ?_, ?_, ?_, fun q hq => ?_⟩, ?_⟩
  · rw [hdone, ← hpc]
  · rw [hdone, ← hcycle]
    rfl
  · rw [hdone]
    exact (Cc.r_setR_same _ rd _).trans (if_neg hrd)
  · rw [hdone, ← hr]
    exact Cc.r_setR_other _ _ hne
  · simp [State.ccNext, State.ccDone]
  · simp [State.ccNext, State.ccDone]
  · exact (State.site_updCc_other _ _ hq).trans ((State.site_updCc_other _ _ hq).trans (State.site_updSite_other _ _ hq))
  · simp [State.ccNext, State.ccDone]

/-- A clean ISSUE.ME to an engine with room places its descriptor (R126, R147). -/
theorem issueMe_effect {off : Nat} {l : List Byte} (hrd : rd ≠ 0) : ∃ (t : State) (d : Desc),
    ((s.meAccept p off l false).ccNext p 2 fun k => k.setR rd k.meIssued) = t ∧ s.issued t p rd ((s.cc p).meIssued + 1) ∧
      (t.site p).me.queue = (s.site p).me.queue ++ [d] ∧ d.ticket = (s.cc p).meIssued + 1 ∧ d.off = off ∧ d.poison = false ∧ d.bytes = l ∧
      (t.site p).ve = (s.site p).ve ∧ (t.site p).rings = (s.site p).rings := by
  obtain ⟨hissued, hme, hve, hrings⟩ := issue_completes (s := s) (p := p) (v := fun k => k.meIssued)
    (t := (s.meAccept p off l false).ccNext p 2 fun k => k.setR rd k.meIssued) rfl hrd rfl rfl rfl rfl
  exact ⟨_, _, rfl, hissued, (congrArg Me.queue hme :), rfl, rfl, rfl, rfl, hve, hrings⟩

/-- A clean ISSUE.VE likewise. -/
theorem issueVe_effect {off : Nat} {l : List Byte} (hrd : rd ≠ 0) : ∃ (t : State) (d : Desc),
    ((s.veAccept p off l false).ccNext p 2 fun k => k.setR rd k.veIssued) = t ∧ s.issued t p rd ((s.cc p).veIssued + 1) ∧
      (t.site p).ve.queue = (s.site p).ve.queue ++ [d] ∧ d.ticket = (s.cc p).veIssued + 1 ∧ d.off = off ∧ d.poison = false ∧ d.bytes = l ∧
      (t.site p).me = (s.site p).me ∧ (t.site p).rings = (s.site p).rings := by
  obtain ⟨hissued, hme, hve, hrings⟩ := issue_completes (s := s) (p := p) (v := fun k => k.veIssued)
    (t := (s.veAccept p off l false).ccNext p 2 fun k => k.setR rd k.veIssued) rfl hrd rfl rfl rfl rfl
  exact ⟨_, _, rfl, hissued, (congrArg Ve.queue hve :), rfl, rfl, rfl, rfl, hme, hrings⟩

/-- A ring with a descriptor last in its queue. -/
def MvRing.queued (r : MvRing) (d : Desc) : MvRing := { r with queue := r.queue ++ [d] }

theorem mvAccept_eq {n off : Nat} {l : List Byte} {bad : Bool} : s.mvAccept p n off l bad =
    (s.updSite p fun x => { x with rings := Sparse.put MvRing.init x.rings n ((Sparse.get MvRing.init x.rings n).queued
      ⟨Sparse.get 0 (s.cc p).mvIssued n + 1, off, l, bad, 0⟩) }).updCc p fun c =>
        { c with mvIssued := Sparse.put 0 c.mvIssued n (Sparse.get 0 (s.cc p).mvIssued n + 1) } := rfl

/-- A clean ISSUE.MV likewise, in its ring alone. -/
theorem issueMv_effect {n off : Nat} {l : List Byte} (hrd : rd ≠ 0) : ∃ (t : State) (d : Desc),
    ((s.mvAccept p n off l false).ccNext p 2 fun k => k.setR rd (Sparse.get 0 k.mvIssued n)) = t ∧
      s.issued t p rd (Sparse.get 0 (s.cc p).mvIssued n + 1) ∧ (t.ring p n).queue = (s.ring p n).queue ++ [d] ∧
      d.ticket = Sparse.get 0 (s.cc p).mvIssued n + 1 ∧ d.off = off ∧ d.poison = false ∧ d.bytes = l ∧
      (∀ m, m ≠ n → t.ring p m = s.ring p m) ∧ (t.site p).me = (s.site p).me ∧ (t.site p).ve = (s.site p).ve := by
  obtain ⟨hissued, hme, hve, hrings⟩ := issue_completes (s := s) (p := p) (v := fun k => Sparse.get 0 k.mvIssued n)
    (congrArg (fun u : State => u.ccNext p 2 fun k => k.setR rd (Sparse.get 0 k.mvIssued n)) (mvAccept_eq (n := n) (off := off) (l := l)
      (bad := false))) hrd rfl rfl rfl rfl
  rw [Sparse.get_put_same] at hissued
  refine ⟨_, ⟨Sparse.get 0 (s.cc p).mvIssued n + 1, off, l, false, 0⟩, rfl, hissued, ?_, rfl, rfl, rfl, rfl, fun m hm => ?_, hme, hve⟩
  · rw [State.ring, hrings]
    exact congrArg MvRing.queue (Sparse.get_put_same ..)
  · rw [State.ring, hrings]
    exact Sparse.get_put_other _ _ _ hm

/-- Settles O8: each form is `State.ccIssue` with its engine's queue. -/
theorem issuePlacesDescriptors : Obligations.IssuePlacesDescriptors := by
  intro s p rd rs1 ring h hrd c ea clean placed after
  have hspell : ∀ n, clean (64 * n) → s.spells p ea (64 * n) (flitBytes (s.delivered p ea n)) := fun n hc =>
    State.spells_delivered n ea (by rw [← Nat.mod_mod_of_dvd ea (Nat.dvd_mul_right 64 n), hc.2.1])
  refine ⟨fun hc hok hroom => ?_, fun hc hok hroom => ?_, fun hc hok hroom => ?_⟩
  · obtain ⟨t, d, ht, hissued, hqueue, hticket, hoff, hpoison, hbytes, hrest⟩ :=
      issueMe_effect (s := s) (p := p) (off := ea) (l := flitBytes (s.delivered p ea 1)) hrd
    obtain ⟨hlen, hj⟩ := hspell 1 hc
    refine ⟨t, d, ?_, hissued, hqueue, ⟨hticket, hoff, hpoison, hbytes ▸ hlen, hbytes ▸ hj⟩, hrest⟩
    exact exec_ready h (exec_issueMe ..) ((ccIssue_clean (eng := 0) hc hok (by simpa using hroom)).trans ht)
  · obtain ⟨t, d, ht, hissued, hqueue, hticket, hoff, hpoison, hbytes, hrest⟩ :=
      issueVe_effect (s := s) (p := p) (off := ea) (l := flitBytes (s.delivered p ea 2)) hrd
    obtain ⟨hlen, hj⟩ := hspell 2 hc
    refine ⟨t, d, ?_, hissued, hqueue, ⟨hticket, hoff, hpoison, hbytes ▸ hlen, hbytes ▸ hj⟩, hrest⟩
    exact exec_ready h (exec_issueVe ..) ((ccIssue_clean (eng := 1) hc hok (by simpa using hroom)).trans ht)
  · obtain ⟨t, d, ht, hissued, hqueue, hticket, hoff, hpoison, hbytes, hrest⟩ :=
      issueMv_effect (s := s) (p := p) (n := ring.toNat) (off := ea) (l := flitBytes (s.delivered p ea 1)) hrd
    obtain ⟨hlen, hj⟩ := hspell 1 hc
    refine ⟨t, d, ?_, hissued, hqueue, ⟨hticket, hoff, hpoison, hbytes ▸ hlen, hbytes ▸ hj⟩, hrest⟩
    exact exec_ready h (exec_issueMv ..) ((ccIssue_clean (eng := 2) hc hok (by simpa using hroom)).trans ht)

end Sys2Proof.Machine
end

section
/-! O11: windows, queues and barriers. -/

namespace Sys2Proof.Machine

variable {s : State} {p : Site} {rd : BitVec 5}

theorem fld_w64 {x : Nat} (h : x < 2 ^ 64) (lo w : Nat) : fld (w64 x) lo w = x / 2 ^ lo % 2 ^ w := by
  rw [fld, toNat_w64 h]

/-- A register that an instruction writes on its completion. -/
theorem r_ccWrite (hrd : rd ≠ 0) (v : W64) : ((s.ccWrite p rd v).cc p).r rd = v := by
  rw [State.ccWrite, cc_ccNext]
  exact (Cc.r_setR_same _ rd v).trans (if_neg hrd)

theorem pc_ccWrite (v : W64) : ((s.ccWrite p rd v).cc p).pc = (s.cc p).pc + 4 := by
  rw [State.ccWrite, cc_ccNext]

@[simp] theorem State.reg_ccWrite (v : W64) (u : RegUnit) (o : Nat) : (s.ccWrite p rd v).reg u o = s.reg u o := rfl

/-! ## Windows (R305, R307) -/

/-- What a window's registers hold once it is open. -/
theorem State.reg_winOpen (w base len tag : Nat) :
    (s.winOpen p w base len tag).reg (.site p) (0x18402000 + 32 * w) =
        w64 (2 ^ 63 + (s.winGen p w + 1) % 256 * 2 ^ 40 + tag * 2 ^ 32 + base) ∧
      (s.winOpen p w base len tag).reg (.site p) (0x18402000 + 32 * w + 8) = w64 len := by
  have hnext : 0x18402000 + 32 * w + 8 = 0x18402008 + 32 * w := by omega
  refine ⟨?_, by rw [hnext, State.winOpen, State.reg_setReg_same]⟩
  rw [State.winOpen, State.reg_setReg_other _ _ (by unfold regKey; omega), State.reg_setReg_same]

@[simp] theorem State.cc_winOpen (w base len tag : Nat) : (s.winOpen p w base len tag).cc p = s.cc p := by
  rw [State.winOpen, State.cc_setReg, State.cc_setReg]

/-- The generation of a window that has just opened is the next one. -/
theorem State.winGen_winOpen {w base len tag : Nat} (htag : tag < 2 ^ 8) (hbase : base < 2 ^ 32) :
    (s.winOpen p w base len tag).winGen p w = (s.winGen p w + 1) % 256 := by
  rw [State.winGen, State.rf, (State.reg_winOpen w base len tag).1, fld_w64 (by omega)]
  omega

/-- WIN.OPEN of a span in powered scratchpad opens the window with its next generation and gives it. -/
theorem winOpen_effect {rs1 rs2 : BitVec 5} {win : BitVec 6} {len tag : Nat} (h : s.ccReady p) (hrd : rd ≠ 0) (hlen : len < 2 ^ 32)
    (htag : tag < 2 ^ 8) (hv : (s.cc p).r rs2 = w64 (len + tag * 2 ^ 32)) (hpos : 0 < len) (hlines : len % 512 = 0) (hfd : tag ≠ 0xFD)
    (hfe : tag ≠ 0xFE) (hon : s.spanOn p ((s.cc p).r rs1).toNat len = true) (halign : ((s.cc p).r rs1).toNat % 512 = 0) :
    ∃ t, exec (.winOpen p rd rs1 rs2 win) s = .next t ∧ (t.cc p).r rd = w64 ((s.winGen p win.toNat + 1) % 256) ∧
      (t.cc p).pc = (s.cc p).pc + 4 ∧
      t.reg (.site p) (0x18402000 + 32 * win.toNat) =
        w64 (2 ^ 63 + (s.winGen p win.toNat + 1) % 256 * 2 ^ 40 + tag * 2 ^ 32 + ((s.cc p).r rs1).toNat) ∧
      t.reg (.site p) (0x18402000 + 32 * win.toNat + 8) = w64 len := by
  have hv64 : len + tag * 2 ^ 32 < 2 ^ 64 := by omega
  have h0 : fld ((s.cc p).r rs2) 0 32 = len := by rw [hv, fld_w64 hv64]; omega
  have h32 : fld ((s.cc p).r rs2) 32 8 = tag := by rw [hv, fld_w64 hv64]; omega
  have h40 : fld ((s.cc p).r rs2) 40 24 = 0 := by rw [hv, fld_w64 hv64]; omega
  have hle : ((s.cc p).r rs1).toNat + len ≤ 0x18000000 := State.spanOn_le hon
  obtain ⟨hreg, hlenReg⟩ := State.reg_winOpen (s := s) (p := p) win.toNat ((s.cc p).r rs1).toNat len tag
  refine ⟨(s.winOpen p win.toNat ((s.cc p).r rs1).toNat len tag).ccWrite p rd
    (w64 ((s.winOpen p win.toNat ((s.cc p).r rs1).toNat len tag).winGen p win.toNat)), exec_ready h (exec_winOpen ..) ?_, ?_, ?_,
    (State.reg_ccWrite ..).trans hreg, (State.reg_ccWrite ..).trans hlenReg⟩
  · dsimp only
    rw [h0, h32, h40, if_neg (by simp [hlines, hfd, hfe, hon]; omega), if_neg (by omega)]
  · rw [r_ccWrite hrd, State.winGen_winOpen htag (by omega)]
  · rw [pc_ccWrite, State.cc_winOpen]

/-- WIN.CLOSE clears the OPEN bit, keeps the generation and gives it. -/
theorem winClose_effect {win : BitVec 6} (h : s.ccReady p) (hrd : rd ≠ 0) :
    ∃ t, exec (.winClose p rd win) s = .next t ∧ t.rf (.site p) (0x18402000 + 32 * win.toNat) 63 1 = 0 ∧
      t.rf (.site p) (0x18402000 + 32 * win.toNat) 40 8 = s.winGen p win.toNat ∧ (t.cc p).r rd = w64 (s.winGen p win.toNat) := by
  refine ⟨_, exec_ready h (exec_winClose ..) rfl, ?_, ?_, r_ccWrite hrd _⟩ <;>
    rw [State.rf_of_reg (State.reg_ccWrite ..), State.winClose]
  · exact State.rf_setRf_same _ _ (by norm_num)
  · exact State.rf_setRf_field _ _ (by norm_num) (by norm_num)

/-! ## Queues (R287, R288) -/

@[simp] theorem State.queue_ccNext (n : Nat) (f : Cc → Cc) (q : Nat) : (s.ccNext p n f).queue p q = s.queue p q := by
  unfold State.queue State.ccNext State.ccDone State.updCc
  simp

@[simp] theorem State.queue_setQueue_same (q : Nat) (x : QueueSt) : (s.setQueue p q x).queue p q = x := by
  unfold State.queue State.setQueue
  simp

/-- Q.ADV of an ACTIVE queue by whole granules, no further than its write pointer. -/
theorem qAdv_effect {rs1 : BitVec 5} {q : BitVec 7} (h : s.ccReady p) (hactive : s.qActive p q.toNat = true)
    (hle : (s.queue p q.toNat).rp + ((s.cc p).r rs1).toNat ≤ (s.queue p q.toNat).wp) (hn : ((s.cc p).r rs1).toNat % 16 = 0) :
    ∃ t, exec (.qAdv p rs1 q) s = .next t ∧
      t.queue p q.toNat = { s.queue p q.toNat with rp := (s.queue p q.toNat).rp + ((s.cc p).r rs1).toNat } ∧
      (t.cc p).pc = (s.cc p).pc + 4 := by
  let s₁ := s.setQueue p q.toNat { s.queue p q.toNat with rp := (s.queue p q.toNat).rp + ((s.cc p).r rs1).toNat }
  refine ⟨s₁.ccNext p 1 id, exec_ready h (exec_qAdv ..) ?_, (State.queue_ccNext 1 id _).trans (State.queue_setQueue_same ..), ?_⟩
  · dsimp only
    rw [if_neg (by simp [hactive]), if_neg (by omega), if_neg (by omega)]
  · rw [cc_ccNext]
    simp [s₁, State.setQueue, State.cc]

/-! ## Barriers (R281) -/

/-- A barrier packet of a stop that may send is on its way, and no control core has changed. -/
theorem State.barPacket_sends {src : Site} (hq : s.quiet src = false) (dst : Site) (typ dl sl tag inst : Nat) (episode : W32) :
    let t := s.barPacket src dst typ dl sl tag inst episode
    t.net.length = s.net.length + 1 ∧ t.sites = s.sites := by
  unfold State.barPacket
  dsimp only
  rw [if_neg (by simp [hq])]
  exact ⟨by simp, (onlyStepFail_countPath (fun _ hm => State.path_track_lt hm) 1).sites⟩

/-- BAR.ARRIVE where the core's last episode is released. -/
theorem barArrive_effect {inst : BitVec 5} {home : Site} (h : s.ccReady p) (hrd : rd ≠ 0) (hhome : s.barHome p inst.toNat = some home)
    (hq : s.quiet p = false) (hreleased : atOrPast ((s.reg (.site p) (0x18731000 + 8 * inst.toNat)).setWidth 32)
      (Sparse.get 0 (s.cc p).barIssued inst.toNat) = true) :
    let issued : W32 := Sparse.get 0 (s.cc p).barIssued inst.toNat
    ∃ t, exec (.barArrive p rd inst) s = .next t ∧ (t.cc p).r rd = (issued + 1).zeroExtend 64 ∧
      Sparse.get 0 (t.cc p).barIssued inst.toNat = issued + 1 ∧ t.net.length = s.net.length + 1 := by
  intro issued
  let s₁ := s.updCc p fun c => { c with barIssued := Sparse.put 0 c.barIssued inst.toNat (issued + 1) }
  let s₂ := s₁.barPacket p home 0x21 (s₁.lcidOf home) (s₁.lcidOf p) (s₁.siteTag p) inst.toNat (issued + 1)
  have hq₁ : s₁.quiet p = false := by rw [State.quiet_updCc, hq]
  obtain ⟨hnet, hsites⟩ : s₂.net.length = s₁.net.length + 1 ∧ s₂.sites = s₁.sites := State.barPacket_sends hq₁ ..
  refine ⟨s₂.ccWrite p rd ((issued + 1).zeroExtend 64), exec_ready h (exec_barArrive ..) ?_, r_ccWrite hrd _, ?_, hnet⟩
  · simp only [hhome, hreleased]
    rfl
  · have hcc : s₂.cc p = s₁.cc p := by rw [State.cc, State.site, hsites]; rfl
    rw [State.ccWrite, cc_ccNext, hcc, State.cc_updCc_same]
    simp only [Cc.setR, if_neg hrd]
    exact Sparse.get_put_same ..

/-- Settles O11: windows by their registers, queues by their pointers, barriers by the episode counts. -/
theorem windowQueueAndBarrierInstructions : Obligations.WindowQueueAndBarrierInstructions := by
  intro s p rd rs1 rs2 win q inst h hrd c w gen x released issued
  refine ⟨fun len tag hlen htag hv hpos hlines hfd hfe hon halign => ?_, ?_, fun hactive => ⟨?_, fun hdata => ?_, fun hempty => ?_⟩,
    fun hactive hle hn => ?_, fun home hhome hq hreleased => barArrive_effect h hrd hhome hq hreleased, fun hhome hreleased => ?_⟩
  · exact winOpen_effect h hrd hlen htag hv hpos hlines hfd hfe hon halign
  · exact winClose_effect h hrd
  · exact ccWrite_writes (exec_ready h (exec_qWp ..) (by simp [hactive, x]))
  · exact ccWrite_writes (exec_ready h (exec_qWp ..) (by simpa [hactive, x] using fun e => absurd e hdata))
  · exact exec_ready h (exec_qWp ..) (by simpa [hactive, x] using fun e => absurd hempty e)
  · exact qAdv_effect h hactive hle hn
  · refine ccDone_goes (exec_ready h (exec_barWait ..) ?_)
    dsimp only
    rw [if_neg (by simpa [Option.ne_none_iff_isSome] using hhome), if_pos hreleased]
    rfl

end Sys2Proof.Machine
end

section
/-! O10: channel instructions and the send contexts they work on. -/

namespace Sys2Proof.Machine

variable {s t u : State} {p : Site} {n : Nat}

/-! ## What reading and sending leave of a site -/

/-- What a channel instruction sees of a site: the control core, the send contexts, and whether the stop is quiet. -/
def SiteSt.chanView (x : SiteSt) : Cc × Sparse SendCtx × Bool := (x.cc, x.ctxs, x.symp.isSome)

/-- The second state shows a site's channel instructions what the first does. -/
def State.keepsChans (s t : State) (p : Fin 168) : Prop := (t.site p).chanView = (s.site p).chanView

namespace State.keepsChans

theorem trans (h : s.keepsChans t p) (k : t.keepsChans u p) : s.keepsChans u p := Eq.trans k h

theorem cc (h : s.keepsChans t p) : t.cc p = s.cc p := congrArg Prod.fst h

theorem sctx (h : s.keepsChans t p) (m : Nat) : t.sctx p m = s.sctx p m :=
  congrArg (fun x : Cc × Sparse SendCtx × Bool => Sparse.get SendCtx.init x.2.1 m) h

theorem quiet (h : s.keepsChans t p) : t.quiet p = s.quiet p := congrArg (fun x : Cc × Sparse SendCtx × Bool => x.2.2) h

theorem of_sites (h : t.sites = s.sites) : s.keepsChans t p := by rw [State.keepsChans, State.site, h]; rfl

end State.keepsChans

theorem keepsChans_updSite {f : SiteSt → SiteSt} (hf : ∀ x, (f x).chanView = x.chanView) : s.keepsChans (s.updSite p f) p := by
  rw [State.keepsChans, State.site_updSite_same, hf]

/-- What every entry of a map keeps, a read of the map keeps. -/
theorem Sparse.get_map_keep {α β : Type} {g : Nat × α → α} {f : α → β} (h : ∀ e, f (g e) = f e.2) (d : α) (i : Nat) :
    ∀ l : Sparse α, f (Sparse.get d (l.map fun e => (e.1, g e)) i) = f (Sparse.get d l i)
  | [] => rfl
  | e :: l => by
    simp only [List.map_cons, Sparse.get]
    split
    · exact h e
    · exact Sparse.get_map_keep h d i l

/-- A request notes its payload, or that attempts are spoiled (R527, R528, R530). -/
theorem keepsChans_noteRequest (k : Packet) : s.keepsChans (s.noteRequest p k) p := by
  unfold State.noteRequest
  split
  · refine keepsChans_updSite fun x => ?_
    split <;> simp_all [SiteSt.chanView]
  · refine Sparse.get_map_keep (f := SiteSt.chanView) (fun e => ?_) SiteSt.init p.val s.sites
    split
    · split <;> simp_all [SiteSt.chanView]
    · rfl

theorem net_noteRequest (k : Packet) : (s.noteRequest p k).net = s.net := by
  unfold State.noteRequest
  split <;> rfl

theorem keepsChans_inject (src : Place) (k : Packet) : s.keepsChans (s.inject src k) p := .of_sites (onlyStepFail_inject src k).sites

theorem keepsChans_engRead {client : Nat} (hc : client < 4) (off len : Nat) : s.keepsChans (s.engRead p client off len).1 p := by
  obtain ⟨⟨_, hsite⟩, -⟩ := keepsEngines_engRead (s := s) (p := p) hc off len
  rw [State.keepsChans, hsite]
  rfl

theorem keepsChans_sendMsgPkt (c : SendCtx) (m : PendMsg) (a : Nat) : s.keepsChans (State.sendMsgPkt p c m s a) p := by
  have hread : ∀ len, s.keepsChans (if len = 0 then (s, []) else s.engRead p 3 (m.addr + a) len).1 p := fun len => by
    split
    · rfl
    · exact keepsChans_engRead (by norm_num) ..
  have hnote : ∀ (t : State) (k : Packet), t.keepsChans (if m.att = 0 then t.noteRequest p k else t) p := fun t k => by
    split
    · exact keepsChans_noteRequest k
    · rfl
  exact ((hread _).trans (hnote ..)).trans (keepsChans_inject ..)

/-! ## One send context changes -/

/-- The second state differs for the channel instructions of a site in one send context alone. -/
def State.onlyCtx (s t : State) (p : Fin 168) (n : Nat) : Prop := t.cc p = s.cc p ∧ ∀ m, m ≠ n → t.sctx p m = s.sctx p m

theorem State.onlyCtx.trans (h : s.onlyCtx t p n) (k : t.onlyCtx u p n) : s.onlyCtx u p n :=
  ⟨k.1.trans h.1, fun m hm => (k.2 m hm).trans (h.2 m hm)⟩

theorem State.keepsChans.onlyCtx (h : s.keepsChans t p) : s.onlyCtx t p n := ⟨h.cc, fun m _ => h.sctx m⟩

@[simp] theorem State.sctx_updCtx_same (f : SendCtx → SendCtx) : (s.updCtx p n f).sctx p n = f (s.sctx p n) := by
  simp [State.sctx, State.updCtx]

theorem onlyCtx_updCtx (f : SendCtx → SendCtx) : s.onlyCtx (s.updCtx p n f) p n := by
  refine ⟨by simp [State.cc, State.updCtx], fun m hm => ?_⟩
  rw [State.sctx, State.updCtx, State.site_updSite_same]
  exact Sparse.get_put_other _ _ _ hm

@[simp] theorem State.quiet_updCtx (f : SendCtx → SendCtx) : (s.updCtx p n f).quiet p = s.quiet p := by
  simp [State.quiet, State.updCtx]

@[simp] theorem State.sctx_updCc (f : Cc → Cc) (m : Nat) : (s.updCc p f).sctx p m = s.sctx p m := by
  simp [State.sctx]

@[simp] theorem State.sctx_ccWrite (rd : BitVec 5) (v : W64) (m : Nat) : (s.ccWrite p rd v).sctx p m = s.sctx p m := State.sctx_updCc ..

/-- A handshake is sent and its request number kept with the context (R263). -/
theorem chShake_effect (typ : Nat) : s.onlyCtx (s.chShake p n typ) p n ∧
    (∃ seq, (s.chShake p n typ).sctx p n = { s.sctx p n with req := some seq, resendAt := none }) ∧
    (s.quiet p = false → (s.chShake p n typ).net.length = s.net.length + 1) := by
  have hsend : ∀ k, s.keepsChans (((s.noteRequest p k).inject (.stop p) k).updSite p fun x => { x with mvNextSeq := x.mvNextSeq + 1 }) p :=
    fun k => ((keepsChans_noteRequest k).trans (keepsChans_inject ..)).trans (keepsChans_updSite fun _ => rfl)
  unfold State.chShake
  dsimp only
  refine ⟨(hsend _).onlyCtx.trans (onlyCtx_updCtx _), ⟨(s.site p).mvNextSeq, ?_⟩, fun hq => ?_⟩
  · rw [State.sctx_updCtx_same, (hsend _).sctx]
  · exact (State.inject_sends ((keepsChans_noteRequest _).quiet.trans hq) _).trans (by rw [net_noteRequest])

theorem length_mapFirst {α : Type} (q : α → Bool) (f : α → α) : ∀ l : List α, (mapFirst q f l).length = l.length
  | [] => rfl
  | x :: l => by
    rw [mapFirst]
    split
    · rfl
    · simp [length_mapFirst q f l]

/-- An attempt of a message leaves the number of messages and the next sequence number. -/
theorem chAttempt_effect (m : PendMsg) : s.onlyCtx (s.chAttempt p n m) p n ∧ ((s.chAttempt p n m).sctx p n).next = (s.sctx p n).next ∧
    ((s.chAttempt p n m).sctx p n).msgs.length = (s.sctx p n).msgs.length := by
  have hsent : s.keepsChans ((msgAddrs m.len).foldl (State.sendMsgPkt p (s.sctx p n) m) s) p :=
    List.foldlRecOn (motive := fun t => s.keepsChans t p) _ _ rfl fun _ ht a _ => ht.trans (keepsChans_sendMsgPkt _ m a)
  unfold State.chAttempt State.updMsg
  dsimp only
  refine ⟨hsent.onlyCtx.trans (onlyCtx_updCtx _), ?_, ?_⟩
  · rw [State.sctx_updCtx_same, hsent.sctx]
  · rw [State.sctx_updCtx_same, hsent.sctx, length_mapFirst]

/-- A message handed over is the context's newest, with the next sequence number (R297). -/
theorem chHandOver_effect (addr len : Nat) (block : Bool) : s.onlyCtx (s.chHandOver p n addr len block) p n ∧
    ((s.chHandOver p n addr len block).sctx p n).next = (s.sctx p n).next + 1 ∧
    ((s.chHandOver p n addr len block).sctx p n).msgs.length = (s.sctx p n).msgs.length + 1 := by
  unfold State.chHandOver
  dsimp only
  split
  · exact ⟨onlyCtx_updCtx _, by simp, by simp⟩
  · obtain ⟨honly, hnext, hlen⟩ := chAttempt_effect (s := s.updCtx p n _) (p := p) (n := n) _
    exact ⟨(onlyCtx_updCtx _).trans honly, hnext.trans (by simp), hlen.trans (by simp)⟩

/-! ## The operation of the instruction at PC (R590) -/

theorem State.cc_ccStart (kind : PendKind) (seq : W32) : (s.ccStart p kind n seq).cc p =
    { s.cc p with pends := (s.cc p).pends ++ [⟨(s.cc p).pc, kind, n, seq, 0, none⟩] } := State.cc_updCc_same ..

theorem State.sctx_ccStart (kind : PendKind) (seq : W32) (m : Nat) : (s.ccStart p kind n seq).sctx p m = s.sctx p m := State.sctx_updCc ..

/-- Records that are all of other instructions hold none of an instruction. -/
theorem find?_pends_none {l : List PendOp} {pc : W16} (h : (l.all fun o => o.addr != pc) = true) (kind : PendKind) :
    l.find? (fun o => o.addr == pc && o.kind == kind) = none := by
  refine List.find?_eq_none.2 fun o ho => ?_
  have hne : o.addr ≠ pc := by simpa using List.all_eq_true.1 h o ho
  simp [hne]

theorem Cc.pendHere_none {c : Cc} (h : (c.pends.all fun o => o.addr != c.pc) = true) (kind : PendKind) : c.pendHere kind = none :=
  find?_pends_none h kind

/-- The instruction at PC whose operation has ended with a value gives it and clears the record. -/
theorem ccFinish_value {i : Instr} {rd : BitVec 5} {o : PendOp} {kind : PendKind} {v : W64} (hrd : rd ≠ 0)
    (hpend : (s.cc p).pendHere kind = some o) (hres : o.result = some (.value v)) (hi : exec i s = .next (s.ccFinish p kind rd)) :
    ∃ t, exec i s = .next t ∧ s.onlyCc t p ∧ (t.cc p).r rd = v ∧ (t.cc p).pc = (s.cc p).pc + 4 ∧
      (t.cc p).pends = (s.cc p).pends.filter fun o => o.addr != (s.cc p).pc := by
  have hfin : s.ccFinish p kind rd = (s.updCc p Cc.clearPend).ccWrite p rd v := by
    rw [State.ccFinish, hpend]
    simp only [hres]
  rw [hfin] at hi
  refine ⟨_, hi, (onlyCc_updCc _).trans (onlyCc_updCc _), r_ccWrite hrd v, ?_, ?_⟩
  · rw [pc_ccWrite, State.cc_updCc_same]
    rfl
  · rw [State.ccWrite, cc_ccNext, State.cc_updCc_same]
    simp only [Cc.setR, if_neg hrd]
    rfl

/-- An instruction whose operation has just started stalls. -/
theorem ccFinish_started {kind : PendKind} {rd : BitVec 5} {seq : W32} {l : List PendOp} (hl : (l.all fun o => o.addr != (s.cc p).pc) = true)
    (hpends : (s.cc p).pends = l ++ [⟨(s.cc p).pc, kind, n, seq, 0, none⟩]) : s.ccFinish p kind rd = s := by
  have hpend : (s.cc p).pendHere kind = some ⟨(s.cc p).pc, kind, n, seq, 0, none⟩ := by
    rw [Cc.pendHere, hpends, List.find?_append, find?_pends_none hl]
    simp
  rw [State.ccFinish, hpend]

/-! ## The instructions -/

/-- CHAN.OPEN takes the lowest free context and sends CHAN_OPEN (R296). -/
theorem chanOpen_effect {rd rs1 : BitVec 5} {dest : Byte} {q : BitVec 7} (h : s.ccReady p) (hdest : dest.toNat < 144)
    (hpc : ((s.cc p).pends.all fun o => o.addr != (s.cc p).pc) = true) (hv : (s.cc p).r rs1 = w64 (dest.toNat + q.toNat * 2 ^ 8))
    (hfree : s.freeCtx p = some n) :
    ∃ t, exec (.chanOpen p rd rs1) s = .next t ∧ (t.sctx p n).state = 1 ∧ (t.sctx p n).dest = dest ∧ (t.sctx p n).queue = q.toNat ∧
      (t.sctx p n).msgs = [] ∧ (∀ m, m ≠ n → t.sctx p m = s.sctx p m) ∧ (t.cc p).pc = (s.cc p).pc ∧
      (s.quiet p = false → t.net.length = s.net.length + 1) ∧
      (t.cc p).pends = (s.cc p).pends ++ [⟨(s.cc p).pc, .chanOpen, n, 0, 0, none⟩] := by
  have hq := q.isLt
  have hv64 : dest.toNat + q.toNat * 2 ^ 8 < 2 ^ 64 := by omega
  have hd : fld ((s.cc p).r rs1) 0 8 = dest.toNat := by rw [hv, fld_w64 hv64]; omega
  have h8 : fld ((s.cc p).r rs1) 8 7 = q.toNat := by rw [hv, fld_w64 hv64]; omega
  have h15 : fld ((s.cc p).r rs1) 15 49 = 0 := by rw [hv, fld_w64 hv64]; omega
  let s₁ := s.ccStart p .chanOpen n 0
  let s₂ := s₁.updCtx p n fun _ => { SendCtx.init with
    state := 1, dest := dest, queue := q.toNat, first := s₁.time, budget := (s₁.cc p).sendBudget.toNat }
  obtain ⟨honly, ⟨seq, hctx⟩, hnet⟩ := chShake_effect (s := s₂) (p := p) (n := n) 0x06
  have hcc := (honly.1.trans (onlyCtx_updCtx _).1).trans (State.cc_ccStart ..)
  have hctx₂ : s₂.sctx p n = _ := State.sctx_updCtx_same _
  rw [hctx₂] at hctx
  refine ⟨s₂.chShake p n 0x06, exec_ready h (exec_chanOpen ..) ?_, by rw [hctx], by rw [hctx], by rw [hctx], by rw [hctx]; rfl,
    fun m hm => ?_, ?_, fun hquiet => hnet ?_, ?_⟩
  · dsimp only
    rw [Cc.pendHere_none hpc, hd, h8, h15, if_neg (by simp), if_neg (by simpa using hdest), hfree, BitVec.ofNat_toNat, BitVec.setWidth_eq]
    rfl
  · rw [honly.2 m hm, (onlyCtx_updCtx _).2 m hm]
    exact State.sctx_ccStart ..
  · rw [hcc]
  · rw [State.quiet_updCtx]
    exact (State.quiet_updCc ..).trans hquiet
  · rw [hcc]

/-- A send without payload bytes on an OPEN context with room (R297). -/
theorem State.ccSend_open {rd : BitVec 5} {addr : W64} {block : Bool} {word : W32} (hn : n < 256) (halign : addr.toNat % 64 = 0)
    (hopen : (s.sctx p n).state = 2) (hroom : (s.sctx p n).msgs.length < 8) :
    s.ccSend p rd (w64 n) addr block word =
      if block then (s.ccStart p .chanSend n (s.sctx p n).next).chHandOver p n addr.toNat 0 true
      else (s.chHandOver p n addr.toNat 0 false).ccWrite p rd ((s.sctx p n).next.zeroExtend 64) := by
  have hv64 : n < 2 ^ 64 := by omega
  have h0 : fld (w64 n) 0 8 = n := by rw [fld_w64 hv64]; omega
  have h8 : fld (w64 n) 8 24 = 0 := by rw [fld_w64 hv64]; omega
  have h32 : fld (w64 n) 32 17 = 0 := by rw [fld_w64 hv64]; omega
  have h49 : fld (w64 n) 49 15 = 0 := by rw [fld_w64 hv64]; omega
  unfold State.ccSend
  dsimp only
  rw [h0, h8, h32, h49, hopen, if_neg (by simp), if_neg (by simp), if_neg (by omega), if_neg (by omega), if_neg (by omega), if_neg (by omega)]

/-- CHAN.SEND gives the sequence number and hands the message over. -/
theorem chanSend_effect {rd rs1 rs2 : BitVec 5} (h : s.ccReady p) (hrd : rd ≠ 0) (hn : n < 256) (hv : (s.cc p).r rs1 = w64 n)
    (halign : ((s.cc p).r rs2).toNat % 64 = 0) (hopen : (s.sctx p n).state = 2) (hroom : (s.sctx p n).msgs.length < 8) :
    ∃ t, exec (.chanSend p rd rs1 rs2) s = .next t ∧ (t.cc p).r rd = (s.sctx p n).next.zeroExtend 64 ∧
      (t.sctx p n).next = (s.sctx p n).next + 1 ∧ (t.sctx p n).msgs.length = (s.sctx p n).msgs.length + 1 ∧
      (t.cc p).pc = (s.cc p).pc + 4 ∧ ∀ m, m ≠ n → t.sctx p m = s.sctx p m := by
  obtain ⟨honly, hnext, hlen⟩ := chHandOver_effect (s := s) (p := p) (n := n) ((s.cc p).r rs2).toNat 0 false
  refine ⟨(s.chHandOver p n ((s.cc p).r rs2).toNat 0 false).ccWrite p rd ((s.sctx p n).next.zeroExtend 64),
    exec_ready h (exec_chanSend ..) ?_, r_ccWrite hrd _, ?_, ?_, ?_, fun m hm => ?_⟩
  · rw [hv, State.ccSend_open hn halign hopen hroom]
    rfl
  · rw [State.sctx_ccWrite, hnext]
  · rw [State.sctx_ccWrite, hlen]
  · rw [pc_ccWrite, honly.1]
  · rw [State.sctx_ccWrite, honly.2 m hm]

/-- CHAN.SEND with BLOCK starts an operation and hands the message over (R301). -/
theorem chanSendBlock_effect {rd rs1 rs2 : BitVec 5} (h : s.ccReady p) (hn : n < 256) (hv : (s.cc p).r rs1 = w64 n)
    (halign : ((s.cc p).r rs2).toNat % 64 = 0) (hopen : (s.sctx p n).state = 2) (hroom : (s.sctx p n).msgs.length < 8)
    (hpc : ((s.cc p).pends.all fun o => o.addr != (s.cc p).pc) = true) :
    ∃ t, exec (.chanSendBlock p rd rs1 rs2) s = .next t ∧ (t.sctx p n).next = (s.sctx p n).next + 1 ∧ (t.cc p).pc = (s.cc p).pc ∧
      (t.cc p).pends = (s.cc p).pends ++ [⟨(s.cc p).pc, .chanSend, n, (s.sctx p n).next, 0, none⟩] := by
  let s₁ := s.ccStart p .chanSend n (s.sctx p n).next
  obtain ⟨honly, hnext, -⟩ := chHandOver_effect (s := s₁) (p := p) (n := n) ((s.cc p).r rs2).toNat 0 true
  have hcc := honly.1.trans (State.cc_ccStart ..)
  refine ⟨s₁.chHandOver p n ((s.cc p).r rs2).toNat 0 true, exec_ready h (exec_chanSendBlock ..) ?_, ?_, ?_, ?_⟩
  · rw [Cc.pendHere_none hpc, if_neg (by simp), hv, State.ccSend_open hn halign hopen hroom, if_pos rfl]
  · rw [hnext, State.sctx_ccStart]
  · rw [hcc]
  · rw [hcc]

/-- CHAN.CLOSE of an opening context whose handshake is unanswered: it closes, and the core waits (R303). -/
theorem chanClose_effect {rd rs1 : BitVec 5} (h : s.ccReady p) (hn : n < 256) (hv : (s.cc p).r rs1 = w64 n) (hopening : (s.sctx p n).state = 1)
    (hreq : (s.sctx p n).req.isSome = true) (hpc : ((s.cc p).pends.all fun o => o.addr != (s.cc p).pc) = true) :
    ∃ t, exec (.chanClose p rd rs1) s = .next t ∧ (t.sctx p n).state = 4 ∧ (t.cc p).pc = (s.cc p).pc ∧
      (t.cc p).pends = ((s.cc p).pends.filter fun o => o.ctx != n) ++ [⟨(s.cc p).pc, .chanClose, n, 0, 0, none⟩] := by
  have h0 : fld ((s.cc p).r rs1) 0 8 = n := by rw [hv, fld_w64 (by omega)]; omega
  let s₁ := (s.updCc p fun c => { c with pends := c.pends.filter fun o => o.ctx != n }).ccStart p .chanClose n 0
  let t := s₁.updCtx p n fun c => { c with state := 4 }
  have hctx : s₁.sctx p n = s.sctx p n := (State.sctx_ccStart ..).trans (State.sctx_updCc ..)
  have hclose : s₁.chClose p n = t := by
    rw [State.chClose, hctx, if_pos hopening, if_neg (by simpa [Option.ne_none_iff_isSome] using hreq)]
  have hcc : t.cc p = { s.cc p with
      pends := ((s.cc p).pends.filter fun o => o.ctx != n) ++ [⟨(s.cc p).pc, .chanClose, n, 0, 0, none⟩] } := by
    rw [(onlyCtx_updCtx _).1, State.cc_ccStart, State.cc_updCc_same]
  have hstall : t.ccFinish p .chanClose rd = t := by
    refine ccFinish_started (l := (s.cc p).pends.filter fun o => o.ctx != n) (n := n) (seq := 0) ?_ (by rw [hcc])
    rw [hcc]
    exact List.all_eq_true.2 fun o ho => List.all_eq_true.1 hpc o (List.mem_filter.1 ho).1
  refine ⟨t, exec_ready h (exec_chanClose ..) ?_, congrArg SendCtx.state (State.sctx_updCtx_same ..), by rw [hcc], by rw [hcc]⟩
  dsimp only
  rw [Cc.pendHere_none hpc, h0, if_neg (by simp), hopening, if_neg (by omega), hctx, hopening, if_neg (by omega), hclose, hstall]

/-- Settles O10: each instruction by its effect on one send context and on the record of its operation. -/
theorem channelInstructions : Obligations.ChannelInstructions := by
  intro s p rd rs1 rs2 n dest q h hrd hdest c x
  refine ⟨fun hpc hv hfree => chanOpen_effect h hdest hpc hv hfree, fun hn hv halign hopen hroom =>
    ⟨chanSend_effect h hrd hn hv halign hopen hroom, fun hpc => chanSendBlock_effect h hn hv halign hopen hroom hpc⟩,
    fun hn hv hopening hreq hpc => chanClose_effect h hn hv hopening hreq hpc, fun o v hpend hres => ?_⟩
  have hsome : (c.pendHere o.kind).isSome = true := by rw [hpend]; rfl
  cases hkind : o.kind <;> rw [hkind] at hpend hsome <;> refine ccFinish_value hrd hpend hres ?_
  · exact exec_ready h (exec_chanOpen ..) (if_pos hsome)
  · exact exec_ready h (exec_chanSendBlock ..) (if_pos hsome)
  · exact exec_ready h (exec_chanClose ..) (if_pos hsome)

end Sys2Proof.Machine
end

section
/-! SUPPORT. What moving data to and from the scratchpad of one site leaves alone: all state but the cells, the queue of write-backs, the counts and
records of the accesses, events and the counter of free values (R165, R199-R202, R210). -/

namespace Sys2Proof.Machine

variable {s t r : State} {p : Fin 168}

/-- Whether a register offset counts grants or belongs to the protection of stored data; the patrol scrub and the remap entries aside. -/
def dataReg (o : Nat) : Prop :=
  (0x18500020 ≤ o ∧ o < 0x18500050) ∨ o = 0x18508000 ∨ (0x18508020 ≤ o ∧ o < 0x18508100) ∨ (0x18508180 ≤ o ∧ o < 0x18508400)

/-- The second state differs from the first in what moving data at a site changes. -/
def State.onlyData (s t : State) (p : Fin 168) : Prop :=
  { t with free := s.free, regs := s.regs, sites := s.sites, scratch := s.scratch, eventSeq := s.eventSeq, events := s.events,
           unacked := s.unacked, evRings := s.evRings, sessions := s.sessions } = s ∧
    (∀ u o, u ≠ .bar0 → ¬ dataReg (o % 2 ^ 29) → t.reg u o = s.reg u o) ∧
    (∀ q, q ≠ p → t.site q = s.site q) ∧ ∃ l, t.site p = { s.site p with writeBacks := l }

namespace State.onlyData

theorem rfl' : s.onlyData s p := ⟨rfl, fun _ _ _ _ => rfl, fun _ _ => rfl, _, rfl⟩

theorem trans (h : s.onlyData t p) (k : t.onlyData r p) : s.onlyData r p := by
  obtain ⟨h₁, h₂, h₃, l, hl⟩ := h
  obtain ⟨k₁, k₂, k₃, m, hm⟩ := k
  refine ⟨?_, fun u o hu ho => (k₂ u o hu ho).trans (h₂ u o hu ho), fun q hq => (k₃ q hq).trans (h₃ q hq), m, by rw [hm, hl]⟩
  conv_rhs => rw [← h₁, ← k₁]

theorem ofEvents {ks : List (RegUnit × Nat)} (h : s.onlyEvents t ks) (hk : ∀ k ∈ ks, dataReg (k.2 % 2 ^ 29)) : s.onlyData t p :=
  ⟨(congrArg (fun x : State => { x with free := s.free, sites := s.sites, scratch := s.scratch }) h.1 :),
    fun _ _ hu ho => h.reg hu fun k hm => regKey_ne fun e => ho (e ▸ hk k hm),
    fun _ _ => by rw [State.site, h.sites]; rfl, _, by rw [State.site, h.sites]; rfl⟩

theorem ofSetReg (u : RegUnit) {o : Nat} (v : W64) (ho : dataReg (o % 2 ^ 29)) : s.onlyData (s.setReg u o v) p :=
  .ofEvents (onlyEvents_setReg u o v) (by simpa using ho)

theorem ofWriteBacks (f : List Nat → List Nat) : s.onlyData (s.updSite p fun x => { x with writeBacks := f x.writeBacks }) p :=
  ⟨rfl, fun _ _ _ _ => rfl, fun _ hq => s.site_updSite_other _ hq, _, s.site_updSite_same p _⟩

theorem ofScratch (m : Memory) : s.onlyData { s with scratch := m } p := ⟨rfl, fun _ _ _ _ => rfl, fun _ _ => rfl, _, rfl⟩

theorem ofDraw : s.onlyData s.draw p := ⟨rfl, fun _ _ _ _ => rfl, fun _ _ => rfl, _, rfl⟩

variable (h : s.onlyData t p)
include h

theorem net : t.net = s.net := (congrArg State.net h.1 :)
theorem flash : t.flash = s.flash := (congrArg State.flash h.1 :)
theorem activeSouth : t.activeSouth = s.activeSouth := (congrArg State.activeSouth h.1 :)

theorem reg {u : RegUnit} {o : Nat} (hu : u ≠ .bar0) (ho : ¬ dataReg (o % 2 ^ 29)) : t.reg u o = s.reg u o := h.2.1 u o hu ho

theorem rf {u : RegUnit} {o : Nat} (hu : u ≠ .bar0) (ho : ¬ dataReg (o % 2 ^ 29)) (lo w : Nat) : t.rf u o lo w = s.rf u o lo w :=
  State.rf_of_reg (h.reg hu ho) lo w

theorem cc (q : Fin 168) : t.cc q = s.cc q := by
  obtain ⟨-, -, hother, l, hsame⟩ := h
  by_cases hq : q = p
  · rw [hq, State.cc, hsame]; rfl
  · rw [State.cc, hother q hq]; rfl

theorem ring (n : Nat) : t.ring p n = s.ring p n := by
  obtain ⟨-, -, -, l, hl⟩ := h
  rw [State.ring, hl]
  rfl

theorem quiet : t.quiet p = s.quiet p := by
  obtain ⟨-, -, -, l, hl⟩ := h
  rw [State.quiet, hl]
  rfl

theorem sameRemaps : s.sameRemaps t :=
  fun _ d e hd he => h.reg (by simp) (by unfold dataReg; omega)

theorem sameMap : s.sameMap t :=
  ⟨h.sameRemaps, fun _ n hn => h.reg (by simp) (by unfold dataReg; omega)⟩

end State.onlyData

/-! ## Reads -/

theorem onlyData_grants {client : Nat} (hc : client < 6) (off len : Nat) : s.onlyData (s.grants p client off len) p := by
  unfold State.grants
  split
  · exact .rfl'
  · exact .ofSetReg _ _ (by unfold dataReg; omega)

theorem onlyData_watch (die bank row weight : Nat) : s.onlyData (s.watch p die bank row weight) p := by
  refine .ofEvents (onlyEvents_watch ..) fun k hk => ?_
  have := s.watchSlot_lt p die bank row
  simp only [List.mem_cons, List.not_mem_nil, or_false] at hk
  unfold dataReg
  rcases hk with rfl | rfl <;> omega

theorem onlyData_queueWriteBack (gran : Nat) : s.onlyData (s.queueWriteBack p gran) p := by
  unfold State.queueWriteBack
  dsimp only
  split
  · exact .rfl'
  · split
    · exact ⟨rfl, fun _ _ _ _ => rfl, fun _ hq => s.site_updSite_other _ hq, _, s.site_updSite_same p _⟩
    · exact .ofEvents (onlyEvents_count32 ..) (by simp [dataReg])

theorem onlyData_recordOrigin (off client : Nat) (classS : Bool) : s.onlyData (s.recordOrigin p off client classS) p := by
  unfold State.recordOrigin
  extract_lets t n s₁ s₂
  have hn : n < 16 := by
    simp only [n]
    split
    next h => exact lowest_lt h
    next => exact foldl_pick_lt (by norm_num) fun b k => t k < t b
  have h₁ : s.onlyData s₁ p := .ofSetReg _ _ (by unfold dataReg; omega)
  have h₂ : s₁.onlyData s₂ p := .ofSetReg _ _ (by unfold dataReg; omega)
  exact (h₁.trans h₂).trans (.ofEvents (onlyEvents_event ..) (by simp))

theorem onlyData_noteRead (off client : Nat) (words : List Nat) (g : GranRead) : s.onlyData (s.noteRead p off client words g) p := by
  have hd : offDie off < 2 := Nat.mod_lt _ (by norm_num)
  unfold State.noteRead
  extract_lets o die s₁ s₂ s₃ s₄
  have h₁ : s.onlyData s₁ p := .ofEvents (onlyEvents_count32n ..) (by simp only [List.mem_singleton, forall_eq, dataReg]; omega)
  have h₂ : s₁.onlyData s₂ p := .ofEvents (onlyEvents_count32n ..) (by simp only [List.mem_singleton, forall_eq, dataReg]; omega)
  have h₃ : s₂.onlyData s₃ p := by
    simp only [s₃]
    split
    · exact .rfl'
    · exact onlyData_watch ..
  have h₄ := ((h₁.trans h₂).trans h₃).trans (onlyData_queueWriteBack (off / 64))
  split
  · exact .rfl'
  · split
    · exact h₄
    · exact h₄.trans (onlyData_recordOrigin ..)

theorem onlyData_readGrans (client : Nat) : ∀ (n : Nat) (s : State) (off : Nat), s.onlyData (s.readGrans p client off n).1 p
  | 0, _, _ => .rfl'
  | n + 1, s, off => (onlyData_noteRead off client [0, 1, 2, 3] (s.granAt p off)).trans (onlyData_readGrans client n _ (off + 64))

theorem onlyData_freeHot (hot : List (Nat × Nat)) : ∀ (l : List Flit) (s : State) (off : Nat),
    s.onlyData (State.freeHot hot s off l).1 p
  | [], _, _ => .rfl'
  | f :: l, s, off => by
    rw [State.freeHot]
    split
    · exact State.onlyData.ofDraw.trans (onlyData_freeHot hot l s.draw (off + 64))
    · exact onlyData_freeHot hot l s (off + 64)

theorem onlyData_engRead {client : Nat} (hc : client < 6) (off len : Nat) : s.onlyData (s.engRead p client off len).1 p :=
  ((onlyData_grants hc ..).trans (onlyData_readGrans ..)).trans (onlyData_freeHot ..)

theorem onlyData_poisonConsumed (consumer addr : Nat) (gran : Option Nat) : s.onlyData (s.poisonConsumed p consumer addr gran) p :=
  .ofEvents ((onlyEvents_count32 ..).trans (onlyEvents_raise _)) (by simp [dataReg])

/-! ## Writes -/

theorem onlyData_dropWriteBack (off : Nat) : s.onlyData (s.dropWriteBack p off) p := by
  unfold State.dropWriteBack
  split
  · exact .ofWriteBacks fun l => l.filter (· != off / 64)
  · exact .rfl'

theorem onlyData_writeWide (off : Nat) (f : Flit) : s.onlyData (s.writeWide p off f) p :=
  (State.onlyData.ofScratch _).trans (onlyData_dropWriteBack off)

theorem onlyData_writeGrans : ∀ (l : List Flit) (s : State) (off : Nat), s.onlyData (s.writeGrans p off l) p
  | [], _, _ => .rfl'
  | f :: l, _, off => (onlyData_writeWide off f).trans (onlyData_writeGrans l _ (off + 64))

theorem onlyData_reduceGran (off : Nat) (f : Flit) : s.onlyData (s.reduceGran p off f) p :=
  ((onlyData_noteRead off 3 [0, 1, 2, 3] (s.granAt p off)).trans (.ofScratch _)).trans (onlyData_dropWriteBack off)

theorem onlyData_reduceGrans : ∀ (l : List Flit) (s : State) (off : Nat), s.onlyData (s.reduceGrans p off l) p
  | [], _, _ => .rfl'
  | f :: l, _, off => (onlyData_reduceGran off f).trans (onlyData_reduceGrans l _ (off + 64))

theorem onlyData_engWrite (hot : List (Nat × Nat)) (who : Nat) : ∀ (l : List Flit) (s : State) (off : Nat),
    s.onlyData (State.engWrite hot s p who off l).1 p
  | [], _, _ => .rfl'
  | f :: l, s, off => by
    rw [State.engWrite]
    split
    · exact onlyData_engWrite hot who l s (off + 64)
    · exact .rfl'
    · split
      · exact (State.onlyData.ofDraw.trans (onlyData_writeWide ..)).trans (onlyData_engWrite hot who l _ (off + 64))
      · exact (onlyData_writeWide ..).trans (onlyData_engWrite hot who l _ (off + 64))

end Sys2Proof.Machine
end

section
/-! SUPPORT. What a mover descriptor's start leaves of its site: the control core, every ring and whether the stop is quiet; and how many packets
it sends (R184, R186, R187). -/

namespace Sys2Proof.Machine

variable {s t u : State} {p : Site}

/-- A site's control core and rings are as they were, and its stop is as quiet. -/
def State.keepsMover (s t : State) (p : Fin 168) : Prop :=
  t.cc p = s.cc p ∧ (∀ n, t.ring p n = s.ring p n) ∧ t.quiet p = s.quiet p

namespace State.keepsMover

theorem rfl' : s.keepsMover s p := ⟨rfl, fun _ => rfl, rfl⟩

theorem trans (h : s.keepsMover t p) (k : t.keepsMover u p) : s.keepsMover u p := by
  obtain ⟨hcc, hring, hquiet⟩ := h
  obtain ⟨kcc, kring, kquiet⟩ := k
  exact ⟨kcc.trans hcc, fun n => (kring n).trans (hring n), kquiet.trans hquiet⟩

theorem ofData (h : s.onlyData t p) : s.keepsMover t p := ⟨h.cc p, h.ring, h.quiet⟩

theorem ofSites (h : t.sites = s.sites) : s.keepsMover t p := by
  have hsite : t.site p = s.site p := by rw [State.site, State.site, h]
  exact ⟨by rw [State.cc, hsite]; rfl, fun n => by rw [State.ring, hsite]; rfl, by rw [State.quiet, hsite]; rfl⟩

end State.keepsMover

/-- A request notes its payload, or that attempts are spoiled (R527, R528, R530). -/
theorem rings_noteRequest (k : Packet) : ((s.noteRequest p k).site p).rings = (s.site p).rings := by
  unfold State.noteRequest
  split
  · rw [State.site_updSite_same]
    split <;> rfl
  · refine Sparse.get_map_keep (f := SiteSt.rings) (fun e => ?_) SiteSt.init p.val s.sites
    split
    · split <;> rfl
    · rfl

theorem keepsMover_noteRequest (k : Packet) : s.keepsMover (s.noteRequest p k) p :=
  ⟨(keepsChans_noteRequest k).cc, fun n => congrArg (Sparse.get MvRing.init · n) (rings_noteRequest k), (keepsChans_noteRequest k).quiet⟩

/-- The second state has what the mover of a site works on as the first has it, and, unless the stop is quiet, a number of packets more in flight. -/
def State.sends (s t : State) (p : Fin 168) (n : Nat) : Prop :=
  s.keepsMover t p ∧ (s.quiet p = false → t.net.length = s.net.length + n)

theorem State.sends.trans {a b : Nat} (h : s.sends t p a) (k : t.sends u p b) : s.sends u p (a + b) := by
  obtain ⟨hkeep, hnet⟩ := h
  obtain ⟨kkeep, knet⟩ := k
  refine ⟨hkeep.trans kkeep, fun hq => ?_⟩
  rw [knet (hkeep.2.2.trans hq), hnet hq, Nat.add_assoc]

theorem State.sends.ofData (h : s.onlyData t p) : s.sends t p 0 := ⟨.ofData h, fun _ => by rw [h.net, Nat.add_zero]⟩

/-- A mover request is one packet (R187). -/
theorem sends_mvSend (k : Packet) (land : Nat) : s.sends (s.mvSend p k land).1 p 1 := by
  have hnote := keepsMover_noteRequest (s := s) (p := p) k
  have hsent : (s.noteRequest p k).keepsMover ((s.noteRequest p k).inject (.stop p) k) p := .ofSites (onlyStepFail_inject ..).sites
  refine ⟨(hnote.trans hsent).trans ⟨?_, fun n => ?_, ?_⟩, fun hq => ?_⟩
  · simp [State.mvSend, State.cc]
  · simp [State.mvSend, State.ring]
  · simp [State.mvSend, State.quiet]
  · exact (State.inject_sends (hnote.2.2.trans hq) k).trans (by rw [net_noteRequest])

/-- A sweep in which each element sends one packet and adds one request. -/
theorem foldl_sends {α β : Type} {f : State × β → α → State × β} {reqs : β → List MvReq}
    (hf : ∀ a x, a.1.sends (f a x).1 p 1 ∧ (reqs (f a x).2).length = (reqs a.2).length + 1) : ∀ (l : List α) (a : State × β),
    a.1.sends (l.foldl f a).1 p l.length ∧ (reqs (l.foldl f a).2).length = (reqs a.2).length + l.length
  | [], _ => ⟨⟨.rfl', fun _ => rfl⟩, rfl⟩
  | x :: l, a => by
    obtain ⟨hsend, hlen⟩ := hf a x
    obtain ⟨ksend, klen⟩ := foldl_sends hf l (f a x)
    rw [List.foldl_cons, List.length_cons, klen, hlen, Nat.add_comm l.length 1]
    exact ⟨hsend.trans ksend, by omega⟩

/-- A piece of an outgoing descriptor is read and sent, and its poison told of (R186, R188). -/
theorem mvOut_effect (d : Desc) (a : State × List MvReq × Bool) (x : Nat × Nat × Nat) :
    a.1.sends (State.mvOut p d a x).1 p 1 ∧ (State.mvOut p d a x).2.1.length = a.2.1.length + 1 := by
  unfold State.mvOut
  extract_lets r fs bad fs' typ y w
  have hread : a.1.sends r.1 p 0 := .ofData (onlyData_engRead (by norm_num) ..)
  have hsend : r.1.sends y.1 p 1 := sends_mvSend ..
  have hpoison : y.1.sends w p 0 := by
    simp only [w]
    split
    · exact .ofData (onlyData_poisonConsumed ..)
    · exact .ofData .rfl'
  exact ⟨(hread.trans hsend).trans hpoison, by simp⟩

/-- A piece of an incoming descriptor is asked for (R184). -/
theorem mvIn_effect (d : Desc) (a : State × List MvReq) (x : Nat × Nat × Nat) :
    a.1.sends (State.mvIn p d a x).1 p 1 ∧ (State.mvIn p d a x).2.length = a.2.length + 1 :=
  ⟨sends_mvSend _ x.1, by simp [State.mvIn]⟩

/-! ## Raw rows (R170, R522) -/

/-- Rows written change cells alone. -/
theorem State.putRows_frame (rva : Nat) (rows : List (List Byte)) : { s.putRows rva rows with scratch := s.scratch } = s :=
  List.foldlRecOn (motive := fun t : State => { t with scratch := s.scratch } = s) _ _ rfl fun _ ht _ _ => ht

theorem State.sites_putRows (rva : Nat) (rows : List (List Byte)) : (s.putRows rva rows).sites = s.sites :=
  (congrArg State.sites (s.putRows_frame rva rows) :)

theorem State.sites_remapValid (die bank row : Nat) : (s.remapValid p die bank row).sites = s.sites := by
  unfold State.remapValid
  refine List.foldlRecOn (motive := fun t : State => t.sites = s.sites) _ _ rfl fun t ht e _ => ?_
  dsimp only
  split
  · rw [State.setReg_sites, ht]
  · exact ht

end Sys2Proof.Machine
end

section
/-! O17: mover descriptors start. -/

namespace Sys2Proof.Machine

variable {s u : State} {p : Site} {n : Nat} {d : Desc} {rest : List Desc}

/-- The head of a ring has become its running descriptor, and nothing else of the site's rings and control core has changed. -/
def State.mvStarted (s t : State) (p : Site) (n : Nat) (d : Desc) (rest : List Desc) (x : MvRun) : Prop :=
  (t.ring p n).queue = rest ∧ (∀ m, m ≠ n → t.ring p m = s.ring p m) ∧ t.cc p = s.cc p ∧ (t.ring p n).run = some x ∧ x.desc = d ∧ x.reason = 0

theorem mvBegin_started (hkeep : s.keepsMover u p) (hq : (s.ring p n).queue = d :: rest) {x : MvRun} (hdesc : x.desc = d)
    (hreason : x.reason = 0) : s.mvStarted (u.mvBegin p n x) p n d rest x := by
  obtain ⟨hcc, hring, -⟩ := hkeep
  unfold State.mvBegin
  refine ⟨?_, fun m hm => (State.ring_updRing_other _ hm).trans (hring m), (State.cc_updRing ..).trans hcc, ?_, hdesc, hreason⟩
  · rw [State.ring_updRing_same, hring, hq]
    rfl
  · rw [State.ring_updRing_same]

/-- A descriptor that passes every check and meets no region's pointer has its opcode's own effect. -/
theorem mvStart_go {op : Nat} {go : State → Desc → State} (hq : (s.ring p n).queue = d :: rest) (hready : s.mvReady p n = true)
    (hop : mvOp d = op) (hcheck : s.mvCheck p n d = none)
    (hregions : (if mvWritesLocal d then s.writesOk p 3 (mvSpans d) else s.spansReadable p 3 (mvSpans d)) = .ok) :
    s.mvStart p n op go = go s d := by
  unfold State.mvStart
  simp [hq, hready, hop, hcheck, hregions]

theorem runOut_effect (hq : (s.ring p n).queue = d :: rest) : ∃ x, s.mvStarted (s.runOut p n d) p n d rest x ∧
    x.reqs.length = (mvPieces d).length ∧ (s.quiet p = false → (s.runOut p n d).net.length = s.net.length + (mvPieces d).length) := by
  obtain ⟨⟨hkeep, hnet⟩, hlen⟩ := foldl_sends (p := p) (reqs := Prod.fst) (mvOut_effect d) (mvPieces d) (s, [], false)
  exact ⟨_, mvBegin_started hkeep hq rfl rfl, hlen.trans (Nat.zero_add _), hnet⟩

theorem runIn_effect (hq : (s.ring p n).queue = d :: rest) : ∃ x, s.mvStarted (s.runIn p n d) p n d rest x ∧
    x.reqs.length = (mvPieces d).length ∧ (s.quiet p = false → (s.runIn p n d).net.length = s.net.length + (mvPieces d).length) := by
  obtain ⟨⟨hkeep, hnet⟩, hlen⟩ := foldl_sends (p := p) (reqs := id) (mvIn_effect d) (mvPieces d) (s, [])
  exact ⟨_, mvBegin_started hkeep hq rfl rfl, hlen.trans (Nat.zero_add _), hnet⟩

theorem runPattern_effect (hq : (s.ring p n).queue = d :: rest) (pattern : Nat) : ∃ x, s.mvStarted (s.runPattern p n d pattern) p n d rest x ∧
    x.reqs = [] ∧ x.writes = mvSpans d := by
  unfold State.runPattern
  extract_lets g t
  have hwrite : s.keepsEngines t p := keepsEngines_engWrites (by norm_num) ..
  obtain ⟨⟨l, hsite⟩, -⟩ := hwrite
  have hkeep : s.keepsMover t p := ⟨by rw [State.cc, hsite]; rfl, fun n => by rw [State.ring, hsite]; rfl, by rw [State.quiet, hsite]; rfl⟩
  exact ⟨_, mvBegin_started hkeep hq rfl rfl, rfl, rfl⟩

theorem runRowCopy_effect (hq : (s.ring p n).queue = d :: rest) : ∃ x, s.mvStarted (s.runRowCopy p n d) p n d rest x ∧
    x.reqs.length = if mvRemote d / 2 ^ 20 % 256 = p.val then 0 else (mvRows d + 2) / 3 := by
  unfold State.runRowCopy
  extract_lets dst t v y
  split
  · have hsites : v.sites = s.sites :=
      List.foldlRecOn (motive := fun w : State => w.sites = s.sites) _ _ (State.sites_putRows ..) fun w hw _ _ =>
        State.sites_remapValid .. |>.trans hw
    exact ⟨_, mvBegin_started (.ofSites hsites) hq rfl rfl, rfl⟩
  · obtain ⟨⟨hkeep, -⟩, hlen⟩ : s.sends y.1 p (List.range ((mvRows d + 2) / 3)).length ∧
        y.2.length = ([] : List MvReq).length + (List.range ((mvRows d + 2) / 3)).length :=
      foldl_sends (reqs := id) (fun a _ => ⟨sends_mvSend _ 0, List.length_append ..⟩) _ (s, [])
    exact ⟨_, mvBegin_started hkeep hq rfl rfl, hlen.trans (by simp)⟩

/-- What recording a mover descriptor leaves of the other rings. -/
theorem State.ring_mvRecord_other {m : Nat} (x : MvRun) (hm : m ≠ n) : (s.mvRecord p n x).ring p m = s.ring p m := by
  have hkeep : (s.updRing p n fun r => { r with run := none }).keepsEngines
      ((s.updRing p n fun r => { r with run := none }).putRecord p (s.rn (.site p) 0x18502200) (s.rn (.site p) 0x18502208)
        (recordBytes (mvToken x.desc) x.reason (if x.poison then 8 else 0) (mvOp x.desc) n (Config.free64 s.free))) p :=
    keepsEngines_putRecord ..
  exact (hkeep.ring m).trans (State.ring_updRing_other _ hm)

/-- SYNC completes at once (R186, R189). -/
theorem sync_effect (hn : n < 9) (hq : (s.ring p n).queue = d :: rest) :
    let t := (s.mvBegin p n (MvRun.of d 0)).mvComplete p n (MvRun.of d 0)
    (t.ring p n).queue = rest ∧ (∀ m, m ≠ n → t.ring p m = s.ring p m) ∧ (t.ring p n).run = none ∧
      t.reg (.site p) (0x18502010 + 32 * n) = s.reg (.site p) (0x18502010 + 32 * n) + 1 := by
  obtain ⟨hqueue, hother, -⟩ := mvBegin_started (x := MvRun.of d 0) (.rfl') hq rfl rfl
  obtain ⟨hring, -, -, hdone⟩ := State.mvRecord_effect (s := s.mvBegin p n (MvRun.of d 0)) (p := p) hn (MvRun.of d 0)
  have ht : (s.mvBegin p n (MvRun.of d 0)).mvComplete p n (MvRun.of d 0) = (s.mvBegin p n (MvRun.of d 0)).mvRecord p n (MvRun.of d 0) := by
    rw [mvComplete_eq rfl, if_neg (by simp [MvRun.of])]
    rfl
  rw [ht]
  exact ⟨by rw [hring]; exact hqueue, fun m hm => (State.ring_mvRecord_other _ hm).trans (hother m hm), by rw [hring], hdone⟩

/-- Settles O17: a head that passes its checks has its opcode's own effect. -/
theorem moverStarts : Obligations.MoverStarts := by
  intro s p ring op i d rest hi r hq hready hop hcheck hregions
  have hgo : ∀ go, s.mvStart p ring.val op go = go s d := fun go => mvStart_go hq hready hop hcheck hregions
  simp only [List.mem_cons, Prod.mk.injEq, List.not_mem_nil, or_false] at hi
  by_cases h8 : op = 8
  · obtain rfl : i = .mvSync p ring := by simpa [h8] using hi
    obtain ⟨hqueue, hother, hrun, hdone⟩ := sync_effect (s := s) (p := p) ring.isLt hq
    exact ⟨_, by rw [exec_mvSync, execMvSync, ← h8, hgo], hqueue, hother, fun h => absurd h8 h, fun _ => ⟨hrun, hdone⟩⟩
  · obtain ⟨t, x, hexec, ⟨hqueue, hother, hcc, hrun, hdesc, hreason⟩, hcopy, hfill, hrows⟩ : ∃ t x, exec i s = .next t ∧
        s.mvStarted t p ring.val d rest x ∧
        (op ≤ 4 → x.reqs.length = (mvPieces d).length ∧ (s.quiet p = false → t.net.length = s.net.length + (mvPieces d).length)) ∧
        ((op = 5 ∨ op = 6) → x.reqs = [] ∧ x.writes = mvSpans d) ∧
        (op = 7 → x.reqs.length = if mvRemote d / 2 ^ 20 % 256 = p.val then 0 else (mvRows d + 2) / 3) := by
      obtain ⟨xo, hxo, hout⟩ := runOut_effect (s := s) (p := p) hq
      obtain ⟨xi, hxi, hin⟩ := runIn_effect (s := s) (p := p) hq
      obtain ⟨xf, hxf, hpat⟩ := runPattern_effect (s := s) (p := p) hq (mvRemote d)
      obtain ⟨xz, hxz, hzero⟩ := runPattern_effect (s := s) (p := p) hq 0
      obtain ⟨xr, hxr, hrow⟩ := runRowCopy_effect (s := s) (p := p) hq
      rcases hi with ⟨rfl, rfl⟩ | ⟨rfl, rfl⟩ | ⟨rfl, rfl⟩ | ⟨rfl, rfl⟩ | ⟨rfl, rfl⟩ | ⟨rfl, rfl⟩ | ⟨rfl, rfl⟩ | ⟨h, -⟩
      · exact ⟨_, xo, by rw [exec_mvCopyOut, execMvCopyOut, hgo], hxo, fun _ => hout, fun h => by omega, fun h => by omega⟩
      · exact ⟨_, xi, by rw [exec_mvCopyIn, execMvCopyIn, hgo], hxi, fun _ => hin, fun h => by omega, fun h => by omega⟩
      · exact ⟨_, xo, by rw [exec_mvHostOut, execMvHostOut, hgo], hxo, fun _ => hout, fun h => by omega, fun h => by omega⟩
      · exact ⟨_, xi, by rw [exec_mvHostIn, execMvHostIn, hgo], hxi, fun _ => hin, fun h => by omega, fun h => by omega⟩
      · exact ⟨_, xf, by rw [exec_mvFill, execMvFill, hgo], hxf, fun h => by omega, fun _ => hpat, fun h => by omega⟩
      · exact ⟨_, xz, by rw [exec_mvZero, execMvZero, hgo], hxz, fun h => by omega, fun _ => hzero, fun h => by omega⟩
      · exact ⟨_, xr, by rw [exec_mvRowCopy, execMvRowCopy, hgo], hxr, fun h => by omega, fun h => by omega, fun _ => hrow⟩
      · exact absurd h h8
    exact ⟨t, hexec, hqueue, hother, fun _ => ⟨hcc, x, hrun, hdesc, hreason, hcopy, hfill, hrows⟩, fun h => absurd h h8⟩

end Sys2Proof.Machine
end

section
/-! O20: region advances, patrol scrub, write-backs, watch entries and remaps. -/

namespace Sys2Proof.Machine

variable {s t : State} {p : Site}

/-! ## REGn_ADV (R180) -/

theorem regAdv_effect {region : BitVec 6} {head : Bool} {amount : BitVec 32} (hruns : s.coreRuns p = true)
    (hok : s.regAdvBad p region.toNat head amount.toNat = false) :
    exec (.regAdv p region head amount) s = .next (s.regAdvance p region.toNat head amount.toNat) := by
  rw [exec_regAdv, execRegAdv, if_pos hruns, if_neg (by simp [hok])]

/-- HEAD moves and TAIL stays. -/
theorem regAdvance_head (n amount : Nat) : let t := s.regAdvance p n true amount
    t.regionHead p n = (s.regionHead p n + amount) % 2 ^ 64 ∧ t.regionTail p n = s.regionTail p n ∧ t.sites = s.sites ∧ t.scratch = s.scratch := by
  refine ⟨?_, ?_, rfl, rfl⟩
  · exact (congrArg BitVec.toNat (State.reg_setReg_same ..)).trans (BitVec.toNat_ofNat ..)
  · exact congrArg BitVec.toNat (State.reg_setReg_off _ _ (by omega))

/-- TAIL moves and HEAD stays. -/
theorem regAdvance_tail (n amount : Nat) : let t := s.regAdvance p n false amount
    t.regionTail p n = (s.regionTail p n + amount) % 2 ^ 64 ∧ t.regionHead p n = s.regionHead p n ∧ t.sites = s.sites ∧ t.scratch = s.scratch := by
  refine ⟨?_, ?_, rfl, rfl⟩
  · exact (congrArg BitVec.toNat (State.reg_setReg_same ..)).trans (BitVec.toNat_ofNat ..)
  · exact congrArg BitVec.toNat (State.reg_setReg_off _ _ (by omega))

/-! ## Patrol scrub (R203, R204) -/

theorem State.scratch_grants (client off len : Nat) : (s.grants p client off len).scratch = s.scratch := by
  unfold State.grants
  split <;> rfl

/-- A line scrubbed leaves cells and the patrol's own registers as they are. -/
theorem scrubLine_effect (off : Nat) : s.onlyData (s.scrubLine p off) p ∧ (s.scrubLine p off).scratch = s.scratch := by
  unfold State.scrubLine
  split
  · obtain ⟨⟨hcells, -⟩, -⟩ := readGrans_spec p 5 8 (s.grants p 4 off 512) off
    exact ⟨(onlyData_grants (by norm_num) ..).trans (onlyData_readGrans ..), hcells.trans (State.scratch_grants ..)⟩
  · exact ⟨.rfl', rfl⟩

theorem scrubLineRead_effect {x : ScrubPass} {off next : Nat} (hruns : s.scrubRuns p = true) (hperiod : s.scrubPeriod p ≠ 0)
    (hpass : (s.site p).scrubPass = some x) (hoff : scrubLineAt x.spans x.done = some off)
    (hnext : scrubLineAt x.spans (x.done + 1) = some next) : ∃ t, exec (.scrubLineRead p) s = .next t ∧
      t.reg (.site p) 0x18508018 = s.reg (.site p) 0x18508018 + 1 ∧ t.reg (.site p) 0x18508010 = w64 next ∧
      (t.site p).scrubPass = some { x with done := x.done + 1 } ∧ t.scratch = s.scratch := by
  obtain ⟨hdata, hcells⟩ := scrubLine_effect (s := s) (p := p) off
  refine ⟨_, by rw [exec_scrubLineRead, execScrubLineRead, if_pos (by simp [hruns, hperiod]), hpass], ?_⟩
  simp only [State.scrubStep, hoff, hnext]
  refine ⟨?_, ?_, by rw [State.site_updSite_same], ?_⟩
  · rw [State.reg_updSite, State.reg_setReg_off _ _ (by norm_num), State.reg_count64_same, hdata.reg (by simp) (by norm_num [dataReg])]
    rfl
  · rw [State.reg_updSite, State.reg_setReg_same]
  · rw [State.updSite_scratch, State.setReg_scratch, State.count64_scratch, hcells]

theorem scrubBehind_effect {x : ScrubPass} (hpass : (s.site p).scrubPass = some x) (hbehind : x.behind = false) (hperiod : s.scrubPeriod p ≠ 0)
    (hlate : x.start + s.scrubPeriod p ≤ s.time) : ∃ t, exec (.scrubBehind p) s = .next t ∧ t.rf (.site p) 0x18508000 1 1 = 1 ∧
      (t.site p).scrubPass = some { x with behind := true } ∧ t.scratch = s.scratch := by
  let s₁ := s.updSite p fun y => { y with scrubPass := some { x with behind := true } }
  let s₂ := s₁.setRf (.site p) 0x18508000 1 1 1
  have hevent : s₂.onlyEvents (s₂.siteEvent p 0x1006 [scrubLines x.spans - x.done]) [] := onlyEvents_event ..
  refine ⟨s₂.siteEvent p 0x1006 [scrubLines x.spans - x.done], ?_, ?_, ?_, hevent.scratch⟩
  · rw [exec_scrubBehind, execScrubBehind, hpass]
    dsimp only
    rw [if_pos (by simp [hbehind, hperiod, hlate])]
  · rw [hevent.rf 1 1 (by simp) (by simp)]
    exact State.rf_setRf_same _ _ (by norm_num)
  · have hsite : (s₁.site p).scrubPass = some { x with behind := true } := by rw [State.site_updSite_same]
    rw [State.site, hevent.sites]
    exact hsite

/-! ## Write-backs (R200) -/

/-- What a write-back stores depends on cells and layout alone. -/
theorem State.sameCells.scratch_writeBackGran (h : s.sameCells t) (off : Nat) :
    (t.writeBackGran p off).scratch = (s.writeBackGran p off).scratch := by
  unfold State.writeBackGran
  rw [h.granAt]
  obtain ⟨hcells, -, -, hremaps⟩ := h
  simp only [State.putRaw, State.cellOf, hremaps.rawRow, hcells]

theorem sameCells_grants_client {client : Nat} (hc : client < 6) (off len : Nat) : s.sameCells (s.grants p client off len) := by
  unfold State.grants
  split
  · exact .rfl'
  · exact .ofSetReg _ _ _ (by unfold offRemaps; omega)

theorem writeBack_effect {k : Nat} {rest : List Nat} (hq : (s.site p).writeBacks = k :: rest) (hruns : s.scrubRuns p = true)
    (hon : s.segOn p (k * 64) = true) : ∃ t, exec (.writeBack p) s = .next t ∧ (t.site p).writeBacks = rest ∧
      t.scratch = (s.writeBackGran p (k * 64)).scratch := by
  refine ⟨_, by rw [exec_writeBack, execWriteBack, hq], ?_⟩
  simp only [hruns, hon, if_true]
  exact ⟨by rw [State.site_updSite_same], (sameCells_grants_client (by norm_num) ..).scratch_writeBackGran _⟩

/-! ## The watch (R201) -/

theorem watchEntryExpiry_effect (n : BitVec 5) (hvalid : bit (s.reg (.site p) (0x18508200 + 8 * n.toNat)) 63 = true)
    (hcount : fld (s.reg (.site p) (0x18508200 + 8 * n.toNat)) 61 2 < 3)
    (hold : hourTicks ≤ (s.time + 2 ^ 41 - fld (s.reg (.site p) (0x18508200 + 8 * n.toNat)) 0 41) % 2 ^ 41) :
    exec (.watchEntryExpiry p n) s = .next (s.setReg (.site p) (0x18508200 + 8 * n.toNat) 0) := by
  rw [exec_watchEntryExpiry, execWatchEntryExpiry]
  rw [if_pos (by rw [hvalid, decide_eq_true hcount, decide_eq_true hold]; rfl)]

/-! ## Remapping (R213) -/

theorem State.remapFree_lt {die bank e spare : Nat} (h : s.remapFree p die bank = some (e, spare)) : e < 8 := by
  unfold State.remapFree at h
  dsimp only at h
  split at h
  next i hi =>
    split at h
    · obtain ⟨rfl, -⟩ := Prod.mk.inj (Option.some.inj h)
      exact lowest_lt hi
    · cases h
  next => cases h

theorem onlyData_freeWatch (die bank row : Nat) : s.onlyData (s.freeWatch p die bank row) p := by
  refine List.foldlRecOn (motive := fun t : State => s.onlyData t p) _ _ .rfl' fun t ht n hn => ?_
  have hn' : n < 32 := List.mem_range.1 hn
  dsimp only
  split
  · exact ht.trans (.ofSetReg _ _ (by unfold dataReg; omega))
  · exact ht

/-- A granule of a row that a new entry names is put right (R213). -/
def State.mendGran (s : State) (p : Site) (off : Nat) : State :=
  let x := s.granAt p off
  let o := x.outcomes [0, 1, 2, 3]
  let s := s.noteRead p off 5 [0, 1, 2, 3] x
  if o.1 = 0 && o.2 = 0 then s else (s.writeBackGran p off).dropWriteBack p off

theorem onlyData_mendGran (off : Nat) : s.onlyData (s.mendGran p off) p := by
  unfold State.mendGran
  dsimp only
  split
  · exact onlyData_noteRead ..
  · exact ((onlyData_noteRead ..).trans (.ofScratch _)).trans (onlyData_dropWriteBack off)

theorem State.flash_putRow (q die bank row : Nat) (l : List Byte) : (s.putRow q die bank row l).flash = s.flash := rfl

theorem remapAdd_effect {die : BitVec 1} {n : BitVec 5} {row : BitVec 14} {e spare : Nat}
    (hfree : s.remapFree p die.toNat n.toNat = some (e, spare)) (hrow : row.toNat < 12288) :
    let image := w64 (2 ^ 63 + spare * 2 ^ 19 + n.toNat * 2 ^ 14 + row.toNat)
    ∃ t, exec (.remapAdd p die n row) s = .next t ∧ t.reg (.site p) (0x18508100 + 64 * die.toNat + 8 * e) = image ∧
      t.flash.remaps = s.flash.remaps ++ [(p.val * 2 + die.toNat, image)] := by
  intro image
  have he := State.remapFree_lt hfree
  have hdie := die.isLt
  let s₁ := (s.putRow p.val die.toNat n.toNat (12288 + spare) (s.rowBytes p.val die.toNat n.toNat row.toNat)).setReg (.site p)
    (0x18508100 + 64 * die.toNat + 8 * e) image
  let s₂ := (List.range 8).foldl (fun st g => st.mendGran p (rowOffset die.toNat n.toNat row.toNat g)) s₁
  let s₃ := (s₂.freeWatch p die.toNat n.toNat row.toNat).siteEvent p 0x1004 [die.toNat, n.toNat, row.toNat, spare]
  have hmend : s₁.onlyData s₂ p :=
    List.foldlRecOn (motive := fun t : State => s₁.onlyData t p) _ _ .rfl' fun _ ht _ _ => ht.trans (onlyData_mendGran _)
  have hdata : s₁.onlyData s₃ p := (hmend.trans (onlyData_freeWatch ..)).trans (.ofEvents (onlyEvents_event ..) (by simp))
  have hreg : s₃.reg (.site p) (0x18508100 + 64 * die.toNat + 8 * e) = image :=
    (hdata.reg (by simp) (by unfold dataReg; omega)).trans (State.reg_setReg_same ..)
  have hflash : s₃.flash = s.flash := by
    rw [hdata.flash, State.setReg_flash, State.flash_putRow]
  refine ⟨{ s₃ with flash.remaps := s₃.flash.remaps ++ [(p.val * 2 + die.toNat, image)] }, ?_, hreg, by rw [hflash]⟩
  · rw [exec_remapAdd, execRemapAdd]
    dsimp only
    rw [hfree]
    dsimp only
    rw [if_neg (by omega)]
    rfl

/-- Settles O20: each row by its own registers and cells. -/
theorem scratchpadProtectionRows : Obligations.ScratchpadProtectionRows := by
  intro s p region amount n die row u g v
  refine ⟨fun hruns hok => ⟨_, regAdv_effect hruns hok, regAdvance_head g amount.toNat⟩,
    fun hruns hok => ⟨_, regAdv_effect hruns hok, regAdvance_tail g amount.toNat⟩, fun _ _ _ => scrubLineRead_effect, fun _ => scrubBehind_effect,
    fun _ _ => writeBack_effect, fun hvalid hcount hold => ⟨_, watchEntryExpiry_effect n hvalid hcount hold, State.reg_setReg_same .., ?_, rfl⟩,
    fun _ _ => remapAdd_effect⟩
  intro m hm hne
  have := n.isLt
  exact State.reg_setReg_off _ _ (by omega)

end Sys2Proof.Machine
end

section
/-! O23: FEED and LAND buffers. -/

namespace Sys2Proof.Machine

variable {s t : State} {p : Site} {n : Nat}

@[simp] theorem State.slotBuf_setSlotBuf_same (l : List SbFlit) : (s.setSlotBuf p n l).slotBuf p n = l := by
  simp [State.slotBuf, State.setSlotBuf]

@[simp] theorem State.scratch_setSlotBuf (l : List SbFlit) : (s.setSlotBuf p n l).scratch = s.scratch := rfl

theorem State.onlyData.slotBuf (h : s.onlyData t p) (n : Nat) : t.slotBuf p n = s.slotBuf p n := by
  obtain ⟨-, -, -, l, hl⟩ := h
  rw [State.slotBuf, hl]
  rfl

theorem State.onlyData.regionHead (h : s.onlyData t p) {g : Nat} (hg : g < 64) : t.regionHead p g = s.regionHead p g :=
  congrArg BitVec.toNat (h.reg (by simp) (by unfold dataReg; omega))

/-- Advancing one HEAD beyond where it stands. -/
theorem State.regionHead_advanceHeads {g pos : Nat} (hg : g < 64) (hpos : s.regionHead p g < pos) (hfit : pos < 2 ^ 64) :
    (s.advanceHeads p [(g, pos)]).regionHead p g = pos := by
  rw [State.advanceHeads, List.foldl_cons, List.foldl_nil]
  dsimp only
  rw [Nat.mod_eq_of_lt hg, if_pos hpos]
  exact (congrArg BitVec.toNat (State.reg_setReg_same ..)).trans (toNat_w64 hfit)

@[simp] theorem State.slotBuf_advanceHeads (ends : List (Nat × Nat)) : (s.advanceHeads p ends).slotBuf p n = s.slotBuf p n := by
  refine List.foldlRecOn (motive := fun t : State => t.slotBuf p n = s.slotBuf p n) ends _ rfl fun t ht e _ => ?_
  split
  · exact ht
  · exact ht

theorem feedLineFetch_effect {buf : BitVec 6} (hup : s.coreDown p = false) (hmode : 2 ≤ s.regionMode p (s.sbRegion p buf.toNat))
    (hfeed : s.slotMode p buf.toNat = 2) (hroom : (s.slotBuf p buf.toNat).length ≤ 248)
    (hconsumer : s.regionConsumer p (s.sbRegion p buf.toNat) = 5) :
    let n := buf.toNat
    let pos := max (Sparse.get 0 (s.site p).feedPos n) (s.regionTail p (s.sbRegion p n))
    pos + 512 ≤ s.regionHead p (s.sbRegion p n) → s.spanOn p (s.regionOff p (s.sbRegion p n) pos) 512 = true →
      ∃ t, exec (.feedLineFetch p buf) s = .next t ∧ (t.slotBuf p n).length = (s.slotBuf p n).length + 8 ∧
        (t.slotBuf p n).take (s.slotBuf p n).length = s.slotBuf p n ∧ Sparse.get 0 (t.site p).feedPos n = pos + 512 ∧
        t.scratch = s.scratch := by
  intro n pos hline hon
  let off := s.regionOff p (s.sbRegion p n) pos
  let x := (s.grants p 3 off 512).readGrans p 3 off 8
  let flits := (x.2.zip (List.range 8)).map fun y => (⟨y.1, false, pos + 64 * y.2⟩ : SbFlit)
  obtain ⟨⟨hcells, -⟩, hread⟩ := readGrans_spec p 3 8 (s.grants p 3 off 512) off
  have hdata : s.onlyData x.1 p := (onlyData_grants (by norm_num) ..).trans (onlyData_readGrans ..)
  have hlen : flits.length = 8 := by
    have : x.2.length = 8 := by rw [hread, State.delivered, List.length_map, List.length_range]
    simp [flits, this]
  let t := (x.1.setSlotBuf p n (x.1.slotBuf p n ++ flits)).updSite p fun y => { y with feedPos := Sparse.put 0 y.feedPos n (pos + 512) }
  have hbuf : t.slotBuf p n = s.slotBuf p n ++ flits := by
    rw [← hdata.slotBuf, State.slotBuf, State.site_updSite_same]
    exact State.slotBuf_setSlotBuf_same _
  refine ⟨t, ?_, by rw [hbuf, List.length_append, hlen], by rw [hbuf, List.take_left], ?_, ?_⟩
  · rw [exec_feedLineFetch, execFeedLineFetch]
    dsimp only
    rw [if_pos (by simp [hup, hfeed, hroom, hmode, hconsumer]; exact ⟨hline, hon⟩)]
  · rw [State.site_updSite_same, Sparse.get_put_same]
  · rw [State.updSite_scratch, State.scratch_setSlotBuf, hcells, State.scratch_grants]

theorem landFlitWrite_effect {buf : BitVec 6} {x : SbFlit} {rest : List SbFlit} (hup : s.coreDown p = false)
    (hmode : 2 ≤ s.regionMode p (s.sbRegion p buf.toNat)) (hq : s.slotBuf p buf.toNat = x :: rest) (hlate : x.late = false)
    (hland : s.slotMode p buf.toNat = 3) (hproducer : s.regionProducer p (s.sbRegion p buf.toNat) = 5) :
    let n := buf.toNat
    let g := s.sbRegion p n
    let head := s.regionHead p g
    let off := s.regionOff p g head
    head < s.regionTail p g + s.regionSize p g → s.spanOn p off 64 = true → head + 64 < 2 ^ 64 →
      ∃ t, exec (.landFlitWrite p buf) s = .next t ∧ t.slotBuf p n = rest ∧ t.regionHead p g = head + 64 ∧
        t.scratch = (s.writeWide p off x.flit).scratch := by
  intro n g head off hspace hon hfit
  have hg : g < 64 := s.rf_lt ..
  let s₁ := (s.grants p 3 off 64).writeWide p off x.flit
  have hdata : s.onlyData s₁ p := (onlyData_grants (by norm_num) ..).trans (onlyData_writeWide ..)
  refine ⟨(s₁.setSlotBuf p n rest).advanceHeads p [(g, head + 64)], ?_, ?_, ?_, ?_⟩
  · rw [exec_landFlitWrite, execLandFlitWrite]
    dsimp only
    rw [hq]
    dsimp only
    rw [if_pos (by simp [hup, hland, hmode, hproducer]; exact ⟨hspace, hon⟩)]
    simp only [hlate, Bool.false_eq_true, if_false]
    rfl
  · rw [State.slotBuf_advanceHeads, State.slotBuf_setSlotBuf_same]
  · exact State.regionHead_advanceHeads hg (by have := hdata.regionHead hg; exact this.trans_lt (by omega)) hfit
  · rw [State.scratch_advanceHeads, State.scratch_setSlotBuf]
    exact scratch_writeWide_congr (keepsRest_grants ..).1 (State.scratch_grants ..) p off x.flit

/-- Settles O23: a line fetched joins its buffer, a flit landed leaves its own. -/
theorem feedAndLandBuffers : Obligations.FeedAndLandBuffers := by
  intro s p buf hup n g pos head off hmode
  exact ⟨fun hfeed hroom hconsumer => feedLineFetch_effect hup hmode hfeed hroom hconsumer,
    fun x rest hq hlate hland hproducer => landFlitWrite_effect hup hmode hq hlate hland hproducer⟩

end Sys2Proof.Machine
end

section
/-! SUPPORT. A packet reaches a core's stop and is answered: what arriving changes, and where the answer goes (R262-R264, R269, R272, R528). -/

namespace Sys2Proof.Machine

variable {s t u : State} {p : Site} {k : Packet} {d : Place}

/-! ## Sites -/

/-- What a change of one site keeps of a site, it keeps of every site. -/
theorem State.site_updSite_keep {α : Type} {g : SiteSt → α} {f : SiteSt → SiteSt} (hf : ∀ x, g (f x) = g x) (q p : Site) :
    g ((s.updSite q f).site p) = g (s.site p) := by
  by_cases h : p = q
  · rw [h, State.site_updSite_same, hf]
  · rw [State.site_updSite_other _ _ h]

/-- Attempts that become inconclusive stay attempts, and nothing else of any site changes (R528). -/
theorem site_spoilSymps {α : Type} {g : SiteSt → α} (hg : ∀ x f, g { x with symp := x.symp.map f } = g x) (p q : Site) :
    g ((s.spoilSymps p).site q) = g (s.site q) :=
  List.foldlRecOn (motive := fun t : State => g (t.site q) = g (s.site q)) _ _ rfl fun _ ht a _ =>
    (State.site_updSite_keep (fun x => hg x _) a q).trans ht

theorem State.spoilSymps_frame (p : Site) : ∃ m, s.spoilSymps p = { s with sites := m } := by
  refine List.foldlRecOn (motive := fun t : State => ∃ m, t = { s with sites := m }) _ _ ⟨s.sites, rfl⟩ ?_
  rintro _ ⟨m, rfl⟩ a -
  exact ⟨_, rfl⟩

/-! ## Arriving (R272, R528) -/

/-- A request that reaches a stop is no longer in flight; of the sites it changes attempts alone. -/
theorem atStop_effect (s : State) (p : Site) (k : Packet) : ∃ m, s.atStop p k = { s.landed (.stop p) k with sites := m } ∧
    (∀ q, (s.atStop p k).cc q = s.cc q) ∧ (s.atStop p k).quiet p = s.quiet p := by
  unfold State.atStop
  dsimp only
  split
  · obtain ⟨m, hm⟩ := State.spoilSymps_frame (s := s.landed (.stop p) k) p
    exact ⟨m, hm, fun q => site_spoilSymps (g := SiteSt.cc) (fun _ _ => rfl) p q,
      site_spoilSymps (g := fun x => x.symp.isSome) (fun x _ => by simp) p p⟩
  · exact ⟨_, rfl, fun _ => rfl, rfl⟩

/-- A well-formed packet is taken by the row of its type (R262, R263). -/
theorem packetRow_taken {here : Place} {typ : Nat} (go : State → State) (htyp : k.typ.toNat = typ) (hwf : wellFormedPkt k = true) :
    s.packetRow here k typ go = .next (go s) := by
  simp [State.packetRow, htyp, hwf]

/-! ## Where an answer goes (R264, R269, R274) -/

/-- Packets that enter the fabric at a stop go the same ways in both states. -/
def State.sameRoutes (s t : State) (p : Site) : Prop :=
  t.activeSouth = s.activeSouth ∧ ∀ o, 0x18710000 ≤ o → o < 0x18730000 → t.reg (.site p) o = s.reg (.site p) o

theorem State.sameRoutes.trans (h : s.sameRoutes t p) (h' : t.sameRoutes u p) : s.sameRoutes u p :=
  ⟨h'.1.trans h.1, fun o ho ho' => (h'.2 o ho ho').trans (h.2 o ho ho')⟩

theorem State.sameRoutes.injectEpoch (h : s.sameRoutes t p) : t.injectEpoch p = s.injectEpoch p :=
  State.rf_of_reg (h.2 _ (by norm_num) (by norm_num)) ..

theorem State.sameRoutes.placeOf (h : s.sameRoutes t p) (dest unit : Nat) :
    t.placeOf p (t.injectEpoch p) dest unit = s.placeOf p (s.injectEpoch p) dest unit := by
  have hversion : s.injectEpoch p < 2 := s.rf_lt ..
  rw [h.injectEpoch]
  unfold State.placeOf
  rw [h.1]
  split
  next hdest => rw [State.mapCol, State.mapCol, h.2 _ (by omega) (by omega)]
  next => rfl

/-- A stop may send a packet: it is not quiet, or the packet is not its core's own (R526). -/
def State.maySend (s : State) (p : Site) (k : Packet) : Prop := s.quiet p = false ∨ (0xF0 ≤ k.src.toNat ∧ k.src ≠ 0xFF)

/-- A packet that a stop may send is on its way to its destination. -/
theorem State.net_inject (hsend : s.maySend p k) (hd : s.placeOf p (s.injectEpoch p) k.dest.toNat k.destUnit.toNat = some d) :
    ∃ fl, (s.inject (.stop p) k).net = s.net ++ [⟨.stop p, d, { k with flags := fl }⟩] := by
  have hopen : ¬ (decide (Place.stop p = .stop p) && s.quiet p && (decide (k.src.toNat < 0xF0) || decide (k.src = 0xFF))) = true := by
    rcases hsend with hq | ⟨hlo, hne⟩
    · simp [hq]
    · simpa using fun _ => ⟨hlo, hne⟩
  refine ⟨setBit k.flags 2 (s.injectEpoch p = 1), ?_⟩
  unfold State.inject
  dsimp only [attachStop]
  rw [if_neg hopen, hd]
  dsimp only
  rw [State.net_countPath]

/-- What an answer to a packet needs of the state that it leaves from: no packet lost, the same ways, a stop that may answer. -/
def State.canAnswer (s u : State) (p : Site) (k : Packet) : Prop :=
  u.net = (s.landed (.stop p) k).net ∧ s.sameRoutes u p ∧ (u.quiet p = false ∨ k.dest = 0xF2)

theorem State.canAnswer.maySend (h : s.canAnswer u p k) (typ : Nat) : u.maySend p (u.answer (.stop p) k typ) := by
  obtain ⟨-, -, hq | hdest⟩ := h
  · exact .inl hq
  · refine .inr ?_
    have hsrc : (u.answer (.stop p) k typ).src = 0xF2 := by
      simp only [State.answer, State.selfId, hdest, if_true]
      rfl
    rw [hsrc]
    exact ⟨by decide, by decide⟩

/-- The answer that leaves a stop, whatever its payload, reaches the source of the packet that it answers. -/
theorem State.canAnswer.net (h : s.canAnswer u p k) (hd : s.answerPlace (.stop p) k = some d) (typ : Nat) (l : List Flit) :
    ∃ fl, (u.inject (.stop p) (withPayload (u.answer (.stop p) k typ) l)).net =
      (s.landed (.stop p) k).net ++ [⟨.stop p, d, { withPayload (u.answer (.stop p) k typ) l with flags := fl }⟩] := by
  obtain ⟨fl, hnet⟩ := State.net_inject (s := u) (k := withPayload (u.answer (.stop p) k typ) l) (h.maySend typ) (d := d) (by
    rw [h.2.1.placeOf]
    simpa [withPayload, State.answer, mkPacket, State.answerPlace, attachStop] using hd)
  exact ⟨fl, by rw [hnet, h.1]⟩

/-- An acknowledged packet has landed and is answered. -/
theorem State.canAnswer.acked (h : s.canAnswer u p k) (hd : s.answerPlace (.stop p) k = some d) :
    s.answered (u.ack (.stop p) k) (.stop p) k 0x11 d := by
  obtain ⟨fl, hnet⟩ := State.net_inject (s := u) (k := u.answer (.stop p) k 0x11) (h.maySend 0x11) (d := d) (by
    rw [h.2.1.placeOf]
    simpa [State.answer, mkPacket, State.answerPlace, attachStop] using hd)
  exact ⟨_, by rw [State.ack, hnet, h.1], rfl, rfl, rfl, by simp [State.answer, mkPacket]⟩

@[simp] theorem State.scratch_ack (here : Place) (k : Packet) : (s.ack here k).scratch = s.scratch := (onlyStepFail_inject ..).scratch
@[simp] theorem State.sites_ack (here : Place) (k : Packet) : (s.ack here k).sites = s.sites := (onlyStepFail_inject ..).sites
@[simp] theorem State.cc_ack (here : Place) (k : Packet) (q : Site) : (s.ack here k).cc q = s.cc q := State.cc_inject ..

/-! ## Pointers of circular regions (R179) -/

theorem State.advanceHeads_frame (p : Site) (ends : List (Nat × Nat)) : { s.advanceHeads p ends with regs := s.regs } = s := by
  refine List.foldlRecOn (motive := fun t : State => { t with regs := s.regs } = s) ends _ rfl fun t ht e _ => ?_
  split <;> exact ht

theorem State.advanceTails_frame (p : Site) (ends : List (Nat × Nat)) : { s.advanceTails p ends with regs := s.regs } = s := by
  refine List.foldlRecOn (motive := fun t : State => { t with regs := s.regs } = s) ends _ rfl fun t ht e _ => ?_
  split <;> exact ht

theorem State.reg_advanceHeads (p : Site) (ends : List (Nat × Nat)) {o : Nat} (ho : 0x18502000 ≤ o ∧ o < 2 ^ 29) (q : Site) :
    (s.advanceHeads p ends).reg (.site q) o = s.reg (.site q) o := by
  refine List.foldlRecOn (motive := fun t : State => t.reg (.site q) o = s.reg (.site q) o) ends _ rfl fun t ht e _ => ?_
  split
  · exact (State.reg_setReg_off _ _ (by omega)).trans ht
  · exact ht

/-- Moving data at a site and advancing HEADs there leaves packets, ways, quiet and control cores as they are. -/
theorem State.onlyData.heads (h : s.onlyData t p) (ends : List (Nat × Nat)) : let v := t.advanceHeads p ends
    v.net = s.net ∧ s.sameRoutes v p ∧ v.quiet p = s.quiet p ∧ v.cc p = s.cc p := by
  intro v
  have hframe := State.advanceHeads_frame (s := t) p ends
  have hsites : v.sites = t.sites := (congrArg State.sites hframe :)
  refine ⟨(congrArg State.net hframe :).trans h.net, ⟨(congrArg State.activeSouth hframe :).trans h.activeSouth, fun o ho ho' => ?_⟩, ?_, ?_⟩
  · exact (State.reg_advanceHeads p ends ⟨by omega, by omega⟩ p).trans (h.reg (by simp) (by unfold dataReg; omega))
  · exact Eq.trans (by rw [State.quiet, State.site, hsites]; rfl) h.quiet
  · exact Eq.trans (by rw [State.cc, State.site, hsites]; rfl) (h.cc p)

end Sys2Proof.Machine
end

section
/-! O27. A core's stop takes remote writes, puts, reductions, reads and row writes (R182, R272, R278, R306, R307, R522). -/

namespace Sys2Proof.Machine

variable {s t u : State} {p : Site} {k : Packet} {d : Place}

/-! ## Checks (R173, R182, R272) -/

theorem State.stopChecks_passed {tagFine : Bool} {go : State → State} (hcore : s.coreRefusal p = none) (htag : tagFine = true) :
    s.stopChecks p k tagFine go = go s := by
  rw [State.stopChecks, hcore]
  exact if_pos htag

theorem State.orTruncated_whole {go : State → State} (htrunc : k.trunc = false) : s.orTruncated p k go = go s := by
  simp [State.orTruncated, htrunc]

theorem State.remoteSpan_passed {len : Nat} {check : RegionCheck} {go : State → State} (hspan : s.remoteSpanOk p k.addr.toNat len = true)
    (hcheck : check = .ok) (htrunc : k.trunc = false) : s.remoteSpan p k len check go = go s := by
  simp [State.remoteSpan, hspan, hcheck, State.orTruncated_whole htrunc]

/-! ## Reductions (R278) -/

theorem State.sameMap.symm (h : s.sameMap t) : t.sameMap s :=
  ⟨fun q d e hd he => (h.1 q d e hd he).symm, fun q n hn => (h.2 q n hn).symm⟩

theorem State.sameMap.trans (h : s.sameMap t) (h' : t.sameMap u) : s.sameMap u :=
  ⟨fun q d e hd he => (h'.1 q d e hd he).trans (h.1 q d e hd he), fun q n hn => (h'.2 q n hn).trans (h.2 q n hn)⟩

theorem State.granAt_congr (h : s.sameMap t) (hs : t.scratch = s.scratch) (p : Site) (off : Nat) : t.granAt p off = s.granAt p off := by
  unfold State.granAt State.rawGran State.cellOf
  rw [hs, h.1.rawRow]

theorem scratch_reduceGran_congr (h : s.sameMap t) (hs : t.scratch = s.scratch) (p : Site) (off : Nat) (f : Flit) :
    (t.reduceGran p off f).scratch = (s.reduceGran p off f).scratch := by
  have hdrop : ∀ x : State, (x.dropWriteBack p off).scratch = x.scratch := fun x =>
    (congrArg State.scratch (State.dropWriteBack_frame (s := x) p off) :)
  have hnote : ∀ x : State, (x.noteRead p off 3 [0, 1, 2, 3] (x.granAt p off)).scratch = x.scratch ∧
      x.sameMap (x.noteRead p off 3 [0, 1, 2, 3] (x.granAt p off)) := fun x => ⟨(sameCells_noteRead ..).1, (onlyData_noteRead ..).sameMap⟩
  obtain ⟨hcells, hmap⟩ := hnote s
  obtain ⟨hcells', hmap'⟩ := hnote t
  rw [State.reduceGran, State.reduceGran, hdrop, hdrop, State.granAt_congr h hs] at *
  simp only [State.putRaw, State.cellOf, hmap.1.rawRow, hmap'.1.rawRow, h.1.rawRow, hmap.classSAt, hmap'.classSAt, h.classSAt, hcells, hcells', hs]

/-- What the cells hold after a reduction depends on the cells and their layout alone. -/
theorem scratch_reduceGrans_congr (p : Site) : ∀ (l : List Flit) {s t : State} (off : Nat), s.sameMap t → t.scratch = s.scratch →
    (t.reduceGrans p off l).scratch = (s.reduceGrans p off l).scratch
  | [], _, _, _, _, hs => hs
  | f :: l, s, _, off, h, hs =>
    scratch_reduceGrans_congr p l (off + 64)
      (((onlyData_reduceGran (s := s) (p := p) off f).sameMap.symm.trans h).trans (onlyData_reduceGran off f).sameMap)
      (scratch_reduceGran_congr h hs p off f)

/-! ## At a stop -/

/-- A state that differs in sites and packets on their way has the same cells under the same layout. -/
theorem sameMap_atStop : s.sameMap (s.atStop p k) := by
  obtain ⟨m, hu, -⟩ := atStop_effect s p k
  exact .ofRegs (by rw [hu]; rfl)

theorem scratch_atStop : (s.atStop p k).scratch = s.scratch := by
  obtain ⟨m, hu, -⟩ := atStop_effect s p k
  rw [hu]
  rfl

theorem sameCells_atStop : s.sameCells (s.atStop p k) := by
  obtain ⟨m, hu, -⟩ := atStop_effect s p k
  rw [hu]
  exact ⟨rfl, rfl, rfl, fun _ _ _ _ _ => rfl⟩

/-- Data moved at a stop for a packet, pointers advanced, leaves the stop able to answer. -/
theorem canAnswer_atStop (hquiet : s.quiet p = false) (h : (s.atStop p k).onlyData t p) (ends : List (Nat × Nat)) :
    s.canAnswer (t.advanceHeads p ends) p k ∧ (t.advanceHeads p ends).cc p = s.cc p := by
  obtain ⟨m, hu, hcc, hq⟩ := atStop_effect s p k
  obtain ⟨hnet, hroutes, hquiet', hcc'⟩ := h.heads ends
  refine ⟨⟨hnet.trans (by rw [hu]), .trans ⟨?_, fun o _ _ => ?_⟩ hroutes, .inl ?_⟩, hcc'.trans (hcc p)⟩
  · rw [hu]
    rfl
  · rw [hu]
    rfl
  · rw [hquiet', hq, hquiet]

/-- The checks of a packet at a stop read the state that it reached. -/
theorem stopChecks_atStop {tagFine : State → Bool} {go : State → State} (hcore : s.coreRefusal p = none)
    (hregs : ∀ m, tagFine { s.landed (.stop p) k with sites := m } = true) :
    (s.atStop p k).stopChecks p k (tagFine (s.atStop p k)) go = go (s.atStop p k) := by
  obtain ⟨m, hu, -⟩ := atStop_effect s p k
  refine State.stopChecks_passed ?_ ?_
  · rw [hu]
    exact hcore
  · rw [hu]
    exact hregs m

/-- The checks of a span at a stop read the state that the packet reached. -/
theorem remoteSpan_atStop {len : Nat} {check : State → RegionCheck} {go : State → State} (htrunc : k.trunc = false)
    (hspan : s.remoteSpanOk p k.addr.toNat len = true) (hcheck : ∀ m, check { s.landed (.stop p) k with sites := m } = .ok) :
    (s.atStop p k).remoteSpan p k len (check (s.atStop p k)) go = go (s.atStop p k) := by
  obtain ⟨m, hu, -⟩ := atStop_effect s p k
  refine State.remoteSpan_passed ?_ ?_ htrunc
  · rw [hu]
    exact hspan
  · rw [hu]
    exact hcheck m

section
variable (hquiet : s.quiet p = false) (hd : s.answerPlace (.stop p) k = some d)
include hquiet hd

/-- A payload that lands is acknowledged, with what it wrote in scratchpad. -/
theorem landWrite_effect : let t := (s.atStop p k).landWrite p k
    s.answered t (.stop p) k 0x11 d ∧ t.scratch = (s.writeGrans p k.addr.toNat k.payload).scratch ∧ t.cc p = s.cc p := by
  intro t
  have hgrants : (s.atStop p k).onlyData ((s.atStop p k).grants p 3 k.addr.toNat (64 * k.payload.length)) p := onlyData_grants (by norm_num) ..
  obtain ⟨hans, hcc⟩ := canAnswer_atStop hquiet (hgrants.trans (onlyData_writeGrans k.payload _ k.addr.toNat)) _
  refine ⟨hans.acked hd, ?_, (State.cc_ack ..).trans hcc⟩
  simp only [t, State.landWrite, State.scratch_ack, State.scratch_advanceHeads]
  exact scratch_writeGrans_congr p _ _ (sameMap_atStop.trans hgrants.sameMap) ((State.scratch_grants ..).trans scratch_atStop)

variable (hcore : s.coreRefusal p = none) (htrunc : k.trunc = false)
include hcore htrunc

theorem stopWrite_effect (htag : s.tagOk p k = true) (hspan : s.remoteSpanOk p k.addr.toNat (64 * k.payload.length) = true)
    (hcheck : s.checkWrites p 5 k.addr.toNat (64 * k.payload.length) = .ok) : let t := (s.atStop p k).stopWrite p k
    s.answered t (.stop p) k 0x11 d ∧ t.scratch = (s.writeGrans p k.addr.toNat k.payload).scratch ∧ t.cc p = s.cc p := by
  have hland : (s.atStop p k).stopWrite p k = (s.atStop p k).landWrite p k := by
    rw [State.stopWrite, stopChecks_atStop (tagFine := fun u => u.tagOk p k) hcore fun _ => htag]
    exact remoteSpan_atStop (check := fun u => u.checkWrites p 5 k.addr.toNat (64 * k.payload.length)) htrunc hspan fun _ => hcheck
  rw [hland]
  exact landWrite_effect hquiet hd

theorem stopPut_effect (hopen : s.winIsOpen p (fld k.ctx 0 6) = true) (hgen : k.gen.toNat = s.winGen p (fld k.ctx 0 6))
    (htag : k.tag.toNat = s.winTag p (fld k.ctx 0 6)) (hlow : s.rf (.site p) (0x18402000 + 32 * fld k.ctx 0 6) 9 20 * 512 ≤ k.addr.toNat)
    (hhigh : k.addr.toNat + 64 * k.payload.length ≤
      s.rf (.site p) (0x18402000 + 32 * fld k.ctx 0 6) 9 20 * 512 + s.rn (.site p) (0x18402008 + 32 * fld k.ctx 0 6))
    (hspan : s.remoteSpanOk p k.addr.toNat (64 * k.payload.length) = true)
    (hcheck : s.checkWrites p 5 k.addr.toNat (64 * k.payload.length) = .ok) : let t := (s.atStop p k).stopPut p k
    s.answered t (.stop p) k 0x11 d ∧ t.scratch = (s.writeGrans p k.addr.toNat k.payload).scratch ∧ t.cc p = s.cc p := by
  have hland : (s.atStop p k).stopPut p k = (s.atStop p k).landWrite p k := by
    obtain ⟨m, hu, -⟩ := atStop_effect s p k
    have hopen' : (s.atStop p k).winIsOpen p (fld k.ctx 0 6) = true := by rw [hu]; exact hopen
    have hgen' : k.gen.toNat = (s.atStop p k).winGen p (fld k.ctx 0 6) := by rw [hu]; exact hgen
    have htag' : k.tag.toNat = (s.atStop p k).winTag p (fld k.ctx 0 6) := by rw [hu]; exact htag
    have hlow' : (s.atStop p k).rf (.site p) (0x18402000 + 32 * fld k.ctx 0 6) 9 20 * 512 ≤ k.addr.toNat := by rw [hu]; exact hlow
    have hhigh' : k.addr.toNat + 64 * k.payload.length ≤ (s.atStop p k).rf (.site p) (0x18402000 + 32 * fld k.ctx 0 6) 9 20 * 512 +
        (s.atStop p k).rn (.site p) (0x18402008 + 32 * fld k.ctx 0 6) := by rw [hu]; exact hhigh
    rw [State.stopPut, stopChecks_atStop (tagFine := fun u => u.tagOk p k || k.tag.toNat == u.winTag p (fld k.ctx 0 6)) hcore
      fun _ => (Bool.or_eq_true ..).mpr (.inr (beq_iff_eq.2 htag))]
    dsimp only
    rw [if_neg (by simpa using hopen'), if_neg (not_not_intro hgen'), if_neg (by simpa using ⟨⟨htag', hlow'⟩, hhigh'⟩)]
    exact remoteSpan_atStop (check := fun u => u.checkWrites p 5 k.addr.toNat (64 * k.payload.length)) htrunc hspan fun _ => hcheck
  rw [hland]
  exact landWrite_effect hquiet hd

theorem stopReduce_effect (htag : s.tagOk p k = true) (hspan : s.remoteSpanOk p k.addr.toNat (64 * k.payload.length) = true)
    (hcheck : s.checkWrites p 5 k.addr.toNat (64 * k.payload.length) = .ok) : let t := (s.atStop p k).stopReduce p k
    s.answered t (.stop p) k 0x11 d ∧ t.scratch = (s.reduceGrans p k.addr.toNat k.payload).scratch ∧ t.cc p = s.cc p := by
  rw [State.stopReduce, stopChecks_atStop (tagFine := fun u => u.tagOk p k) hcore fun _ => htag]
  dsimp only
  rw [remoteSpan_atStop (check := fun u => u.checkWrites p 5 k.addr.toNat (64 * k.payload.length)) htrunc hspan fun _ => hcheck]
  have hgrants : (s.atStop p k).onlyData ((s.atStop p k).grants p 3 k.addr.toNat (64 * k.payload.length)) p := onlyData_grants (by norm_num) ..
  obtain ⟨hans, hcc⟩ := canAnswer_atStop hquiet (hgrants.trans (onlyData_reduceGrans k.payload _ k.addr.toNat)) _
  refine ⟨hans.acked hd, ?_, (State.cc_ack ..).trans hcc⟩
  rw [State.scratch_ack, State.scratch_advanceHeads]
  exact scratch_reduceGrans_congr p _ _ (sameMap_atStop.trans hgrants.sameMap) ((State.scratch_grants ..).trans scratch_atStop)

theorem stopRead_effect (htag : s.tagOk p k = true) (hmax : k.aux.toNat ≤ 2048)
    (hspan : s.remoteSpanOk p k.addr.toNat k.aux.toNat = true) (hcheck : s.checkReads p 5 k.addr.toNat k.aux.toNat = .ok) :
    let t := (s.atStop p k).stopRead p k
    ∃ f, t.net = (s.landed (.stop p) k).net ++ [f] ∧ f.dst = d ∧ f.pkt.typ = 0x10 ∧ f.pkt.seq = k.seq ∧
      f.pkt.payload = (granOffs k.addr.toNat k.aux.toNat).map (fun o => ⟨(s.granAt p o).data, (s.granAt p o).poison != 0⟩) ∧
      t.scratch = s.scratch ∧ t.cc p = s.cc p := by
  have hwhole : k.aux.toNat % 64 = 0 := by simp [State.remoteSpanOk] at hspan; omega
  rw [State.stopRead, stopChecks_atStop (tagFine := fun u => u.tagOk p k && decide (k.aux.toNat ≤ 2048)) hcore fun _ => by
    rw [Bool.and_eq_true, decide_eq_true_eq]; exact ⟨htag, hmax⟩]
  dsimp only
  rw [remoteSpan_atStop (check := fun u => u.checkReads p 5 k.addr.toNat k.aux.toNat) htrunc hspan fun _ => hcheck]
  have hgrants : (s.atStop p k).onlyData ((s.atStop p k).grants p 3 k.addr.toNat k.aux.toNat) p := onlyData_grants (by norm_num) ..
  let x := ((s.atStop p k).grants p 3 k.addr.toNat k.aux.toNat).readGrans p 3 k.addr.toNat (k.aux.toNat / 64)
  have hcells : (s.atStop p k).sameCells x.1 := (sameCells_grants ..).trans (readGrans_spec ..).1
  have hread : x.2 = s.delivered p k.addr.toNat (k.aux.toNat / 64) :=
    (readGrans_spec ..).2.trans ((sameCells_atStop.trans (sameCells_grants ..)).delivered ..)
  obtain ⟨hans, hcc⟩ := canAnswer_atStop hquiet (hgrants.trans (onlyData_readGrans ..) : (s.atStop p k).onlyData x.1 p) []
  obtain ⟨fl, hnet⟩ := hans.net hd 0x10 x.2
  have hframe := (x.1.inject (.stop p) (withPayload (x.1.answer (.stop p) k 0x10) x.2)).advanceTails_frame p
    ((s.atStop p k).regionEnds p false 5 k.addr.toNat k.aux.toNat)
  refine ⟨_, (congrArg State.net hframe :).trans hnet, rfl, rfl, by simp [withPayload, State.answer, mkPacket], ?_, (congrArg State.scratch hframe :).trans ?_, ?_⟩
  · rw [map_granOffs hwhole, ← hread]
    rfl
  · exact (onlyStepFail_inject ..).scratch.trans (hcells.1.trans scratch_atStop)
  · have hsites := (congrArg State.sites hframe :).trans (onlyStepFail_inject ..).sites
    exact Eq.trans (by rw [State.cc, State.site, hsites]; rfl) hcc
end

/-! ## Row writes (R522) -/

/-- The cells after raw rows are written depend on the cells before alone. -/
theorem scratch_putRows_congr (hs : t.scratch = s.scratch) (rva : Nat) (rows : List (List Byte)) :
    (t.putRows rva rows).scratch = (s.putRows rva rows).scratch := by
  unfold State.putRows
  induction rows.zip (List.range rows.length) generalizing s t with
  | nil => exact hs
  | cons x l ih => exact ih (by simp only [State.putRow, hs])

/-- Rows that a host writes at a site land raw and are acknowledged, even at a stop that keeps its core's packets (R522, R526). -/
theorem stopRowWrite_effect (hd : s.answerPlace (.stop p) k = some d) (htrunc : k.trunc = false) (htag : k.tag = 0xFE) (hdest : k.dest = 0xF2)
    (hopen : s.rf (.site p) 0x18500008 0 1 = 1) (hsite : k.addr.toNat / 2 ^ 20 % 256 = p.val) (hn : fld k.aux 0 2 ≠ 0)
    (hlen : k.payload.length = 9 * fld k.aux 0 2) (hrows : k.addr.toNat % 2 ^ 14 + fld k.aux 0 2 ≤ 12292) :
    let t := (s.atStop p k).stopRowWrite p k
    s.answered t (.stop p) k 0x11 d ∧
      t.scratch = (s.putRows (k.addr.toNat % 2 ^ 32) (chunks 576 (fld k.aux 0 2) (flitBytes k.payload))).scratch ∧ t.sites = s.sites := by
  have hstop : s.atStop p k = s.landed (.stop p) k := by
    rw [State.atStop]
    exact if_neg (by rw [hdest]; decide)
  have haddr : fld k.addr 0 32 = k.addr.toNat % 2 ^ 32 := by simp [fld]
  have hwrite : (s.atStop p k).stopRowWrite p k = ((s.landed (.stop p) k).putRows (k.addr.toNat % 2 ^ 32)
      (chunks 576 (fld k.aux 0 2) (flitBytes k.payload))).ack (.stop p) k := by
    rw [hstop, State.stopRowWrite, haddr]
    rw [if_neg, State.orTruncated_whole htrunc]
    have hopen' : (s.landed (.stop p) k).rf (.site p) 0x18500008 0 1 = 1 := hopen
    simp [htag, hdest, hopen', hn, hlen]
    omega
  rw [hwrite]
  have hframe := (s.landed (.stop p) k).putRows_frame (k.addr.toNat % 2 ^ 32) (chunks 576 (fld k.aux 0 2) (flitBytes k.payload))
  have hans : s.canAnswer ((s.landed (.stop p) k).putRows (k.addr.toNat % 2 ^ 32) (chunks 576 (fld k.aux 0 2) (flitBytes k.payload))) p k :=
    ⟨(congrArg State.net hframe :), ⟨(congrArg State.activeSouth hframe :), fun o _ _ => by
      rw [State.reg, State.reg, (congrArg State.regs hframe :)]; rfl⟩, .inr hdest⟩
  refine ⟨hans.acked hd, (State.scratch_ack ..).trans ?_, (State.sites_ack ..).trans (State.sites_putRows ..)⟩
  exact scratch_putRows_congr (s := s) (t := s.landed (.stop p) k) rfl ..

/-- Settles O27: each access passes its checks, moves its data and is answered where the answer's map leads. -/
theorem remoteAccessesAtAStop : Obligations.RemoteAccessesAtAStop := by
  intro s p k d here off len w base wide
  refine ⟨?_, ?_, ?_, ?_, ?_⟩
  · rintro ⟨⟨htyp, hwf, htrunc, hcore, hquiet⟩, -, hspan, hcheck, hd⟩ htag
    exact ⟨_, (exec_pktWrite ..).trans (packetRow_taken _ (by rw [htyp]; rfl) hwf), stopWrite_effect hquiet hd hcore htrunc htag hspan hcheck⟩
  · rintro ⟨⟨htyp, hwf, htrunc, hcore, hquiet⟩, -, hspan, hcheck, hd⟩ hopen hgen htag hlow hhigh
    exact ⟨_, (exec_pktPut ..).trans (packetRow_taken _ (by rw [htyp]; rfl) hwf), stopPut_effect hquiet hd hcore htrunc hopen hgen htag hlow hhigh hspan hcheck⟩
  · rintro ⟨⟨htyp, hwf, htrunc, hcore, hquiet⟩, -, hspan, hcheck, hd⟩ htag
    exact ⟨_, (exec_pktReduce ..).trans (packetRow_taken _ (by rw [htyp]; rfl) hwf), stopReduce_effect hquiet hd hcore htrunc htag hspan hcheck⟩
  · rintro ⟨htyp, hwf, htrunc, hcore, hquiet⟩ - htag hmax hspan hcheck hd
    obtain ⟨f, h⟩ := stopRead_effect hquiet hd hcore htrunc htag hmax hspan hcheck
    exact ⟨_, f, (exec_pktReadReq ..).trans (packetRow_taken _ (by rw [htyp]; rfl) hwf), h⟩
  · intro htyp hwf htrunc htag hdest hopen hsite hn hlen hrows hd
    exact ⟨_, (exec_pktRowWrite ..).trans (packetRow_taken _ (by rw [htyp]; rfl) hwf), stopRowWrite_effect hd htrunc htag hdest hopen hsite hn hlen hrows⟩

end Sys2Proof.Machine
end

section
/-! SUPPORT. A record in the event log outlasts the records after it, up to the log's 4,096 (R538). -/

namespace Sys2Proof.Machine

variable {s t u : State} {p : Site}

/-- Records of the log of the first state stand in that of the second, at most `m` places further back. -/
structure State.pushes (s t : State) (m : Nat) : Prop where
  logs : ∀ n e, s.logs n e → n + m ≤ 4096 → t.logs (n + m) e

namespace State.pushes

theorem ofEvents (h : t.events = s.events) : s.pushes t 0 := by
  refine ⟨?_⟩
  rintro n e ⟨i, hi, he⟩ -
  exact ⟨i, hi, by rw [h, he]⟩

theorem trans {a b : Nat} (h : s.pushes t a) (k : t.pushes u b) : s.pushes u (a + b) :=
  ⟨fun n e he hn => Nat.add_assoc n a b ▸ k.logs (n + a) e (h.logs n e he (by omega)) (by omega)⟩

theorem mono {a b : Nat} (h : s.pushes t a) (hab : a ≤ b) : s.pushes t b := by
  refine ⟨fun n e he hn => ?_⟩
  obtain ⟨i, hi, hlog⟩ := h.logs n e he (by omega)
  exact ⟨i, by omega, hlog⟩

end State.pushes

theorem pushes_raise (e : Event) : s.pushes (s.raise e) 6 := by
  refine ⟨fun n f hf hn => ?_⟩
  obtain ⟨l, hl, h⟩ := State.raise_writes (s := s) e
  obtain ⟨i, hi, he⟩ := (hf.writeEvent (by omega) e).writeAll l (by omega)
  exact ⟨i, by omega, by rw [h, he]⟩

theorem State.logs_raise (e : Event) : (s.raise e).logs 6 { e with seq := s.eventSeq } := by
  obtain ⟨l, hl, h⟩ := State.raise_writes (s := s) e
  obtain ⟨i, hi, he⟩ := (State.logs_writeEvent_new (s := s) e).writeAll l (by omega)
  exact ⟨i, by omega, by rw [h, he]⟩

/-- An event whose record few others follow is in the log. -/
theorem raised_pushes {code kind id part lcid m : Nat} {detail : List Nat} (h : (s.event code kind id part lcid detail).pushes t m) (hm : m ≤ 4090) :
    s.raised t (BitVec.ofNat 16 code) ((detail.take 5).map w64) := by
  obtain ⟨i, -, he⟩ := h.logs _ _ (State.logs_raise _) (by omega)
  exact ⟨_, List.mem_of_getElem? he, rfl, rfl, rfl, rfl⟩

/-! ## Failing a step (R335) -/

theorem State.events_countPath (hops : List (Fin 168 × Nat)) (flits : Nat) : (s.countPath hops flits).events = s.events :=
  List.foldlRecOn (motive := fun t : State => t.events = s.events) _ _ rfl fun _ ht _ _ => ht

theorem State.events_inject (src : Place) (k : Packet) : (s.inject src k).events = s.events := by
  unfold State.inject
  dsimp only
  split
  · split <;> rfl
  · split
    · exact State.events_countPath ..
    · rfl

/-- Packets that abort collectives leave the log as it is. -/
theorem events_abortColls (cause : Nat) (l : List Coll) :
    (l.foldl (fun st c => st.inject (.mgmt st.activeSouth) (collAbortPkt c cause)) s).events = s.events :=
  List.foldlRecOn (motive := fun t : State => t.events = s.events) _ _ rfl fun _ ht _ _ => (State.events_inject ..).trans ht

theorem pushes_failStep (tag cause code w lb : Nat) : s.pushes (s.failStep tag cause code w lb) 12 := by
  unfold State.failStep
  split
  next x _ =>
    split
    · extract_lets s₁ s₂ s₃
      have h₁ : s.pushes s₁ 0 := .ofEvents (State.setPart_events ..)
      have h₂ : s₁.pushes s₂ 6 := pushes_raise _
      have h₃ : s₂.pushes s₃ 6 := pushes_raise _
      exact ((h₁.trans h₂).trans h₃).trans (.ofEvents (events_abortColls 1 _))
    · exact (State.pushes.ofEvents rfl).mono (by norm_num)
  next => exact (State.pushes.ofEvents rfl).mono (by norm_num)

theorem pushes_failCoreStep (code : Nat) : s.pushes (s.failCoreStep p code) 12 := by
  unfold State.failCoreStep
  split
  · exact pushes_failStep ..
  · exact (State.pushes.ofEvents rfl).mono (by norm_num)

end Sys2Proof.Machine
end
section
/-! O29. Answers settle the requests of a core (R184, R187, R262, R296, R303, R518, R519). -/

namespace Sys2Proof.Machine

variable {s t u : State} {p : Site} {k : Packet} {n : Nat} {q : MvReq}

/-! ## The mover's requests (R184, R187) -/

/-- The layout of scratchpad and the pointers of a site's regions are the same in both states. -/
def State.sameRegions (s t : State) (p : Site) : Prop :=
  s.sameMap t ∧ ∀ n < 64, t.regionHead p n = s.regionHead p n ∧ t.regionTail p n = s.regionTail p n

theorem State.onlyData.sameRegions (h : s.onlyData t p) : s.sameRegions t p :=
  ⟨h.sameMap, fun n hn => ⟨h.regionHead hn, congrArg BitVec.toNat (h.reg (by simp) (by unfold dataReg; omega))⟩⟩

theorem State.sameRegions.ofRegs {s' t' : State} (h : s.sameRegions t p) (hs : s'.regs = s.regs) (ht : t'.regs = t.regs) : s'.sameRegions t' p := by
  have hs' : ∀ v o, s'.reg v o = s.reg v o := fun v o => by rw [State.reg, State.reg, hs]
  have ht' : ∀ v o, t'.reg v o = t.reg v o := fun v o => by rw [State.reg, State.reg, ht]
  simpa only [State.sameRegions, State.sameMap, State.sameRemaps, State.regionCfg, State.regionHead, State.regionTail, State.rn, hs', ht'] using h

/-- The check of a write reads the settings and pointers of its region. -/
theorem State.sameRegions.checkWrite (h : s.sameRegions t p) (who off : Nat) : t.checkWrite p who off = s.checkWrite p who off := by
  obtain ⟨⟨hremaps, hcfg⟩, hptr⟩ := h
  have hmode : ∀ n < 64, t.regionMode p n = s.regionMode p n := fun n hn => by rw [State.regionMode, hcfg p n hn, State.regionMode]
  have hbase : ∀ n < 64, t.regionBase p n = s.regionBase p n := fun n hn => by rw [State.regionBase, hcfg p n hn, State.regionBase]
  have hsize : ∀ n < 64, t.regionSize p n = s.regionSize p n := fun n hn => by rw [State.regionSize, hcfg p n hn, State.regionSize]
  have hof : t.regionOf p off = s.regionOf p off := lowest_congr fun n hn => by rw [hmode n hn, hbase n hn, hsize n hn]
  unfold State.checkWrite
  rw [hof]
  split
  next n hn =>
    have hlt := lowest_lt hn
    rw [hmode n hlt, State.regionProducer, hcfg p n hlt, (hptr n hlt).1, State.regionPos, hbase n hlt, hsize n hlt, (hptr n hlt).2]
    rfl
  next => rfl

theorem State.regs_writeWide (off : Nat) (f : Flit) : (s.writeWide p off f).regs = s.regs :=
  (congrArg State.regs (State.dropWriteBack_frame (s := s.putRaw p off f.data (checkOf (s.classSAt p off) f.data (if f.poison then 15 else 0))) p off) :)

/-- Where an engine's writes stop, and what they leave in the cells, depends on the cells, their layout and the regions alone. -/
theorem scratch_engWrite_congr (who : Nat) : ∀ (l : List Flit) {s t : State} (off : Nat), s.sameRegions t p →
    t.scratch = s.scratch → (State.engWrite [] t p who off l).1.scratch = (State.engWrite [] s p who off l).1.scratch
  | [], _, _, _, _, hs => hs
  | f :: l, s, t, off, h, hs => by
    rw [State.engWrite, State.engWrite, h.checkWrite]
    split
    · exact scratch_engWrite_congr who l (off + 64) h hs
    · exact hs
    · exact scratch_engWrite_congr who l (off + 64) (h.ofRegs (State.regs_writeWide ..) (State.regs_writeWide ..))
        (scratch_writeWide_congr h.1 hs p off f)

/-- What is settled is awaited no more. -/
theorem MvRing.awaits_done (r : MvRing) (seq : W32) (bad : Bool) :
    MvRing.awaits { r.done seq with run := (r.done seq).run.map fun x => { x with poison := x.poison || bad } } seq = false := by
  cases hrun : r.run with
  | none => simp [MvRing.awaits, MvRing.done, hrun]
  | some x =>
    simp [MvRing.awaits, MvRing.done, hrun]
    exact fun q _ hne heq => absurd heq hne

/-- A READ_RESP lands where its request says, and its request is settled (R184). -/
theorem mvLand_effect (hq : (s.ring p n).req k.seq = some q) : let t := s.mvLand p n k
    t.net = s.net ∧ (∀ m, m ≠ n → t.ring p m = s.ring p m) ∧ (t.ring p n).awaits k.seq = false ∧
      t.scratch = (State.engWrite [] s p 3 q.land k.payload).1.scratch ∧ t.cc p = s.cc p := by
  have hgrants : s.onlyData (s.grants p 3 q.land (64 * k.payload.length)) p := onlyData_grants (by norm_num) ..
  have hdata := hgrants.trans (onlyData_engWrite [] 3 k.payload _ q.land)
  unfold State.mvLand
  rw [hq]
  dsimp only
  refine ⟨hdata.net, fun m hm => (State.ring_updRing_other _ hm).trans (hdata.ring m), ?_, ?_, (State.cc_updRing ..).trans (hdata.cc p)⟩
  · rw [State.ring_updRing_same]
    exact MvRing.awaits_done ..
  · exact scratch_engWrite_congr 3 k.payload q.land hgrants.sameRegions (State.scratch_grants ..)

/-! ## Channels (R296, R303) -/

/-- A context that settles an answer: all else of the core's contexts, the registers and the packets on their way are as they were. -/
def State.settlesCtx (s t : State) (p : Site) (n : Nat) (c : SendCtx) : Prop :=
  t.net = s.net ∧ t.regs = s.regs ∧ (∀ m, m ≠ n → t.sctx p m = s.sctx p m) ∧ t.sctx p n = c

theorem settlesCtx_updCtx (f : SendCtx → SendCtx) : s.settlesCtx (s.updCtx p n f) p n (f (s.sctx p n)) :=
  ⟨rfl, rfl, (onlyCtx_updCtx f).2, State.sctx_updCtx_same f⟩

/-- The operation that waited for the answer ends in the control core alone (R590). -/
theorem State.settlesCtx.endOp {c : SendCtx} (h : s.settlesCtx t p n c) (kind : PendKind) (m : Nat) (seq : W32) (nacks : Nat) (r : PendResult) :
    s.settlesCtx (t.endOp p kind m seq nacks r) p n c := by
  obtain ⟨hnet, hregs, hother, hsame⟩ := h
  exact ⟨hnet, hregs, fun l hl => (State.sctx_updCc ..).trans (hother l hl), (State.sctx_updCc ..).trans hsame⟩

theorem chFree_settles : s.settlesCtx (s.chFree p n) p n SendCtx.init := (settlesCtx_updCtx fun _ => SendCtx.init).endOp ..

theorem chAccepted_settles (hopen : (s.sctx p n).state = 1) :
    s.settlesCtx (s.chAccepted p n k) p n { s.sctx p n with state := 2, channel := fld k.ctx 0 8, req := none } := by
  have hctx := settlesCtx_updCtx (s := s) (p := p) (n := n) fun c =>
    { c with state := if c.state = 1 then 2 else c.state, channel := fld k.ctx 0 8, req := none }
  rw [if_pos hopen] at hctx
  unfold State.chAccepted
  dsimp only
  rw [if_pos hopen]
  exact hctx.endOp ..

theorem chRefused_settles (hmoving : k.reason ≠ 0x05) : s.settlesCtx (s.chRefused p n k) p n SendCtx.init := by
  unfold State.chRefused
  dsimp only
  rw [if_neg (by simpa using fun _ h => absurd h hmoving)]
  exact chFree_settles.endOp ..

/-! ## Violations (R518, R519) -/

/-- Below saturation the record of a violation raises no event. -/
theorem State.eventSeq_recordViolation {master detector target unit code detId addr : Nat} (hroom : s.rf (.site p) 0x18000028 0 32 < 0xFFFFFFFE) :
    (s.recordViolation p master detector target unit code detId addr).eventSeq = s.eventSeq := by
  have hcount : (s.count32 (.site p) 0x18000028).eventSeq = s.eventSeq := by rw [State.count32_room hroom, State.setRf_eventSeq]
  unfold State.recordViolation
  dsimp only
  split
  · rw [State.setReg_eventSeq, State.setReg_eventSeq, State.setReg_eventSeq, hcount]
  · exact hcount

/-- The record of a violation leaves CORE_STATUS as it is. -/
theorem State.status_recordViolation {master detector target unit code detId addr : Nat} (lo w : Nat) :
    (s.recordViolation p master detector target unit code detId addr).rf (.site p) 0x18000000 lo w = s.rf (.site p) 0x18000000 lo w := by
  refine (onlyEvents_recordViolation ..).rf lo w (by simp) fun j hj => ?_
  simp only [violRegs, List.mem_cons, List.not_mem_nil, or_false] at hj
  rcases hj with rfl | rfl | rfl | rfl <;> exact regKey_ne (by norm_num)

/-- A refused control-core packet of a running core is recorded and told of, and the core freezes. -/
theorem violationNack_steps (ring : Nat) (hcode : fld k.aux 0 8 = 0x21) (hruns : s.coreRuns p = true) : ∃ detector detId,
    let s₁ := s.recordViolation p 1 detector k.src.toNat k.srcUnit.toNat 0x9002 detId (nackPA k)
    let s₂ := s₁.coreEvent p 0x9002 [s₁.lcidOf p, 1, k.src.toNat * 256 + k.srcUnit.toNat, k.addr.toNat, 0x21]
    s.violationNack p k ring = (s₂.setCoreState p 3).failCoreStep p 0x9002 := by
  have hgoes : ∀ detector detId code l, ((s.recordViolation p 1 detector k.src.toNat k.srcUnit.toNat 0x9002 detId (nackPA k)).coreEvent p
      code l).coreRuns p = true := fun detector detId code l => by
    rwa [State.coreRuns, State.coreState, State.coreEvent, (onlyEvents_event ..).rf 0 4 (by simp) (by simp),
      State.status_recordViolation, ← State.coreState]
  simp only [State.violationNack, hcode, hruns]
  exact ⟨_, _, if_pos (hgoes ..)⟩

theorem violationNack_freezes (ring : Nat) (hcode : fld k.aux 0 8 = 0x21) (hruns : s.coreRuns p = true)
    (hroom : s.rf (.site p) 0x18000028 0 32 < 0xFFFFFFFE) : let t := s.violationNack p k ring
    t.coreState p = 3 ∧ t.rf (.site p) 0x18000028 0 32 = s.rf (.site p) 0x18000028 0 32 + 1 ∧
      s.raised t 0x9002 ([s.lcidOf p, 1, k.src.toNat * 256 + k.srcUnit.toNat, k.addr.toNat, 0x21].map w64) ∧ t.cc p = s.cc p := by
  intro t
  obtain ⟨detector, detId, ht : t = _⟩ := violationNack_steps ring hcode hruns
  let s₁ := s.recordViolation p 1 detector k.src.toNat k.srcUnit.toNat 0x9002 detId (nackPA k)
  let s₂ := s₁.coreEvent p 0x9002 [s₁.lcidOf p, 1, k.src.toNat * 256 + k.srcUnit.toNat, k.addr.toNat, 0x21]
  have hrec : s.onlyEvents s₁ (violRegs p) := onlyEvents_recordViolation ..
  have hev : s₁.onlyEvents s₂ [] := onlyEvents_event ..
  have hfail : (s₂.setCoreState p 3).onlyStepFail t := ht ▸ onlyStepFail_failCoreStep ..
  have hpush : s₂.pushes t 12 :=
    (State.pushes.ofEvents (State.setCoreState_events ..) : s₂.pushes (s₂.setCoreState p 3) 0).trans (ht ▸ pushes_failCoreStep _)
  refine ⟨?_, ?_, ?_, ?_⟩
  · rw [State.coreState, State.rf_of_reg (hfail.2 _ _ (by simp) (by norm_num)), State.setCoreState, State.rf_setRf_same _ _ (by norm_num)]
    rfl
  · calc t.rf (.site p) 0x18000028 0 32
        = (s₂.setCoreState p 3).rf (.site p) 0x18000028 0 32 := State.rf_of_reg (hfail.2 _ _ (by simp) (by norm_num)) ..
      _ = s₂.rf (.site p) 0x18000028 0 32 := State.rf_setRf_off (by norm_num)
      _ = s₁.rf (.site p) 0x18000028 0 32 := hev.rf 0 32 (by simp) (by simp)
      _ = _ := (State.rf_recordViolation_count ..).trans (State.rf_count32_room hroom)
  · have hlcid : s₁.lcidOf p = s.lcidOf p := State.status_recordViolation ..
    refine State.raised.of_eq ?_ (State.eventSeq_recordViolation hroom : s₁.eventSeq = s.eventSeq) hrec.time
    rw [← hlcid]
    exact raised_pushes hpush (by norm_num)
  · rw [State.cc, State.site, hfail.sites, State.setCoreState_sites, hev.sites, hrec.sites]
    rfl

/-- Settles O29: each answer finds the request that waits for it. -/
theorem answersToACore : Obligations.AnswersToACore := by
  intro s p k n q here whole landed others ctxs
  refine ⟨?_, ?_, ?_, ?_, ?_, ?_⟩
  · rintro ⟨htyp, hwf, htakes⟩ hwait hq
    have hland : (s.landed here k).stopReadResp p k = (s.landed here k).mvLand p n k := by
      rw [State.stopReadResp, show (s.landed here k).mvAwaiting p k.seq = some n from hwait]
      exact if_pos htakes
    obtain ⟨hnet, hother, hdone, hscratch, hcc⟩ := mvLand_effect (s := s.landed here k) (p := p) (k := k) hq
    refine ⟨_, (exec_pktReadResp ..).trans (packetRow_taken _ (by rw [htyp]; rfl) hwf), ?_⟩
    dsimp only [State.answerTo, here]
    rw [hland]
    exact ⟨hnet, hother, hdone, hscratch.trans (scratch_engWrite_congr 3 k.payload q.land
      (State.sameRegions.ofRegs (s := s) (t := s) ⟨.ofRegs rfl, fun _ _ => ⟨rfl, rfl⟩⟩ rfl rfl) rfl), hcc⟩
  · rintro ⟨htyp, hwf, htakes⟩ hkind hwait
    refine ⟨_, (exec_pktAck ..).trans (packetRow_taken _ (by rw [htyp]; rfl) hwf), ?_⟩
    have hack : (s.landed here k).stopAck p k = (s.landed here k).updRing p n fun r => r.done k.seq := by
      rw [State.stopAck, show (s.landed here k).takesAnswers p k = true from htakes, if_neg (by simp), if_neg hkind, show (s.landed here k).mvAwaiting p k.seq = some n from hwait]
    dsimp only [State.answerTo, here]
    rw [hack]
    exact ⟨rfl, fun m hm => State.ring_updRing_other _ hm, State.ring_updRing_same .., rfl, rfl⟩
  · rintro ⟨htyp, hwf, htakes⟩ hwait hopen
    refine ⟨_, (exec_pktChanAccept ..).trans (packetRow_taken _ (by rw [htyp]; rfl) hwf), ?_⟩
    have hstop : (s.landed here k).stopAccept p k = (s.landed here k).chAccepted p n k := by
      rw [State.stopAccept, show (s.landed here k).ctxShaking p k.seq = some n from hwait]
      exact if_pos htakes
    dsimp only [State.answerTo, here]
    rw [hstop]
    obtain ⟨hnet, hregs, hother, hctx⟩ := chAccepted_settles (s := s.landed here k) (p := p) (k := k) hopen
    exact ⟨hnet, hother, hregs, hctx⟩
  · rintro ⟨htyp, hwf, htakes⟩ hwait hclosing
    refine ⟨_, (exec_pktChanClosed ..).trans (packetRow_taken _ (by rw [htyp]; rfl) hwf), ?_⟩
    have hstop : (s.landed here k).stopClosed p k = (s.landed here k).chFree p n := by
      rw [State.stopClosed, show (s.landed here k).ctxShaking p k.seq = some n from hwait]
      exact if_pos (by rw [Bool.and_eq_true, beq_iff_eq]; exact ⟨htakes, hclosing⟩)
    dsimp only [State.answerTo, here]
    rw [hstop]
    obtain ⟨hnet, hregs, hother, hctx⟩ := chFree_settles (s := s.landed here k) (p := p) (n := n)
    exact ⟨hnet, hother, hregs, hctx⟩
  · rintro ⟨htyp, hwf, htakes⟩ hkind hbit hwait hopen hmoving
    refine ⟨_, (exec_pktNack ..).trans (packetRow_taken _ (by rw [htyp]; rfl) hwf), ?_⟩
    have hstop : (s.landed here k).stopNack p k = (s.landed here k).chRefused p n k := by
      have hstate : ((s.landed here k).sctx p n).state = 1 := hopen
      simp [State.stopNack, State.nackMatches, hkind, hbit, show (s.landed here k).ctxShaking p k.seq = some n from hwait,
        show (s.landed here k).takesAnswers p k = true from htakes, hstate]
    dsimp only [State.answerTo, here]
    rw [hstop]
    obtain ⟨hnet, hregs, hother, hctx⟩ := chRefused_settles (s := s.landed here k) (p := p) (n := n) hmoving
    exact ⟨hnet, hother, hregs, hctx⟩
  · rintro ⟨htyp, hwf, htakes⟩ hkind hbit hruns hroom
    refine ⟨_, (exec_pktNack ..).trans (packetRow_taken _ (by rw [htyp]; rfl) hwf), ?_⟩
    have hstop : (s.landed here k).stopNack p k =
        (s.landed here k).violationNack p k (((s.landed here k).mvAwaiting p k.seq).getD 0) := by
      have hengines : (s.landed here k).enginesRun p = true := (Bool.or_eq_true ..).mpr (.inl hruns)
      simp [State.stopNack, State.nackMatches, hkind, hbit, hengines]
    dsimp only [State.answerTo, here]
    rw [hstop]
    exact violationNack_freezes _ hkind hruns hroom

end Sys2Proof.Machine
end

section
/-! SUPPORT. What leaves the partitions as they are: events, packets, frames between panels, answers to commands, resets and the tables of the stops
(R246, R382, R401-R405, R415, R536). -/

namespace Sys2Proof.Machine

variable {s t u : State} {p : Site}

/-- A sweep of steps that leave the partitions alone leaves them alone. -/
theorem State.parts_foldl {α : Type} {f : State → α → State} (hf : ∀ t x, (f t x).parts = t.parts) (l : List α) (s : State) :
    (l.foldl f s).parts = s.parts :=
  List.foldlRecOn (motive := fun t : State => t.parts = s.parts) l f rfl fun t ht x _ => (hf t x).trans ht

theorem State.parts_atStops {f : State → Site → State} (hf : ∀ t q, (f t q).parts = t.parts) (s : State) : (s.atStops f).parts = s.parts := by
  unfold State.atStops
  exact State.parts_foldl hf _ s

theorem State.part_of_parts (h : t.parts = s.parts) (tag : Nat) : t.part tag = s.part tag := by rw [State.part, State.part, h]

/-! ## Events and packets -/

@[simp] theorem State.parts_raise (e : Event) : (s.raise e).parts = s.parts := (congrArg State.parts (onlyEvents_raise e).1 :)

@[simp] theorem State.parts_event (code kind id part lcid : Nat) (detail : List Nat) : (s.event code kind id part lcid detail).parts = s.parts :=
  State.parts_raise _

@[simp] theorem State.parts_count32 (v : RegUnit) (off : Nat) : (s.count32 v off).parts = s.parts :=
  (congrArg State.parts (onlyEvents_count32 v off).1 :)

@[simp] theorem State.parts_count32n (v : RegUnit) (off n : Nat) : (s.count32n v off n).parts = s.parts :=
  (congrArg State.parts (onlyEvents_count32n v off n).1 :)

theorem State.parts_countPath (hops : List (Fin 168 × Nat)) (flits : Nat) : (s.countPath hops flits).parts = s.parts := by
  unfold State.countPath
  exact State.parts_foldl (fun _ _ => State.count64_parts ..) hops s

@[simp] theorem State.parts_inject (src : Place) (k : Packet) : (s.inject src k).parts = s.parts := by
  unfold State.inject
  dsimp only
  split
  · split <;> rfl
  · split
    · exact State.parts_countPath ..
    · rfl

/-! ## Answers to commands (R550, R555) -/

@[simp] theorem State.parts_sendAnswer (c : MciCmd) (bytes : List Byte) : (s.sendAnswer c bytes).parts = s.parts := by
  unfold State.sendAnswer
  split
  · dsimp only
    split <;> rfl
  · split <;> rfl

@[simp] theorem State.parts_mciReply (c : MciCmd) (op status detail : Nat) (payload : List Byte) :
    (s.mciReply c op status detail payload).parts = s.parts := by
  unfold State.mciReply
  dsimp only
  split <;> exact State.parts_sendAnswer ..

/-! ## Frames between panels (R393-R403) -/

@[simp] theorem State.parts_transitDropped (d : Fin 42) (cause dst : Nat) : (s.transitDropped d cause dst).parts = s.parts := by
  unfold State.transitDropped
  dsimp only
  split
  · exact State.parts_event ..
  · rfl

@[simp] theorem State.parts_egressDone (i : Nat) (e : EgFrame) : (s.egressDone i e).parts = s.parts := by
  have hbulk : (s.bulkLeft i).parts = s.parts := by
    unfold State.bulkLeft
    split
    · dsimp only
      split
      · exact State.parts_mciReply ..
      · rfl
    · rfl
  have hcredit : ∀ (t : State) place self holder c, (t.returnCredit place self holder c).parts = t.parts := fun t place self holder c => by
    unfold State.returnCredit
    split
    · exact State.parts_inject ..
    · rfl
  unfold State.egressDone
  dsimp only
  rw [hcredit]
  split
  · exact hbulk
  · rfl

theorem State.parts_pump (i : Nat) : ∀ (n : Nat) (s : State), (State.pump i n s).parts = s.parts
  | 0, _ => rfl
  | n + 1, s => by
    have hgoes : ∀ (t : State) f e, t.parts = s.parts → (State.pump i n ((t.emit i f).egressDone i e)).parts = s.parts :=
      fun t f e ht => (State.parts_pump i n _).trans ((State.parts_egressDone i e).trans ht)
    unfold State.pump
    dsimp only
    split
    · rfl
    · split
      · split
        · exact hgoes _ _ _ rfl
        · rfl
      · rfl

@[simp] theorem State.parts_toEgress (i : Nat) (f : Frame) (holder : Option Nat) : (s.toEgress i f holder).parts = s.parts := by
  have hdrop : (s.dropFrame i 3 f).parts = s.parts := (State.parts_transitDropped ..).trans (State.parts_count32 ..)
  unfold State.toEgress
  dsimp only
  split
  · rw [State.parts_egressDone, hdrop]
  · split
    · exact (State.parts_egressDone ..).trans (State.parts_count32 ..)
    · exact State.parts_pump i _ _

@[simp] theorem State.parts_transit (d : Fin 42) (h : HeldFrame) : (s.transit d h).parts = s.parts := by
  unfold State.transit
  extract_lets y c free key used s₁
  have hfree : ∀ t : State, (free t).parts = t.parts := fun t => by
    simp only [free]
    split <;> rfl
  split
  · rw [hfree, State.parts_inject]
  · split
    · rfl
    · rw [hfree, State.parts_inject]
      rfl

@[simp] theorem State.parts_originateTo (d : Fin 42) (f : Frame) : (s.originateTo d f).parts = s.parts := by
  have hpoison : ∀ f, (s.poisonLeaves d f).parts = s.parts := fun f => by
    unfold State.poisonLeaves
    split
    · rfl
    · exact State.parts_event ..
  have horiginate : ∀ e, (s.originate d e f).parts = s.parts := fun e => by
    unfold State.originate State.forward
    dsimp only
    split
    · rw [State.parts_toEgress, hpoison]
    · rw [State.parts_transit, hpoison]
  unfold State.originateTo
  split
  · split
    · exact horiginate _
    · rfl
  · exact (State.parts_transitDropped ..).trans (State.parts_count32 ..)

/-! ## Collectives (R405, R415) -/

theorem State.parts_collMark (c : Coll) (num : W32) (cause panel port : Nat) : (s.collMark c num cause panel port).parts = s.parts := by
  have hstale : ∀ (t : State) n, (t.collStale c n).parts = t.parts := fun _ _ => State.parts_count32n ..
  unfold State.collMark
  dsimp only
  split
  · rfl
  · split
    · exact hstale ..
    · rw [State.parts_inject, State.parts_event]
      split
      · rfl
      · exact hstale ..

theorem State.parts_collsGone (tag : Nat) : (s.collsGone tag).parts = s.parts := by
  refine State.parts_foldl (fun t c => ?_) _ s
  show (t.collAbort c 3 0xFF).parts = t.parts
  unfold State.collAbort
  dsimp only
  split
  · rfl
  · refine (State.parts_foldl (fun v r => ?_) _ _).trans (State.parts_collMark ..)
    split
    · rfl
    · exact State.parts_originateTo ..

/-! ## Tables of the stops and stacks (R233, R246, R382) -/

/-- Both states have the same partitions. (A structure, so that a step with a `let` is compared as a state before its partitions are looked at.) -/
structure State.sameParts (s t : State) : Prop where
  parts : t.parts = s.parts

theorem State.parts_copyBank (p : Site) : (s.copyBank p).parts = s.parts := by
  unfold State.copyBank
  split
  · rfl
  · refine State.parts_foldl (fun v e => ?_) _ _
    split
    · split
      · exact State.setReg_parts ..
      · rfl
    · rfl

theorem State.parts_clearEntries (p : Site) (tag : Nat) : (s.clearEntries p tag).parts = s.parts := by
  unfold State.clearEntries
  refine (List.foldlRecOn (motive := s.sameParts) _ _ ⟨rfl⟩ fun v hv e _ => ?_).parts
  dsimp only
  split
  · exact ⟨(State.setReg_parts ..).trans hv.parts⟩
  · exact hv

theorem State.parts_writeLeases (p : Site) : (s.writeLeases p).parts = s.parts := by
  unfold State.writeLeases
  refine State.parts_foldl (fun v bp => ?_) _ s
  dsimp only
  exact State.parts_foldl (fun _ _ => State.setReg_parts ..) _ v

theorem State.parts_armSwitch : s.armSwitch.parts = s.parts := by
  unfold State.armSwitch
  exact State.parts_foldl (fun _ _ => State.setReg_parts ..) _ s

@[simp] theorem State.parts_writeBanks (tag : Nat) : (s.writeBanks tag).parts = s.parts := by
  have hsweep := State.parts_foldl (f := fun t q => ((t.copyBank q).clearEntries q tag).writeLeases q)
    (fun t q => by rw [State.parts_writeLeases, State.parts_clearEntries, State.parts_copyBank]) (List.finRange 168) s
  unfold State.writeBanks
  rw [State.parts_armSwitch]
  split
  · split
    · exact (State.parts_foldl (fun _ _ => State.setRf_parts ..) _ _).trans hsweep
    · exact hsweep
  · exact hsweep

@[simp] theorem State.parts_extMark (tag bitNo : Nat) : (s.extMark tag bitNo).parts = s.parts := by
  unfold State.extMark
  refine (List.foldlRecOn (motive := s.sameParts) _ _ ⟨rfl⟩ fun t ht k _ => ?_).parts
  dsimp only
  refine List.foldlRecOn (motive := s.sameParts) _ _ ht fun v hv n _ => ?_
  split
  · exact ⟨(State.setReg_parts ..).trans hv.parts⟩
  · exact hv

/-! ## Cores and barriers of a partition (R284, R517) -/

@[simp] theorem State.parts_spoilSymps (p : Site) : (s.spoilSymps p).parts = s.parts := by
  unfold State.spoilSymps
  exact State.parts_foldl (fun _ _ => State.updSite_parts ..) _ s

@[simp] theorem State.parts_resetCore (p : Site) : (s.resetCore p).parts = s.parts := by
  unfold State.resetCore
  dsimp only
  split
  · rfl
  · rw [State.setCoreState_parts, State.setRf_parts]
    exact State.parts_foldl (f := fun st w => st.winClose p w) (fun _ _ => State.setRf_parts ..) _ _

@[simp] theorem State.parts_clearDone (p : Site) : (s.clearDone p).parts = s.parts := by
  unfold State.clearDone
  exact State.parts_foldl (fun _ _ => State.setReg_parts ..) _ s

@[simp] theorem State.parts_stopStep (tag : Nat) : (s.stopStep tag).parts = s.parts := by
  unfold State.stopStep
  exact State.parts_atStops (fun _ _ => State.setRf_parts ..) s

@[simp] theorem State.parts_dropTurns (tag : Nat) : (s.dropTurns tag).parts = s.parts := by
  unfold State.dropTurns
  exact State.parts_atStops (fun t _ => State.parts_foldl (fun _ _ => State.updSite_parts ..) _ t) s

@[simp] theorem State.parts_resetBars (p : Site) (tag : Nat) : (s.resetBars p tag).parts = s.parts := by
  unfold State.resetBars
  exact State.parts_foldl (fun _ _ => by rw [State.setReg_parts]; exact State.updSite_parts ..) _ s

@[simp] theorem State.parts_removeBars (p : Site) (tag : Nat) : (s.removeBars p tag).parts = s.parts := by
  unfold State.removeBars
  exact State.parts_foldl (fun _ _ => by simp only [State.setReg_parts]; exact State.updSite_parts ..) _ s

@[simp] theorem State.parts_endJob (tag : Nat) (killed : Bool) : (s.endJob tag killed).parts = s.parts := by
  unfold State.endJob
  split
  · split <;> rfl
  · rfl

/-! ## A partition goes on being one -/

/-- A tag has a partition. -/
def State.hasPart (s : State) (tag : Nat) : Prop := ∃ x, s.part tag = some x

theorem State.hasPart.ofParts {tag : Nat} (h : s.hasPart tag) (ht : t.parts = s.parts) : t.hasPart tag :=
  h.imp fun _ hx => (State.part_of_parts ht tag).trans hx

theorem hasPart_setPart {tag : Nat} (x : Partition) : (s.setPart tag (some x)).hasPart tag := ⟨x, by simp [State.part, State.setPart]⟩

namespace State.hasPart

variable {tag : Nat} (h : s.hasPart tag)
include h

theorem fail (cause code w : Nat) : (s.fail tag cause code w).hasPart tag := by
  obtain ⟨x, hx⟩ := h
  unfold State.fail State.failStep
  rw [hx]
  dsimp only
  split
  · refine (hasPart_setPart (s := s) { x with failed := some (cause + code * 2 ^ 8) }).ofParts ?_
    refine (State.parts_foldl (fun _ _ => State.parts_inject ..) _ _).trans ?_
    rw [State.parts_event, State.parts_event]
  · exact ⟨x, hx⟩

theorem failRequest (cause : Nat) (r : SvcReq) : (s.failRequest tag cause r).hasPart tag := by
  have hcount : (s.draw.countFailed tag).hasPart tag := by
    obtain ⟨x, hx⟩ := h
    unfold State.countFailed
    rw [show s.draw.part tag = some x from hx]
    dsimp only
    refine (hasPart_setPart (s := s.draw) { x with failCount := sat32 x.failCount }).ofParts ?_
    unfold State.partSaturated
    split
    · exact State.parts_event ..
    · rfl
  unfold State.failRequest
  refine hcount.ofParts ?_
  dsimp only
  unfold State.respond
  split
  · split
    · exact State.parts_event ..
    · exact State.parts_event ..
  · rw [State.parts_originateTo, State.parts_event]
  · exact State.parts_event ..

theorem failRequests (cause : Nat) : (s.failRequests tag cause).hasPart tag := by
  obtain ⟨x, hx⟩ := h
  unfold State.failRequests
  rw [hx]
  exact List.foldlRecOn (motive := fun t : State => t.hasPart tag) _ _ (hasPart_setPart _) fun _ ht r _ => ht.failRequest cause r

theorem cancelMigration : (s.cancelMigration tag).hasPart tag := by
  obtain ⟨x, hx⟩ := h
  unfold State.cancelMigration
  rw [hx]
  dsimp only
  split
  · exact (hasPart_setPart { x with migrate := none }).ofParts ((State.parts_mciReply ..).trans (State.parts_event ..))
  · exact ⟨x, hx⟩

theorem partReset : (s.partReset tag).hasPart tag := by
  unfold State.partReset
  split
  next x hx =>
    extract_lets s₁ s₂ s₃
    have h₁ : s₁.parts = s.parts := State.parts_foldl (fun _ _ => by rw [State.parts_clearDone, State.parts_resetCore, State.parts_spoilSymps]) _ s
    have h₂ : s₂.parts = s₁.parts := (State.parts_dropTurns ..).trans (State.parts_stopStep ..)
    have h₃ : s₃.parts = s₂.parts := State.parts_atStops (fun _ _ => State.setRf_parts ..) _
    exact (h.ofParts ((State.parts_resetBars ..).trans (h₃.trans (h₂.trans h₁)))).cancelMigration
  next => exact h

theorem lowerGrant : (s.lowerGrant tag).hasPart tag := by
  obtain ⟨x, hx⟩ := h
  unfold State.lowerGrant
  rw [hx]
  exact hasPart_setPart _

end State.hasPart

end Sys2Proof.Machine
end

section
/-! O42, drains, decisions and zero-fills: EPOCH_DRAIN_SLOW, FM_WAIT_EXPIRY and KILL_CLEAR_COMPLETE (R192, R276, R535, R536). -/

namespace Sys2Proof.Machine

variable {s t : State} {p : Site} {tag : Nat} {x y : Partition}

/-! ## Registers apart from the banks of a stop -/

/-- The registers of every site below its ring-stop's are as they were. -/
structure State.keepsCores (s t : State) : Prop where
  reg : ∀ (q : Site) (o : Nat), o < 0x18700000 → t.reg (.site q) o = s.reg (.site q) o

namespace State.keepsCores

theorem rfl' : s.keepsCores s := ⟨fun _ _ _ => rfl⟩

theorem setReg {v : RegUnit} {o : Nat} {w : W64} (h : s.keepsCores t) (ho : 0x18700000 ≤ o % 2 ^ 29) : s.keepsCores (t.setReg v o w) :=
  ⟨fun q o' ho' => (State.reg_setReg_off t w (by omega)).trans (h.reg q o' ho')⟩

theorem setApertures (h : s.keepsCores t) (l : Sparse (Nat × Nat)) : s.keepsCores { t with apertures := l } := ⟨h.reg⟩

theorem atStops {f : State → Site → State} (hf : ∀ v q, s.keepsCores v → s.keepsCores (f v q)) (h : s.keepsCores t) : s.keepsCores (t.atStops f) := by
  unfold State.atStops
  exact List.foldlRecOn (motive := s.keepsCores) _ _ h fun v hv q _ => hf v q hv

theorem coreState (h : s.keepsCores t) (q : Site) : t.coreState q = s.coreState q := State.rf_of_reg (h.reg q _ (by norm_num)) ..

end State.keepsCores

/-- A key that a filter passes reads as before. -/
theorem Sparse.get_filter {α : Type} (d : α) {f : Nat × α → Bool} {i : Nat} (hf : ∀ v, f (i, v) = true) :
    ∀ l : Sparse α, Sparse.get d (l.filter f) i = Sparse.get d l i
  | [] => rfl
  | (k, v) :: l => by
    by_cases hk : k = i
    · rw [List.filter_cons_of_pos (by rw [hk, hf]), Sparse.get, Sparse.get, if_pos hk, if_pos hk]
    · rw [List.filter_cons]
      split
      · rw [Sparse.get, Sparse.get, if_neg hk, if_neg hk, Sparse.get_filter d hf l]
      · rw [Sparse.get_filter d hf l, Sparse.get, if_neg hk]

/-- A register of a bank and its twin lie among the banks. -/
theorem bankOf_bounds {o : Nat} {b : Nat × Nat} (h : bankOf o = some b) {k : Nat} (hk : k < 2) :
    0x18700000 ≤ inBank k b.2 ∧ inBank k b.2 < 2 ^ 29 := by
  unfold bankOf at h
  unfold inBank
  split at h
  · obtain rfl := Option.some.inj h
    dsimp only
    split <;> omega
  · split at h
    · obtain rfl := Option.some.inj h
      dsimp only
      split <;> omega
    · exact absurd h (by simp)

theorem keepsCores_copyBank (p : Site) (h : s.keepsCores t) : s.keepsCores (t.copyBank p) := by
  unfold State.copyBank
  split
  · exact h
  · dsimp only
    refine List.foldlRecOn (motive := s.keepsCores) _ _ ⟨fun q o ho => ?_⟩ fun v hv e _ => ?_
    · refine Eq.trans ?_ (h.reg q o ho)
      have hkey : regKey (.site q) o % 2 ^ 29 = o := by
        unfold regKey
        omega
      have hbank : bankOf o = none := by
        unfold bankOf
        rw [if_neg (by omega), if_neg (by omega)]
      rw [State.reg, State.reg]
      dsimp only
      rw [Sparse.get_filter 0 fun v => by rw [hkey, hbank]; simp]
    · split
      next b hb =>
        split
        · have := bankOf_bounds hb (k := 1 - t.slotBank p) (by omega)
          exact hv.setReg (by omega)
        · exact hv
      next => exact hv

theorem keepsCores_clearEntries (p : Site) (tag : Nat) (h : s.keepsCores t) : s.keepsCores (t.clearEntries p tag) := by
  unfold State.clearEntries
  refine List.foldlRecOn (motive := s.keepsCores) _ _ h fun v hv e he => ?_
  simp only [List.mem_filter, Bool.and_eq_true, decide_eq_true_eq] at he
  dsimp only
  split
  · exact hv.setReg (by omega)
  · exact hv

theorem keepsCores_writeLeases (p : Site) (h : s.keepsCores t) : s.keepsCores (t.writeLeases p) := by
  unfold State.writeLeases
  refine List.foldlRecOn (motive := s.keepsCores) _ _ h fun v hv bp hbp => ?_
  dsimp only
  refine List.foldlRecOn (motive := s.keepsCores) _ _ hv fun w hw i hi => hw.setReg ?_
  simp only [List.mem_range] at hbp hi
  omega

theorem keepsCores_armSwitch (h : s.keepsCores t) : s.keepsCores t.armSwitch := by
  unfold State.armSwitch
  exact List.foldlRecOn (motive := s.keepsCores) _ _ h fun v hv _ _ => hv.setReg (by norm_num)

/-- Without the partition no entry is written; its leases and entries go (R246). -/
theorem keepsCores_writeBanks (hnone : t.part tag = none) (h : s.keepsCores t) : s.keepsCores (t.writeBanks tag) := by
  have hparts := State.parts_foldl (f := fun v q => ((v.copyBank q).clearEntries q tag).writeLeases q)
    (fun v q => by rw [State.parts_writeLeases, State.parts_clearEntries, State.parts_copyBank]) (List.finRange 168) t
  unfold State.writeBanks
  dsimp only
  rw [State.part_of_parts hparts, hnone]
  refine keepsCores_armSwitch ?_
  exact List.foldlRecOn (motive := s.keepsCores) _ _ h fun v hv q _ =>
    keepsCores_writeLeases q (keepsCores_clearEntries q tag (keepsCores_copyBank q hv))

/-! ## Deletion (R192, R536) -/

theorem deletePart_effect (tag : Nat) : (s.deletePart tag).part tag = none ∧ s.keepsCores (s.deletePart tag) := by
  unfold State.deletePart
  extract_lets s₁ s₂ s₃
  have h₁ : s.keepsCores s₁ := ⟨fun _ _ _ => rfl⟩
  have h₂ : s.keepsCores s₂ := h₁.atStops fun v q hv => hv.setReg (by unfold pctxOff; omega)
  have hparts₂ : s₂.parts = s₁.parts := State.parts_atStops (fun _ _ => State.setReg_parts ..) _
  have hparts₃ : s₃.parts = s₂.parts := rfl
  have hnone : s₃.part tag = none := by
    rw [State.part_of_parts (hparts₃.trans hparts₂)]
    simp [s₁, State.part, State.setPart]
  exact ⟨(State.part_of_parts (State.parts_writeBanks ..) tag).trans hnone, keepsCores_writeBanks hnone (h₂.setApertures _)⟩

/-- A partition whose clear is complete is gone; another goes on as it is. -/
theorem finishClear_effect (hx : s.part tag = some x) : (s.finishClear tag).part tag = none ∨ (s.finishClear tag).part tag = some x := by
  unfold State.finishClear
  rw [hx]
  dsimp only
  split
  · exact .inl (deletePart_effect tag).1
  · exact .inr hx

theorem keepsCores_finishClear (tag : Nat) : s.keepsCores (s.finishClear tag) := by
  unfold State.finishClear
  split
  · split
    · exact (deletePart_effect tag).2
    · exact .rfl'
  · exact .rfl'

/-! ## The end of a zero-fill (R192, R517) -/

/-- Cells go with their segments; of the registers only SP_SEG_ON changes (R172). -/
theorem State.setSegOn_regs (mask : Nat) : (s.setSegOn p mask).regs = (s.setReg (.site p) 0x18500010 (w64 (mask % 2 ^ 48))).regs := by
  unfold State.setSegOn
  dsimp only
  rw [State.setReg, State.setReg]
  dsimp only
  have hwipe : ∀ l : List Nat, (l.foldl (fun st g => st.wipeSeg p g) s).regs = s.regs := fun l =>
    List.foldlRecOn (motive := fun t : State => t.regs = s.regs) l _ rfl fun _ ht _ _ => ht
  rw [hwipe]

theorem killClearComplete_frees (h : s.coreState p = 6) : ∃ u, exec (.killClearComplete p) s = .next u ∧ u.coreState p = 0 ∧
    u.reg (.site p) 0x18500010 = 0 ∧ ∀ q, q ≠ p → u.coreState q = s.coreState q := by
  let s₁ := ((s.setSegOn p 0).setRf (.site p) 0x18500000 1 1 0).setCoreState p 0
  have hoff : ∀ v o, (s.setSegOn p 0).reg v o = (s.setReg (.site p) 0x18500010 0).reg v o := fun v o => by
    rw [State.reg, State.setSegOn_regs]
    rfl
  have hstate : s₁.coreState p = 0 := State.rf_setRf_same _ _ (by norm_num)
  have hseg : s₁.reg (.site p) 0x18500010 = 0 := by
    simp only [s₁, State.setCoreState]
    rw [State.reg_setRf_off _ (by norm_num), State.reg_setRf_off _ (by norm_num), hoff, State.reg_setReg_same]
  have hother : ∀ q, q ≠ p → s₁.coreState q = s.coreState q := fun q hq => by
    have hsite : RegUnit.site q ≠ .site p := by simpa using hq
    refine State.rf_of_reg ?_ ..
    simp only [s₁, State.setCoreState]
    rw [State.reg_setRf_unit hsite, State.reg_setRf_unit hsite, hoff, State.reg_setReg_unit hsite]
  have hrest : ∃ u, exec (.killClearComplete p) s = .next u ∧ s₁.keepsCores u := by
    rw [exec_killClearComplete, execKillClearComplete, if_pos h]
    refine ⟨_, rfl, ?_⟩
    dsimp only
    split
    · exact keepsCores_finishClear _
    · exact .rfl'
  obtain ⟨u, hu, hkeep⟩ := hrest
  exact ⟨u, hu, (hkeep.coreState p).trans hstate, (hkeep.reg p _ (by norm_num)).trans hseg, fun q hq => (hkeep.coreState q).trans (hother q hq)⟩

/-! ## Kills (R383, R536) -/

theorem State.part_updPart (hx : s.part tag = some x) (f : Partition → Partition) : (s.updPart tag f).part tag = some (f x) := by
  rw [State.updPart, hx]
  simp [State.part, State.setPart]

/-- A clear that begins leaves the partition in CLEARING, or gone. -/
theorem beginClear_effect (hx : s.part tag = some x) (hy : (s.beginClear tag).part tag = some y) :
    y = { x with state := 4, ownerToken := none } := by
  have hcores : ∀ l : List Site, (l.foldl (fun st p => if st.coreState p = 0 then st
      else ((st.setRf (.site p) 0x18500000 2 1 0).setRf (.site p) 0x18500000 1 1 1).setCoreState p 6) s).parts = s.parts := fun l =>
    State.parts_foldl (fun _ _ => by split <;> rfl) l s
  unfold State.beginClear at hy
  dsimp only at hy
  have hpart := State.part_updPart ((State.part_of_parts ((State.parts_extMark tag 61).trans (hcores (s.sitesOf tag))) tag).trans hx)
    fun x => { x with state := 4, ownerToken := none }
  rcases finishClear_effect hpart with h | h
  · exact absurd (h.symm.trans hy) (by simp)
  · exact Option.some.inj (hy.symm.trans h)

/-- What a kill takes from a partition whose cores are in reset: its sites, barriers, collectives, job, grant and binding. -/
theorem unbound_effect (x : Partition) (h : s.hasPart tag) : ∃ z : Partition, (State.writeBanks (((((((s.partSites x).foldl (fun st p =>
    (st.setRf (.site p) 0x18700028 0 8 0xFF).setRf (.site p) 0x18000000 48 8 0xFF) s).removeBars (Fin.ofNat 168 x.home) tag).collsGone tag).endJob
      tag true).lowerGrant tag).updPart tag Partition.unbound) tag).part tag = some z.unbound := by
  have hsites : ((s.partSites x).foldl (fun st p => (st.setRf (.site p) 0x18700028 0 8 0xFF).setRf (.site p) 0x18000000 48 8 0xFF) s).parts =
      s.parts := State.parts_foldl (fun _ _ => by rw [State.setRf_parts, State.setRf_parts]) _ s
  obtain ⟨z, hz⟩ := ((((h.ofParts hsites).ofParts (State.parts_removeBars (Fin.ofNat 168 x.home) tag)).ofParts (State.parts_collsGone tag)).ofParts
    (State.parts_endJob tag true)).lowerGrant
  exact ⟨z, (State.part_of_parts (State.parts_writeBanks tag) tag).trans (State.part_updPart hz Partition.unbound)⟩

/-- A kill of a partition that is neither held nor clearing unbinds it and frees its cores; then it holds or clears. -/
theorem kill_effect (cause : Nat) (hold : Bool) (token : Option W64) (hx : s.part tag = some x) (h₃ : x.state ≠ 3) (h₄ : x.state ≠ 4) :
    ∃ (u : State) (z : Partition), u.part tag = some z.unbound ∧ s.kill tag cause hold token = if hold then
      (((u.sitesOf tag).foldl (fun st p => if st.coreState p = 0 then st else (st.setRf (.site p) 0x18500000 2 1 1).setCoreState p 7) u).extMark
        tag 62).updPart tag fun x => { x with state := 3, ownerToken := token } else u.beginClear tag := by
  have hreset : (((s.fail tag 0x04 0 0).failRequests tag cause).partReset tag).hasPart tag :=
    ((State.hasPart.fail ⟨x, hx⟩ 0x04 0 0).failRequests cause).partReset
  obtain ⟨z, hz⟩ := unbound_effect x hreset
  refine ⟨_, z, hz, ?_⟩
  unfold State.kill
  rw [hx]
  dsimp only
  rw [if_neg h₄, if_neg h₃]

/-- A kill with hold leaves the partition held, with nothing bound (R383, R536). -/
theorem kill_holds (cause : Nat) (token : Option W64) (hx : s.part tag = some x) (h₃ : x.state ≠ 3) (h₄ : x.state ≠ 4) :
    ∃ z : Partition, (s.kill tag cause true token).part tag = some { z.unbound with state := 3, ownerToken := token } := by
  obtain ⟨u, z, hz, hkill⟩ := kill_effect cause true token hx h₃ h₄
  have hcores : ((u.sitesOf tag).foldl (fun st p => if st.coreState p = 0 then st else
      (st.setRf (.site p) 0x18500000 2 1 1).setCoreState p 7) u).parts = u.parts :=
    State.parts_foldl (fun _ _ => by split <;> rfl) _ u
  rw [hkill, if_pos rfl]
  exact ⟨z, State.part_updPart ((State.part_of_parts ((State.parts_extMark tag 62).trans hcores) tag).trans hz) _⟩

/-- A kill with clear leaves the partition clearing, with nothing bound, or gone (R382, R536). -/
theorem kill_clears (cause : Nat) (token : Option W64) (hx : s.part tag = some x) (h₃ : x.state ≠ 3) (h₄ : x.state ≠ 4)
    (hy : (s.kill tag cause false token).part tag = some y) : ∃ z : Partition, y = { z.unbound with state := 4, ownerToken := none } := by
  obtain ⟨u, z, hz, hkill⟩ := kill_effect cause false token hx h₃ h₄
  rw [hkill, if_neg (by simp)] at hy
  exact ⟨z, beginClear_effect hz hy⟩

/-! ## Decisions and drains (R276, R535) -/

theorem epochDrainSlow_reports {t0 : Nat} (hflip : s.epoch.flippedAt = some t0) (hfirst : s.epoch.slow = false) (hlate : t0 + 10000 ≤ s.time) :
    ∃ u, exec .epochDrainSlow s = .next u ∧ u.epoch = { s.epoch with slow := true } ∧ ∃ w, s.raised u 0x2014 [w] := by
  rw [exec_epochDrainSlow, execEpochDrainSlow, hflip]
  dsimp only
  rw [if_pos (by simp [hfirst, hlate])]
  have hepoch : ∀ l, (s.event 0x2014 7 0xF0 0xFF 0xFF l).epoch = s.epoch := fun l => (congrArg State.epoch (onlyEvents_event ..).1 :)
  exact ⟨_, rfl, by rw [hepoch], _, raised_event ..⟩

theorem epochDrainSlow_waits (h : s.epoch.flippedAt = none ∨ s.epoch.slow = true) : exec .epochDrainSlow s = .next s := by
  rw [exec_epochDrainSlow, execEpochDrainSlow]
  rcases h with h | h
  · rw [h]
  · split
    · rw [if_neg (by simp [h])]
    · rfl

/-- The one partition of a panel. -/
theorem State.part_single (hparts : s.parts = [(tag, some x)]) : s.part tag = some x := by simp [State.part, hparts, Sparse.get]

theorem State.partList_single (hparts : s.parts = [(tag, some x)]) : s.partList = [(tag, x)] := by simp [State.partList, hparts]

theorem fmWaitExpiry_decides {id cause since : Nat} (hparts : s.parts = [(tag, some x)]) (hstate : x.state = 0)
    (hquery : x.query = some (id, cause, since)) (hdue : since + s.rf .mgmt 0x00140000 0 8 * 10 ^ 8 ≤ s.time) :
    ∃ u, exec .fmWaitExpiry s = .next u ∧
      (s.rf .mgmt 0x00140000 16 1 = 0 → ∃ y, u.part tag = some y ∧ y.state = 3 ∧ y.tab = none ∧ y.query = some (id, cause, since) ∧
        y.ownerToken = none) ∧
      (s.rf .mgmt 0x00140000 16 1 = 1 → ∀ y, u.part tag = some y → y.state = 4 ∧ y.query = none) := by
  have hfound : (s.partList.find? fun y => y.2.state == 0 && y.2.query.any fun q =>
      decide (q.2.2 + s.rf .mgmt 0x00140000 0 8 * 10 ^ 8 ≤ s.time)) = some (tag, x) := by
    rw [State.partList_single hparts]
    exact List.find?_cons_of_pos (by rw [hstate, hquery, Option.any_some, decide_eq_true hdue]; rfl)
  have hpart : ∀ l, (s.event 0x8027 8 tag tag 0xFF l).part tag = some x := fun l =>
    (State.part_of_parts (State.parts_event ..) tag).trans (State.part_single hparts)
  rw [exec_fmWaitExpiry, execFmWaitExpiry]
  dsimp only
  rw [hfound]
  dsimp only
  refine ⟨_, rfl, fun hhold => ?_, fun hrelease y hy => ?_⟩
  · rw [hhold, if_neg (by norm_num)]
    obtain ⟨z, hz⟩ := kill_holds (if (x.query.map fun z => z.2.1) = some 4 then 0x0A else 0x01) none (hpart _) (by omega) (by omega)
    exact ⟨_, State.part_updPart hz _, rfl, rfl, hquery, rfl⟩
  · rw [hrelease, if_pos rfl] at hy
    obtain ⟨z, rfl⟩ := kill_clears _ none (hpart _) (by omega) (by omega) hy
    exact ⟨rfl, rfl⟩

end Sys2Proof.Machine
end

section
/-! SUPPORT. What the parts of a frame mark leave at the stops as it is (R231, R233, R247, R251, R274, R329). -/

namespace Sys2Proof.Machine

variable {s t u : State} {p q : Site} {P P' : Prop} {R R' : Site → Nat → Prop}

/-! ## The relation -/

/-- Every event that a stop keeps by the frame rule is SB_LOST, with which a step's end reports stale flits (R248, R251). -/
def SiteSt.lostOnly (x : SiteSt) : Prop := ∀ e ∈ x.frameEvs, e.code = 0x2005

/-- What has been closed with the frame stays closed. -/
structure SiteSt.keepsClosed (x y : SiteSt) : Prop where
  loads : x.frameLoads = [] → y.frameLoads = []
  events : x.lostOnly → y.lostOnly

theorem SiteSt.keepsClosed.rfl' {x : SiteSt} : x.keepsClosed x := ⟨id, id⟩

/-- FRAME_LEN, the bank and epoch registers of a stop and the frames that name their changes. -/
def markReg (o : Nat) : Prop := o = 0x18700000 ∨ o = 0x18700008 ∨ o = 0x18700018 ∨ o = 0x18710000 ∨ o = 0x18710008

/-- The partition contexts of a stop. -/
def pctxReg (o : Nat) : Prop := 0x18702000 ≤ o ∧ o < 0x18702800

/-- A part of a frame mark: frame and time stand, what is closed stays closed, the registers named by `R` are kept, a stop's length in force with
its FRAME_LEN, and the partitions where `P` says so. -/
structure State.keepsStops (P : Prop) (R : Site → Nat → Prop) (s t : State) : Prop where
  frameCount : t.frameCount = s.frameCount
  time : t.time = s.time
  parts : P → t.parts = s.parts
  closed : ∀ q, (s.site q).keepsClosed (t.site q)
  len : ∀ q, R q 0x18700008 → t.frameLen q = s.frameLen q
  reg : ∀ q o, R q o → t.reg (.site q) o = s.reg (.site q) o

/-- The registers that the parts of a frame mark before its end of steps do not write. -/
def stopReg (_ : Site) (o : Nat) : Prop := markReg o ∨ pctxReg o

namespace State.keepsStops

theorem rfl' : s.keepsStops P R s := ⟨rfl, rfl, fun _ => rfl, fun _ => .rfl', fun _ _ => rfl, fun _ _ _ => rfl⟩

theorem trans (h : s.keepsStops P R t) (k : t.keepsStops P R u) : s.keepsStops P R u :=
  ⟨k.frameCount.trans h.frameCount, k.time.trans h.time, fun hP => (k.parts hP).trans (h.parts hP),
    fun q => ⟨fun hx => (k.closed q).loads ((h.closed q).loads hx), fun hx => (k.closed q).events ((h.closed q).events hx)⟩,
    fun q hq => (k.len q hq).trans (h.len q hq), fun q o ho => (k.reg q o ho).trans (h.reg q o ho)⟩

theorem mono (h : s.keepsStops P R t) (hP : P' → P) (hR : ∀ q o, R' q o → R q o) : s.keepsStops P' R' t :=
  ⟨h.frameCount, h.time, fun h' => h.parts (hP h'), h.closed, fun q hq => h.len q (hR q _ hq), fun q o ho => h.reg q o (hR q o ho)⟩

theorem sweep {α : Type} {f : State → α → State} (h : s.keepsStops P R t) (l : List α) (hf : ∀ v : State, ∀ x ∈ l, v.keepsStops P R (f v x)) :
    s.keepsStops P R (l.foldl f t) :=
  List.foldlRecOn (motive := s.keepsStops P R) l f h fun v hv x hx => hv.trans (hf v x hx)

theorem atStops {f : State → Site → State} (h : s.keepsStops P R t) (hf : ∀ (v : State) q, v.keepsStops P R (f v q)) : s.keepsStops P R (t.atStops f) := by
  unfold State.atStops
  exact h.sweep _ fun v q _ => hf v q

variable (h : s.keepsStops P R t)
include h

theorem setReg (v : RegUnit) {o : Nat} (w : W64) (ho : ∀ q o', R q o' → regKey (.site q) o' ≠ regKey v o) : s.keepsStops P R (t.setReg v o w) :=
  h.trans ⟨rfl, rfl, fun _ => rfl, fun _ => .rfl', fun _ _ => rfl, fun q o' ho' => State.reg_setReg_other _ w (ho q o' ho')⟩

theorem updSite (q : Site) {f : SiteSt → SiteSt} (hf : ∀ x : SiteSt, x.keepsClosed (f x)) (hlen : ∀ x, (f x).frameLen = x.frameLen) :
    s.keepsStops P R (t.updSite q f) := by
  refine h.trans ⟨rfl, rfl, fun _ => rfl, fun q' => ?_, fun q' _ => ?_, fun _ _ _ => rfl⟩
  · by_cases hq : q' = q
    · rw [hq, State.site_updSite_same]
      exact hf _
    · rw [State.site_updSite_other _ _ hq]
      exact .rfl'
  · exact State.site_updSite_keep hlen q q'

theorem ofEvents {ks : List (RegUnit × Nat)} (k : t.onlyEvents u ks) (hk : ∀ k ∈ ks, ∀ q o, R q o → regKey (.site q) o ≠ regKey k.1 k.2) :
    s.keepsStops P R u :=
  h.trans ⟨(congrArg State.frameCount k.1 :), k.time, fun _ => (congrArg State.parts k.1 :),
    fun q => by rw [State.site, State.site, k.sites]; exact .rfl',
    fun q _ => by rw [State.frameLen, State.frameLen, State.site, State.site, k.sites],
    fun q o ho => k.reg (by simp) fun j hj => hk j hj q o ho⟩

theorem inject (src : Place) (k : Packet) (hR : ∀ q o, R q o → stopReg q o) : s.keepsStops P R (t.inject src k) := by
  have hstep := onlyStepFail_inject (s := t) src k
  refine h.trans ⟨(congrArg State.frameCount hstep.1 :), (congrArg State.time hstep.1 :), fun _ => State.parts_inject ..,
    fun q => by rw [State.site, State.site, hstep.sites]; exact .rfl',
    fun q _ => by rw [State.frameLen, State.frameLen, State.site, State.site, hstep.sites],
    fun q o ho => hstep.2 (.site q) o (by simp) ?_⟩
  have := hR q o ho
  unfold stopReg markReg pctxReg at this
  omega

end State.keepsStops

/-! ## Ends of frames (R251, R527) -/

/-- Another offset is another register. -/
theorem regKey_ne_stopReg {v : RegUnit} {o o' : Nat} (h : stopReg q o') (ho : o' ≠ o % 2 ^ 29) : regKey (.site q) o' ≠ regKey v o := by
  refine regKey_ne fun he => ho ?_
  rw [← he]
  unfold stopReg markReg pctxReg at h
  omega

theorem keepsStops_flush (p : Site) : s.keepsStops True stopReg (s.flushFrameEvs p) := by
  unfold State.flushFrameEvs
  dsimp only
  split
  · exact .rfl'
  · refine State.keepsStops.updSite (State.keepsStops.rfl'.sweep _ fun v e _ => State.keepsStops.rfl'.ofEvents (onlyEvents_raise _) (by simp)) p
      (fun x => ⟨id, fun _ e he => absurd he (by simp)⟩) fun _ => rfl

theorem lostOnly_flush (p : Site) : ((s.flushFrameEvs p).site p).lostOnly := by
  unfold State.flushFrameEvs
  dsimp only
  split
  next hnone => rw [SiteSt.lostOnly, List.isEmpty_iff.1 hnone]; simp
  next => rw [State.site_updSite_same]; exact fun e he => absurd he (by simp)

theorem keepsStops_sympSettle (p : Site) : ∀ (n : Nat) (s : State), s.keepsStops True stopReg (State.sympSettle p n s)
  | 0, _ => .rfl'
  | n + 1, s => by
    have hsite : ∀ (v : State) (f : SiteSt → SiteSt), s.keepsStops True stopReg v → (∀ x : SiteSt, x.keepsClosed (f x)) → (∀ x, (f x).frameLen = x.frameLen) →
        s.keepsStops True stopReg (State.sympSettle p n (v.updSite p f)) := fun v f hv hf hlen =>
      (hv.updSite p hf hlen).trans (keepsStops_sympSettle p n _)
    unfold State.sympSettle
    split
    · exact .rfl'
    · split
      · exact .rfl'
      · refine hsite _ _ ?_ (fun _ => ⟨id, id⟩) fun _ => rfl
        exact State.keepsStops.rfl'.setReg _ _ fun q o ho => regKey_ne_stopReg ho (by unfold stopReg markReg pctxReg at ho; omega)
      · split
        · exact hsite _ _ .rfl' (fun _ => ⟨id, id⟩) fun _ => rfl
        · exact .rfl'
      · split
        · exact hsite _ _ (State.keepsStops.rfl'.updSite p (fun _ => ⟨id, id⟩) fun _ => rfl) (fun _ => ⟨id, id⟩) fun _ => rfl
        · exact .rfl'

theorem keepsStops_foldLoads (p : Site) : s.keepsStops True stopReg (s.foldLoads p) := by
  unfold State.foldLoads
  dsimp only
  split
  · exact .rfl'
  · refine State.keepsStops.sweep ?_ _ fun v q _ => .trans ?_ (keepsStops_sympSettle q 512 _)
    · exact State.keepsStops.rfl'.updSite p (fun _ => ⟨fun _ => rfl, id⟩) fun _ => rfl
    · exact State.keepsStops.rfl'.updSite q (fun _ => ⟨id, id⟩) fun _ => rfl

theorem keepsStops_endFrame (p : Site) : s.keepsStops True stopReg (s.endFrame p) := by
  unfold State.endFrame
  dsimp only
  refine (keepsStops_foldLoads p).sweep _ fun v q _ => .trans ?_ (keepsStops_sympSettle q 512 _)
  exact State.keepsStops.rfl'.updSite q (fun _ => ⟨id, id⟩) fun _ => rfl

/-! ## Frame length, banks and epochs (R231, R233, R274) -/

/-- What a stop takes over at a frame mark. -/
def State.turnOver (s : State) (p : Site) : State := ((s.takeFrameLen p).switchBanks p).invertEpoch p

/-- A frame length in range, the banks and the epoch due at a stop have taken effect in the second state. -/
structure State.turned (s t : State) (p : Site) : Prop where
  len : t.frameLen p = if 64 ≤ s.rf (.site p) 0x18700008 0 14 ∧ s.rf (.site p) 0x18700008 0 14 ≤ 8192
    then s.rf (.site p) 0x18700008 0 14 else s.frameLen p
  bank : s.reg (.site p) 0x18700018 = s.frameCount → s.switchPending p = true → t.slotBank p = 1 - s.slotBank p
  epoch : s.reg (.site p) 0x18710008 = s.frameCount → s.frameCount ≠ BitVec.allOnes 64 →
    t.injectEpoch p = 1 - s.injectEpoch p ∧ t.rf (.site p) 0x18710000 1 1 = 1

/-- The registers that a stop's turn-over leaves: the partition contexts, and those of the other stops. -/
def otherStops (p q : Site) (o : Nat) : Prop := (q ≠ p ∧ markReg o) ∨ pctxReg o

theorem keepsStops_turnOver (p : Site) : s.keepsStops True (otherStops p) (s.turnOver p) := by
  have hset : ∀ {v : State} {o : Nat} {w : W64}, markReg o → s.keepsStops True (otherStops p) v →
      s.keepsStops True (otherStops p) (v.setReg (.site p) o w) := fun {v o w} ho hv => hv.setReg _ _ fun q o' ho' => by
    rcases ho' with ⟨hq, -⟩ | ho'
    · exact regKey_ne_of_unit (by simpa using hq)
    · refine regKey_ne ?_
      unfold markReg at ho
      unfold pctxReg at ho'
      omega
  have hlen : s.keepsStops True (otherStops p) (s.takeFrameLen p) := by
    unfold State.takeFrameLen
    dsimp only
    split
    · exact .rfl'
    · refine ⟨rfl, rfl, fun _ => rfl, fun q => ?_, fun q hq => ?_, fun _ _ _ => rfl⟩
      · by_cases hqp : q = p
        · rw [hqp, State.site_updSite_same]
          exact ⟨id, id⟩
        · rw [State.site_updSite_other _ _ hqp]
          exact .rfl'
      · obtain ⟨hqp, -⟩ | hq := hq
        · rw [State.frameLen, State.site_updSite_other _ _ hqp, State.frameLen]
        · unfold pctxReg at hq
          omega
  have hbank : s.keepsStops True (otherStops p) ((s.takeFrameLen p).switchBanks p) := by
    unfold State.switchBanks
    split
    · exact hset (by simp [markReg]) (hset (by simp [markReg]) hlen)
    · exact hlen
  unfold State.turnOver State.invertEpoch
  split
  · exact hset (by simp [markReg]) (hset (by simp [markReg]) (hset (by simp [markReg]) hbank))
  · exact hbank

theorem State.reg_takeFrameLen (v : RegUnit) (o : Nat) : (s.takeFrameLen p).reg v o = s.reg v o := by
  unfold State.takeFrameLen
  dsimp only
  split <;> rfl

theorem State.frameLen_takeFrameLen : (s.takeFrameLen p).frameLen p =
    if 64 ≤ s.rf (.site p) 0x18700008 0 14 ∧ s.rf (.site p) 0x18700008 0 14 ≤ 8192 then s.rf (.site p) 0x18700008 0 14 else s.frameLen p := by
  unfold State.takeFrameLen
  dsimp only
  split
  next hstay =>
    simp only [Bool.or_eq_true, decide_eq_true_eq] at hstay
    split
    · omega
    · rfl
  next hgo =>
    simp only [Bool.or_eq_true, decide_eq_true_eq] at hgo
    rw [if_pos (by omega), State.frameLen, State.site_updSite_same]

theorem State.rf_switchBanks {o : Nat} (ho : o % 2 ^ 29 ≠ 0x18700000 ∧ o % 2 ^ 29 ≠ 0x18700018) (lo w : Nat) :
    (s.switchBanks p).rf (.site p) o lo w = s.rf (.site p) o lo w := by
  unfold State.switchBanks
  split
  · rw [State.rf_setReg_off (by omega), State.rf_setRf_off (by omega)]
  · rfl

theorem State.rf_invertEpoch {o : Nat} (ho : o % 2 ^ 29 ≠ 0x18710000 ∧ o % 2 ^ 29 ≠ 0x18710008) (lo w : Nat) :
    (s.invertEpoch p).rf (.site p) o lo w = s.rf (.site p) o lo w := by
  unfold State.invertEpoch
  split
  · rw [State.rf_setReg_off (by omega), State.rf_setRf_off (by omega), State.rf_setRf_off (by omega)]
  · rfl

theorem State.slotBank_switchBanks (hdue : s.reg (.site p) 0x18700018 = s.frameCount) (hpend : s.switchPending p = true) :
    (s.switchBanks p).slotBank p = 1 - s.slotBank p := by
  unfold State.switchBanks
  rw [if_pos (by simp [hdue, hpend]), State.slotBank, State.rf_setReg_off (by norm_num), State.rf_setRf_same _ _ (by norm_num)]
  omega

theorem State.epoch_invertEpoch (hdue : s.reg (.site p) 0x18710008 = s.frameCount) (hset : s.frameCount ≠ BitVec.allOnes 64) :
    (s.invertEpoch p).injectEpoch p = 1 - s.injectEpoch p ∧ (s.invertEpoch p).rf (.site p) 0x18710000 1 1 = 1 := by
  unfold State.invertEpoch
  rw [if_pos (by rw [hdue]; simpa using hset), State.injectEpoch, State.rf_setReg_off (by norm_num), State.rf_setReg_off (by norm_num),
    State.rf_setRf_field _ _ (by norm_num) (by norm_num), State.rf_setRf_same _ _ (by norm_num), State.rf_setRf_same _ _ (by norm_num)]
  omega

theorem turned_turnOver (p : Site) : s.turned (s.turnOver p) p := by
  have hcount : (s.takeFrameLen p).frameCount = s.frameCount := by
    unfold State.takeFrameLen
    dsimp only
    split <;> rfl
  have hcount' : ((s.takeFrameLen p).switchBanks p).frameCount = s.frameCount := by
    unfold State.switchBanks
    split <;> exact hcount
  have hreg' : ((s.takeFrameLen p).switchBanks p).reg (.site p) 0x18710008 = s.reg (.site p) 0x18710008 := by
    unfold State.switchBanks
    split
    · rw [State.reg_setReg_off _ _ (by norm_num), State.reg_setRf_off _ (by norm_num), State.reg_takeFrameLen]
    · exact State.reg_takeFrameLen ..
  refine ⟨?_, fun hdue hpend => ?_, fun hdue hset => ?_⟩
  · rw [← State.frameLen_takeFrameLen, State.turnOver]
    have hbank : ((s.takeFrameLen p).switchBanks p).sites = (s.takeFrameLen p).sites := by
      unfold State.switchBanks
      split <;> rfl
    have hepoch : (((s.takeFrameLen p).switchBanks p).invertEpoch p).sites = ((s.takeFrameLen p).switchBanks p).sites := by
      unfold State.invertEpoch
      split <;> rfl
    rw [State.frameLen, State.frameLen, State.site, State.site, hepoch, hbank]
  · have hpend' : (s.takeFrameLen p).switchPending p = true := by rwa [State.switchPending, State.reg_takeFrameLen]
    have hdue' : (s.takeFrameLen p).reg (.site p) 0x18700018 = (s.takeFrameLen p).frameCount := by rw [State.reg_takeFrameLen, hcount, hdue]
    calc (s.turnOver p).slotBank p = ((s.takeFrameLen p).switchBanks p).slotBank p := State.rf_invertEpoch (by norm_num) ..
      _ = 1 - (s.takeFrameLen p).slotBank p := State.slotBank_switchBanks hdue' hpend'
      _ = 1 - s.slotBank p := by rw [State.slotBank, State.rf_of_reg (State.reg_takeFrameLen ..), State.slotBank]
  · have hinject : ((s.takeFrameLen p).switchBanks p).injectEpoch p = s.injectEpoch p :=
      (State.rf_switchBanks (by norm_num) ..).trans (State.rf_of_reg (State.reg_takeFrameLen ..) ..)
    rw [← hinject]
    exact State.epoch_invertEpoch (by rw [hreg', hcount', hdue]) (by rwa [hcount'])

theorem State.turned.keeps (h : s.turned t p) (k : t.keepsStops P R u) (hR : ∀ o, markReg o → R p o) : s.turned u p := by
  obtain ⟨hlen, hbank, hepoch⟩ := h
  have hbank' : u.slotBank p = t.slotBank p := State.rf_of_reg (k.reg p _ (hR _ (by simp [markReg]))) ..
  have hepoch' : ∀ lo w, u.rf (.site p) 0x18710000 lo w = t.rf (.site p) 0x18710000 lo w := State.rf_of_reg (k.reg p _ (hR _ (by simp [markReg])))
  exact ⟨(k.len p (hR _ (by simp [markReg]))).trans hlen, fun ha hb => hbank'.trans (hbank ha hb),
    fun ha hb => ⟨(hepoch' ..).trans (hepoch ha hb).1, (hepoch' ..).trans (hepoch ha hb).2⟩⟩

theorem State.turned.ofKept (h : t.turned u p) (k : s.keepsStops P R t) (hR : ∀ o, markReg o → R p o) : s.turned u p := by
  obtain ⟨hlen, hbank, hepoch⟩ := h
  have hreg : ∀ o, markReg o → t.reg (.site p) o = s.reg (.site p) o := fun o ho => k.reg p o (hR o ho)
  rw [State.rf_of_reg (hreg _ (by simp [markReg])), k.len p (hR _ (by simp [markReg]))] at hlen
  rw [hreg _ (by simp [markReg]), k.frameCount, State.switchPending, hreg _ (by simp [markReg]), State.slotBank, State.slotBank,
    State.rf_of_reg (hreg _ (by simp [markReg]))] at hbank
  rw [hreg _ (by simp [markReg]), k.frameCount, State.injectEpoch, State.injectEpoch, State.rf_of_reg (hreg _ (by simp [markReg]))] at hepoch
  exact ⟨hlen, hbank, hepoch⟩

/-- A sweep makes of a state what its step at one element makes, where the steps at the others neither hinder nor undo it. -/
theorem foldl_once {σ α : Type} {f : σ → α → σ} {a : α} {A B : σ → Prop} (hA : ∀ s x, x ≠ a → A s → A (f s x)) (hAB : ∀ s, A s → B (f s a))
    (hB : ∀ s x, x ≠ a → B s → B (f s x)) : ∀ (l : List α) (s : σ), l.Nodup → a ∈ l → A s → B (l.foldl f s)
  | x :: l, s, hnodup, hmem, hs => by
    obtain ⟨hx, hl⟩ := List.nodup_cons.1 hnodup
    rw [List.foldl_cons]
    by_cases hxa : x = a
    · exact List.foldlRecOn (motive := B) l f (hxa ▸ hAB s hs) fun t ht y hy => hB t y (fun hya => hx (hxa ▸ hya ▸ hy)) ht
    · exact foldl_once hA hAB hB l _ hl ((List.mem_cons.1 hmem).resolve_left fun he => hxa he.symm) (hA s x hxa hs)

/-- In a sweep over all stops that each change their own registers only, every stop turns over once. -/
theorem turned_atStops (p : Site) : s.turned (s.atStops State.turnOver) p := by
  have hother : ∀ q, q ≠ p → ∀ o, markReg o → otherStops q p o := fun q hq o ho => .inl ⟨hq.symm, ho⟩
  unfold State.atStops
  refine foldl_once (A := s.keepsStops True fun q o => q = p ∧ markReg o) (B := fun t => s.turned t p) (fun t q hq ht => ?_) (fun t ht => ?_)
    (fun t q hq ht => ?_) _ s (List.nodup_finRange 168) (List.mem_finRange p) .rfl'
  · exact ht.trans ((keepsStops_turnOver q).mono id fun q' o ho => ho.1 ▸ hother q hq o ho.2)
  · exact (turned_turnOver p).ofKept ht fun o ho => ⟨rfl, ho⟩
  · exact ht.keeps (keepsStops_turnOver q) (hother q hq)

/-! ## Drain reports (R274) -/

theorem keepsStops_latchOld (p : Site) : s.keepsStops True stopReg (s.latchOld p) := by
  have hlatch : ∀ w, s.keepsStops True stopReg (s.setReg (.site p) 0x18710018 w) := fun w =>
    State.keepsStops.rfl'.setReg _ _ fun q o ho => regKey_ne_stopReg ho (by unfold stopReg markReg pctxReg at ho; omega)
  unfold State.latchOld
  split
  · exact .rfl'
  · dsimp only
    split
    · exact (hlatch _).inject _ _ fun _ _ => id
    · exact hlatch _

theorem keepsStops_stackReports : s.keepsStops True stopReg s.stackReports := by
  unfold State.stackReports
  split
  · exact .rfl'
  · exact State.keepsStops.rfl'.sweep _ fun v k _ => State.keepsStops.rfl'.inject _ _ fun _ _ => id

/-! ## Steps (R247, R248, R329) -/

/-- The registers that a step's end leaves. -/
def bankReg (_ : Site) (o : Nat) : Prop := markReg o

theorem mem_mapFirst {α : Type} {c : α → Bool} {f : α → α} {y : α} : ∀ {l : List α}, y ∈ mapFirst c f l → ∃ x ∈ l, y = x ∨ y = f x
  | x :: l, h => by
    rw [mapFirst] at h
    split at h <;> rcases List.mem_cons.1 h with rfl | h
    · exact ⟨x, by simp, .inr rfl⟩
    · exact ⟨y, by simp [h], .inl rfl⟩
    · exact ⟨y, by simp, .inl rfl⟩
    · obtain ⟨z, hz, hy⟩ := mem_mapFirst h
      exact ⟨z, by simp [hz], hy⟩

theorem keepsStops_frameEvent (p : Site) (part : Nat) (detail : List Nat) : s.keepsStops True bankReg (s.frameEvent p 0x2005 part detail none) := by
  unfold State.frameEvent
  refine State.keepsStops.rfl'.updSite p (fun x => ?_) fun x => by split <;> rfl
  split
  · refine ⟨id, fun hx e he => ?_⟩
    obtain ⟨e', he', rfl | rfl⟩ := mem_mapFirst he
    · exact hx e he'
    · exact hx e' he'
  · refine ⟨id, fun hx e he => ?_⟩
    rcases List.mem_append.1 he with he | he
    · exact hx e he
    · rw [List.mem_singleton.1 he]
      rfl

/-- Which flits are stale does not matter here. (They are made a variable before the definition is opened, so that no check evaluates them.) -/
theorem keepsStops_endStep (p : Site) (tag : Nat) : s.keepsStops True bankReg (s.endStep p tag) := by
  obtain ⟨end_, hend⟩ : ∃ f, f = @State.endStep := ⟨_, rfl⟩
  rw [← hend]
  delta State.endStep at hend
  obtain ⟨staleOf, hstale⟩ : ∃ f, f = @State.stale := ⟨_, rfl⟩
  rw [← hstale] at hend
  clear hstale
  rw [hend]
  beta_reduce
  extract_lets s₁ stale n s₂ s₃ s₄
  have h₁ : s.keepsStops True bankReg s₁ := State.keepsStops.rfl'.setReg _ _ fun q o ho =>
    regKey_ne_stopReg (.inl ho) (by unfold bankReg markReg at ho; unfold pctxOff; omega)
  have h₂ : s.keepsStops True bankReg s₂ := h₁.sweep _ fun v i _ => State.keepsStops.rfl'.updSite p (fun _ => ⟨id, id⟩) fun _ => rfl
  have h₃ : s.keepsStops True bankReg s₃ := by
    simp only [s₃]
    split
    · refine h₂.sweep _ fun v b _ => ?_
      have hempty : v.keepsStops True bankReg (v.setSlotBuf p b []) := State.keepsStops.rfl'.updSite p (fun _ => ⟨id, id⟩) fun _ => rfl
      split
      · exact hempty
      · split
        · exact hempty.updSite p (fun _ => ⟨id, id⟩) fun _ => rfl
        · exact .rfl'
    · exact h₂
  clear_value n stale
  split
  · have hflags : s.keepsStops True bankReg s₄ := by
      refine h₃.sweep _ fun v e _ => ?_
      split
      · exact State.keepsStops.rfl'.setReg _ _ fun q o ho => regKey_ne_stopReg (.inl ho) (by unfold bankReg markReg at ho; omega)
      · exact .rfl'
    have hcount : s.keepsStops True bankReg (s₄.count32n (.site p) 0x187001B0 n) := hflags.ofEvents (onlyEvents_count32n _ _ _) (by
      simp only [List.mem_singleton, forall_eq]
      exact fun q o ho => regKey_ne_stopReg (.inl ho) (by unfold bankReg markReg at ho; omega))
    exact (hcount.trans (keepsStops_frameEvent ..)).inject _ _ fun _ _ ho => .inl ho
  · exact h₃

/-! ## Partitions (R329, R362) -/

variable {tag : Nat} {x : Partition}

/-- A change of a partition is one of the partitions alone. -/
theorem keepsStops_updPart (tag : Nat) (f : Partition → Partition) : s.keepsStops False R (s.updPart tag f) := by
  unfold State.updPart
  split <;> exact ⟨rfl, rfl, False.elim, fun _ => .rfl', fun _ _ => rfl, fun _ _ _ => rfl⟩

theorem keepsStops_goCore (p : Site) (index : W64) : s.keepsStops True R (s.goCore p index) := by
  have hcc : ∀ (v : State) q (f : Cc → Cc), v.keepsStops True R (v.updCc q f) := fun v q f =>
    State.keepsStops.rfl'.updSite q (fun _ => ⟨id, id⟩) fun _ => rfl
  unfold State.goCore
  dsimp only
  exact (hcc ..).sweep _ fun v q _ => (hcc ..).updSite q (fun _ => ⟨id, id⟩) fun _ => rfl

theorem keepsStops_endSteps : s.keepsStops False bankReg s.endSteps := by
  unfold State.endSteps
  refine State.keepsStops.atStops (State.keepsStops.rfl'.sweep _ fun v y _ => keepsStops_updPart ..) fun v q => ?_
  exact State.keepsStops.rfl'.sweep _ fun w n _ => (keepsStops_endStep q n).mono False.elim fun _ _ => id

theorem keepsStops_startSteps : s.keepsStops False bankReg s.startSteps := by
  unfold State.startSteps
  refine State.keepsStops.rfl'.sweep _ fun v y _ => (keepsStops_updPart ..).sweep _ fun w q _ => ?_
  exact (keepsStops_goCore ..).mono False.elim fun _ _ => id

theorem keepsStops_noteOthers : s.keepsStops False bankReg s.noteOthers := by
  unfold State.noteOthers
  exact State.keepsStops.rfl'.sweep _ fun v y _ => keepsStops_updPart ..

end Sys2Proof.Machine
end

section
/-! O42, frame marks: FRAME_COUNT, frame lengths, banks, epochs, and the steps that start and end (R231, R233, R247, R251, R274, R329). -/

namespace Sys2Proof.Machine

variable {s t u : State} {p : Site} {tag : Nat} {x y z : Partition}

/-! ## Marks of a step (R329) -/

/-- The marks of a partition's step: its frame 0, the last start it answered to, and its end. -/
def Partition.sameMarks (x y : Partition) : Prop := y.mark0 = x.mark0 ∧ y.lastMark = x.lastMark ∧ y.markEnd = x.markEnd

theorem State.marks_updPart {f : Partition → Partition} (hx : s.part tag = some x) (hf : ∀ z : Partition, z.sameMarks (f z)) (n : Nat) :
    ∃ y, (s.updPart n f).part tag = some y ∧ x.sameMarks y := by
  by_cases hn : tag = n
  · exact ⟨f x, hn ▸ State.part_updPart hx f, hf x⟩
  · refine ⟨x, ?_, rfl, rfl, rfl⟩
    unfold State.updPart
    split
    · rw [State.part, State.setPart, Sparse.get_put_other _ _ _ hn]
      exact hx
    · exact hx

/-- Noting the partitions that run beside one leaves its marks (R362). -/
theorem noteOthers_marks (hx : s.part tag = some x) : ∃ y, s.noteOthers.part tag = some y ∧ x.sameMarks y := by
  unfold State.noteOthers
  refine List.foldlRecOn (motive := fun t : State => ∃ y, t.part tag = some y ∧ x.sameMarks y) _ _ ⟨x, hx, rfl, rfl, rfl⟩ fun t ht e _ => ?_
  obtain ⟨y, hy, hmark0, hlast, hend⟩ := ht
  obtain ⟨z, hz, kmark0, klast, kend⟩ := State.marks_updPart (f := fun x => if x.tab.isNone then x else
    { x with
      others := joinTags e.1 x.others (s.running.map Prod.fst)
      running := x.running.map fun r => if r.begun then { r with others := joinTags e.1 r.others (s.running.map Prod.fst) } else r })
    hy (fun z => by split <;> exact ⟨rfl, rfl, rfl⟩) e.1
  exact ⟨z, hz, kmark0.trans hmark0, klast.trans hlast, kend.trans hend⟩

/-- At the mark that a step's start names, its frame 0 begins. -/
theorem startSteps_starts (hparts : s.parts = [(tag, some x)]) (harmed : x.armed = true) (hfailed : x.failed = none) (hmark0 : x.mark0 = none)
    (hstart : x.start = s.frameCount) : ∃ y, s.startSteps.part tag = some y ∧ y.mark0 = some s.time ∧ y.lastMark = some s.frameCount := by
  have hlist : (s.partList.filter fun y => y.2.armed && y.2.failed.isNone && y.2.mark0.isNone && y.2.start == s.frameCount) = [(tag, x)] := by
    simp [State.partList_single hparts, harmed, hfailed, hmark0, hstart]
  have hgo : ∀ (v : State) (l : List Site), (l.foldl (fun st p => st.goCore p x.stepIndex) v).parts = v.parts := fun v l =>
    (State.keepsStops.rfl'.sweep (R := bankReg) l fun w q _ => keepsStops_goCore q x.stepIndex).parts trivial
  unfold State.startSteps
  rw [hlist, List.foldl_cons, List.foldl_nil]
  exact ⟨_, (State.part_of_parts (hgo ..) tag).trans (State.part_updPart (State.part_single hparts) _), rfl, rfl⟩

/-- A step under way does not start again. -/
theorem startSteps_goesOn (hparts : s.parts = [(tag, some x)]) (hmark0 : x.mark0.isSome = true) : s.startSteps = s := by
  have hlist : (s.partList.filter fun y => y.2.armed && y.2.failed.isNone && y.2.mark0.isNone && y.2.start == s.frameCount) = [] := by
    simp [State.partList_single hparts, Option.isSome_iff_ne_none.1 hmark0]
  unfold State.startSteps
  rw [hlist, List.foldl_nil]

/-- The stops at which a step ends leave the partitions as the ending has marked them. -/
theorem parts_endSteps : ∃ l : List (Nat × Partition), l = (s.running.filter fun y => y.2.failed.isNone && y.2.markEnd.isNone &&
      s.frameCount == y.2.start + w64 (s.rf (.site 0) (pctxOff y.1) 0 16)) ∧
    State.sameParts (l.foldl (fun st y => st.updPart y.1 fun x => { x with markEnd := some s.time }) s) s.endSteps := by
  refine ⟨_, rfl, ?_⟩
  unfold State.endSteps
  dsimp only
  refine ⟨(State.keepsStops.rfl'.atStops (P := True) (R := bankReg) fun v q => ?_).parts trivial⟩
  exact State.keepsStops.rfl'.sweep _ fun w n _ => keepsStops_endStep q n

theorem endSteps_idle (hparts : s.parts = [(tag, some x)]) (hmark0 : x.mark0 = none) : s.endSteps.parts = s.parts := by
  obtain ⟨l, hl, h⟩ := parts_endSteps (s := s)
  have hnone : l = [] := by simp [hl, State.running, State.partList_single hparts, hmark0]
  rw [h.parts, hnone, List.foldl_nil]

theorem endSteps_ends (hparts : s.parts = [(tag, some x)]) (harmed : x.armed = true) (hfailed : x.failed = none) (hmark0 : x.mark0.isSome = true)
    (hend : x.markEnd = none) (hlast : s.frameCount = x.start + w64 (s.rf (.site 0) (pctxOff tag) 0 16)) :
    s.endSteps.parts = [(tag, some { x with markEnd := some s.time })] := by
  obtain ⟨l, hl, h⟩ := parts_endSteps (s := s)
  have hone : l = [(tag, x)] := by
    rw [hl, State.running, State.partList_single hparts]
    simp [harmed, hfailed, hmark0, hend, hlast]
  rw [h.parts, hone, List.foldl_cons, List.foldl_nil, State.updPart, State.part_single hparts]
  simp [State.setPart, hparts, Sparse.put, Sparse.ins]

/-! ## The mark -/

theorem State.keepsStops.setEpoch {P : Prop} {R : Site → Nat → Prop} (h : s.keepsStops P R t) (e : EpochSt) : s.keepsStops P R { t with epoch := e } :=
  h.trans ⟨rfl, rfl, fun _ => rfl, fun _ => .rfl', fun _ _ => rfl, fun _ _ _ => rfl⟩

/-- A sweep over all stops brings a stop to what its own step brings it to, where no other step takes it away. -/
theorem State.atStops_reaches {f : State → Site → State} {B : State → Prop} (hmake : ∀ v : State, B (f v p)) (hkeep : ∀ v q, B v → B (f v q)) :
    B (s.atStops f) := by
  unfold State.atStops
  exact foldl_once (A := fun _ => True) (fun _ _ _ _ => trivial) (fun v _ => hmake v) (fun v q _ hv => hkeep v q hv) _ s (List.nodup_finRange 168)
    (List.mem_finRange p) trivial

theorem keepsStops_forgetLoads (p : Site) : s.keepsStops True stopReg (s.updSite p fun x => { x with frameLoads := [] }) :=
  State.keepsStops.rfl'.updSite p (fun _ => ⟨fun _ => rfl, id⟩) fun _ => rfl

/-- A frame mark closes the frame at every stop, advances FRAME_COUNT, and turns every stop over; then steps end and start. -/
theorem frameMark_stages : ∃ v w, exec .frameMark s = .next (w.endSteps.startSteps).noteOthers ∧ s.keepsStops True stopReg v ∧
    (∀ p, (v.site p).lostOnly ∧ (v.site p).frameLoads = []) ∧
    let v' := { v with frameCount := v.frameCount + 1 }
    (∀ p, v'.turned w p) ∧ v'.keepsStops True (fun _ => pctxReg) w := by
  obtain ⟨o, ho⟩ : ∃ o, exec .frameMark s = o := ⟨_, rfl⟩
  rw [ho]
  rw [exec_frameMark] at ho
  unfold execFrameMark at ho
  extract_lets s₁ s₂ s₃ s₄ flips s₅ told s₆ s₇ at ho
  have k₁ : s.keepsStops True stopReg s₁ := State.keepsStops.rfl'.atStops fun _ q => keepsStops_flush q
  have k₂ : s₁.keepsStops True stopReg s₂ := State.keepsStops.rfl'.sweep _ fun v y _ =>
    State.keepsStops.rfl'.sweep _ fun w q _ => keepsStops_endFrame q
  have k₃ : s₂.keepsStops True stopReg s₃ := State.keepsStops.rfl'.atStops fun _ q => keepsStops_forgetLoads q
  have hlost : ∀ p, (s₁.site p).lostOnly := fun p =>
    State.atStops_reaches (B := fun v => (v.site p).lostOnly) (fun v => lostOnly_flush p) fun v q => ((keepsStops_flush q).closed p).events
  have hloads : ∀ p, (s₃.site p).frameLoads = [] := fun p =>
    State.atStops_reaches (p := p) (B := fun v => (v.site p).frameLoads = []) (fun v => by rw [State.site_updSite_same])
      fun v q => ((keepsStops_forgetLoads q).closed p).loads
  have k₅ : s₄.keepsStops True (fun _ => pctxReg) s₅ := State.keepsStops.rfl'.atStops fun _ q =>
    (keepsStops_turnOver q).mono id fun _ _ ho => .inr ho
  have k₆ : s₅.keepsStops True stopReg s₆ := by
    simp only [s₆]
    split
    · exact (State.keepsStops.rfl'.ofEvents (onlyEvents_event ..) (by simp)).setEpoch _
    · exact .rfl'
  have k₇ : s₆.keepsStops True stopReg s₇ :=
    (State.keepsStops.rfl'.atStops fun _ q => keepsStops_latchOld q).trans keepsStops_stackReports
  refine ⟨s₃, s₇, ho.symm, (k₁.trans k₂).trans k₃, fun p => ⟨?_, hloads p⟩, fun p => ?_, k₅.trans ((k₆.trans k₇).mono id fun _ _ ho => .inr ho)⟩
  · exact ((k₂.trans k₃).closed p).events (hlost p)
  · exact (turned_atStops p).keeps (k₆.trans k₇) fun o ho => .inl ho

/-- What a frame mark does at the stops. -/
theorem frameMark_stops {v w : State} (hv : s.keepsStops True stopReg v) (hturn : ∀ p, State.turned { v with frameCount := v.frameCount + 1 } w p)
    (hw : w.keepsStops False bankReg u) (p : Site) : State.turned { s with frameCount := s.frameCount + 1 } u p := by
  have hcount : v.frameCount + 1 = s.frameCount + 1 := by rw [hv.frameCount]
  have hv' : State.keepsStops True stopReg { s with frameCount := s.frameCount + 1 } { v with frameCount := v.frameCount + 1 } :=
    ⟨hcount, hv.time, hv.parts, hv.closed, hv.len, hv.reg⟩
  exact ((hturn p).ofKept hv' fun o ho => .inl ho).keeps hw fun o ho => ho

theorem frameMark_effect (s : State) (tag : Nat) (x : Partition) : ∃ u, exec .frameMark s = .next u ∧ u.frameCount = s.frameCount + 1 ∧
    (∀ p, (u.site p).frameLoads = [] ∧ (u.site p).lostOnly) ∧
    (∀ p, State.turned { s with frameCount := s.frameCount + 1 } u p) ∧
    (s.parts = [(tag, some x)] → x.armed = true → x.failed = none → x.mark0 = none → x.start = s.frameCount + 1 →
      ∃ y, u.part tag = some y ∧ y.mark0 = some s.time ∧ y.lastMark = some (s.frameCount + 1)) ∧
    (s.parts = [(tag, some x)] → x.armed = true → x.failed = none → x.mark0.isSome = true → x.markEnd = none →
      s.frameCount + 1 = x.start + w64 (s.rf (.site 0) (pctxOff tag) 0 16) → ∃ y, u.part tag = some y ∧ y.markEnd = some s.time) := by
  obtain ⟨v, w, hexec, kv, hclosed, hturn, kw⟩ := frameMark_stages (s := s)
  have kend : w.keepsStops False bankReg w.endSteps := keepsStops_endSteps
  have kall : w.keepsStops False bankReg (w.endSteps.startSteps).noteOthers := (kend.trans keepsStops_startSteps).trans keepsStops_noteOthers
  have hcount : w.frameCount = s.frameCount + 1 := kw.frameCount.trans (congrArg (· + 1) kv.frameCount)
  have htime : w.time = s.time := kw.time.trans kv.time
  have hparts : w.parts = s.parts := (kw.parts trivial).trans (kv.parts trivial)
  refine ⟨_, hexec, kall.frameCount.trans hcount, fun p => ⟨?_, ?_⟩, frameMark_stops kv hturn kall, ?_, ?_⟩
  · exact (kall.closed p).loads ((kw.closed p).loads (hclosed p).2)
  · exact (kall.closed p).events ((kw.closed p).events (hclosed p).1)
  · intro hone harmed hfailed hmark0 hstart
    have hidle : w.endSteps.parts = [(tag, some x)] := (endSteps_idle (hparts.trans hone) hmark0).trans (hparts.trans hone)
    obtain ⟨y, hy, hmark, hlast⟩ := startSteps_starts hidle harmed hfailed hmark0 (by rw [kend.frameCount, hcount, hstart])
    obtain ⟨z, hz, kmark, klast, -⟩ := noteOthers_marks hy
    exact ⟨z, hz, by rw [kmark, hmark, kend.time, htime], by rw [klast, hlast, kend.frameCount, hcount]⟩
  · intro hone harmed hfailed hmark0 hend hlast
    have hpctx : pctxReg (pctxOff tag) := by
      unfold pctxReg pctxOff
      omega
    have hctx : w.rf (.site 0) (pctxOff tag) 0 16 = s.rf (.site 0) (pctxOff tag) 0 16 :=
      (State.rf_of_reg (kw.reg 0 _ hpctx) ..).trans (State.rf_of_reg (kv.reg 0 _ (.inr hpctx)) ..)
    have hended := endSteps_ends (hparts.trans hone) harmed hfailed hmark0 hend (by rw [hcount, hctx, hlast])
    rw [startSteps_goesOn hended hmark0]
    obtain ⟨z, hz, -, -, kmark⟩ := noteOthers_marks (State.part_single hended)
    exact ⟨z, hz, kmark.trans (congrArg some htime)⟩

/-- Settles O42: the parts of a frame mark are followed one by one, and the rows of decisions, drains and zero-fills by what they leave. -/
theorem frameMarksDrainsAndDecisions : Obligations.FrameMarksDrainsAndDecisions := by
  refine ⟨fun s tag x => ?_, fun s tag x p t0 id cause since => ?_⟩
  · obtain ⟨u, hexec, hcount, hclosed, hturn, hstarts, hends⟩ := frameMark_effect s tag x
    exact ⟨u, hexec, hcount, hclosed, fun p => (hturn p).len, fun p => (hturn p).bank, fun p => (hturn p).epoch, hstarts, hends⟩
  · refine ⟨epochDrainSlow_reports, epochDrainSlow_waits, fmWaitExpiry_decides, killClearComplete_frees, fun h => ?_⟩
    rw [exec_killClearComplete, execKillClearComplete, if_neg h]

end Sys2Proof.Machine
end

section
/-! SUPPORT. Flits on the courses: where one that leaves a stop is met next, and what leaves a stop's way of sending as it is (R220, R221, R229, R373). -/

namespace Sys2Proof.Machine

variable {s t u : State} {p q : Site} {c slot : Nat}

/-- A course goes on from a stop to another stop. -/
theorem nextStop_ne (h : nextStop p c = some q) : q ≠ p := by
  rintro rfl
  have hq := q.isLt
  have hsite : ∀ {r k : Nat}, siteAt r k = q → r < 13 → k < 14 → r * 14 + k < 168 → r = siteRow q ∧ k = siteCol q := by
    intro r k he hr hk hlt
    have hv : r * 14 + k = q.val := by rw [← he, siteAt, Fin.val_ofNat, Nat.mod_eq_of_lt hlt]
    unfold siteRow siteCol
    omega
  have hrow : siteRow q < 12 := by unfold siteRow; omega
  have hcol : siteCol q < 14 := by unfold siteCol; omega
  unfold nextStop coursePos at h
  dsimp only at h
  split_ifs at h with h₁ h₂ h₃ h₄ h₅ h₆ <;> simp only [Option.some.injEq] at h
  · have := hsite h (by omega) (by omega) (by omega); omega
  · have := hsite h (by omega) (by omega) (by omega); omega
  · have := hsite h (by omega) (by omega) (by omega); omega
  · have := hsite h (by omega) (by omega) (by omega); omega

/-- Slots of two stops are two places. -/
theorem courseKey_ne {c' slot' : Nat} (h : q ≠ p) (hc : c < 12) (hc' : c' < 12) : courseKey q c' slot' ≠ courseKey p c slot := by
  have hv : q.val ≠ p.val := fun e => h (Fin.ext e)
  unfold courseKey
  omega

/-- A stop sends in the second state as it does in the first: hop and frame length, the flits on the courses, and whether it sends at all. -/
structure State.sameHop (s t : State) (p : Site) : Prop where
  hopLen : t.hopLen p = s.hopLen p
  frameLen : t.frameLen p = s.frameLen p
  fabricDown : (t.site p).fabricDown = (s.site p).fabricDown
  courses : t.courses = s.courses

namespace State.sameHop

theorem rfl' : s.sameHop s p := ⟨rfl, rfl, rfl, rfl⟩

theorem trans (h : s.sameHop t p) (k : t.sameHop u p) : s.sameHop u p :=
  ⟨k.hopLen.trans h.hopLen, k.frameLen.trans h.frameLen, k.fabricDown.trans h.fabricDown, k.courses.trans h.courses⟩

theorem updSite {f : SiteSt → SiteSt} (hf : ∀ x, (f x).frameLen = x.frameLen ∧ (f x).fabricDown = x.fabricDown) :
    s.sameHop (s.updSite p f) p := by
  refine ⟨rfl, ?_, ?_, rfl⟩
  · rw [State.frameLen, State.site_updSite_same, (hf _).1, State.frameLen]
  · rw [State.site_updSite_same, (hf _).2]

/-- The sites stay as they are, and no register of the stop changes but such as do not tell its hop length. -/
theorem ofSites (hsites : t.sites = s.sites) (hcourses : t.courses = s.courses) (hreg : t.reg (.site p) 0x18700020 = s.reg (.site p) 0x18700020) :
    s.sameHop t p := by
  refine ⟨?_, ?_, ?_, hcourses⟩
  · rw [State.hopLen, State.rf_of_reg hreg, State.hopLen]
  · rw [State.frameLen, State.site, hsites]
    rfl
  · rw [State.site, hsites]
    rfl

end State.sameHop

/-- A flit that leaves a stop: the sites stay as they are, and the flits elsewhere. -/
theorem State.sites_sendFlit (f : SFlit) : (s.sendFlit p c slot f).sites = s.sites := by
  unfold State.sendFlit
  split
  · rfl
  · dsimp only
    split <;> split <;> rfl

theorem State.slotBuf_sendFlit (f : SFlit) (b : Nat) : (s.sendFlit p c slot f).slotBuf p b = s.slotBuf p b := by
  rw [State.slotBuf, State.site, State.sites_sendFlit]
  rfl

theorem State.turnQ_sendFlit (f : SFlit) (w : Nat) : (s.sendFlit p c slot f).turnQ p w = s.turnQ p w := by
  rw [State.turnQ, State.site, State.sites_sendFlit]
  rfl

/-- A valid flit leaves where its course goes on: it is counted unless LATE, and put before the next stop. -/
theorem State.sendFlit_eq {f : SFlit} (hc : c < 12) (hnext : nextStop p c = some q) (hup : (s.site p).fabricDown = false) (hf : f.valid = true) :
    s.sendFlit p c slot f = { (if f.late then s else s.count64 (.site p) (0x18700100 + 8 * c) 1) with
      courses := Sparse.put SFlit.empty s.courses (courseKey q c ((slot + s.hopLen p) % s.frameLen p)) f } := by
  have hleaves : leavesStop p c = true := by rw [leavesStop, hnext]; simp
  have hhop : (s.count64 (.site p) (0x18700100 + 8 * c) 1).hopLen p = s.hopLen p := congrArg (· + 2) (State.rf_setReg_off (by omega))
  unfold State.sendFlit
  rw [if_neg (by simp [hf, hleaves, hup]), hnext]
  cases f.late
  · simp only [Bool.false_eq_true, if_false, hhop, State.count64_courses]
    rfl
  · simp only [if_true]

/-- Of the registers, a flit that leaves changes at most the course's count. -/
theorem State.regs_sendFlit {f : SFlit} (hc : c < 12) (hnext : nextStop p c = some q) (hup : (s.site p).fabricDown = false) (hf : f.valid = true) :
    (s.sendFlit p c slot f).regs = (if f.late then s else s.count64 (.site p) (0x18700100 + 8 * c) 1).regs := by
  rw [State.sendFlit_eq hc hnext hup hf]

/-- A valid flit that leaves meets the next stop a hop later; a slot that was empty stays so. -/
theorem arriving_sendFlit {f : SFlit} (hc : c < 12) (hnext : nextStop p c = some q) (hup : (s.site p).fabricDown = false) (hf : f.valid = true) :
    (s.sendFlit p c slot f).arriving q c ((slot + s.hopLen p) % s.frameLen p) = f ∧ (s.sendFlit p c slot f).arriving p c slot = s.arriving p c slot := by
  rw [State.sendFlit_eq hc hnext hup hf]
  constructor
  · simp only [State.arriving, Sparse.get_put_same]
  · simp only [State.arriving, Sparse.get_put_other _ _ _ (courseKey_ne (nextStop_ne hnext).symm hc hc)]

/-- Taking a flit empties its slot and touches the courses alone. -/
theorem State.takeFlit_frame (s : State) (p : Site) (c slot : Nat) :
    ∃ l, s.takeFlit p c slot = { s with courses := l } ∧ ({ s with courses := l } : State).arriving p c slot = SFlit.empty :=
  ⟨_, rfl, by simp only [State.arriving, Sparse.get_put_same]⟩

end Sys2Proof.Machine
end

section
/-! O22: slot actions. -/

namespace Sys2Proof.Machine

variable {s t u : State} {p q : Site} {c slot tag n : Nat} {f : SFlit}

/-! ## Rows (R235) -/

/-- A slot row with no CRC error carries out its action, the arriving flit taken from its slot. -/
theorem slotRow_acts {k : Nat} {act : State → Nat → W16 → SFlit → State} (hslot : slot < s.frameLen p) (hact : s.effAction p c slot = k)
    (howner : s.leaseOwner p c slot = some tag) : s.slotRow p c slot false k act =
      act (s.takeFlit p c slot) tag (s.slotEntry p c slot) (s.arriving p c slot) := by
  simp [State.slotRow, hslot, hact, howner]

/-! ## Slot buffers and turn queues (R239-R244) -/

theorem State.shadowing_setSlotBuf (l : List SbFlit) (r : Site) : (s.setSlotBuf p n l).shadowing r = s.shadowing r := by
  have hsymp : ∀ a, ((s.setSlotBuf p n l).site a).symp = (s.site a).symp :=
    State.site_updSite_keep (g := SiteSt.symp) (f := fun x => { x with slotBufs := Sparse.put [] x.slotBufs n l }) (fun _ => rfl) p
  exact List.filter_congr fun a _ => by rw [hsymp]

theorem sameHop_setSlotBuf (l : List SbFlit) : s.sameHop (s.setSlotBuf p n l) p := .updSite fun _ => ⟨rfl, rfl⟩

theorem sameHop_setTurnQ (l : List TqFlit) : s.sameHop (s.setTurnQ p n l) p := .updSite fun _ => ⟨rfl, rfl⟩

@[simp] theorem State.turnQ_setTurnQ_same (l : List TqFlit) : (s.setTurnQ p n l).turnQ p n = l := by simp [State.turnQ, State.setTurnQ]

/-- The first flit of an ENGINE buffer leaves it, where nothing else folds it (R527, R530). -/
theorem injectHead_engine {x : SbFlit} {rest : List SbFlit} (hup : s.coreDown p = false) (halone : s.shadowing p = [])
    (hhash : (s.part (s.partOf p)).any (·.stepHash) = false) (hmode : s.slotMode p n = 1) (hbuf : s.slotBuf p n = x :: rest) :
    s.injectHead p n false = (s.setSlotBuf p n rest, some x.flit) := by
  have hnote : (s.setSlotBuf p n rest).noteFlit p n x.flit = s.setSlotBuf p n rest := by
    have hshadow : (s.setSlotBuf p n rest).shadowing p = [] := (State.shadowing_setSlotBuf ..).trans halone
    have hhash' : ((s.setSlotBuf p n rest).part ((s.setSlotBuf p n rest).partOf p)).any (·.stepHash) = false := hhash
    unfold State.noteFlit
    rw [hhash', if_neg Bool.false_ne_true]
    dsimp only
    rw [hshadow, List.foldl_nil]
  unfold State.injectHead
  rw [hup, hmode, hbuf]
  simpa using hnote

theorem injectHead_empty (hup : s.coreDown p = false) (hmode : s.slotMode p n = 1) (hbuf : s.slotBuf p n = []) (keep : Bool) :
    s.injectHead p n keep = (s, none) := by
  unfold State.injectHead
  rw [hup, hmode, hbuf]
  simp

/-- A LAND buffer with room takes a flit; no attempt shadows the core. -/
theorem landPlace_room (hup : s.coreDown p = false) (halone : s.shadowing p = []) (hmode : s.slotMode p n = 3)
    (hroom : (s.slotBuf p n).length < 256) :
    s.landPlace p n tag f = s.setSlotBuf p n (s.slotBuf p n ++ [⟨f.flit, f.late, 0⟩]) := by
  rw [State.landPlace, halone, List.foldl_nil, State.landAt, hup, hmode]
  simp only [Bool.false_eq_true, if_false, ne_eq, not_true_eq_false, Nat.not_le.2 hroom]

theorem takeOwned_own (h : f.ownedBy tag = true) : s.takeOwned p c slot tag f = (s, f) := if_pos h

theorem collision_none (h : f.valid = false) : s.collision p c slot tag f = s := by simp [State.collision, h]

theorem SFlit.valid_of_ownedBy (h : f.ownedBy tag = true) : f.valid = true := by
  rw [SFlit.ownedBy, Bool.and_eq_true] at h
  exact h.1

/-- The sum that a REDUCE_ADD sends on, of accumulator partials where `wide`; poison in either poisons it. -/
def reducedFlit (wide : Bool) (f d : Flit) : Flit := ⟨if wide then waMerge512 f.data d.data else fpAdd512 f.data d.data, f.poison || d.poison⟩

/-! ## Underruns (R229, R250) -/

/-- An underrun is counted; the stop goes on sending as before. -/
theorem underrun_effect (hroom : s.rf (.site p) 0x18700180 0 32 < 0xFFFFFFFF) : s.sameHop (s.underrun p c slot tag) p ∧
    (s.underrun p c slot tag).rf (.site p) 0x18700180 0 32 = s.rf (.site p) 0x18700180 0 32 + 1 := by
  unfold State.underrun State.lostSlot State.stepFailPkt
  extract_lets
  let s₁ := s.count32 (.site p) 0x18700180
  let s₂ := s₁.frameEvent p 0x2001 tag [p.val, c, slot, tag, 1] (some 4)
  have hcount := onlyEvents_count32 (s := s) (.site p) 0x18700180
  have h₁ : s.sameHop s₁ p := .ofSites hcount.sites (congrArg State.courses hcount.1 :)
    (hcount.reg (by simp) (by simpa using regKey_ne (by norm_num)))
  have h₂ : s₁.sameHop s₂ p := .updSite fun x => by split <;> exact ⟨rfl, rfl⟩
  have hinj := onlyStepFail_inject (s := s₂) (.stop p) { mkPacket 0x26 0xF0 0 0xF2 p.val tag s₂.frameCount.toNat with
    addr := w64 p.val, aux := BitVec.ofNat 32 (tag + 0x2001 * 2 ^ 8) }
  refine ⟨(h₁.trans h₂).trans (.ofSites hinj.sites (congrArg State.courses hinj.1 :) (hinj.2 _ _ (by simp) (by norm_num))), ?_⟩
  exact (State.rf_of_reg (hinj.2 (.site p) 0x18700180 (by simp) (by norm_num)) 0 32).trans (State.rf_count32_below (by simp) hroom)

/-! ## The actions (R236) -/

/-- A stop whose course goes on to another stop, whose core runs for the slot's owner with no attempt that shadows it and no step hash, and whose
arriving flit has been taken. -/
structure State.slotReady (s : State) (p q : Site) (c slot tag : Nat) : Prop where
  course : c < 12
  next : nextStop p c = some q
  sends : (s.site p).fabricDown = false
  coreUp : s.coreDown p = false
  alone : s.shadowing p = []
  own : s.siteTag p = tag
  noHash : (s.part (s.partOf p)).any (·.stepHash) = false
  empty : s.arriving p c slot = SFlit.empty

namespace State.slotReady

variable (h : s.slotReady p q c slot tag)
include h

/-- What leaves after changes that concern the stop's sending in nothing. -/
theorem sent (hu : s.sameHop u p) (hf : f.valid = true) :
    (u.sendFlit p c slot f).arriving q c ((slot + s.hopLen p) % s.frameLen p) = f ∧ (u.sendFlit p c slot f).arriving p c slot = SFlit.empty := by
  obtain ⟨hsent, htaken⟩ := arriving_sendFlit (slot := slot) h.course h.next (hu.fabricDown.trans h.sends) hf
  rw [hu.hopLen, hu.frameLen] at hsent
  exact ⟨hsent, htaken.trans (by rw [State.arriving, hu.courses]; exact h.empty)⟩

theorem head {x : SbFlit} {rest : List SbFlit} (hmode : s.slotMode p n = 1) (hbuf : s.slotBuf p n = x :: rest) :
    s.injectHead p n false = (s.setSlotBuf p n rest, some x.flit) :=
  injectHead_engine h.coreUp h.alone h.noHash hmode hbuf

/-- PASS counts the flit and sends it on. -/
theorem pass (hf : f.valid = true) (hlate : f.late = false) : let t := s.sendFlit p c slot f
    t.arriving q c ((slot + s.hopLen p) % s.frameLen p) = f ∧ t.arriving p c slot = SFlit.empty ∧
      t.reg (.site p) (0x18700100 + 8 * c) = s.reg (.site p) (0x18700100 + 8 * c) + 1 ∧ t.sites = s.sites := by
  obtain ⟨hsent, htaken⟩ := h.sent .rfl' hf
  refine ⟨hsent, htaken, ?_, State.sites_sendFlit f⟩
  rw [State.reg, State.regs_sendFlit h.course h.next h.sends hf, hlate]
  exact State.reg_count64_same ..

/-- INJECT of the head of its buffer. -/
theorem inject {e : W16} {x : SbFlit} {rest : List SbFlit} (hkeep : bit e 12 = false) (hf : f.valid = false)
    (hmode : s.slotMode p (fld e 6 6) = 1) (hbuf : s.slotBuf p (fld e 6 6) = x :: rest) :
    let t := s.actInject p c slot tag e f
    t.arriving q c ((slot + s.hopLen p) % s.frameLen p) = SFlit.dataOf tag x.flit ∧ t.arriving p c slot = SFlit.empty ∧
      t.slotBuf p (fld e 6 6) = rest := by
  have ht : s.actInject p c slot tag e f = (s.setSlotBuf p (fld e 6 6) rest).sendFlit p c slot (SFlit.dataOf tag x.flit) := by
    rw [State.actInject, if_neg (not_not_intro h.own), collision_none hf, hkeep, h.head hmode hbuf]
  obtain ⟨hsent, htaken⟩ := h.sent (sameHop_setSlotBuf (n := fld e 6 6) rest) (f := SFlit.dataOf tag x.flit) rfl
  rw [ht]
  exact ⟨hsent, htaken, by rw [State.slotBuf_sendFlit, State.slotBuf_setSlotBuf_same]⟩

/-- INJECT from an empty buffer. -/
theorem injectLate {e : W16} (hf : f.valid = false) (hmode : s.slotMode p (fld e 6 6) = 1) (hbuf : s.slotBuf p (fld e 6 6) = [])
    (hroom : s.rf (.site p) 0x18700180 0 32 < 0xFFFFFFFF) : let t := s.actInject p c slot tag e f
    t.arriving q c ((slot + s.hopLen p) % s.frameLen p) = SFlit.lateOf tag ∧
      t.rf (.site p) 0x18700180 0 32 = s.rf (.site p) 0x18700180 0 32 + 1 := by
  have ht : s.actInject p c slot tag e f = (s.underrun p c slot tag).sendFlit p c slot (SFlit.lateOf tag) := by
    rw [State.actInject, if_neg (not_not_intro h.own), collision_none hf, injectHead_empty h.coreUp hmode hbuf]
  obtain ⟨hhop, hcount⟩ := underrun_effect (c := c) (slot := slot) (tag := tag) hroom
  obtain ⟨hsent, -⟩ := h.sent hhop (f := SFlit.lateOf tag) rfl
  rw [ht]
  refine ⟨hsent, ?_⟩
  rw [State.rf, State.reg, State.regs_sendFlit h.course h.next (hhop.fabricDown.trans h.sends) rfl]
  exact hcount

theorem extract {e : W16} (howned : f.ownedBy tag = true) (hmode : s.slotMode p (fld e 6 6) = 3) (hroom : (s.slotBuf p (fld e 6 6)).length < 256) :
    let t := s.actExtract p c slot tag e f
    t.arriving p c slot = SFlit.empty ∧ t.slotBuf p (fld e 6 6) = s.slotBuf p (fld e 6 6) ++ [⟨f.flit, f.late, 0⟩] ∧ t.regs = s.regs := by
  rw [State.actExtract, takeOwned_own howned]
  dsimp only
  rw [landPlace_room h.coreUp h.alone hmode hroom]
  exact ⟨h.empty, State.slotBuf_setSlotBuf_same _, rfl⟩

theorem dropContinue {e : W16} (hturn : bit e 12 = false) (howned : f.ownedBy tag = true) (hmode : s.slotMode p (fld e 6 6) = 3)
    (hroom : (s.slotBuf p (fld e 6 6)).length < 256) : let t := s.actDrop p c slot tag e f
    t.arriving q c ((slot + s.hopLen p) % s.frameLen p) = f ∧ t.arriving p c slot = SFlit.empty ∧
      t.slotBuf p (fld e 6 6) = s.slotBuf p (fld e 6 6) ++ [⟨f.flit, f.late, 0⟩] := by
  rw [State.actDrop, takeOwned_own howned, hturn]
  dsimp only
  rw [if_neg Bool.false_ne_true, landPlace_room h.coreUp h.alone hmode hroom]
  obtain ⟨hsent, htaken⟩ := h.sent (sameHop_setSlotBuf _) (SFlit.valid_of_ownedBy howned)
  exact ⟨hsent, htaken, by rw [State.slotBuf_sendFlit, State.slotBuf_setSlotBuf_same]⟩

/-- REDUCE_ADD adds the head of its buffer to the arriving flit. -/
theorem reduceAdd {e : W16} {x : SbFlit} {rest : List SbFlit} (howned : f.ownedBy tag = true) (hlate : f.late = false)
    (hmode : s.slotMode p (fld e 6 6) = 1) (hbuf : s.slotBuf p (fld e 6 6) = x :: rest) :
    let t := s.actReduce p c slot tag e f
    t.arriving p c slot = SFlit.empty ∧ t.slotBuf p (fld e 6 6) = rest ∧ t.arriving q c ((slot + s.hopLen p) % s.frameLen p) =
      SFlit.dataOf tag (reducedFlit (bit e 12) f.flit x.flit) := by
  have ht : s.actReduce p c slot tag e f = (s.setSlotBuf p (fld e 6 6) rest).sendFlit p c slot
      (SFlit.dataOf tag (reducedFlit (bit e 12) f.flit x.flit)) := by
    rw [State.actReduce, if_neg (not_not_intro h.own), if_pos howned]
    dsimp only
    rw [h.head hmode hbuf]
    dsimp only
    rw [howned, hlate]
    rfl
  rw [ht]
  obtain ⟨hsent, htaken⟩ := h.sent (sameHop_setSlotBuf (n := fld e 6 6) rest) (f := SFlit.dataOf tag (reducedFlit (bit e 12) f.flit x.flit)) rfl
  exact ⟨htaken, by rw [State.slotBuf_sendFlit, State.slotBuf_setSlotBuf_same], hsent⟩

theorem turn {e : W16} (howned : f.ownedBy tag = true) (hroom : s.tqLevel p < 256) :
    let t := s.actTurn p c slot tag e f
    t.arriving p c slot = SFlit.empty ∧ t.turnQ p (fld e 6 4) = s.turnQ p (fld e 6 4) ++ [⟨f, s.frameCount.toNat, slot⟩] ∧ t.regs = s.regs := by
  have hfree : ¬ 256 ≤ s.tqLevel p := Nat.not_le.2 hroom
  rw [State.actTurn, takeOwned_own howned]
  dsimp only
  rw [State.turnPlace, if_neg hfree]
  exact ⟨h.empty, State.turnQ_setTurnQ_same _, rfl⟩

theorem turnIn {e : W16} {x : TqFlit} {rest : List TqFlit} (hkeep : bit e 12 = false) (hf : f.valid = false)
    (hqueue : s.turnQ p (fld e 6 4) = x :: rest) (hready : s.turnReady p slot x = true) (howned : x.flit.ownedBy tag = true) :
    let t := s.actTurnIn p c slot tag e f
    t.arriving p c slot = SFlit.empty ∧ t.arriving q c ((slot + s.hopLen p) % s.frameLen p) = x.flit ∧ t.turnQ p (fld e 6 4) = rest := by
  have ht : s.actTurnIn p c slot tag e f = (s.setTurnQ p (fld e 6 4) rest).sendFlit p c slot x.flit := by
    rw [State.actTurnIn, collision_none hf, hqueue]
    simp only [hready, howned, hkeep, Bool.not_true, Bool.false_eq_true, if_false]
  rw [ht]
  obtain ⟨hsent, htaken⟩ := h.sent (sameHop_setTurnQ (n := fld e 6 4) rest) (SFlit.valid_of_ownedBy howned)
  exact ⟨htaken, hsent, by rw [State.turnQ_sendFlit, State.turnQ_setTurnQ_same]⟩

end State.slotReady

/-- Settles O22: each row takes the arriving flit from its slot and carries out its action. -/
theorem scheduledSlotActions : Obligations.ScheduledSlotActions := by
  intro s p q c slot tag e f b w act buf sent taken hslot hlen hnext hsends hup halone howner htag hown hhash
  obtain ⟨l, hl, hempty⟩ := s.takeFlit_frame p c.val slot.toNat
  have h : ({ s with courses := l } : State).slotReady p q c.val slot.toNat tag := ⟨c.isLt, hnext, hsends, hup, halone, hown, hhash, hempty⟩
  have hrow : ∀ {k : Nat} {act : State → Nat → W16 → SFlit → State}, s.effAction p c.val slot.toNat = k →
      s.slotRow p c.val slot.toNat false k act = act { s with courses := l } tag e f := fun hact => by rw [slotRow_acts hslot hact howner, hl]
  refine ⟨?_, ?_, ?_, ?_, ?_, ?_, ?_, ?_⟩
  · intro hact hf hlate
    exact ⟨_, by rw [exec_slotPass, execSlotPass, hrow hact], h.pass hf hlate⟩
  · intro x rest hact hkeep hf hmode hbuf
    exact ⟨_, by rw [exec_slotInject, execSlotInject, hrow hact], h.inject hkeep hf hmode hbuf⟩
  · intro hact hf hmode hbuf hroom
    exact ⟨_, by rw [exec_slotInject, execSlotInject, hrow hact], h.injectLate hf hmode hbuf hroom⟩
  · intro hact howned hmode hroom
    exact ⟨_, by rw [exec_slotExtract, execSlotExtract, hrow hact], h.extract howned hmode hroom⟩
  · intro hact hturn howned hmode hroom
    exact ⟨_, by rw [exec_slotDropContinue, execSlotDropContinue, hrow hact], h.dropContinue hturn howned hmode hroom⟩
  · intro x rest hact howned hlate hmode hbuf
    exact ⟨_, by rw [exec_slotReduceAdd, execSlotReduceAdd, hrow hact], h.reduceAdd howned hlate hmode hbuf⟩
  · intro hact howned hroom
    exact ⟨_, by rw [exec_slotTurn, execSlotTurn, hrow hact], h.turn howned hroom⟩
  · intro x rest hact hkeep hf hqueue hready howned
    exact ⟨_, by rw [exec_slotTurnIn, execSlotTurnIn, hrow hact], h.turnIn hkeep hf hqueue hready howned⟩

end Sys2Proof.Machine
end

section
/-! O25: truncated worms and link replay. -/

namespace Sys2Proof.Machine

variable {s t u : State} {p : Site} {n : Nat}

/-! ## Worms (R514) -/

/-- The first element with a predicate is the one that no other precedes. -/
theorem mapFirst_append_cons {α : Type} {c : α → Bool} {f : α → α} {x : α} (hx : c x = true) (b : List α) :
    ∀ {a : List α}, (∀ y ∈ a, c y = false) → mapFirst c f (a ++ x :: b) = a ++ f x :: b
  | [], _ => by rw [List.nil_append, mapFirst, if_pos hx, List.nil_append]
  | y :: a, ha => by
    obtain ⟨hy, ha⟩ := List.forall_mem_cons.1 ha
    rw [List.cons_append, mapFirst, hy, if_neg Bool.false_ne_true, mapFirst_append_cons hx b ha, List.cons_append]

/-- The last element with a predicate is the one that no other follows. -/
theorem mapLast_append_cons {α : Type} {c : α → Bool} {f : α → α} {x : α} (hx : c x = true) (a : List α) {b : List α}
    (hb : ∀ y ∈ b, c y = false) : mapLast c f (a ++ x :: b) = a ++ f x :: b := by
  have hrev : (a ++ x :: b).reverse = b.reverse ++ x :: a.reverse := by simp
  rw [mapLast, hrev, mapFirst_append_cons hx a.reverse fun y hy => hb y (List.mem_reverse.1 hy)]
  simp

theorem wormTruncate_ends {a b : List Flight} {f : Flight} (hstill : s.coreRuns p = false) (hnet : s.net = a ++ f :: b)
    (hf : f.src = .stop p ∧ f.pkt.payload ≠ []) (hb : ∀ g ∈ b, ¬ (g.src = .stop p ∧ g.pkt.payload ≠ []))
    (hnone : ∀ g ∈ s.net, g.src = .stop p ∧ g.pkt.payload ≠ [] → g.pkt.trunc = false) :
    exec (.wormTruncate p) s = .next { s with net := a ++ { f with pkt := { f.pkt with trunc := true } } :: b } := by
  let mine (g : Flight) : Bool := g.src == .stop p && !g.pkt.payload.isEmpty
  have hmine : ∀ g, mine g = true ↔ g.src = .stop p ∧ g.pkt.payload ≠ [] := fun g => by simp [mine]
  have hcut : s.net.any (fun g => mine g && g.pkt.trunc) = false := List.any_eq_false.2 fun g hg => by
    rw [Bool.and_eq_true, hmine]
    rintro ⟨hg', ht⟩
    exact absurd (hnone g hg hg') (by simp [ht])
  rw [exec_wormTruncate, execWormTruncate]
  dsimp only
  rw [if_pos (by rw [hstill, hcut]; rfl), hnet,
    mapLast_append_cons ((hmine f).2 hf) a fun g hg => Bool.eq_false_iff.2 fun hg' => hb g hg ((hmine g).1 hg')]

/-! ## Links (R227, R260) -/

@[simp] theorem State.link_updLink_same (f : RqLink → RqLink) : (s.updLink p n f).link p n = f (s.link p n) := by
  simp [State.link, State.updLink]

/-- A change of a link that keeps a field of it keeps that field of every link. -/
theorem State.link_updLink_keep {α : Type} {g : RqLink → α} {f : RqLink → RqLink} (hf : ∀ x, g (f x) = g x) (p q : Site) (m n : Nat) :
    g ((s.updLink q m f).link p n) = g (s.link p n) := by
  by_cases hp : p = q
  · subst hp
    by_cases hn : n = m
    · rw [hn, State.link_updLink_same, hf]
    · rw [State.link, State.updLink, State.site_updSite_same]
      dsimp only
      rw [Sparse.get_put_other _ _ _ hn]
      rfl
  · rw [State.link, State.updLink, State.site_updSite_other _ _ hp]
    rfl

theorem State.cc_updLink (f : RqLink → RqLink) (q : Site) : (s.updLink p n f).cc q = s.cc q :=
  State.site_updSite_keep (g := SiteSt.cc) (f := fun x => { x with links := Sparse.put RqLink.init x.links n (f (Sparse.get RqLink.init x.links n)) })
    (fun _ => rfl) p q

/-- The links, the packets in flight, scratchpad and the control cores are as they were. -/
structure State.keepsLinks (s t : State) : Prop where
  link : ∀ p n, t.link p n = s.link p n
  net : t.net = s.net
  scratch : t.scratch = s.scratch
  cc : ∀ p, t.cc p = s.cc p

namespace State.keepsLinks

theorem trans (h : s.keepsLinks t) (k : t.keepsLinks u) : s.keepsLinks u :=
  ⟨fun p n => (k.link p n).trans (h.link p n), k.net.trans h.net, k.scratch.trans h.scratch, fun p => (k.cc p).trans (h.cc p)⟩

theorem count32 (v : RegUnit) (o : Nat) : s.keepsLinks (s.count32 v o) := by
  have h := onlyEvents_count32 (s := s) v o
  exact ⟨fun p n => by rw [State.link, State.site, h.sites]; rfl, (congrArg State.net h.1 :), h.scratch,
    fun p => by rw [State.cc, State.site, h.sites]; rfl⟩

theorem updSite {f : SiteSt → SiteSt} (hlinks : ∀ x, (f x).links = x.links) (hcc : ∀ x, (f x).cc = x.cc) : s.keepsLinks (s.updSite p f) :=
  ⟨fun q n => by rw [State.link, State.site_updSite_keep hlinks p q]; rfl, rfl, rfl, State.site_updSite_keep hcc p⟩

theorem frameEvent (code part : Nat) (detail : List Nat) (countAt : Option Nat) : s.keepsLinks (s.frameEvent p code part detail countAt) :=
  updSite (fun x => by split <;> rfl) fun x => by split <;> rfl

theorem groupError (edge group : Nat) : s.keepsLinks (s.groupError p edge group) := by
  unfold State.groupError
  extract_lets key sec old m s₁
  have h₁ : s.keepsLinks s₁ := updSite (fun _ => rfl) fun _ => rfl
  split
  · exact h₁.trans (frameEvent ..)
  · exact h₁

end State.keepsLinks

theorem State.regs_groupError (edge group : Nat) : (s.groupError p edge group).regs = s.regs := by
  unfold State.groupError
  extract_lets key sec old m s₁
  split <;> rfl

theorem State.reg_groupError (edge group : Nat) (v : RegUnit) (o : Nat) : (s.groupError p edge group).reg v o = s.reg v o := by
  rw [State.reg, State.regs_groupError, State.reg]

/-- Asking for a replay changes the link's wish alone. -/
theorem rqFlitCrcError_asks {track : BitVec 3} (hroom : s.rf (.site p) 0x18710180 0 32 < 0xFFFFFFFF) :
    ∃ t, exec (.rqFlitCrcError p track) s = .next t ∧ t.rf (.site p) 0x18710180 0 32 = s.rf (.site p) 0x18710180 0 32 + 1 ∧
      t.link p track.toNat = { s.link p track.toNat with nak := true } ∧ t.net = s.net ∧ t.scratch = s.scratch ∧ t.cc p = s.cc p := by
  have hcount : (s.count32 (.site p) 0x18710180).rf (.site p) 0x18710180 0 32 = s.rf (.site p) 0x18710180 0 32 + 1 :=
    State.rf_count32_below (by simp) hroom
  have hkeep : s.keepsLinks (s.count32 (.site p) 0x18710180) := .count32 ..
  rw [exec_rqFlitCrcError, execRqFlitCrcError]
  dsimp only
  generalize s.count32 (.site p) 0x18710180 = s₁ at hcount hkeep
  have h := hkeep.trans (.groupError (p := p) (trackIn track.toNat) (6 + track.toNat % 4))
  refine ⟨_, rfl, ?_, by rw [State.link_updLink_same, h.link], h.net, h.scratch, ?_⟩
  · rw [← hcount]
    exact State.rf_of_reg (State.reg_groupError ..) 0 32
  · exact (State.cc_updLink ..).trans (h.cc p)

/-- A replay on a link has been counted and noted with the flit it goes back to; packets in flight and scratchpad are as they were. -/
structure State.replaysFrom (s t : State) (p : Site) (n : Nat) (k : BitVec 7) : Prop where
  count : t.rf (.site p) 0x18710188 0 32 = s.rf (.site p) 0x18710188 0 32 + 1
  nakFrom : (t.link p n).nakFrom = k
  net : t.net = s.net
  scratch : t.scratch = s.scratch

namespace State.replaysFrom

variable {k : BitVec 7}

theorem noted (hroom : s.rf (.site p) 0x18710188 0 32 < 0xFFFFFFFF) {f : RqLink → RqLink} (hf : ∀ x, (f x).nakFrom = k) :
    s.replaysFrom ((s.count32 (.site p) 0x18710188).updLink p n f) p n k := by
  have h : s.keepsLinks (s.count32 (.site p) 0x18710188) := .count32 ..
  exact ⟨State.rf_count32_below (by simp) hroom, by rw [State.link_updLink_same, hf], h.net, h.scratch⟩

theorem updLink (h : s.replaysFrom t p n k) (q : Site) {f : RqLink → RqLink} (hf : ∀ x, (f x).nakFrom = x.nakFrom) :
    s.replaysFrom (t.updLink q n f) p n k :=
  ⟨h.count, (State.link_updLink_keep hf p q n n).trans h.nakFrom, h.net, h.scratch⟩

theorem frameEvent (h : s.replaysFrom t p n k) (code part : Nat) (detail : List Nat) (countAt : Option Nat) :
    s.replaysFrom (t.frameEvent p code part detail countAt) p n k :=
  ⟨h.count, by rw [(State.keepsLinks.frameEvent ..).link, h.nakFrom], h.net, h.scratch⟩

end State.replaysFrom

/-- The request for a replay ends at the stop that a track leads to. -/
def State.endRequest (s : State) (p : Site) (n : Nat) : State := match trackNext p n with
  | some q => s.updLink q n fun y => { y with nak := false }
  | none => s

theorem State.replaysFrom.endRequest {k : BitVec 7} (h : s.replaysFrom t p n k) : s.replaysFrom (t.endRequest p n) p n k := by
  unfold State.endRequest
  split
  · exact h.updLink _ fun _ => rfl
  · exact h

theorem State.nak_endRequest {q : Site} (hq : trackNext p n = some q) : ((s.endRequest p n).link q n).nak = false := by
  rw [State.endRequest, hq]
  dsimp only
  rw [State.link_updLink_same]

/-- The row counts, notes the flit that the replay goes back to and ends the request; it may keep an event for the frame mark. -/
theorem linkNakReplay_row (s : State) (p : Site) (track : BitVec 3) (ack : BitVec 7) : ∃ (f : RqLink → RqLink) (storm : Bool) (detail : List Nat),
    (∀ x, (f x).nakFrom = ack + 1) ∧ exec (.linkNakReplay p track ack) s = .next (
      let u := ((s.count32 (.site p) 0x18710188).updLink p track.toNat f).endRequest p track.toNat
      if storm then u.frameEvent p 0x2010 0xFF detail none else u) :=
  ⟨_, _, _, fun _ => rfl, rfl⟩

theorem linkNakReplay_replays {track : BitVec 3} {ack : BitVec 7} (hroom : s.rf (.site p) 0x18710188 0 32 < 0xFFFFFFFF) :
    ∃ t, exec (.linkNakReplay p track ack) s = .next t ∧ s.replaysFrom t p track.toNat (ack + 1) ∧
      ∀ q, trackNext p track.toNat = some q → (t.link q track.toNat).nak = false := by
  obtain ⟨f, storm, detail, hf, hrow⟩ := linkNakReplay_row s p track ack
  have h := (State.replaysFrom.noted (n := track.toNat) hroom hf).endRequest
  refine ⟨_, hrow, ?_⟩
  dsimp only
  split
  · refine ⟨h.frameEvent .., fun q hq => ?_⟩
    rw [(State.keepsLinks.frameEvent ..).link, State.nak_endRequest hq]
  · exact ⟨h, fun q hq => State.nak_endRequest hq⟩

/-- Settles O25: the newest of a stopped core's packets is cut, and the links note what is to be replayed. -/
theorem wormsAndLinkReplay : Obligations.WormsAndLinkReplay := by
  intro s p track ack a b f u mine n
  refine ⟨wormTruncate_ends, rqFlitCrcError_asks, fun hroom => ?_⟩
  obtain ⟨t, ht, ⟨hcount, hfrom, hnet, hscratch⟩, hends⟩ := linkNakReplay_replays (track := track) (ack := ack) hroom
  exact ⟨t, ht, hcount, hfrom, hends, hnet, hscratch⟩

end Sys2Proof.Machine
end

section
/-! O31: what the active management die does with the reports that reach it, and the answers to reads of registers. -/

namespace Sys2Proof.Machine

variable {s : State} {k : Packet} {tag : Nat} {x : Partition}

/-! ## Packets at the active management die (R33, R263) -/

/-- The active die takes what reaches its side port. -/
theorem atMgmt_active (go : State → State) : s.atMgmt s.activeSouth k go = go (s.landed (.mgmt s.activeSouth) k) := by
  simp [State.atMgmt]

theorem reportTo_active (go : State → State) : s.reportTo (.mgmt s.activeSouth) k go = go (s.landed (.mgmt s.activeSouth) k) := atMgmt_active go

section rows

variable (hwf : wellFormedPkt k = true)
include hwf

theorem pktStepFail_active (htyp : k.typ = 0x26) :
    exec (.pktStepFail (.mgmt s.activeSouth) k) s = .next ((s.landed (.mgmt s.activeSouth) k).stepFailReport k) := by
  rw [exec_pktStepFail, execPktStepFail, packetRow_taken _ (by rw [htyp]; rfl) hwf]
  exact congrArg _ (reportTo_active _)

theorem pktAbort_active (htyp : k.typ = 0x24) :
    exec (.pktAbort (.mgmt s.activeSouth) k) s = .next ((s.landed (.mgmt s.activeSouth) k).abortReport k) := by
  rw [exec_pktAbort, execPktAbort, packetRow_taken _ (by rw [htyp]; rfl) hwf]
  exact congrArg _ (reportTo_active _)

theorem pktDrainReport_active (htyp : k.typ = 0x27) :
    exec (.pktDrainReport (.mgmt s.activeSouth) k) s = .next ((s.landed (.mgmt s.activeSouth) k).drainReported k) := by
  rw [exec_pktDrainReport, execPktDrainReport, packetRow_taken _ (by rw [htyp]; rfl) hwf]
  exact congrArg _ (reportTo_active _)

theorem pktTransit_active (htyp : k.typ = 0x08) : exec (.pktTransit (.mgmt s.activeSouth) k) s =
    .next ((s.landed (.mgmt s.activeSouth) k).mgmtTransit (.mgmt s.activeSouth) k) := by
  rw [exec_pktTransit, execPktTransit, packetRow_taken _ (by rw [htyp]; rfl) hwf]
  exact congrArg _ (atMgmt_active _)

/-- A MGMT packet does its work at any place but the standby die. -/
theorem pktMgmt_taken {place : Place} (htyp : k.typ = 0x25) (hplace : place ≠ .mgmt (!s.activeSouth)) :
    exec (.pktMgmt place k) s = .next ((s.landed place k).mgmtPacket place k) := by
  rw [exec_pktMgmt, execPktMgmt, packetRow_taken _ (by rw [htyp]; rfl) hwf]
  split
  next south =>
    have hsouth : south = s.activeSouth := by
      by_contra hne
      exact hplace (by rw [Bool.eq_not.2 hne])
    rw [hsouth]
    exact congrArg _ (atMgmt_active _)
  next => rfl

end rows

/-- A packet leaves a place whose stop does not keep it, and goes where its destination is. -/
theorem State.net_inject_at {src d : Place} (hsend : ∀ p, src = .stop p → s.quiet p = false)
    (hd : s.placeOf (attachStop src) (s.injectEpoch (attachStop src)) k.dest.toNat k.destUnit.toNat = some d) :
    ∃ fl, (s.inject src k).net = s.net ++ [⟨src, d, { k with flags := fl }⟩] := by
  have hopen : (decide (src = .stop (attachStop src)) && s.quiet (attachStop src) && (decide (k.src.toNat < 0xF0) || decide (k.src = 0xFF))) = false := by
    by_cases h : src = .stop (attachStop src)
    · rw [hsend _ h]
      simp
    · simp [h]
  refine ⟨setBit k.flags 2 (s.injectEpoch (attachStop src) = 1), ?_⟩
  unfold State.inject
  dsimp only
  rw [hopen, if_neg Bool.false_ne_true, hd]
  dsimp only
  rw [State.net_countPath]

/-- A management die sends one packet, or has one refused. -/
theorem State.length_net_inject_mgmt (south : Bool) (k : Packet) : (s.inject (.mgmt south) k).net.length = s.net.length + 1 := by
  unfold State.inject
  dsimp only
  rw [if_neg (by simp)]
  split
  · rw [List.length_append, State.net_countPath]
    rfl
  · rw [List.length_append]
    rfl

/-! ## Failed steps (R250, R335, R416) -/

/-- A step in progress that fails keeps its first cause, with STEP_FAILED; no other partition changes. -/
theorem failStep_fails (cause code w lb : Nat) (hx : s.part tag = some x) (harmed : x.armed = true) (hgoes : x.failed = none) :
    let t := s.failStep tag cause code w lb
    t.part tag = some { x with failed := some (cause + code * 2 ^ 8) } ∧
      s.raised t 0x7001 ([tag, x.stepIndex.toNat, cause + code * 2 ^ 8, w].map w64) ∧ ∀ n, n ≠ tag → t.part n = s.part n := by
  unfold State.failStep
  rw [hx]
  dsimp only
  rw [if_pos (by simp [harmed, hgoes])]
  let s₁ := s.setPart tag (some { x with failed := some (cause + code * 2 ^ 8) })
  let s₂ := s₁.event 0x7001 8 tag tag 0xFF [tag, x.stepIndex.toNat, cause + code * 2 ^ 8, w]
  let s₃ := s₂.event 0x7002 8 tag tag 0xFF [tag, x.stepIndex.toNat, x.mark0.getD 0, lb]
  let s₄ := (s₃.colls.filter fun c => c.part == tag).foldl (fun st c => st.inject (.mgmt st.activeSouth) (collAbortPkt c 1)) s₃
  have hparts : s₄.parts = s₁.parts := by
    refine (State.parts_foldl (fun _ _ => State.parts_inject ..) _ _).trans ?_
    rw [State.parts_event, State.parts_event]
  have hpush : s₂.pushes s₄ 6 := (pushes_raise _ : s₂.pushes s₃ 6).trans (.ofEvents (events_abortColls 1 _))
  exact ⟨(State.part_of_parts hparts tag).trans (State.part_setPart_same ..), State.raised.of_eq (raised_pushes hpush (by norm_num)) rfl rfl,
    fun n hn => (State.part_of_parts hparts n).trans (State.part_setPart_other _ _ hn)⟩

theorem fail_fails (cause code w : Nat) (hx : s.part tag = some x) (harmed : x.armed = true) (hgoes : x.failed = none) :
    let t := s.fail tag cause code w
    t.part tag = some { x with failed := some (cause + code * 2 ^ 8) } ∧
      s.raised t 0x7001 ([tag, x.stepIndex.toNat, cause + code * 2 ^ 8, w].map w64) ∧ ∀ n, n ≠ tag → t.part n = s.part n := by
  rw [State.fail, hx]
  exact failStep_fails cause code w _ hx harmed hgoes

/-! ## STEP.DONE (R331) and drains (R274) -/

theorem doneReport_adds (hx : s.part k.tag.toNat = some x) (harmed : x.armed = true) (hgoes : x.failed = none) (hstep : k.addr = x.stepIndex)
    (hmember : k.src.toNat ∈ x.lcids) (hnew : x.rel k.src.toNat ∉ x.done) :
    s.doneReport k = s.setPart k.tag.toNat (some { x with done := x.done ++ [x.rel k.src.toNat] }) := by
  rw [State.doneReport, State.updPart, hx]
  dsimp only
  rw [if_pos (by simp [harmed, hgoes, hstep, hmember, hnew])]

/-- A drain report is kept while another is still missing. -/
theorem drainReported_waits (hflip : s.epoch.flippedAt.isSome = true) {id : Nat}
    (hid : (if k.src = 0xFC then 200 + k.srcUnit.toNat else k.srcUnit.toNat) = id)
    (hmissing : ∃ i ∈ List.range 168 ++ (List.range 28).map (200 + ·), i ≠ id ∧ (k.addr.toNat, i) ∉ s.epoch.reports) :
    s.drainReported k = { s with epoch := { s.epoch with
      reports := if (k.addr.toNat, id) ∈ s.epoch.reports then s.epoch.reports else s.epoch.reports ++ [(k.addr.toNat, id)] } } := by
  obtain ⟨i, hi, hne, hout⟩ := hmissing
  have hpart : ¬ ((List.range 168 ++ (List.range 28).map (200 + ·)).all fun i =>
      (if (k.addr.toNat, id) ∈ s.epoch.reports then s.epoch.reports else s.epoch.reports ++ [(k.addr.toNat, id)]).contains (k.addr.toNat, i)) = true := by
    rw [List.all_eq_true]
    intro hall
    have hin := hall i hi
    rw [List.contains_iff_mem] at hin
    split at hin
    · exact hout hin
    · simp [hout, hne] at hin
  unfold State.drainReported
  dsimp only
  rw [hid, if_neg (by simp [Option.isNone_iff_eq_none, Option.isSome_iff_ne_none.1 hflip])]
  simp only [List.contains_iff_mem]
  rw [if_neg hpart]

/-! ## Service segments (R403, R406) -/

/-- The first segment of a message that is not its last opens the message. -/
theorem svcSegment_joins {f : Frame} {ingress : Nat} (hmore : bit f.flags 1 = false) (hseg : f.arg 4 1 ≤ 2)
    (hnew : ∀ r ∈ s.reasm, ¬ (r.panel = fld f.srcPanel 0 10 ∧ r.msgId = BitVec.ofNat 32 (f.arg 0 4))) :
    s.svcSegment f ingress = { s with reasm := s.reasm ++
      [⟨fld f.srcPanel 0 10, BitVec.ofNat 32 (f.arg 0 4), ingress / 2, s.time, [(f.arg 4 1, f.flits)], none⟩] } := by
  have hmine : ∀ r ∈ s.reasm, (r.panel == fld f.srcPanel 0 10 && r.msgId == BitVec.ofNat 32 (f.arg 0 4)) = false := fun r hr => by
    simpa using fun hp => fun hm => hnew r hr ⟨hp, hm⟩
  have hfind : (s.reasm.find? fun r => r.panel == fld f.srcPanel 0 10 && r.msgId == BitVec.ofNat 32 (f.arg 0 4)) = none :=
    List.find?_eq_none.2 fun r hr => by simp [hmine r hr]
  have hrest : (s.reasm.filter fun r => !(r.panel == fld f.srcPanel 0 10 && r.msgId == BitVec.ofNat 32 (f.arg 0 4))) = s.reasm :=
    List.filter_eq_self.2 fun r hr => by rw [hmine r hr]; rfl
  unfold State.svcSegment
  dsimp only
  rw [hfind, hrest, if_neg (Nat.not_lt.2 hseg)]
  simp [hmore]

theorem mgmtTransit_joins {f : Frame} (hsrc : k.src = 0xF8) (hframe : frameOf k.payload = some f) (htyp : f.typ = 0x80)
    (hmore : bit f.flags 1 = false) (hseg : f.arg 4 1 ≤ 2)
    (hnew : ∀ r ∈ s.reasm, ¬ (r.panel = fld f.srcPanel 0 10 ∧ r.msgId = BitVec.ofNat 32 (f.arg 0 4))) (south : Bool) :
    let t := s.mgmtTransit (.mgmt south) k
    t.net.length = s.net.length + 1 ∧ t.reasm = s.reasm ++
      [⟨fld f.srcPanel 0 10, BitVec.ofNat 32 (f.arg 0 4), fld k.aux 0 8 / 2, s.time, [(f.arg 4 1, f.flits)], none⟩] ∧ t.host = s.host := by
  let back : Packet := { withPayload (mkPacket 0x25 0xF8 k.srcUnit.toNat 0xF0 0 0xFD 0) [⟨0, false⟩] with aux := 4, addr := w64 f.cls }
  let s₁ := s.inject (.mgmt south) back
  have hback := onlyStepFail_inject (s := s) (.mgmt south) back
  have hreasm : s₁.reasm = s.reasm := (congrArg State.reasm hback.1 :)
  have htime : s₁.time = s.time := (congrArg State.time hback.1 :)
  have ht : s.mgmtTransit (.mgmt south) k = s₁.svcSegment f (fld k.aux 0 8) := by
    unfold State.mgmtTransit
    rw [hframe]
    dsimp only
    rw [if_pos htyp, if_pos hsrc]
    rfl
  dsimp only
  rw [ht, svcSegment_joins hmore hseg (by rwa [hreasm])]
  refine ⟨State.length_net_inject_mgmt .., ?_, (congrArg State.host hback.1 :)⟩
  dsimp only
  rw [hreasm, htime]

/-! ## Reads of registers (R263) -/

theorem fld_ofNat_low {n w : Nat} (h : w ≤ n) (v : Nat) : fld (BitVec.ofNat n v) 0 w = v % 2 ^ w := by
  rw [fld, BitVec.toNat_ofNat, pow_zero, Nat.div_one, Nat.mod_mod_of_dvd _ (pow_dvd_pow 2 h)]

/-- A word at the front of a granule reads back. -/
theorem fld_granOf_word (v : W64) : fld (granOf (toBytes 8 v.toNat)) 0 64 = v.toNat := by
  rw [granOf, fld_ofNat_low (by norm_num), ofBytes_toBytes 8 _ v.isLt, Nat.mod_eq_of_lt v.isLt]

/-- A MGMT read is answered to the active management die with the register's value. -/
theorem mgmtPacket_reads {here : Place} (haux : k.aux = 2) (hsrc : k.src = 0xF0) (hactive : here ≠ .mgmt (!s.activeSouth))
    (hsend : ∀ p, here = .stop p → s.quiet p = false) :
    ∃ f, (s.mgmtPacket here k).net = s.net ++ [f] ∧ f.dst = .mgmt s.activeSouth ∧ f.pkt.typ = 0x25 ∧ f.pkt.aux = 3 ∧ f.pkt.seq = k.seq ∧
      fld (f.pkt.payload.getD 0 ⟨0, false⟩).data 0 64 = (s.unitRead (unitOf here) k.addr.toNat).toNat := by
  let s₁ := s.regClear (unitOf here) k.addr.toNat
  let reply : Packet := { withPayload (mkPacket 0x25 k.src.toNat k.srcUnit.toNat (s.selfId here k).1 (s.selfId here k).2 (s₁.selfTag here k) k.seq.toNat)
    [⟨granOf (toBytes 8 (s.unitRead (unitOf here) k.addr.toNat).toNat), false⟩] with aux := 3, addr := k.addr }
  have hclear : s₁.net = s.net ∧ s₁.activeSouth = s.activeSouth ∧ s₁.sites = s.sites := by
    simp only [s₁, State.regClear]
    split <;> exact ⟨rfl, rfl, rfl⟩
  obtain ⟨hnet₁, hactive₁, hsites₁⟩ := hclear
  have hstandby : (here == .mgmt (!s.activeSouth)) = false := by simpa using hactive
  have ht : s.mgmtPacket here k = s₁.inject here reply := by
    unfold State.mgmtPacket
    dsimp only
    rw [hstandby, haux]
    rfl
  obtain ⟨fl, hnet⟩ := State.net_inject_at (s := s₁) (src := here) (k := reply) (d := .mgmt s.activeSouth)
    (fun p hp => by rw [State.quiet, State.site, hsites₁]; exact hsend p hp) (by
      simp only [reply, withPayload, mkPacket, hsrc]
      rw [← hactive₁]
      rfl)
  refine ⟨_, by rw [ht, hnet, hnet₁], rfl, rfl, rfl, by simp [reply, withPayload, mkPacket], ?_⟩
  simp only [reply, withPayload, List.getD_cons_zero]
  exact fld_granOf_word _

/-- Settles O31: each report does its work at the active die, and a read is answered from where its register stands. -/
theorem managementReports : Obligations.ManagementReports := by
  intro s k place x here whole failed running frame id
  refine ⟨?_, ?_, ?_, ?_, ?_, ?_⟩
  · rintro ⟨htyp, hwf⟩ ⟨hx, harmed, hgoes⟩
    exact ⟨_, pktStepFail_active hwf htyp, fail_fails (s := s.landed here k) 0x01 _ _ hx harmed hgoes⟩
  · rintro ⟨htyp, hwf⟩ hnot ⟨hx, harmed, hgoes⟩
    refine ⟨_, pktAbort_active hwf htyp, ?_⟩
    rw [State.abortReport, hnot, if_neg Bool.false_ne_true]
    exact fail_fails (s := s.landed here k) 0x05 0x6005 0 hx harmed hgoes
  · rintro ⟨htyp, hwf⟩ haux ⟨hx, harmed, hgoes⟩ hstep hmember hnew
    rw [pktMgmt_taken hwf htyp (by simp [here])]
    unfold State.mgmtPacket
    dsimp only
    rw [haux]
    exact congrArg _ ((if_pos rfl).trans (doneReport_adds (s := s.landed here k) hx harmed hgoes hstep hmember hnew))
  · rintro ⟨htyp, hwf⟩ haux hsrc hactive hsend
    obtain ⟨f, hread⟩ := mgmtPacket_reads (s := s.landed place k) haux hsrc hactive hsend
    exact ⟨_, f, pktMgmt_taken hwf htyp hactive, hread⟩
  · rintro ⟨htyp, hwf⟩ hflip hmissing
    rw [pktDrainReport_active hwf htyp]
    exact congrArg _ (drainReported_waits (s := s.landed here k) hflip rfl hmissing)
  · rintro f seg ⟨htyp, hwf⟩ hsrc hframe hservice hmore hseg hle msg panel hnew
    subst hseg
    exact ⟨_, pktTransit_active hwf htyp, mgmtTransit_joins (s := s.landed here k) hsrc hframe hservice hmore hle hnew s.activeSouth⟩

end Sys2Proof.Machine
end

section
/-! O53, tablatures and records: TAB_LOAD, TAB_UNLOAD, TAB_LIST, PART_STATUS and STEP_HASH_READ (R324, R364, R530). -/

namespace Sys2Proof.Machine

variable {s : State} {c : MciCmd} {m : Fin 64} {a : Byte} {x : Partition} {y : Tablature} {op right : Nat}

/-! ## Payloads -/

/-- Low bytes are kept, and what lies above them is not. -/
theorem ofBytes_toBytes_mod : ∀ k x : Nat, ofBytes (toBytes k x) = x % 2 ^ (8 * k)
  | 0, x => by simp [toBytes, ofBytes, Nat.mod_one]
  | k + 1, x => by
    rw [toBytes, ofBytes, ofBytes_toBytes_mod k, show 8 * (k + 1) = 8 + 8 * k by ring, pow_add, Nat.mod_mul]
    simp

/-- A number too long for its field stands there with its low bytes. -/
theorem bytesAt_low (k x : Nat) (r : List Byte) : bytesAt (toBytes k x ++ r) 0 k = x % 2 ^ (8 * k) := by
  unfold bytesAt
  rw [List.drop_zero, List.take_left' (length_toBytes k x), ofBytes_toBytes_mod]

/-- A form of one partition tag and zeros. -/
theorem named_fits (op right : Nat) (a : Byte) : (mciForm op right [fd 1, rs 7]).fits (toBytes 1 a.toNat ++ toBytes 7 0) := by
  refine ⟨by simp [mciForm, fd, rs], ?_, rfl⟩
  simp (disch := omega) [badReserved, mciForm, fd, rs, bytesAt_skip, bytesAt_last]

theorem named_arg {r : List Byte} (hpl : c.payload = toBytes 1 a.toNat ++ r) : arg c 0 1 = a.toNat := by
  rw [arg, hpl, bytesAt_here (by have := a.isLt; omega)]

/-! ## Tablatures (R324) -/

theorem tabLoad_loads {u v : W64} (h : s.boxTakes c m 2 (toBytes 8 u.toNat ++ toBytes 8 v.toNat))
    (hok : tabLoadRefusal (s.host.readBytes u.toNat v.toNat) (s.rf .mgmt 0x00130000 48 16) s.flash.owner.isSome s.flash.signedOnly s.tabKeyList = none)
    (hnew : ∀ t ∈ s.tabs, t.id ≠ tabId (s.host.readBytes u.toNat v.toNat)) (hroom : s.tabs.length < 32) :
    Completes (.tabLoad c) s m
      { s with
        tabs := s.tabs ++ [⟨tabId (s.host.readBytes u.toNat v.toNat), u.toNat, s.host.readBytes u.toNat v.toNat,
          BitVec.ofNat 384 (ofBytes (sha384 (s.host.readBytes u.toNat v.toNat)))⟩] }
      (toBytes 16 (tabId (s.host.readBytes u.toNat v.toNat)).toNat ++ sha384 (s.host.readBytes u.toNat v.toNat)) := by
  have hpl := h.2.1
  have harg₀ : arg c 0 8 = u.toNat := by
    have := u.isLt
    simp (disch := omega) [arg, hpl, bytesAt_here]
  have harg₈ : arg c 8 8 = v.toNat := by
    have := v.isLt
    simp (disch := omega) [arg, hpl, bytesAt_skip, bytesAt_last]
  have hany : (s.tabs.any fun t => t.id == tabId (s.host.readBytes u.toNat v.toNat)) = false := by simpa using hnew
  have hfits : (mciBus 0x0101 2 [fd 8, fd 8]).fits (toBytes 8 u.toNat ++ toBytes 8 v.toNat) :=
    ⟨by simp [mciBus, fd], by simp [badReserved, mciBus, fd], rfl⟩
  generalize himg : s.host.readBytes u.toNat v.toNat = img at *
  refine completes_of_give (op := 0x0101) (exec_tabLoad ..) h hfits rfl
    (v := { s.taken c 0x0101 m with tabs := s.tabs ++ [⟨tabId img, u.toNat, img, BitVec.ofNat 384 (ofBytes (sha384 img))⟩] }) ?_ rfl rfl
  have hhost : (s.taken c 0x0101 m).hostImage u.toNat v.toNat = img := himg
  have hok' : tabLoadRefusal img ((s.taken c 0x0101 m).rf .mgmt 0x00130000 48 16) (s.taken c 0x0101 m).flash.owner.isSome
      (s.taken c 0x0101 m).flash.signedOnly (s.taken c 0x0101 m).tabKeyList = none := hok
  have hany' : ((s.taken c 0x0101 m).tabs.any fun t => t.id == tabId img) = false := hany
  have hroom' : ¬ 32 ≤ (s.taken c 0x0101 m).tabs.length := Nat.not_le.2 hroom
  dsimp only
  rw [harg₀, harg₈, hhost, hok', hany', if_neg hroom']
  rfl

theorem tabUnload_fits (id : BitVec 128) : (mciForm 0x0102 2 [fd 16]).fits (toBytes 16 id.toNat) :=
  ⟨by simp [mciForm, fd], by simp [badReserved, mciForm, fd], rfl⟩

theorem tabUnload_arg {id : BitVec 128} (hpl : c.payload = toBytes 16 id.toNat) : arg c 0 16 = id.toNat := by
  have := id.isLt
  rw [arg, hpl, bytesAt_last (by omega)]

theorem tabUnload_unloads {id : BitVec 128} (h : s.boxTakes c m 2 (toBytes 16 id.toNat)) (hy : s.tablature id.toNat = some y)
    (hfree : s.bindings y = 0) : Completes (.tabUnload c) s m { s with tabs := s.tabs.filter fun t => t.id != y.id } [] := by
  refine completes_of_give (op := 0x0102) (exec_tabUnload ..) h (tabUnload_fits id) rfl
    (v := { s.taken c 0x0102 m with tabs := s.tabs.filter fun t => t.id != y.id }) ?_ rfl rfl
  have hy' : (s.taken c 0x0102 m).tablature id.toNat = some y := hy
  have hfree' : (s.taken c 0x0102 m).bindings y = 0 := hfree
  rw [tabUnload_arg h.2.1, hy']
  dsimp only
  rw [if_pos hfree']
  rfl

theorem tabUnload_missing {id : BitVec 128} (h : s.boxTakes c m 2 (toBytes 16 id.toNat)) (hy : s.tablature id.toNat = none) :
    TurnedAway (.tabUnload c) s m 8 0 := by
  refine turnedAway_of (op := 0x0102) (exec_tabUnload ..) h (tabUnload_fits id) rfl ?_ (by omega) (by omega)
  have hy' : (s.taken c 0x0102 m).tablature id.toNat = none := hy
  rw [tabUnload_arg h.2.1, hy']
  rfl

theorem tabList_lists (h : s.boxTakes c m 1 []) : Completes (.tabList c) s m s (s.tabs.flatMap fun t =>
    toBytes 16 t.id.toNat ++ toBytes 1 (s.bindings t) ++ toBytes 1 (bytesAt t.image 36 1 % 4) ++ toBytes 6 0) :=
  completes_of_give (op := 0x0103) (exec_tabList ..) h ⟨rfl, rfl, rfl⟩ rfl (v := s.taken c 0x0103 m) rfl rfl (onlyBox_taken ..)

/-! ## Records (R364, R530) -/

/-- The answer of PART_STATUS. -/
def State.statusRecord (s : State) (x : Partition) : List Byte :=
  let measured := (s.tabOf x).any fun t => tabMeasured t.image
  toBytes 1 x.statusCode ++ toBytes 1 (b01 measured + 2 * b01 x.warmAt.isSome + 4 * b01 x.stepHash) ++ toBytes 2 x.base ++ toBytes 4 0 ++
    toBytes 8 x.stepIndex.toNat ++ toBytes 16 ((x.tab.map BitVec.toNat).getD 0) ++ toBytes 8 x.accepted.toNat ++ toBytes 8 x.stepsRun.toNat ++
    toBytes 8 x.outBytes.toNat ++ ([1, 2, 3, 4, 5].flatMap fun r => toBytes 4 (Sparse.get 0 x.rejected r)) ++ toBytes 4 x.lateCount ++
    toBytes 4 x.failCount

theorem State.statusRecord_fields (s : State) (x : Partition) :
    (s.statusRecord x).length = 84 ∧ bytesAt (s.statusRecord x) 0 1 = x.statusCode % 256 ∧ bytesAt (s.statusRecord x) 8 8 = x.stepIndex.toNat ∧
      bytesAt (s.statusRecord x) 32 8 = x.accepted.toNat ∧ bytesAt (s.statusRecord x) 40 8 = x.stepsRun.toNat ∧
      bytesAt (s.statusRecord x) 48 8 = x.outBytes.toNat ∧ bytesAt (s.statusRecord x) 76 4 = x.lateCount % 2 ^ 32 ∧
      bytesAt (s.statusRecord x) 80 4 = x.failCount % 2 ^ 32 := by
  have hindex := x.stepIndex.isLt
  have haccepted := x.accepted.isLt
  have hrun := x.stepsRun.isLt
  have hout := x.outBytes.isLt
  have hlast : bytesAt (toBytes 4 x.failCount) 0 4 = x.failCount % 2 ^ 32 := by simpa using bytesAt_low 4 x.failCount []
  simp only [State.statusRecord, List.flatMap_cons, List.flatMap_nil, List.append_assoc, List.append_nil]
  simp (disch := omega) [bytesAt_skip, bytesAt_here, bytesAt_low, hlast]

theorem partStatus_reports (h : s.boxTakes c m 1 (toBytes 1 a.toNat ++ toBytes 7 0)) (hx : s.part a.toNat = some x) :
    Completes (.partStatus c) s m (s.setPart a.toNat (some { x with rejected := [], lateCount := 0, failCount := 0 })) (s.statusRecord x) := by
  have honly : ∀ y, (s.setPart a.toNat y).onlyBox ((s.taken c 0x0209 m).setPart a.toNat y) := fun y => by
    unfold State.setPart
    rfl
  refine completes_of_give (op := 0x0209) (exec_partStatus ..) h (named_fits 0x0209 1 a) rfl
    (v := (s.taken c 0x0209 m).setPart a.toNat (some { x with rejected := [], lateCount := 0, failCount := 0 })) ?_ rfl (honly _)
  rw [onPart_taken (named_arg h.2.1) hx]
  rfl

theorem stepHashRead_reads {w : BitVec 16} {u : W64} (h : s.boxTakes c m 1 ([a, 0] ++ toBytes 2 w.toNat ++ toBytes 4 0 ++ toBytes 8 u.toNat))
    (h₁ : 1 ≤ w.toNat) (h₆₄ : w.toNat ≤ 64) (hx : s.part a.toNat = some x) :
    Completes (.stepHashRead c) s m s (((x.hashes.reverse.filter fun h => decide (u.toNat ≤ h.1.toNat)).take w.toNat).flatMap fun h =>
      toBytes 8 h.1.toNat ++ toBytes 8 h.2.toNat) := by
  have hpl := h.2.1
  have hw := w.isLt
  have hu := u.isLt
  have harg₀ : arg c 0 1 = a.toNat := by simp [arg, hpl]
  have harg₂ : arg c 2 2 = w.toNat := by simp (disch := omega) [arg, hpl, bytesAt_cons_skip, bytesAt_here]
  have harg₈ : arg c 8 8 = u.toNat := by simp (disch := omega) [arg, hpl, bytesAt_skip, bytesAt_cons_skip, bytesAt_last]
  have hfits : (mciForm 0x020A 1 [fd 1, rs 1, fd 2, rs 4, fd 8]).fits ([a, 0] ++ toBytes 2 w.toNat ++ toBytes 4 0 ++ toBytes 8 u.toNat) := by
    refine ⟨by simp [mciForm, fd, rs], ?_, rfl⟩
    simp (disch := omega) [badReserved, mciForm, fd, rs, bytesAt_skip, bytesAt_cons_skip, bytesAt_here]
  refine completes_of_give (op := 0x020A) (exec_stepHashRead ..) h hfits rfl (v := s.taken c 0x020A m) ?_ rfl (onlyBox_taken ..)
  rw [harg₂, harg₈, if_neg (by simp; omega), onPart_taken harg₀ hx]

end Sys2Proof.Machine
end

section
/-! SUPPORT. What keeps the registers of every core and SITE_TAG: events, packets, frames between panels, answers to commands, collectives, barriers and
the tables of the stops (R233, R246, R255, R284, R401-R405, R415). -/

namespace Sys2Proof.Machine

variable {s t u : State} {p : Site} {tag : Nat}

/-! ## The relation -/

/-- A register of a core, or SITE_TAG of its stop. -/
def coreReg (o : Nat) : Prop := o < 0x18700000 ∨ o = 0x18700028

/-- The registers of every core and every SITE_TAG are as they were. -/
structure State.keepsTags (s t : State) : Prop where
  reg : ∀ (q : Site) (o : Nat), coreReg o → t.reg (.site q) o = s.reg (.site q) o

namespace State.keepsTags

theorem rfl' : s.keepsTags s := ⟨fun _ _ _ => rfl⟩

theorem trans (h : s.keepsTags t) (k : t.keepsTags u) : s.keepsTags u := ⟨fun q o ho => (k.reg q o ho).trans (h.reg q o ho)⟩

theorem rf (h : s.keepsTags t) (q : Site) {o : Nat} (ho : coreReg o) (lo w : Nat) : t.rf (.site q) o lo w = s.rf (.site q) o lo w :=
  State.rf_of_reg (h.reg q o ho) lo w

theorem partOf (h : s.keepsTags t) (q : Site) : t.partOf q = s.partOf q := h.rf q (.inl (by norm_num)) ..
theorem siteTag (h : s.keepsTags t) (q : Site) : t.siteTag q = s.siteTag q := h.rf q (.inr rfl) ..
theorem lcidOf (h : s.keepsTags t) (q : Site) : t.lcidOf q = s.lcidOf q := h.rf q (.inl (by norm_num)) ..
theorem coreState (h : s.keepsTags t) (q : Site) : t.coreState q = s.coreState q := h.rf q (.inl (by norm_num)) ..

theorem ofRegs (h : t.regs = s.regs) : s.keepsTags t := ⟨fun q o _ => by rw [State.reg, State.reg, h]⟩

theorem ofStepFail (h : s.onlyStepFail t) : s.keepsTags t := ⟨fun q o ho => h.2 (.site q) o (by simp) (by unfold coreReg at ho; omega)⟩

theorem ofEvents {ks : List (RegUnit × Nat)} (h : s.onlyEvents t ks) (hk : ∀ k ∈ ks, ∀ q : Site, RegUnit.site q ≠ k.1) : s.keepsTags t :=
  ⟨fun q _ _ => h.reg (by simp) fun k hm => regKey_ne_of_unit (hk k hm q)⟩

/-- What follows a change outside the registers. -/
theorem after (k : t.keepsTags u) (h : t.regs = s.regs) : s.keepsTags u := (ofRegs h).trans k

theorem sweep {α : Type} {f : State → α → State} (l : List α) (hf : ∀ v : State, ∀ x ∈ l, v.keepsTags (f v x)) (h : s.keepsTags t) :
    s.keepsTags (l.foldl f t) :=
  List.foldlRecOn (motive := s.keepsTags) l f h fun v hv x hx => hv.trans (hf v x hx)

theorem atStops {f : State → Site → State} (hf : ∀ (v : State) q, v.keepsTags (f v q)) (h : s.keepsTags t) : s.keepsTags (t.atStops f) := by
  unfold State.atStops
  exact h.sweep (List.finRange 168) fun v q _ => hf v q

end State.keepsTags

/-- A register of a stop that is none of these. -/
def stopOnly (o : Nat) : Prop := 0x18700000 ≤ o % 2 ^ 29 ∧ o % 2 ^ 29 ≠ 0x18700028

theorem keepsTags_setReg {v : RegUnit} {o : Nat} {w : W64} (ho : stopOnly o) : s.keepsTags (s.setReg v o w) := by
  refine ⟨fun q o' ho' => State.reg_setReg_off s w ?_⟩
  unfold stopOnly at ho
  unfold coreReg at ho'
  omega

theorem keepsTags_setUnit {v : RegUnit} {o : Nat} {w : W64} (hv : ∀ q : Site, RegUnit.site q ≠ v) : s.keepsTags (s.setReg v o w) :=
  ⟨fun q _ _ => State.reg_setReg_unit (hv q)⟩

theorem keepsTags_event (code kind id part lcid : Nat) (detail : List Nat) : s.keepsTags (s.event code kind id part lcid detail) :=
  .ofEvents (onlyEvents_event ..) (by simp)

theorem keepsTags_inject (src : Place) (k : Packet) : s.keepsTags (s.inject src k) := .ofStepFail (onlyStepFail_inject ..)

theorem keepsTags_count32 (d : Fin 42) (o : Nat) : s.keepsTags (s.count32 (.die d) o) := .ofEvents (onlyEvents_count32 ..) (by simp)

theorem keepsTags_count32n (d : Fin 42) (o n : Nat) : s.keepsTags (s.count32n (.die d) o n) := .ofEvents (onlyEvents_count32n ..) (by simp)

/-! ## Answers to commands and frames between panels -/

theorem keepsTags_mciReply (c : MciCmd) (op status detail : Nat) (payload : List Byte) : s.keepsTags (s.mciReply c op status detail payload) := by
  refine .ofRegs ?_
  unfold State.mciReply State.sendAnswer
  split <;> simp only <;> split <;> rfl

theorem keepsTags_transitDropped (d : Fin 42) (cause dst : Nat) : s.keepsTags (s.transitDropped d cause dst) := by
  unfold State.transitDropped
  dsimp only
  split
  · exact (keepsTags_event ..).after rfl
  · exact .ofRegs rfl

theorem keepsTags_bulkLeft (i : Nat) : s.keepsTags (s.bulkLeft i) := by
  unfold State.bulkLeft
  split
  · dsimp only
    split
    · exact (keepsTags_mciReply ..).after rfl
    · exact .ofRegs rfl
  · exact .rfl'

theorem keepsTags_returnCredit (place : Place) (self : Nat × Nat) (holder : Option Nat) (c : Nat) :
    s.keepsTags (s.returnCredit place self holder c) := by
  unfold State.returnCredit
  split
  · exact keepsTags_inject ..
  · exact .rfl'

theorem keepsTags_egressDone (i : Nat) (e : EgFrame) : s.keepsTags (s.egressDone i e) := by
  unfold State.egressDone
  dsimp only
  split
  · exact (keepsTags_bulkLeft i).trans (keepsTags_returnCredit ..)
  · exact keepsTags_returnCredit ..

theorem keepsTags_emit (i : Nat) (f : Frame) : s.keepsTags (s.emit i f) := by
  unfold State.emit
  dsimp only
  have hcount : ∀ (v : State) o n, v.keepsTags (v.count64 (.die (portDie i)) o n) := fun _ _ _ => keepsTags_setUnit (by simp)
  have hout : ∀ (v : State) o f, v.keepsTags (({ v with outbox := o } : State).updPort i f) := fun _ _ _ => .ofRegs rfl
  exact ((hcount _ _ _).trans (hcount _ _ _)).trans (hout ..)

theorem keepsTags_pump (i : Nat) : ∀ (n : Nat) (s : State), s.keepsTags (State.pump i n s)
  | 0, _ => .rfl'
  | n + 1, s => by
    unfold State.pump
    dsimp only
    split
    · exact .rfl'
    · split
      · split
        · exact (((keepsTags_emit i _).trans (keepsTags_egressDone i _)).trans (keepsTags_pump i n _)).after rfl
        · exact .rfl'
      · exact .rfl'

theorem keepsTags_toEgress (i : Nat) (f : Frame) (holder : Option Nat) : s.keepsTags (s.toEgress i f holder) := by
  unfold State.toEgress
  dsimp only
  split
  · refine .trans ?_ (keepsTags_egressDone ..)
    unfold State.dropFrame
    dsimp only
    rw [if_neg (by omega)]
    exact (keepsTags_count32 ..).trans (keepsTags_transitDropped ..)
  · split
    · exact (keepsTags_count32 ..).trans (keepsTags_egressDone ..)
    · exact (keepsTags_pump i _ _).after rfl

/-- A frame of this panel's own crosses the panel. -/
theorem keepsTags_transit (d : Fin 42) (egress : Nat) (f : Frame) : s.keepsTags (s.transit d ⟨egress, f, none⟩) := by
  unfold State.transit
  dsimp only
  split
  · exact keepsTags_inject ..
  · split
    · exact .ofRegs rfl
    · exact (keepsTags_inject ..).after rfl

theorem keepsTags_originateTo (d : Fin 42) (f : Frame) : s.keepsTags (s.originateTo d f) := by
  have hpoison : ∀ f, s.keepsTags (s.poisonLeaves d f) := fun f => by
    unfold State.poisonLeaves
    split
    · exact .rfl'
    · exact keepsTags_event ..
  unfold State.originateTo
  split
  · split
    · unfold State.originate State.forward
      dsimp only
      split
      · exact (hpoison _).trans (keepsTags_toEgress ..)
      · exact (hpoison _).trans (keepsTags_transit ..)
    · exact .rfl'
  · exact (keepsTags_count32 ..).trans (keepsTags_transitDropped ..)

/-! ## Collectives (R405, R415) -/

theorem keepsTags_collMark (c : Coll) (num : W32) (cause panel port : Nat) : s.keepsTags (s.collMark c num cause panel port) := by
  unfold State.collMark
  dsimp only
  split
  · exact .rfl'
  · split
    · exact keepsTags_count32n ..
    · refine .trans ?_ (.trans (keepsTags_event ..) (keepsTags_inject ..))
      split
      · exact .rfl'
      · exact .trans (keepsTags_count32n ..) (.ofRegs rfl)

theorem keepsTags_collsGone (tag : Nat) : s.keepsTags (s.collsGone tag) := by
  refine State.keepsTags.sweep (f := fun st c => (st.collAbort c 3 0xFF).collRemove c) _ (fun v c _ => ?_) .rfl'
  refine State.keepsTags.trans (t := v.collAbort c 3 0xFF) ?_ (.ofRegs rfl)
  unfold State.collAbort
  dsimp only
  split
  · exact .rfl'
  · refine State.keepsTags.sweep _ (fun w r _ => ?_) (keepsTags_collMark ..)
    split
    · exact .rfl'
    · exact keepsTags_originateTo ..

/-! ## Barriers and contexts of a partition (R284, R515) -/

theorem keepsTags_spoilSymps (p : Site) : s.keepsTags (s.spoilSymps p) := by
  unfold State.spoilSymps
  exact .sweep _ (fun _ _ _ => .ofRegs rfl) .rfl'

theorem keepsTags_clearDone (p : Site) : s.keepsTags (s.clearDone p) := by
  unfold State.clearDone
  refine .sweep _ (fun v i hi => keepsTags_setReg ?_) .rfl'
  simp only [List.mem_range] at hi
  unfold stopOnly
  omega

theorem stopOnly_pctxOff (tag : Nat) : stopOnly (pctxOff tag) := by
  unfold stopOnly pctxOff
  omega

theorem keepsTags_stopStep (tag : Nat) : s.keepsTags (s.stopStep tag) := by
  unfold State.stopStep
  exact .atStops (fun _ _ => keepsTags_setReg (stopOnly_pctxOff tag)) .rfl'

theorem keepsTags_dropTurns (tag : Nat) : s.keepsTags (s.dropTurns tag) := by
  unfold State.dropTurns
  exact .atStops (fun _ _ => .sweep _ (fun _ _ _ => .ofRegs rfl) .rfl') .rfl'

/-- The registers of a barrier. -/
theorem stopOnly_bar {i k : Nat} (hi : i < 32) (hk : k < 64) : stopOnly (0x18730000 + k + 64 * i) := by
  unfold stopOnly
  omega

theorem barsOf_lt {i : Nat} (h : i ∈ s.barsOf p tag) : i < 32 := by
  unfold State.barsOf at h
  exact List.mem_range.1 (List.mem_of_mem_filter h)

theorem keepsTags_resetBars (p : Site) (tag : Nat) : s.keepsTags (s.resetBars p tag) := by
  unfold State.resetBars
  exact .sweep _ (fun _ _ hi => (keepsTags_setReg (stopOnly_bar (k := 0x20) (barsOf_lt hi) (by norm_num))).after rfl) .rfl'

theorem keepsTags_removeBars (p : Site) (tag : Nat) : s.keepsTags (s.removeBars p tag) := by
  unfold State.removeBars
  refine .sweep _ (fun v i hi => ?_) .rfl'
  have hset : ∀ (v : State) (k : Nat) (w : W64), k < 64 → v.keepsTags (v.setReg (.site p) (0x18730000 + k + 64 * i) w) :=
    fun _ _ _ hk => keepsTags_setReg (stopOnly_bar (barsOf_lt hi) hk)
  have hrow : v.keepsTags (v.setBar p i Barrier.init) := .ofRegs rfl
  exact ((((hrow.trans (hset _ 0x20 _ (by norm_num))).trans (hset _ 0x00 _ (by norm_num))).trans (hset _ 0x08 _ (by norm_num))).trans
    (hset _ 0x10 _ (by norm_num))).trans (hset _ 0x18 _ (by norm_num))

theorem keepsTags_setPart (tag : Nat) (x : Option Partition) : s.keepsTags (s.setPart tag x) := .ofRegs rfl

theorem keepsTags_updPart (tag : Nat) (f : Partition → Partition) : s.keepsTags (s.updPart tag f) := by
  unfold State.updPart
  split <;> exact .ofRegs rfl

theorem keepsTags_cancelMigration (tag : Nat) : s.keepsTags (s.cancelMigration tag) := by
  unfold State.cancelMigration
  split
  · split
    · exact (keepsTags_setPart ..).trans ((keepsTags_event ..).trans (keepsTags_mciReply ..))
    · exact .rfl'
  · exact .rfl'

theorem keepsTags_endJob (tag : Nat) (killed : Bool) : s.keepsTags (s.endJob tag killed) := by
  unfold State.endJob
  split
  · split <;> exact .ofRegs rfl
  · exact .rfl'

theorem keepsTags_lowerGrant (tag : Nat) : s.keepsTags (s.lowerGrant tag) := by
  unfold State.lowerGrant
  split
  · exact .trans (keepsTags_setUnit (by simp)) (.ofRegs rfl)
  · exact .rfl'

theorem keepsTags_extMark (tag bitNo : Nat) : s.keepsTags (s.extMark tag bitNo) := by
  unfold State.extMark
  refine .sweep _ (fun _ k _ => .sweep _ (fun v n _ => ?_) .rfl') .rfl'
  dsimp only
  split
  · exact keepsTags_setUnit (by simp)
  · exact .rfl'

/-! ## The requests of a partition (R359) -/

theorem keepsTags_failRequests (tag cause : Nat) : s.keepsTags (s.failRequests tag cause) := by
  have hcount : ∀ v : State, v.keepsTags (v.countFailed tag) := fun v => by
    unfold State.countFailed
    split
    · unfold State.partSaturated
      split
      · exact (keepsTags_event ..).after rfl
      · exact .ofRegs rfl
    · exact .rfl'
  have hrespond : ∀ (v : State) r bytes, v.keepsTags (v.respond r bytes) := fun v r bytes => by
    unfold State.respond
    split
    · split <;> exact .ofRegs rfl
    · exact keepsTags_originateTo ..
    · exact .rfl'
  unfold State.failRequests
  split
  · refine .sweep _ (fun v r _ => ?_) (keepsTags_setPart ..)
    have hdraw : v.keepsTags v.draw := .ofRegs rfl
    exact ((hdraw.trans (hcount _)).trans (keepsTags_event ..)).trans (hrespond ..)
  · exact .rfl'

theorem keepsTags_fail (tag cause code w : Nat) : s.keepsTags (s.fail tag cause code w) := by
  unfold State.fail
  split
  · exact .ofStepFail (onlyStepFail_failStep ..)
  · exact .rfl'

/-! ## The banks of the stops (R233, R246, R252) -/

/-- The banks lie above SITE_TAG. -/
theorem bankOf_above {o : Nat} {b : Nat × Nat} (h : bankOf o = some b) (k : Nat) : 0x18701000 ≤ inBank k b.2 := by
  unfold bankOf at h
  unfold inBank
  split at h
  · obtain rfl := Option.some.inj h
    omega
  · split at h
    · obtain rfl := Option.some.inj h
      omega
    · exact absurd h (by simp)

theorem keepsTags_copyBank (p : Site) : s.keepsTags (s.copyBank p) := by
  unfold State.copyBank
  split
  · exact .rfl'
  · dsimp only
    refine .sweep _ (fun v e _ => ?_) ⟨fun q o ho => ?_⟩
    · split
      next b hb =>
        split
        · refine keepsTags_setReg ?_
          have hbounds := bankOf_bounds hb (k := 1 - s.slotBank p) (by omega)
          have habove := bankOf_above hb (1 - s.slotBank p)
          unfold stopOnly
          omega
        · exact .rfl'
      next => exact .rfl'
    · have hkey : regKey (.site q) o % 2 ^ 29 = o := by
        unfold regKey
        unfold coreReg at ho
        omega
      have hbank : bankOf o = none := by
        unfold coreReg at ho
        unfold bankOf
        rw [if_neg (by omega), if_neg (by omega)]
      rw [State.reg, State.reg]
      dsimp only
      rw [Sparse.get_filter 0 fun v => by rw [hkey, hbank]; simp]

theorem keepsTags_clearEntries (p : Site) (tag : Nat) : s.keepsTags (s.clearEntries p tag) := by
  unfold State.clearEntries
  refine .sweep _ (fun v e he => ?_) .rfl'
  simp only [List.mem_filter, Bool.and_eq_true, decide_eq_true_eq] at he
  dsimp only
  split
  · refine keepsTags_setReg ?_
    unfold stopOnly
    omega
  · exact .rfl'

theorem keepsTags_writeLeases (p : Site) : s.keepsTags (s.writeLeases p) := by
  unfold State.writeLeases
  refine .sweep _ (fun v bp hbp => ?_) .rfl'
  dsimp only
  refine .sweep _ (fun w i hi => keepsTags_setReg ?_) .rfl'
  simp only [List.mem_range] at hbp hi
  unfold stopOnly
  omega

/-- Where nothing is bound no entry is written; a partition's leases and entries go (R246). -/
theorem keepsTags_writeBanks (h : ∀ x, s.part tag = some x → x.tab = none) : s.keepsTags (s.writeBanks tag) := by
  have hparts := State.parts_foldl (f := fun v q => ((v.copyBank q).clearEntries q tag).writeLeases q)
    (fun v q => by rw [State.parts_writeLeases, State.parts_clearEntries, State.parts_copyBank]) (List.finRange 168) s
  have hbanks : s.keepsTags ((List.finRange 168).foldl (fun v q => ((v.copyBank q).clearEntries q tag).writeLeases q) s) :=
    .sweep _ (fun _ q _ => ((keepsTags_copyBank q).trans (keepsTags_clearEntries q tag)).trans (keepsTags_writeLeases q)) .rfl'
  have harm : ∀ v : State, v.keepsTags v.armSwitch := fun v => by
    unfold State.armSwitch
    exact .sweep _ (fun _ _ _ => keepsTags_setReg ⟨by norm_num, by norm_num⟩) .rfl'
  unfold State.writeBanks
  dsimp only
  rw [State.part_of_parts hparts]
  refine .trans ?_ (harm _)
  split
  next x hx =>
    rw [State.tabOf, h x hx]
    exact hbanks
  next => exact hbanks

theorem keepsTags_deletePart (tag : Nat) : s.keepsTags (s.deletePart tag) := by
  unfold State.deletePart
  extract_lets s₁ s₂ s₃
  have h₁ : s.keepsTags s₁ := .ofRegs rfl
  have h₂ : s₁.keepsTags s₂ := .atStops (fun v q => keepsTags_setReg (stopOnly_pctxOff tag)) .rfl'
  have hregs : s₃.regs = s₂.regs := rfl
  have h₃ : s₂.keepsTags s₃ := .ofRegs hregs
  have hparts₂ : s₂.parts = s₁.parts := State.parts_atStops (fun _ _ => State.setReg_parts ..) _
  have hparts₃ : s₃.parts = s₂.parts := rfl
  have hnone : s₃.part tag = none := by
    rw [State.part_of_parts (hparts₃.trans hparts₂)]
    simp [s₁, State.part, State.setPart]
  exact ((h₁.trans h₂).trans h₃).trans (keepsTags_writeBanks fun x hx => absurd (hnone.symm.trans hx) (by simp))

end Sys2Proof.Machine
end

section
/-! SUPPORT. What touches registers, the structures of the sites and scratchpad alone: the tables of the stops, the set-up of cores, windows and channels,
and the clocks (R174, R233, R246, R252, R280, R296, R320, R327, R428). -/

namespace Sys2Proof.Machine

variable {s t u : State} {p : Site} {tag : Nat}

/-! ## The relation -/

/-- The second state differs from the first in registers, the structures of sites and scratchpad. -/
structure State.onlySites (s t : State) : Prop where
  rest : { t with regs := s.regs, sites := s.sites, scratch := s.scratch } = s

namespace State.onlySites

theorem rfl' : s.onlySites s := ⟨rfl⟩

theorem trans (h : s.onlySites t) (k : t.onlySites u) : s.onlySites u := by
  obtain ⟨h⟩ := h
  obtain ⟨k⟩ := k
  refine ⟨?_⟩
  conv_rhs => rw [← h, ← k]

theorem parts (h : s.onlySites t) : t.parts = s.parts := (congrArg State.parts h.rest :)
theorem mgmt (h : s.onlySites t) : t.mgmt = s.mgmt := (congrArg State.mgmt h.rest :)
theorem time (h : s.onlySites t) : t.time = s.time := (congrArg State.time h.rest :)

theorem sweep {α : Type} {f : State → α → State} (hf : ∀ (v : State) x, v.onlySites (f v x)) (l : List α) (h : s.onlySites t) :
    s.onlySites (l.foldl f t) :=
  List.foldlRecOn (motive := s.onlySites) l f h fun v hv x _ => hv.trans (hf v x)

theorem atStops {f : State → Site → State} (hf : ∀ (v : State) q, v.onlySites (f v q)) : s.onlySites (s.atStops f) := by
  unfold State.atStops
  exact rfl'.sweep hf _

end State.onlySites

theorem onlySites_regs (l : Sparse W64) : s.onlySites { s with regs := l } := ⟨rfl⟩
theorem onlySites_setReg (v : RegUnit) (o : Nat) (w : W64) : s.onlySites (s.setReg v o w) := ⟨rfl⟩
theorem onlySites_setRf (v : RegUnit) (o lo w x : Nat) : s.onlySites (s.setRf v o lo w x) := ⟨rfl⟩
theorem onlySites_updSite (p : Site) (f : SiteSt → SiteSt) : s.onlySites (s.updSite p f) := ⟨rfl⟩
theorem onlySites_scratch (m : Memory) : s.onlySites { s with scratch := m } := ⟨rfl⟩

theorem onlySites_clockEval (p : Site) : s.onlySites (s.clockEval p) :=
  ⟨(congrArg (fun x : State => { x with scratch := s.scratch }) (onlyClocks_clockEval (s := s) p).1 :)⟩

/-! ## The banks of the stops (R233, R246, R252) -/

theorem onlySites_copyBank (p : Site) : s.onlySites (s.copyBank p) := by
  unfold State.copyBank
  split
  · exact .rfl'
  · refine .sweep (fun v e => ?_) _ (onlySites_regs _)
    split
    · split
      · exact onlySites_setReg ..
      · exact .rfl'
    · exact .rfl'

theorem onlySites_clearEntries (p : Site) (tag : Nat) : s.onlySites (s.clearEntries p tag) := by
  unfold State.clearEntries
  refine .sweep (fun v e => ?_) _ .rfl'
  dsimp only
  split
  · exact onlySites_setReg ..
  · exact .rfl'

theorem onlySites_writeLeases (p : Site) : s.onlySites (s.writeLeases p) := by
  unfold State.writeLeases
  refine .sweep (fun v bp => ?_) _ .rfl'
  exact .sweep (fun _ _ => onlySites_setReg ..) _ .rfl'

theorem onlySites_writeBanks (tag : Nat) : s.onlySites (s.writeBanks tag) := by
  have hbanks : s.onlySites ((List.finRange 168).foldl (fun v q => ((v.copyBank q).clearEntries q tag).writeLeases q) s) :=
    .sweep (fun v q => ((onlySites_copyBank q).trans (onlySites_clearEntries q tag)).trans (onlySites_writeLeases q)) _ .rfl'
  have harm : ∀ v : State, v.onlySites v.armSwitch := fun v => .sweep (fun _ _ => onlySites_setReg ..) _ .rfl'
  unfold State.writeBanks
  dsimp only
  refine .trans ?_ (harm _)
  split
  · split
    · exact .sweep (fun _ _ => onlySites_setRf ..) _ hbanks
    · exact hbanks
  · exact hbanks

/-! ## Cores (R174, R327, R515) -/

theorem onlySites_giveTag (p : Site) (tag : Nat) : s.onlySites (s.giveTag p tag) :=
  ((onlySites_updSite ..).trans (onlySites_setRf ..)).trans (onlySites_setRf ..)

theorem onlySites_resetCore (p : Site) : s.onlySites (s.resetCore p) := by
  unfold State.resetCore
  dsimp only
  split
  · exact .rfl'
  · have hreset : s.onlySites ((s.resetRegs p).updSite p SiteSt.afterReset) := .trans (onlySites_regs _) (onlySites_updSite ..)
    have hclose := hreset.sweep (f := fun st w => st.winClose p w) (fun _ _ => onlySites_setRf ..) (List.range 64)
    exact (hclose.trans (onlySites_setRf ..)).trans (onlySites_setRf ..)

theorem onlySites_writeWide (p : Site) (off : Nat) (f : Flit) : s.onlySites (s.writeWide p off f) := by
  have hdrop : ∀ v : State, v.onlySites (v.dropWriteBack p off) := fun v => by
    unfold State.dropWriteBack
    split
    · exact onlySites_updSite ..
    · exact .rfl'
  unfold State.writeWide
  refine .trans ?_ (hdrop _)
  unfold State.putRaw
  exact onlySites_scratch _

theorem onlySites_writeGrans (p : Site) : ∀ (off : Nat) (l : List Flit) (s : State), s.onlySites (s.writeGrans p off l)
  | _, [], _ => .rfl'
  | off, f :: l, _ => (onlySites_writeWide p off f).trans (onlySites_writeGrans p (off + 64) l _)

theorem onlySites_wipeSeg (p : Site) (g : Nat) : s.onlySites (s.wipeSeg p g) := onlySites_scratch _

theorem onlySites_zeroSeg (p : Site) (g : Nat) : s.onlySites (s.zeroSeg p g) := by
  unfold State.zeroSeg
  exact .sweep (fun _ _ => onlySites_writeWide ..) _ (onlySites_wipeSeg ..)

theorem onlySites_setSegOn (p : Site) (mask : Nat) : s.onlySites (s.setSegOn p mask) := by
  unfold State.setSegOn
  exact .trans (.sweep (fun _ _ => onlySites_wipeSeg ..) _ .rfl') (onlySites_setReg ..)

theorem onlySites_setQueues (p : Site) (img : List Byte) (rel : Nat) : s.onlySites (s.setQueues p img rel) := by
  unfold State.setQueues
  exact .sweep (fun _ _ => (onlySites_setReg ..).trans (onlySites_setReg ..)) _
    (.sweep (fun _ _ => (onlySites_setReg ..).trans (onlySites_setReg ..)) _ .rfl')

theorem onlySites_setUpCore (img : List Byte) (p : Site) (rel : Nat) : s.onlySites (s.setUpCore img p rel) := by
  unfold State.setUpCore
  extract_lets s₁ s₂ s₃ s₄ s₅
  have h₁ : s.onlySites s₁ := (onlySites_setRf ..).trans (onlySites_resetCore p)
  have h₂ : s₁.onlySites s₂ := .sweep (fun _ _ => (onlySites_setReg ..).trans (onlySites_setReg ..)) _ .rfl'
  have h₃ : s₂.onlySites s₃ := (onlySites_setQueues ..).trans (onlySites_setSegOn ..)
  have h₄ : s₃.onlySites s₄ := .sweep (fun _ _ => onlySites_zeroSeg ..) _ .rfl'
  have h₅ : s₄.onlySites s₅ := by
    simp only [s₅]
    split
    · exact onlySites_updSite ..
    · exact .rfl'
  refine ((((h₁.trans h₂).trans h₃).trans h₄).trans h₅).trans ?_
  split
  · exact .sweep (fun _ _ => onlySites_writeGrans ..) _ .rfl'
  · exact .rfl'

/-! ## What a binding sets up (R280, R296, R320, R327) -/

theorem onlySites_setContexts (tag : Nat) (img : List Byte) : s.onlySites (s.setContexts tag img) := by
  unfold State.setContexts
  exact .atStops fun _ _ => (onlySites_setReg ..).trans (onlySites_setReg ..)

theorem onlySites_grantExtents (tag : Nat) (img : List Byte) : s.onlySites (s.grantExtents tag img) := by
  unfold State.grantExtents
  refine .sweep (fun v e => ?_) _ .rfl'
  dsimp only
  split
  · exact (onlySites_setReg ..).trans (onlySites_setReg ..)
  · exact .rfl'

theorem onlySites_setBars (tag : Nat) (x : Partition) (img : List Byte) : s.onlySites (s.setBars tag x img) := by
  unfold State.setBars
  exact .sweep (fun _ _ => (((onlySites_setReg ..).trans (onlySites_setReg ..)).trans (onlySites_setReg ..)).trans (onlySites_setReg ..)) _ .rfl'

theorem onlySites_register (p : Site) (c q : Nat) (src srcUnit : Byte) : s.onlySites (s.register p c q src srcUnit) := by
  unfold State.register State.setRecv
  exact onlySites_updSite ..

theorem onlySites_updCtx (p : Site) (n : Nat) (f : SendCtx → SendCtx) : s.onlySites (s.updCtx p n f) := by
  unfold State.updCtx
  exact onlySites_updSite ..

theorem onlySites_openStatic (x : Partition) (r : Setup) : s.onlySites (s.openStatic x r) := by
  unfold State.openStatic
  split
  · dsimp only
    split
    · exact onlySites_register ..
    · split
      · exact (onlySites_register ..).trans (onlySites_updCtx ..)
      · exact .rfl'
  · exact .rfl'

theorem onlySites_openSetup (x : Partition) (img : List Byte) : s.onlySites (s.openSetup x img) := by
  unfold State.openSetup
  refine .sweep (fun v r => ?_) _ .rfl'
  split
  · split
    · exact (onlySites_setReg ..).trans (onlySites_setReg ..)
    · exact .rfl'
  · split
    · exact onlySites_openStatic ..
    · exact .rfl'

theorem onlySites_startCores (x : Partition) : s.onlySites (s.startCores x) := by
  have hstart : ∀ (v : State) p, v.onlySites (v.restartCore p) := fun v p => by
    unfold State.restartCore
    split
    · exact (onlySites_updSite p _).trans (onlySites_setRf ..)
    · exact .rfl'
  unfold State.startCores
  exact .sweep (fun v p => ((onlySites_setRf ..).trans (hstart _ p)).trans (onlySites_clockEval p)) _ .rfl'

theorem onlySites_setTargets (ps : List Site) : s.onlySites (s.setTargets ps) := by
  unfold State.setTargets
  exact .sweep (fun _ _ => (onlySites_setRf ..).trans (onlySites_clockEval _)) _ .rfl'

end Sys2Proof.Machine
end

section
/-! O53, creation and deletion: PART_CREATE and PART_DELETE (R246, R325, R326). -/

namespace Sys2Proof.Machine

variable {s t u : State} {c : MciCmd} {m : Fin 64} {a b d e : Byte} {l0 l1 l2 w : BitVec 16} {x : Partition} {tag base : Nat}

/-! ## Through the mailbox -/

theorem State.onlyBox.parts (h : s.onlyBox t) : t.parts = s.parts := (congrArg State.parts h :)
theorem State.onlyBox.regs (h : s.onlyBox t) : t.regs = s.regs := (congrArg State.regs h :)

/-- A command that is done and answered at once leads to the state its effect leads to, but for the mailbox. -/
theorem effect_of_done {i : Instr} {f : MciForm} {pl : List Byte} {op : Nat} {go : State → MciAns} (hi : exec i s = s.mci c f go)
    (h : s.boxTakes c m f.right pl) (hf : f.fits pl) (hop : f.op = op) (hgo : go (s.taken c op m) = .done u) :
    ∃ t, exec i s = .next t ∧ u.onlyBox t := by
  subst hop
  let w : State := if 2 ≤ f.right then { u with mgmt.journal := u.mgmt.journal + 1, mgmt.applied := u.mgmt.applied + 1 } else u
  have hend : State.mciEnd c f (.done u) = w.mciReply c f.op 0 0 [] := by simp [State.mciEnd, MciAns.done, w]
  have hw : u.onlyBox w := by
    simp only [w]
    split <;> rfl
  exact ⟨_, (hi.trans (mci_of_boxTakes h hf go)).trans (by rw [hgo, hend]), hw.trans (onlyBox_mciReply h.1 ..)⟩

/-- Without lost sites nothing is mapped anew. -/
theorem State.remapLost_none (h : s.lostSites = []) : s.remapLost = s := by
  unfold State.remapLost
  rw [h]
  split <;> rfl

/-! ## Creation (R246, R325, R326) -/

/-- The rectangle and the leases that a PART_CREATE asks for lie within the panel. -/
def State.askFits (s : State) (z : Partition) : Prop :=
  0 < z.rows ∧ 0 < z.cols ∧ z.row0 + z.rows ≤ 12 ∧ z.col0 + z.cols ≤ 12 ∧ ∀ l ∈ z.lease, l ≤ s.panelF

/-- The rectangle meets no partition's. -/
def State.askAlone (s : State) (z : Partition) : Prop :=
  ∀ k ∈ s.partList, ¬ (runsMeet z.row0 z.rows k.2.row0 k.2.rows = true ∧ runsMeet z.col0 z.cols k.2.col0 k.2.cols = true)

theorem State.askFits.unrefused {z : Partition} (h : s.askFits z) :
    (decide (z.rows = 0) || decide (z.cols = 0) || decide (12 < z.row0 + z.rows) || decide (12 < z.col0 + z.cols) ||
      z.lease.any fun l => decide (s.panelF < l)) = false := by
  obtain ⟨hrows, hcols, hbottom, hright, hlease⟩ := h
  simp only [Bool.or_eq_false_iff, decide_eq_false_iff_not, List.any_eq_false, decide_eq_true_eq, not_lt]
  exact ⟨⟨⟨⟨by omega, by omega⟩, hbottom⟩, hright⟩, hlease⟩

/-- The panel has a rectangle that meets the one asked for. -/
theorem State.askAlone_iff {z : Partition} : s.askAlone z ↔
    (s.partList.any fun y => runsMeet z.row0 z.rows y.2.row0 y.2.rows && runsMeet z.col0 z.cols y.2.col0 y.2.cols) = false := by
  simp only [State.askAlone, List.any_eq_false, Bool.and_eq_true]

/-- The payload of PART_CREATE. -/
abbrev createPayload (a b d e : Byte) (l0 l1 l2 w : BitVec 16) : List Byte :=
  [a, b, d, e] ++ toBytes 2 l0.toNat ++ toBytes 2 l1.toNat ++ toBytes 2 l2.toNat ++ toBytes 2 w.toNat ++ toBytes 4 0

theorem partCreate_fits : (mciForm 0x0201 2 [fd 1, fd 1, fd 1, fd 1, fd 2, fd 2, fd 2, fd 2, rs 4]).fits (createPayload a b d e l0 l1 l2 w) := by
  refine ⟨by simp [mciForm, fd, rs], ?_, rfl⟩
  simp (disch := omega) [badReserved, mciForm, fd, rs, bytesAt_skip, bytesAt_cons_skip, bytesAt_last]

theorem partCreate_creates (h : s.boxTakes c m 2 (createPayload a b d e l0 l1 l2 w)) (hlost : s.lostSites = []) (hfits : s.askFits (s.asked c 0))
    (halone : s.askAlone (s.asked c 0)) (htag : (lowest 64 fun n => (s.part n).isNone) = some tag) (hpresent : s.holdsAbsent (s.asked c 0) = false)
    (hbase : (lowest (min w.toNat s.panelF + 1) fun k => s.baseFits (s.asked c k)) = some base) (hroom : s.rangesFull (s.asked c 0) = false) :
    ∃ t, exec (.partCreate c) s = .next t ∧ t.part tag = some (s.asked c base) ∧
      s.boxDone t m 0 0 (toBytes 1 tag ++ [0] ++ toBytes 2 base ++ toBytes 4 0) := by
  have harg : arg c 10 2 = w.toNat := by
    have := w.isLt
    simp (disch := omega) [arg, h.2.1, bytesAt_skip, bytesAt_cons_skip, bytesAt_here]
  let v := s.taken c 0x0201 m
  let v₁ := (v.setPart tag (some (v.asked c base))).atStops fun st p => st.setRf (.site p) (pctxOff tag) 16 8 tag
  have hremap : v.remapLost = v := State.remapLost_none hlost
  have hfits' := State.askFits.unrefused (s := v) (z := v.asked c 0) hfits
  have halone' := (State.askAlone_iff (s := v) (z := v.asked c 0)).1 halone
  have htag' : (lowest 64 fun n => (v.part n).isNone) = some tag := htag
  have hpresent' : v.holdsAbsent (v.asked c 0) = false := hpresent
  have hbase' : (lowest (min w.toNat v.panelF + 1) fun k => v.baseFits (v.asked c k)) = some base := hbase
  have hroom' : v.rangesFull (v.asked c 0) = false := hroom
  have hset : (v.setPart tag (some (v.asked c base))).onlySites (v₁.writeBanks tag) :=
    (State.onlySites.atStops fun _ _ => onlySites_setRf ..).trans (onlySites_writeBanks tag)
  obtain ⟨t, ht, hbox, hdone⟩ := completes_of_give (op := 0x0201) (v := v₁.writeBanks tag)
    (payload := toBytes 1 tag ++ [0] ++ toBytes 2 base ++ toBytes 4 0) (exec_partCreate ..) h partCreate_fits rfl (by
      dsimp only
      rw [hremap, hfits', if_neg Bool.false_ne_true, halone', if_neg Bool.false_ne_true, htag']
      dsimp only
      rw [hpresent', if_neg Bool.false_ne_true, harg, hbase']
      dsimp only
      rw [hroom', if_neg Bool.false_ne_true]) hset.mgmt .rfl'
  refine ⟨t, ht, ?_, hdone⟩
  rw [State.part_of_parts (hbox.parts.trans hset.parts)]
  simp only [State.part, State.setPart, Sparse.get_put_same]
  rfl

theorem partCreate_overlaps (h : s.boxTakes c m 2 (createPayload a b d e l0 l1 l2 w)) (hlost : s.lostSites = []) (hfits : s.askFits (s.asked c 0))
    (hmeets : ¬ s.askAlone (s.asked c 0)) : TurnedAway (.partCreate c) s m 0xA 2 := by
  let v := s.taken c 0x0201 m
  have hremap : v.remapLost = v := State.remapLost_none hlost
  have hfits' := State.askFits.unrefused (s := v) (z := v.asked c 0) hfits
  have hmeets' := Bool.eq_true_of_not_eq_false fun hnone => hmeets ((State.askAlone_iff (s := v) (z := v.asked c 0)).2 hnone)
  refine turnedAway_of (op := 0x0201) (exec_partCreate ..) h partCreate_fits rfl ?_ (by omega) (by omega)
  dsimp only
  rw [hremap, hfits', if_neg Bool.false_ne_true, hmeets', if_pos rfl]
  rfl

/-! ## Deletion (R246, R255) -/

/-- The cores of a partition leave it. -/
def State.disown (s : State) (x : Partition) : State := (s.partSites x).foldl (fun st p => st.giveTag p 0xFF) s

theorem giveTag_own (p : Site) : (s.giveTag p 0xFF).partOf p = 0xFF ∧ (s.giveTag p 0xFF).siteTag p = 0xFF := by
  constructor
  · exact State.rf_setRf_same _ _ (by norm_num)
  · rw [State.siteTag, State.giveTag, State.rf_setRf_off (by norm_num)]
    exact State.rf_setRf_same _ _ (by norm_num)

/-- A site that has left its partition stays out of it. -/
theorem giveTag_keeps (p q : Site) (h : s.partOf p = 0xFF ∧ s.siteTag p = 0xFF) :
    (s.giveTag q 0xFF).partOf p = 0xFF ∧ (s.giveTag q 0xFF).siteTag p = 0xFF := by
  by_cases hq : p = q
  · exact hq ▸ giveTag_own p
  · have hne : RegUnit.site p ≠ .site q := by simpa using hq
    have hreg : ∀ o, (s.giveTag q 0xFF).reg (.site p) o = s.reg (.site p) o := fun o => by
      rw [State.giveTag, State.reg_setRf_unit hne, State.reg_setRf_unit hne]
      rfl
    exact ⟨(State.rf_of_reg (hreg _) ..).trans h.1, (State.rf_of_reg (hreg _) ..).trans h.2⟩

theorem disown_frees {p : Site} (hp : p ∈ s.partSites x) : (s.disown x).partOf p = 0xFF ∧ (s.disown x).siteTag p = 0xFF := by
  unfold State.disown
  exact foldl_of_mem (f := fun st q => st.giveTag q 0xFF) (a := p) (I := fun _ => True)
    (P := fun t : State => t.partOf p = 0xFF ∧ t.siteTag p = 0xFF) (fun _ _ _ => trivial) (fun _ _ => giveTag_own p)
    (fun _ q _ ht => giveTag_keeps p q ht) hp trivial

theorem State.mgmt_deletePart (tag : Nat) : (s.deletePart tag).mgmt = s.mgmt := by
  unfold State.deletePart
  extract_lets s₁ s₂ s₃
  have h₁ : s₁.mgmt = s.mgmt := rfl
  have h₂ : s₁.onlySites s₂ := .atStops fun _ _ => onlySites_setReg ..
  have h₃ : s₃.mgmt = s₂.mgmt := rfl
  exact (onlySites_writeBanks tag).mgmt.trans (h₃.trans (h₂.mgmt.trans h₁))

theorem partDelete_deletes (h : s.boxTakes c m 2 (toBytes 1 a.toNat ++ toBytes 7 0)) (hx : s.part a.toNat = some x) (hstate : x.state = 0)
    (htab : x.tab = none) : ∃ t, exec (.partDelete c) s = .next t ∧ t.part a.toNat = none ∧ s.boxDone t m 0 0 [] ∧
      ∀ p ∈ s.partSites x, t.partOf p = 0xFF ∧ t.siteTag p = 0xFF := by
  let v := s.taken c 0x0202 m
  have hmgmt : ((v.disown x).deletePart a.toNat).mgmt = v.mgmt :=
    (State.mgmt_deletePart _).trans (State.onlySites.sweep (fun _ _ => onlySites_giveTag ..) _ .rfl').mgmt
  obtain ⟨t, ht, hbox, hdone⟩ := completes_of_give (op := 0x0202) (v := (v.disown x).deletePart a.toNat) (payload := []) (exec_partDelete ..) h
    (named_fits 0x0202 2 a) rfl (by
      rw [onPart_taken (named_arg h.2.1) hx, htab, hstate]
      rfl) hmgmt .rfl'
  refine ⟨t, ht, (State.part_of_parts hbox.parts _).trans (deletePart_effect _).1, hdone, fun p hp => ?_⟩
  have hfree := disown_frees (s := v) (x := x) hp
  have hkeep : (v.disown x).keepsTags t := (keepsTags_deletePart a.toNat).trans (.ofRegs hbox.regs)
  exact ⟨(hkeep.partOf p).trans hfree.1, (hkeep.siteTag p).trans hfree.2⟩

theorem partDelete_bound (h : s.boxTakes c m 2 (toBytes 1 a.toNat ++ toBytes 7 0)) (hx : s.part a.toNat = some x) (htab : x.tab.isSome = true) :
    TurnedAway (.partDelete c) s m 7 0 := by
  refine turnedAway_of (op := 0x0202) (exec_partDelete ..) h (named_fits 0x0202 2 a) rfl ?_ (by omega) (by omega)
  rw [onPart_taken (named_arg h.2.1) hx, htab]
  rfl

end Sys2Proof.Machine
end

section
/-! O53, binding: PART_BIND (R324, R327). -/

namespace Sys2Proof.Machine

variable {s t u : State} {c : MciCmd} {m : Fin 64} {a b d : Byte} {x z : Partition} {y : Tablature} {tag : Nat}

/-- A partition to which a tablature has just been bound, at a time. -/
structure Partition.justBound (z : Partition) (y : Tablature) (winTag : Byte) (hash : Bool) (time : Nat) : Prop where
  tab : z.tab = some y.id
  stepIndex : z.stepIndex = 0
  winTag : z.winTag = winTag
  stepHash : z.stepHash = hash
  jobAt : z.jobAt = time

/-- What stands of the partition when a binding is complete: its cores, banks, barriers, windows and channels follow it and leave it alone. -/
theorem bindPart_binds (tag : Nat) (x : Partition) (y : Tablature) (winTag : Byte) (hash : Bool) :
    ∃ z, (s.bindPart tag x y winTag hash).part tag = some z ∧ z.justBound y winTag hash s.time := by
  unfold State.bindPart
  extract_lets img s₁ s₂ s₃ x' s₄ s₅
  have h₁ : s.onlySites s₁ := by
    simp only [s₁]
    split
    · exact .rfl'
    · exact .atStops fun _ _ => onlySites_setReg ..
  have h₂ : s₁.onlySites s₂ := onlySites_setContexts ..
  have h₃ : s₂.onlySites s₃ := .sweep (fun _ _ => (onlySites_giveTag ..).trans (onlySites_setUpCore ..)) _ .rfl'
  have htime : s₃.time = s.time := ((h₁.trans h₂).trans h₃).time
  have h₄ : (s₃.setPart tag (some x')).onlySites s₄ := (onlySites_grantExtents ..).trans (onlySites_writeBanks tag)
  have h₅ : s₄.onlySites s₅ := ((onlySites_setBars ..).trans (onlySites_openSetup ..)).trans (onlySites_startCores ..)
  have hend := (h₄.trans h₅).trans (onlySites_setTargets (s₅.partSites x'))
  refine ⟨x', ?_, rfl, rfl, rfl, rfl, htime⟩
  rw [State.part_of_parts hend.parts]
  simp [State.part, State.setPart]

theorem partBind_fits (id : BitVec 128) :
    (mciForm 0x0203 2 [fd 1, fd 1, fd 1, rs 5, fd 16]).fits ([a, b, d] ++ toBytes 5 0 ++ toBytes 16 id.toNat) := by
  refine ⟨by simp [mciForm, fd, rs], ?_, rfl⟩
  simp (disch := omega) [badReserved, mciForm, fd, rs, bytesAt_cons_skip, bytesAt_here]

theorem partBind_args {id : BitVec 128} (hpl : c.payload = [a, b, d] ++ toBytes 5 0 ++ toBytes 16 id.toNat) :
    arg c 0 1 = a.toNat ∧ arg c 1 1 = b.toNat ∧ arg c 2 1 = d.toNat ∧ arg c 8 16 = id.toNat := by
  have hid := id.isLt
  simp (disch := omega) [arg, hpl, bytesAt_skip, bytesAt_cons_skip, bytesAt_last]

theorem partBind_done {id : BitVec 128} (h : s.boxTakes c m 2 ([a, b, d] ++ toBytes 5 0 ++ toBytes 16 id.toNat)) (hb : b.toNat < 2)
    (hlost : s.lostSites = []) (hx : s.part a.toNat = some x) (hstate : x.state = 0) (hy : s.tablature id.toNat = some y)
    (hok : s.bindRefusal a.toNat x y (s.host.readBytes y.addr y.image.length) = none) :
    ∃ t z, exec (.partBind c) s = .next t ∧ t.part a.toNat = some z ∧ z.justBound y d (b == 1) s.time := by
  obtain ⟨harg₀, harg₁, harg₂, harg₈⟩ := partBind_args h.2.1
  let v := s.taken c 0x0203 m
  have hremap : v.remapLost = v := State.remapLost_none hlost
  have hpart : v.part a.toNat = some x := hx
  have htab : v.tablature id.toNat = some y := hy
  have hok' : v.bindRefusal a.toNat x y (v.hostImage y.addr y.image.length) = none := hok
  have hbound : ¬ 1 < b.toNat := by omega
  have hhash : (b.toNat == 1) = (b == 1) := by
    rw [Bool.eq_iff_iff, beq_iff_eq, beq_iff_eq, BitVec.toNat_eq]
    rfl
  obtain ⟨z, hz, hbinds⟩ := bindPart_binds (s := v) a.toNat x y d (b == 1)
  obtain ⟨t, ht, hbox⟩ := effect_of_done (op := 0x0203) (u := v.bindPart a.toNat x y d (b == 1)) (exec_partBind ..) h (partBind_fits id) rfl (by
    dsimp only
    rw [harg₁, if_neg hbound, onPart_taken harg₀ hx, hremap, harg₈, hpart, htab]
    dsimp only
    rw [hstate, hok', harg₂, BitVec.ofNat_toNat, BitVec.setWidth_eq, hhash]
    rfl)
  exact ⟨t, z, ht, (State.part_of_parts hbox.parts _).trans hz, hbinds⟩

end Sys2Proof.Machine
end

section
/-! SUPPORT. What the end of a partition's work leaves of it: its place on the panel and what is bound to it, until it is unbound, and its cores on their
sites (R328, R359, R515). -/

namespace Sys2Proof.Machine

variable {s t u : State} {p q : Site} {tag : Nat} {x y z : Partition}

/-! ## The place of a partition -/

/-- The partition of a tag has its LCIDs and its binding as before. -/
structure State.keepsPlace (tag : Nat) (s t : State) : Prop where
  part : ∀ x, s.part tag = some x → ∃ y, t.part tag = some y ∧ y.lcids = x.lcids ∧ y.tab = x.tab

namespace State.keepsPlace

theorem rfl' : s.keepsPlace tag s := ⟨fun x hx => ⟨x, hx, rfl, rfl⟩⟩

theorem trans (h : s.keepsPlace tag t) (k : t.keepsPlace tag u) : s.keepsPlace tag u := by
  refine ⟨fun x hx => ?_⟩
  obtain ⟨y, hy, hlcids, htab⟩ := h.part x hx
  obtain ⟨z, hz, hlcids', htab'⟩ := k.part y hy
  exact ⟨z, hz, hlcids'.trans hlcids, htab'.trans htab⟩

theorem ofParts (h : t.parts = s.parts) : s.keepsPlace tag t := ⟨fun x hx => ⟨x, (State.part_of_parts h tag).trans hx, rfl, rfl⟩⟩

theorem sweep {α : Type} {f : State → α → State} (hf : ∀ (v : State) a, v.keepsPlace tag (f v a)) (l : List α) (h : s.keepsPlace tag t) :
    s.keepsPlace tag (l.foldl f t) :=
  List.foldlRecOn (motive := s.keepsPlace tag) l f h fun v hv a _ => hv.trans (hf v a)

end State.keepsPlace

/-- A partition replaced by one in its place, with its binding. -/
theorem keepsPlace_setPart (hx : s.part tag = some x) (hlcids : y.lcids = x.lcids) (htab : y.tab = x.tab) :
    s.keepsPlace tag (s.setPart tag (some y)) := by
  refine ⟨fun z hz => ⟨y, by simp [State.part, State.setPart], ?_⟩⟩
  obtain rfl : x = z := Option.some.inj (hx.symm.trans hz)
  exact ⟨hlcids, htab⟩

theorem keepsPlace_fail (cause code w : Nat) : s.keepsPlace tag (s.fail tag cause code w) := by
  unfold State.fail
  split
  next x hx =>
    unfold State.failStep
    rw [hx]
    dsimp only
    split
    · refine (keepsPlace_setPart (y := { x with failed := some (cause + code * 2 ^ 8) }) hx rfl rfl).trans (.ofParts ?_)
      refine (State.parts_foldl (fun _ _ => State.parts_inject ..) _ _).trans ?_
      rw [State.parts_event, State.parts_event]
    · exact .rfl'
  next => exact .rfl'

theorem keepsPlace_failRequest (cause : Nat) (r : SvcReq) : s.keepsPlace tag (s.failRequest tag cause r) := by
  have hdraw : s.keepsPlace tag s.draw := .ofParts rfl
  have hcount : ∀ v : State, v.keepsPlace tag (v.countFailed tag) := fun v => by
    unfold State.countFailed
    split
    next x hx =>
      refine (keepsPlace_setPart (y := { x with failCount := sat32 x.failCount }) hx rfl rfl).trans (.ofParts ?_)
      unfold State.partSaturated
      split
      · exact State.parts_event ..
      · rfl
    next => exact .rfl'
  have hrespond : ∀ (v : State) k bytes, (v.respond k bytes).parts = v.parts := fun v k bytes => by
    unfold State.respond
    split
    · split <;> rfl
    · exact State.parts_originateTo ..
    · rfl
  unfold State.failRequest
  dsimp only
  exact (hdraw.trans (hcount _)).trans (.ofParts ((hrespond ..).trans (State.parts_event ..)))

theorem keepsPlace_failRequests (cause : Nat) : s.keepsPlace tag (s.failRequests tag cause) := by
  unfold State.failRequests
  split
  next x hx =>
    exact .sweep (fun _ r => keepsPlace_failRequest cause r) _ (keepsPlace_setPart (y := { x with running := none, queue := [] }) hx rfl rfl)
  next => exact .rfl'

theorem keepsPlace_cancelMigration : s.keepsPlace tag (s.cancelMigration tag) := by
  unfold State.cancelMigration
  split
  next y hy =>
    split
    · exact (keepsPlace_setPart (y := { y with migrate := none }) hy rfl rfl).trans
        (.ofParts ((State.parts_mciReply ..).trans (State.parts_event ..)))
    · exact .rfl'
  next => exact .rfl'

theorem keepsPlace_partReset : s.keepsPlace tag (s.partReset tag) := by
  unfold State.partReset
  split
  next x hx =>
    extract_lets s₁ s₂ s₃
    have h₁ : s₁.parts = s.parts := State.parts_foldl (fun _ _ => by rw [State.parts_clearDone, State.parts_resetCore, State.parts_spoilSymps]) _ s
    have h₂ : s₂.parts = s₁.parts := (State.parts_dropTurns ..).trans (State.parts_stopStep ..)
    have h₃ : s₃.parts = s₂.parts := State.parts_atStops (fun _ _ => State.setRf_parts ..) _
    have hbars : ∀ p, s.keepsPlace tag (s₃.resetBars p tag) := fun p => .ofParts ((State.parts_resetBars p tag).trans (h₃.trans (h₂.trans h₁)))
    exact (hbars _).trans keepsPlace_cancelMigration
  next => exact .rfl'

theorem keepsPlace_lowerGrant : s.keepsPlace tag (s.lowerGrant tag) := by
  unfold State.lowerGrant
  split
  next x hx =>
    extract_lets s₁ s₂
    have hgrant : s₂.parts = s.parts := rfl
    exact State.keepsPlace.trans (.ofParts hgrant)
      (keepsPlace_setPart (y := { x with granted := none }) ((State.part_of_parts hgrant tag).trans hx) rfl rfl)
  next => exact .rfl'

/-! ## Cores on their sites -/

/-- Every site holds the LCID it held, and no core goes OFF. -/
structure State.keepsLife (s t : State) : Prop where
  lcid : ∀ q, t.lcidOf q = s.lcidOf q
  live : ∀ q, s.coreState q ≠ 0 → t.coreState q ≠ 0

namespace State.keepsLife

theorem rfl' : s.keepsLife s := ⟨fun _ => rfl, fun _ => id⟩

theorem trans (h : s.keepsLife t) (k : t.keepsLife u) : s.keepsLife u := ⟨fun q => (k.lcid q).trans (h.lcid q), fun q hq => k.live q (h.live q hq)⟩

theorem ofTags (h : s.keepsTags t) : s.keepsLife t := ⟨h.lcidOf, fun q hq => (h.coreState q).trans_ne hq⟩

theorem sweep {α : Type} {f : State → α → State} (hf : ∀ (v : State) a, v.keepsLife (f v a)) (l : List α) (h : s.keepsLife t) :
    s.keepsLife (l.foldl f t) :=
  List.foldlRecOn (motive := s.keepsLife) l f h fun v hv a _ => hv.trans (hf v a)

/-- The cores of a partition in its place stand where they stood. -/
theorem partSites (h : s.keepsLife t) (hlcids : y.lcids = x.lcids) : t.partSites y = s.partSites x := by
  have hsite : t.siteOf = s.siteOf := by
    funext l
    rw [State.siteOf, State.siteOf]
    simp only [h.lcid]
  rw [State.partSites, State.partSites, hlcids, hsite]

end State.keepsLife

/-- A register that is not CORE_STATUS. -/
theorem keepsLife_setReg {v : RegUnit} {o : Nat} {w : W64} (ho : o % 2 ^ 29 ≠ 0x18000000) : s.keepsLife (s.setReg v o w) := by
  have hreg : ∀ q, (s.setReg v o w).reg (.site q) 0x18000000 = s.reg (.site q) 0x18000000 := fun q => State.reg_setReg_off s w (by omega)
  exact ⟨fun q => State.rf_of_reg (hreg q) .., fun q hq => (State.rf_of_reg (hreg q) ..).trans_ne hq⟩

/-- A field of CORE_STATUS above STATE and off LCID. -/
theorem keepsLife_setStatus (p : Site) {lo w v : Nat} (hw : lo + w ≤ 64) (hstate : 4 ≤ lo) (hlcid : 48 ≤ lo ∨ lo + w ≤ 40) :
    s.keepsLife (s.setRf (.site p) 0x18000000 lo w v) := by
  have hfield : ∀ q lo' w', lo' + w' ≤ lo ∨ lo + w ≤ lo' →
      (s.setRf (.site p) 0x18000000 lo w v).rf (.site q) 0x18000000 lo' w' = s.rf (.site q) 0x18000000 lo' w' := fun q lo' w' hd => by
    by_cases hq : q = p
    · rw [hq, State.rf_setRf_field _ _ hw hd]
    · exact State.rf_of_reg (State.reg_setRf_unit (by simpa using hq)) ..
  exact ⟨fun q => hfield q 40 8 (by omega), fun q hq => (hfield q 0 4 (by omega)).trans_ne hq⟩

/-- A core that goes to another state than OFF. -/
theorem keepsLife_setCoreState (p : Site) {v : Nat} (hv : v % 16 ≠ 0) : s.keepsLife (s.setCoreState p v) := by
  refine ⟨fun q => ?_, fun q hq => ?_⟩
  · by_cases hqp : q = p
    · subst hqp
      exact State.rf_setRf_field _ _ (by norm_num) (by omega)
    · exact State.rf_of_reg (State.reg_setRf_unit (by simpa using hqp)) ..
  · by_cases hqp : q = p
    · subst hqp
      exact (State.rf_setRf_same _ _ (by norm_num)).trans_ne hv
    · exact (State.rf_of_reg (State.reg_setRf_unit (by simpa using hqp)) ..).trans_ne hq

theorem keepsLife_resetCore (p : Site) : s.keepsLife (s.resetCore p) := by
  have hregs : s.keepsLife ((s.resetRegs p).updSite p SiteSt.afterReset) := by
    have hreg : ∀ q, ((s.resetRegs p).updSite p SiteSt.afterReset).reg (.site q) 0x18000000 = s.reg (.site q) 0x18000000 := fun q => by
      have hkey : regKey (.site q) 0x18000000 % 2 ^ 29 = 0x18000000 := by
        unfold regKey
        omega
      rw [State.reg, State.reg]
      show Sparse.get 0 (s.resetRegs p).regs _ ^^^ _ = _
      rw [State.resetRegs]
      dsimp only
      rw [Sparse.get_filter 0 fun v => by rw [hkey]; simp [keptAtReset]]
    exact ⟨fun q => State.rf_of_reg (hreg q) .., fun q hq => (State.rf_of_reg (hreg q) ..).trans_ne hq⟩
  unfold State.resetCore
  dsimp only
  split
  · exact .rfl'
  · have hclose : ∀ (v : State) n, n < 64 → v.keepsLife (v.winClose p n) := fun v n hn => keepsLife_setReg (by omega)
    have hwins := List.foldlRecOn (motive := s.keepsLife) (List.range 64) (fun st n => st.winClose p n) hregs
      fun v hv n hn => hv.trans (hclose v n (List.mem_range.1 hn))
    exact (hwins.trans (keepsLife_setStatus p (by norm_num) (by norm_num) (by norm_num))).trans (keepsLife_setCoreState p (by norm_num))

theorem keepsLife_partReset : s.keepsLife (s.partReset tag) := by
  unfold State.partReset
  split
  next x hx =>
    extract_lets s₁ s₂ s₃
    have h₁ : s.keepsLife s₁ := .sweep (fun v p =>
      ((State.keepsLife.ofTags (keepsTags_spoilSymps p)).trans (keepsLife_resetCore p)).trans (.ofTags (keepsTags_clearDone p))) _ .rfl'
    have h₂ : s₁.keepsTags s₂ := (keepsTags_stopStep tag).trans (keepsTags_dropTurns tag)
    have h₃ : s₂.keepsTags s₃ := .atStops (fun _ _ => keepsTags_setReg (stopOnly_pctxOff tag)) .rfl'
    exact h₁.trans (.ofTags (((h₂.trans h₃).trans (keepsTags_resetBars ..)).trans (keepsTags_cancelMigration tag)))
  next => exact .rfl'

end Sys2Proof.Machine
end

section
/-! O53, unbinding, aborts, kills and releases: PART_UNBIND, PART_ABORT, PART_KILL_CLEAR, PART_KILL_HOLD and PART_RELEASE (R328, R335, R536, R537). -/

namespace Sys2Proof.Machine

variable {s t u : State} {c : MciCmd} {m : Fin 64} {a : Byte} {p q : Site} {tag : Nat} {x y z : Partition}

/-! ## Unbinding and aborts (R328, R335, R359) -/

theorem unbind_effect (cause : Nat) (hx : s.part tag = some x) (htab : x.tab.isSome = true) :
    ∃ z : Partition, (s.unbind tag cause).part tag = some z.unbound := by
  have hreset := ((State.hasPart.fail ⟨x, hx⟩ 0x04 0 0).failRequests cause).partReset
  unfold State.unbind
  rw [hx]
  dsimp only
  rw [if_neg (by simpa using Option.isSome_iff_ne_none.1 htab)]
  obtain ⟨z, hz⟩ := ((((hreset.ofParts (State.parts_removeBars (Fin.ofNat 168 x.home) tag)).ofParts (State.parts_collsGone tag)).ofParts
    (State.parts_extMark tag 61)).ofParts (State.parts_endJob tag false)).lowerGrant
  exact ⟨z, (State.part_of_parts (State.parts_writeBanks tag) tag).trans (State.part_updPart hz Partition.unbound)⟩

theorem abortPart_effect (cause code : Nat) (hx : s.part tag = some x) (htab : x.tab.isSome = true) :
    ∃ z : Partition, (s.abortPart tag cause code).part tag = some z.unbound := by
  obtain ⟨y, hy, -, hbound⟩ := ((keepsPlace_fail 0x04 code 0).trans (keepsPlace_failRequests cause)).part x hx
  exact unbind_effect cause hy (hbound ▸ htab)

/-- What a command does with a partition that is bound. -/
theorem onBound_taken (harg : arg c 0 1 = a.toNat) (hx : s.part a.toNat = some x) (hstate : x.state = 0) (htab : x.tab.isSome = true) (op : Nat)
    (go : Nat → Partition → MciAns) : (s.taken c op m).onBound c go = go a.toNat x := by
  obtain ⟨id, hid⟩ := Option.isSome_iff_exists.1 htab
  rw [State.onBound, onPart_taken harg hx, hstate, hid]
  rfl

theorem partUnbind_unbinds (h : s.boxTakes c m 2 (toBytes 1 a.toNat ++ toBytes 7 0)) (hx : s.part a.toNat = some x) (hstate : x.state = 0)
    (htab : x.tab.isSome = true) : ∃ t, exec (.partUnbind c) s = .next t ∧ ∃ z : Partition, t.part a.toNat = some z.unbound := by
  obtain ⟨z, hz⟩ := unbind_effect (s := s.taken c 0x0204 m) 8 hx htab
  obtain ⟨t, ht, hbox⟩ := effect_of_done (op := 0x0204) (exec_partUnbind ..) h (named_fits 0x0204 2 a) rfl
    (onBound_taken (named_arg h.2.1) hx hstate htab 0x0204 _)
  exact ⟨t, ht, z, (State.part_of_parts hbox.parts _).trans hz⟩

theorem partAbort_unbinds (h : s.boxTakes c m 2 (toBytes 1 a.toNat ++ toBytes 7 0)) (hx : s.part a.toNat = some x) (hstate : x.state = 0)
    (htab : x.tab.isSome = true) : ∃ t, exec (.partAbort c) s = .next t ∧ ∃ z : Partition, t.part a.toNat = some z.unbound := by
  obtain ⟨z, hz⟩ := abortPart_effect (s := s.taken c 0x0205 m) 1 0 hx htab
  obtain ⟨t, ht, hbox⟩ := effect_of_done (op := 0x0205) (exec_partAbort ..) h (named_fits 0x0205 2 a) rfl
    (onBound_taken (named_arg h.2.1) hx hstate htab 0x0205 _)
  exact ⟨t, ht, z, (State.part_of_parts hbox.parts _).trans hz⟩

/-! ## Cores that leave their work (R192, R193) -/

/-- A core that is not OFF starts to clear. -/
def State.clearCore (s : State) (p : Site) : State :=
  if s.coreState p = 0 then s else ((s.setRf (.site p) 0x18500000 2 1 0).setRf (.site p) 0x18500000 1 1 1).setCoreState p 6

/-- A core that is not OFF is held. -/
def State.holdCore (s : State) (p : Site) : State := if s.coreState p = 0 then s else (s.setRf (.site p) 0x18500000 2 1 1).setCoreState p 7

theorem coreState_setCoreState {v : Nat} (hv : v < 16) : (s.setCoreState p v).coreState p = v := by
  refine (State.rf_setRf_same _ _ (by norm_num)).trans (Nat.mod_eq_of_lt hv)

theorem coreState_clearCore (h : s.coreState p ≠ 0) : (s.clearCore p).coreState p = 6 := by
  rw [State.clearCore, if_neg h]
  exact coreState_setCoreState (by norm_num)

theorem coreState_holdCore (h : s.coreState p ≠ 0) : (s.holdCore p).coreState p = 7 := by
  rw [State.holdCore, if_neg h]
  exact coreState_setCoreState (by norm_num)

theorem coreState_clearCore_other (hq : q ≠ p) : (s.clearCore p).coreState q = s.coreState q := by
  have hne : RegUnit.site q ≠ .site p := by simpa using hq
  unfold State.clearCore
  split
  · rfl
  · exact State.rf_of_reg (by rw [State.setCoreState, State.reg_setRf_unit hne, State.reg_setRf_unit hne, State.reg_setRf_unit hne]) ..

theorem coreState_holdCore_other (hq : q ≠ p) : (s.holdCore p).coreState q = s.coreState q := by
  have hne : RegUnit.site q ≠ .site p := by simpa using hq
  unfold State.holdCore
  split
  · rfl
  · exact State.rf_of_reg (by rw [State.setCoreState, State.reg_setRf_unit hne, State.reg_setRf_unit hne]) ..

/-- A sweep that brings each core it passes, and no other, into a state brings a core of the list there. -/
theorem coreState_sweep {f : State → Site → State} {v : Nat} (hv : v ≠ 0) (hset : ∀ (t : State) q, t.coreState q ≠ 0 → (f t q).coreState q = v)
    (hother : ∀ (t : State) q r, r ≠ q → (f t q).coreState r = t.coreState r) {l : List Site} (hp : p ∈ l) (hlive : s.coreState p ≠ 0) :
    (l.foldl f s).coreState p = v := by
  refine foldl_of_mem (I := fun t => t.coreState p ≠ 0) (P := fun t => t.coreState p = v) (fun t q ht => ?_) (fun t ht => hset t p ht)
    (fun t q ht hdone => ?_) hp hlive
  · by_cases hq : p = q
    · exact hq ▸ (hset t p ht).trans_ne hv
    · exact (hother t q p hq).trans_ne ht
  · by_cases hq : p = q
    · exact hq ▸ hset t p ht
    · exact (hother t q p hq).trans hdone

theorem beginClear_clears (hx : s.part tag = some x) (hp : p ∈ s.partSites x) (hlive : s.coreState p ≠ 0) :
    (s.beginClear tag).coreState p = 6 := by
  have hsites : s.sitesOf tag = s.partSites x := by rw [State.sitesOf, hx]
  have hswept : ((s.sitesOf tag).foldl State.clearCore s).coreState p = 6 :=
    coreState_sweep (by norm_num) (fun _ _ => coreState_clearCore) (fun _ _ _ => coreState_clearCore_other) (hsites ▸ hp) hlive
  have hrest : ∀ v : State, (((v.extMark tag 61).updPart tag fun x => { x with state := 4, ownerToken := none }).finishClear tag).coreState p =
      v.coreState p := fun v =>
    ((keepsCores_finishClear tag).coreState p).trans (((keepsTags_extMark tag 61).trans (keepsTags_updPart tag _)).coreState p)
  exact (hrest _).trans hswept

/-! ## Kills (R536, R537) -/

/-- A kill that reaches the cores of a partition finds them on their sites, and none of them OFF that was not. -/
theorem kill_reaches (cause : Nat) (hold : Bool) (token : Option W64) (hx : s.part tag = some x) (hstate : x.state = 0) :
    ∃ (u : State) (z : Partition), u.part tag = some z.unbound ∧ u.partSites z.unbound = s.partSites x ∧ s.keepsLife u ∧
      s.kill tag cause hold token = if hold then (((u.sitesOf tag).foldl State.holdCore u).extMark tag 62).updPart tag fun x =>
        { x with state := 3, ownerToken := token } else u.beginClear tag := by
  unfold State.kill
  rw [hx]
  dsimp only
  rw [if_neg (by omega), if_neg (by omega)]
  generalize hs₁ : ((s.fail tag 0x04 0 0).failRequests tag cause).partReset tag = s₁
  generalize hs₂ : (s₁.partSites x).foldl (fun st p => (st.setRf (.site p) 0x18700028 0 8 0xFF).setRf (.site p) 0x18000000 48 8 0xFF) s₁ = s₂
  generalize hs₃ : ((s₂.removeBars (Fin.ofNat 168 x.home) tag).collsGone tag).endJob tag true = s₃
  have hlife₁ : s.keepsLife s₁ := hs₁ ▸ (State.keepsLife.ofTags ((keepsTags_fail ..).trans (keepsTags_failRequests ..))).trans keepsLife_partReset
  have hlife₂ : s₁.keepsLife s₂ := hs₂ ▸ .sweep (fun v q => (keepsLife_setReg (by norm_num)).trans
    (keepsLife_setStatus q (by norm_num) (by norm_num) (by norm_num))) _ .rfl'
  have htags₃ : s₂.keepsTags s₃ := hs₃ ▸ ((keepsTags_removeBars ..).trans (keepsTags_collsGone tag)).trans (keepsTags_endJob ..)
  have hplace₁ : s.keepsPlace tag s₁ := hs₁ ▸ ((keepsPlace_fail ..).trans (keepsPlace_failRequests cause)).trans keepsPlace_partReset
  have hparts₂ : s₂.parts = s₁.parts := hs₂ ▸ State.parts_foldl (fun _ _ => by rw [State.setRf_parts, State.setRf_parts]) _ s₁
  have hparts₃ : s₃.parts = s₂.parts := hs₃ ▸ (State.parts_endJob ..).trans ((State.parts_collsGone tag).trans (State.parts_removeBars ..))
  obtain ⟨z, hz, hlcids, -⟩ := ((hplace₁.trans (.ofParts (hparts₃.trans hparts₂))).trans keepsPlace_lowerGrant).part x hx
  have hunbound := State.part_updPart hz Partition.unbound
  have hbanks := keepsTags_writeBanks (s := (s₃.lowerGrant tag).updPart tag Partition.unbound) (tag := tag) fun y hy => by
    rw [← Option.some.inj (hunbound.symm.trans hy)]
    rfl
  have hlife := (hlife₁.trans hlife₂).trans (.ofTags (((htags₃.trans (keepsTags_lowerGrant tag)).trans (keepsTags_updPart tag Partition.unbound)).trans
    hbanks))
  exact ⟨_, z, (State.part_of_parts (State.parts_writeBanks tag) tag).trans hunbound, hlife.partSites hlcids, hlife, rfl⟩

theorem kill_clearing (cause : Nat) (token : Option W64) (hx : s.part tag = some x) (hstate : x.state = 0) (hp : p ∈ s.partSites x)
    (hlive : s.coreState p ≠ 0) : (s.kill tag cause false token).coreState p = 6 := by
  obtain ⟨u, z, hz, hsites, hlife, hkill⟩ := kill_reaches cause false token hx hstate
  rw [hkill, if_neg Bool.false_ne_true]
  exact beginClear_clears hz (hsites ▸ hp) (hlife.live p hlive)

theorem kill_held (cause : Nat) (token : Option W64) (hx : s.part tag = some x) (hstate : x.state = 0) (hp : p ∈ s.partSites x)
    (hlive : s.coreState p ≠ 0) : (s.kill tag cause true token).coreState p = 7 := by
  obtain ⟨u, z, hz, hsites, hlife, hkill⟩ := kill_reaches cause true token hx hstate
  have hswept : ((u.sitesOf tag).foldl State.holdCore u).coreState p = 7 := by
    refine coreState_sweep (by norm_num) (fun _ _ => coreState_holdCore) (fun _ _ _ => coreState_holdCore_other) ?_ (hlife.live p hlive)
    rw [State.sitesOf, hz]
    show p ∈ u.partSites z.unbound
    exact hsites ▸ hp
  rw [hkill, if_pos rfl]
  exact (((keepsTags_extMark tag 62).trans (keepsTags_updPart tag _)).coreState p).trans hswept

theorem kill_fits (b : Byte) (v : W64) : killForm.fits ([a, b] ++ toBytes 6 0 ++ toBytes 8 v.toNat) := by
  refine ⟨by simp [killForm, mciForm, fd, rs], ?_, rfl⟩
  simp (disch := omega) [badReserved, killForm, mciForm, fd, rs, bytesAt_cons_skip, bytesAt_here]

theorem kill_args {b : Byte} {v : W64} (hpl : c.payload = [a, b] ++ toBytes 6 0 ++ toBytes 8 v.toNat) :
    arg c 0 1 = a.toNat ∧ arg c 1 1 = b.toNat ∧ arg c 8 8 = v.toNat := by
  have hv := v.isLt
  simp (disch := omega) [arg, hpl, bytesAt_skip, bytesAt_cons_skip, bytesAt_last]

theorem partKillClear_kills (h : s.boxTakes c m 2 ([a, 0] ++ toBytes 6 0 ++ toBytes 8 0)) (hx : s.part a.toNat = some x) (hstate : x.state = 0) :
    ∃ t, exec (.partKillClear c) s = .next t ∧ (∀ z, t.part a.toNat = some z → z.state = 4 ∧ z.tab = none) ∧
      ∀ p, p ∈ s.partSites x ∧ s.coreState p ≠ 0 → t.coreState p = 6 := by
  obtain ⟨harg₀, harg₁, harg₈⟩ := kill_args (b := 0) (v := 0) h.2.1
  obtain ⟨t, ht, hbox⟩ := effect_of_done (op := 0x0206) (u := (s.taken c 0x0206 m).kill a.toNat 1 false none) (exec_partKillClear ..) h
    (kill_fits 0 0) rfl (by
      rw [State.partKill, harg₁, harg₈, onPart_taken harg₀ hx, hstate]
      rfl)
  refine ⟨t, ht, fun z hz => ?_, fun p hp => ?_⟩
  · rw [State.part_of_parts hbox.parts] at hz
    obtain ⟨y, rfl⟩ := kill_clears (s := s.taken c 0x0206 m) 1 none hx (by omega) (by omega) hz
    exact ⟨rfl, rfl⟩
  · exact ((State.keepsTags.ofRegs hbox.regs).coreState p).trans (kill_clearing (s := s.taken c 0x0206 m) 1 none hx hstate hp.1 hp.2)

theorem partKillHold_kills {v : W64} (h : s.boxTakes c m 2 ([a, 1] ++ toBytes 6 0 ++ toBytes 8 v.toNat)) (hx : s.part a.toNat = some x)
    (hstate : x.state = 0) : ∃ t z, exec (.partKillHold c) s = .next t ∧ t.part a.toNat = some z ∧ z.state = 3 ∧ z.ownerToken = some v ∧
      z.tab = none ∧ ∀ p, p ∈ s.partSites x ∧ s.coreState p ≠ 0 → t.coreState p = 7 := by
  obtain ⟨harg₀, harg₁, harg₈⟩ := kill_args (b := 1) h.2.1
  obtain ⟨t, ht, hbox⟩ := effect_of_done (op := 0x0206) (u := (s.taken c 0x0206 m).kill a.toNat 1 true (some v)) (exec_partKillHold ..) h
    (kill_fits 1 v) rfl (by
      rw [State.partKill, harg₁, harg₈, onPart_taken harg₀ hx, hstate, w64, BitVec.ofNat_toNat, BitVec.setWidth_eq]
      rfl)
  obtain ⟨y, hy⟩ := kill_holds (s := s.taken c 0x0206 m) 1 (some v) hx (by omega) (by omega)
  refine ⟨t, _, ht, (State.part_of_parts hbox.parts _).trans hy, rfl, rfl, rfl, fun p hp => ?_⟩
  exact ((State.keepsTags.ofRegs hbox.regs).coreState p).trans (kill_held (s := s.taken c 0x0206 m) 1 (some v) hx hstate hp.1 hp.2)

/-! ## Releases (R537) -/

theorem release_fits (v : W64) : (mciForm 0x0207 2 [fd 1, rs 7, fd 8]).fits (toBytes 1 a.toNat ++ toBytes 7 0 ++ toBytes 8 v.toNat) := by
  refine ⟨by simp [mciForm, fd, rs], ?_, rfl⟩
  simp (disch := omega) [badReserved, mciForm, fd, rs, bytesAt_skip, bytesAt_here]

theorem release_args {v : W64} (hpl : c.payload = toBytes 1 a.toNat ++ toBytes 7 0 ++ toBytes 8 v.toNat) :
    arg c 0 1 = a.toNat ∧ w64 (arg c 8 8) = v := by
  have hv := v.isLt
  refine ⟨named_arg (hpl.trans (List.append_assoc ..)), ?_⟩
  have harg : arg c 8 8 = v.toNat := by simp (disch := omega) [arg, hpl, bytesAt_skip, bytesAt_last]
  rw [harg, w64, BitVec.ofNat_toNat, BitVec.setWidth_eq]

theorem partRelease_releases {v : W64} (h : s.boxTakes c m 2 (toBytes 1 a.toNat ++ toBytes 7 0 ++ toBytes 8 v.toNat)) (hx : s.part a.toNat = some x)
    (hstate : x.state = 3) (htoken : x.ownerToken = some v) : ∃ t, exec (.partRelease c) s = .next t ∧
      (∀ z, t.part a.toNat = some z → z.state = 4 ∧ z.ownerToken = none) ∧ ∀ p, p ∈ s.partSites x ∧ s.coreState p ≠ 0 → t.coreState p = 6 := by
  obtain ⟨harg₀, harg₈⟩ := release_args h.2.1
  obtain ⟨t, ht, hbox⟩ := effect_of_done (op := 0x0207) (u := (s.taken c 0x0207 m).beginClear a.toNat) (exec_partRelease ..) h (release_fits v) rfl (by
    rw [onPart_taken harg₀ hx, hstate, htoken]
    show (if v = w64 (arg c 8 8) then _ else _) = _
    rw [if_pos harg₈.symm])
  refine ⟨t, ht, fun z hz => ?_, fun p hp => ?_⟩
  · rw [State.part_of_parts hbox.parts] at hz
    rw [beginClear_effect (s := s.taken c 0x0207 m) hx hz]
    exact ⟨rfl, rfl⟩
  · exact ((State.keepsTags.ofRegs hbox.regs).coreState p).trans (beginClear_clears (s := s.taken c 0x0207 m) hx hp.1 hp.2)

/-- A command that names a wrong owner token freezes session 0, with an event, and leaves the partitions. -/
theorem mci_wrongOwner {i : Instr} {f : MciForm} {pl : List Byte} {op : Nat} {go : State → MciAns} (hi : exec i s = s.mci c f go)
    (h : s.boxTakes c m f.right pl) (hf : f.fits pl) (hop : f.op = op) (hgo : go (s.taken c op m) = .fail (s.taken c op m) 5) :
    ∃ t, exec i s = .next t ∧ t.parts = s.parts ∧ t.sessionFrozen 0 ∧ s.raised t 0x9007 ([0, op, 1].map w64) := by
  subst hop
  have hmci := mci_of_boxTakes h hf go
  obtain ⟨hvia, -, -, -, -, -, -, -, -, -, -, y, hy, -⟩ := h
  let v := s.taken c f.op m
  have hend : State.mciEnd c f (.fail v 5) = (v.freezeSession 0 f.op 1).mciReply c f.op 5 0 [] := by simp [State.mciEnd, MciAns.fail]
  have hbox := onlyBox_mciReply (s := v.freezeSession 0 f.op 1) hvia f.op 5 0 []
  obtain ⟨z, hz, hfrozen⟩ := State.sessionFrozen_freezeSession (s := v) (id := 0) (y := y) hy f.op 1
  have hevent : s.raised (v.freezeSession 0 f.op 1) 0x9007 ([0, f.op, 1].map w64) :=
    (raised_event (s := v.updSession 0 fun x => { x with frozen := true }) ..).of_eq rfl rfl
  refine ⟨_, (hi.trans hmci).trans (by rw [hgo, hend]), hbox.parts.trans (State.parts_event ..), ⟨z, ?_, hfrozen⟩, ?_⟩
  · rw [State.session, hbox.sessions]
    exact hz
  · obtain ⟨e, he, hcode, hseq, htime, hdetail⟩ := hevent
    have hevents := (congrArg State.events hbox :)
    exact ⟨e, hevents ▸ he, hcode, hseq, htime, hdetail⟩

theorem partRelease_wrongToken {v w : W64} (h : s.boxTakes c m 2 (toBytes 1 a.toNat ++ toBytes 7 0 ++ toBytes 8 v.toNat))
    (hx : s.part a.toNat = some x) (hstate : x.state = 3) (htoken : x.ownerToken = some w) (hne : v ≠ w) :
    ∃ t z, exec (.partRelease c) s = .next t ∧ t.part a.toNat = some x ∧ t.session 0 = some z ∧ z.frozen = true ∧
      s.raised t 0x9007 ([0, 0x207, 1].map w64) := by
  obtain ⟨harg₀, harg₈⟩ := release_args h.2.1
  obtain ⟨t, ht, hparts, ⟨z, hz, hfrozen⟩, hraised⟩ := mci_wrongOwner (op := 0x0207) (exec_partRelease ..) h (release_fits v) rfl (by
    rw [onPart_taken harg₀ hx, hstate, htoken]
    show (if w = w64 (arg c 8 8) then _ else _) = _
    rw [harg₈, if_neg hne.symm])
  exact ⟨t, z, ht, (State.part_of_parts hparts _).trans hx, hz, hfrozen, hraised⟩

/-! ## The obligation -/

/-- Settles O53: each command through the state that has taken it, its effect on the partition first and on its cores after. -/
theorem mciPartitionRows : Obligations.MciPartitionRows := by
  unfold Obligations.MciPartitionRows
  intro s c m a b d e l0 l1 l2 w u v id x y tag base img named z fits alone held quiet live
  refine ⟨tabLoad_loads, tabUnload_unloads, tabUnload_missing, fun h _ => tabList_lists h, partCreate_creates, partCreate_overlaps,
    fun h hx hfree => partDelete_deletes h hx.1 hx.2.1 hfree, fun h hx hbound => partDelete_bound h hx hbound, ?_, ?_, ?_,
    fun h hx => partKillClear_kills h hx.1 hx.2.1, fun h hx => partKillHold_kills h hx.1 hx.2.1, partRelease_releases,
    partRelease_wrongToken, fun h hx => ⟨_, partStatus_reports h hx, s.statusRecord_fields x⟩, stepHashRead_reads⟩
  · intro h hb hlost hx hstate hy hok
    obtain ⟨t, z, ht, hz, htab, hindex, htag, hhash, hjob⟩ := partBind_done h hb hlost hx hstate hy hok
    exact ⟨t, z, ht, hz, htab, hindex, htag, hhash, hjob⟩
  · intro h hx hbound
    obtain ⟨t, ht, z, hz⟩ := partUnbind_unbinds h hx.1 hx.2.1 hbound
    exact ⟨t, _, ht, hz, rfl, rfl, rfl, rfl, rfl⟩
  · intro h hx hbound
    obtain ⟨t, ht, z, hz⟩ := partAbort_unbinds h hx.1 hx.2.1 hbound
    exact ⟨t, _, ht, hz, rfl, rfl, rfl, rfl⟩

end Sys2Proof.Machine
end
